-- ==== Sys2Proof/Word.lean ====
section
/-!
DEFINITION. Bytes and the one sparse map of the model. Every array of the machine (pixel store, flash, latches,
tiles, banks, per-pixel counters) is a `Sparse` map: a list of key and value pairs in one canonical form, keys
strictly rising and no value equal to what an unlisted key reads as, so that equal arrays are equal data.
-/
namespace Sys2Proof

/-- A byte. -/
abbrev Byte := BitVec 8

/-- A map from natural-number keys, held as its exceptions from a default value. -/
abbrev Sparse (α : Type) := List (Nat × α)

/-- The value at key `k`; an unlisted key reads as `d`. -/
def Sparse.get {α : Type} (d : α) : Sparse α → Nat → α
  | [], _ => d
  | (i, v) :: m, k => if i = k then v else Sparse.get d m k

/-- `Sparse.put m k v` lists `v` at `k`, keeping the keys rising. -/
def Sparse.put {α : Type} : Sparse α → Nat → α → Sparse α
  | [], k, v => [(k, v)]
  | (i, w) :: m, k, v =>
    if k < i then (k, v) :: (i, w) :: m
    else if k = i then (k, v) :: m
    else (i, w) :: Sparse.put m k v

/-- `Sparse.drop m k` lists nothing at `k`. -/
def Sparse.drop {α : Type} : Sparse α → Nat → Sparse α
  | [], _ => []
  | (i, w) :: m, k => if i = k then m else (i, w) :: Sparse.drop m k

/-- Write `v` at `k`: the default value removes the entry. -/
def Sparse.set {α : Type} [DecidableEq α] (d : α) (m : Sparse α) (k : Nat) (v : α) : Sparse α :=
  if v = d then m.drop k else m.put k v

/-- Apply `f` to the value at `k`. -/
def Sparse.modify {α : Type} [DecidableEq α] (d : α) (m : Sparse α) (k : Nat) (f : α → α) : Sparse α :=
  m.set d k (f (m.get d k))

/-- `Sparse.merge d ws m` writes every pair of `ws`, whose keys rise, into `m`; a default value removes the entry. -/
def Sparse.merge {α : Type} [DecidableEq α] (d : α) : List (Nat × α) → Sparse α → Sparse α
  | [], m => m
  | (k, v) :: ws, m =>
    let lo := m.takeWhile fun e => decide (e.1 < k)
    let hi := Sparse.merge d ws ((m.dropWhile fun e => decide (e.1 < k)).dropWhile fun e => decide (e.1 = k))
    lo ++ (if v = d then hi else (k, v) :: hi)

/-- The canonical form: keys strictly rising, no value equal to the default. (DESIGN CHOICE: assumption log 48.) -/
def Sparse.wf {α : Type} [DecidableEq α] (d : α) : Sparse α → Bool
  | [] => true
  | [(_, v)] => decide (v ≠ d)
  | (i, v) :: (j, w) :: m => decide (v ≠ d) && decide (i < j) && Sparse.wf d ((j, w) :: m)

end Sys2Proof
end

