-- ==== Sys2Proof/Syntax.lean ====
section
/-!
DEFINITION. The commands of the DLN2048: one constructor of `Instr` per row of spec/opcode_table.json, in the
table's order, with the operands the spec gives the operation or event. The table gives no bits to any row, so an
operand is what the rule behind the row says arrives from outside the step: a packet's header and payload bytes, a
control word, a sensor reading, the tile, bank or quadrant concerned.

`dt` on a command is the number of TIME cycles (4 ns) that have passed since the command before it that carried
one: it is how a captured stamp (R147, R226) reaches the model (assumption log 5).
-/
namespace Sys2Proof

/-- The two ports (03). -/
inductive PortId where
  | a
  | b
deriving DecidableEq, Repr

/-- Outcome of a receiver detection (R83). -/
inductive Detect where
  | present
  | absent
  | shorted
deriving DecidableEq, Repr

/-- The two image slots (R41). -/
inductive SlotId where
  | a
  | b
deriving DecidableEq, Repr

/-- The header fields of a received packet that are free for the packet types of Table 4.4 (Table 4.3): SEQ, ADDR
and TAG. VC, DIR, TYPE and LENGTH follow from the command and its payload. -/
structure Hdr where
  seq  : BitVec 12
  addr : BitVec 4
  tag  : BitVec 16
deriving DecidableEq, Repr

/-- The header of a packet received on port B, with its DIR: 1 upstream (Table 4.3). -/
structure UpHdr where
  h  : Hdr
  up : Bool
deriving DecidableEq, Repr

/-- Why a packet fails the link stage (R120). -/
inductive LinkFail where
  /-- CRC failure -/
  | crc
  /-- framing error -/
  | framing
  /-- a SEQ other than the next expected -/
  | order
deriving DecidableEq, Repr

/-- Where a service operation arrives (R371): in a SERVICE packet on VC4, or in a frame on the service UART. -/
inductive SvcSrc where
  | vc4 (h : Hdr)
  | uart
deriving DecidableEq, Repr

/-- Where an operation with an unknown opcode arrives (R437). -/
inductive OpSrc where
  | request (h : Hdr)
  | service (q : SvcSrc)
deriving DecidableEq, Repr

/-- A T512 frame that passed its CRC (Table 14.1), without its TYPE, which the command gives. -/
structure T512Frame where
  seq     : BitVec 8
  arg     : BitVec 16
  payload : List Byte
deriving DecidableEq, Repr

/-- A request at a bank's port (R164, R168): requester, direction, ROW of each beat, granule mask, words to write,
and the LOCK and RELEASE marks of R182; `again` when it repeats an aborted sequence (Table 6.6). -/
structure StoreReq where
  who     : Nat
  write   : Bool
  rows    : List Nat
  mask    : BitVec 4
  data    : List (BitVec 256)
  lock    : Bool
  release : Bool
  again   : Bool := false
deriving DecidableEq, Repr

/-- A flash program or erase command (R368): writer 1 SP reserved path, 2 image operation, 3 MP. -/
structure FlashCmd where
  writer : Nat
  erase  : Bool
  addr   : Nat
  data   : List Byte
deriving DecidableEq, Repr

/-- The commands, one per row of the table. -/
inductive Instr where
  -- start-up (16 R419, 02 R65-R75)
  | vlogValid
  | lossOfVlog
  | safePllLocked
  | fuseReadDone (rowFailed : Bool)
  | headersChecked
  | flashReadFail
  | slotChecksDone
  | mpReady
  | bringupTimeout
  | rollback
  | nresetLow
  | nresetHigh
  | stuckReset
  | startLogWrite
  -- lane layer (03)
  | receiverDetectionDone (p : PortId) (lane : Fin 4) (r : Detect)
  | squelchOpen (p : PortId) (lane : Fin 4)
  | squelchClose (p : PortId) (lane : Fin 4)
  | sweepDwellEnd
  | bitLock (p : PortId) (lane : Fin 4)
  | commaAligned (p : PortId) (lane : Fin 4) (t512 : Bool)
  | blockLock (p : PortId) (lane : Fin 4)
  | laneFault (p : PortId) (lane : Fin 4)
  | trainingTimeout (p : PortId)
  | backoffElapsed (p : PortId)
  | tsA (p : PortId) (lane : Fin 4) (w : BitVec 64)
  | farEndLoopbackEnd
  | tsB (p : PortId) (blocks : List (Fin 4 × Nat × BitVec 64))
  | tsEnd (p : PortId) (blocks : List (Fin 4 × BitVec 64))
  | repair (w : BitVec 64)
  | repairTimeout
  | idleEnter
  | wake
  | wakeEnd (locked : BitVec 4)
  | backLaneIdleEntry
  | backLaneWake
  | backLaneDetect (r : Detect)
  | linkSelftest (q : SvcSrc) (args : List Byte)
  | selftestEnd (errors : List (Fin 4 × Nat)) (locks : BitVec 4)
  -- link protocol (04)
  | capOffer (payload : List Byte)
  | capConfirm (payload : List Byte)
  | capAnswer (payload : List Byte)
  | packetLinkFail (p : PortId) (why : LinkFail) (seq : BitVec 12)
  | packetDiscard (h : Hdr) (up : Bool) (vc : Fin 32) (type : BitVec 8) (len : Nat)
  | ack (p : PortId) (seq : BitVec 12)
  | nak (p : PortId) (seq : BitVec 12)
  | credit (p : PortId) (vc : Fin 32) (total : BitVec 11)
  | ackTimer
  | creditReturnTimer (resend : Bool)
  | replayTimer
  | tqTransmit
  | tqStarvation (q : Fin 7)
  | forwardPortB (dt : Nat)
  | portBUpstream (h : UpHdr) (vc : Fin 32) (type : BitVec 8) (payload : List Byte)
  -- surfaces, descriptors, commits (04, 07, 08)
  | write (h : Hdr) (layer : Fin 12) (payload : List Byte) (corrected : Nat) (bad : List Nat)
  | surfaceComplete (dt : Nat) (h : Hdr) (layer : Fin 12) (payload : List Byte)
  | descriptor (h : Hdr) (payload : List Byte)
  | commit (dt : Nat) (h : Hdr) (payload : List Byte)
  | pour (dt : Nat) (h : Hdr) (payload : List Byte)
  | awaitExpired (seq : BitVec 16)
  -- zone lists (11)
  | zonePlain (h : Hdr) (payload : List Byte)
  | zoneCompl (h : Hdr) (payload : List Byte)
  | candidateExpiry
  -- time (05)
  | sync (dt : Nat) (h : Hdr) (payload : List Byte)
  | followUp (dt : Nat) (h : Hdr) (payload : List Byte)
  | delayResp (dt : Nat) (h : Hdr) (payload : List Byte)
  | syncPairTimeout (delay : Bool)
  | tb0Holdover
  -- requests (04 Table 4.11)
  | statusRead (h : Hdr) (args : List Byte)
  | modeSelect (dt : Nat) (h : Hdr) (args : List Byte)
  | profileSelect (dt : Nat) (h : Hdr) (args : List Byte)
  | masterDimmer (dt : Nat) (h : Hdr) (args : List Byte)
  | addrSet (h : Hdr) (args : List Byte)
  | safetyRecover (h : Hdr) (args : List Byte)
  | echo (h : Hdr) (args : List Byte)
  | unknownOpcode (src : OpSrc) (opcode : BitVec 16) (args : List Byte)
  -- service (13)
  | unlockReq (q : SvcSrc) (args : List Byte)
  | unlockResp (q : SvcSrc) (args : List Byte)
  | sessionEnd (q : SvcSrc) (args : List Byte)
  | imageErase (q : SvcSrc) (args : List Byte)
  | imageWrite (q : SvcSrc) (args : List Byte)
  | imageCheck (q : SvcSrc) (args : List Byte)
  | imageRead (q : SvcSrc) (args : List Byte)
  | recordRead (q : SvcSrc) (args : List Byte)
  | perturbSet (q : SvcSrc) (args : List Byte)
  | perturbClear (q : SvcSrc) (args : List Byte)
  | perturbStatus (q : SvcSrc) (args : List Byte)
  | perturbOff (testEnFell : Bool)
  | uartGapTimeout
  | challengeTimeout
  | sessionIdleTimeout
  | lockoutEnd
  -- events on lands, frames (05, 08)
  | tsevtCapture (dt : Nat)
  | lampsyncEdge (dt : Nat)
  | lampsyncLoss
  | latchPoint
  | cutoff
  | handoverAlign
  | scanStepRelease (residueRows : List Nat)
  | scanoutStarved (bank : Option (Fin 16))
  | rowSegment (t : Fin 64) (hdr : BitVec 32) (codes : List (BitVec 12)) (crc : BitVec 16)
  -- readback (10)
  | readback (t : Fin 64) (w : BitVec 48)
  | readbackTimeout
  | reread
  | readbackPacket
  | crcGenCheck
  -- tiles (09, 10)
  | tilePeriodBoundary (t : Fin 64)
  | curSet (t : Fin 64) (w : BitVec 96)
  | pwmSet (t : Fin 64) (w : BitVec 96)
  | align (t : Fin 64) (w : BitVec 96)
  | meas (t : Fin 64) (w : BitVec 96)
  | tampAllow (t : Fin 64) (w : BitVec 96)
  | switchGap (t : Fin 64) (w : BitVec 96)
  | result (t : Fin 64) (w : BitVec 96)
  | parityScan (t : Fin 64) (w : BitVec 96)
  | thresh (t : Fin 64) (w : BitVec 96)
  | measPeriodEnd (t : Fin 64) (opens shorts stuck : BitVec 128)
  | gapPulseEnd (t : Fin 64) (falls returns load : Bool) (collapse : Nat)
  -- diagnosis engine (10)
  | diagRowSlot (t : Fin 64)
  | gapTestDue (t : Fin 64)
  | sweepOverdue (t : Fin 64)
  | diagMapReport
  | diagCtrlWrite (v : BitVec 32)
  -- drive registers, quadrant power (09, 01)
  | drvTileWrite (t : Fin 64) (v : BitVec 32)
  | offReq (q : Fin 4)
  | wakeReq (q : Fin 4)
  | quadOff (q : Fin 4)
  | quadReady (q : Fin 4)
  | wakeCatchup (q : Fin 4)
  | drvStripeWrite (c : Fin 64) (v : BitVec 32)
  | powerDomainRequest (pd : Fin 11) (on : Bool)
  | powerForceRelease (q : Fin 4)
  -- quadrant command bus (09)
  | fillRect (q : Fin 4) (w : BitVec 64)
  | setCeil (q : Fin 4) (w : BitVec 64)
  | setOverride (q : Fin 4) (w : BitVec 64)
  | setSource (q : Fin 4) (w : BitVec 64)
  | quadStatus (q : Fin 4) (w : BitVec 64)
  | fillSweepDone (t : Fin 64)
  | commandAnswer (q : Fin 4) (a : BitVec 16)
  | commandTimeout (q : Fin 4)
  -- supply monitor (09, 11, 16)
  | moduleLimitUpdate (ma mv : Nat)
  | overcurrent (ma : Nat)
  | vledLow (mv : Nat)
  | vledPresent (mv : Nat)
  -- store arbiters (06)
  | arbiterDecision (b : Fin 16) (reqs : List StoreReq)
  | slotShadowWrite (b : Fin 16) (j : Fin 8) (v : BitVec 32)
  | swap (b : Fin 16)
  | freeze (b : Fin 16) (on : Bool)
  | arbWatchdog (b : Fin 16)
  | lockBroken (b : Fin 16)
  | bankInitDone (group : Fin 2)
  | scrubOverdue (b : Fin 16)
  -- safety (11, 01)
  | lbreq (active : Bool)
  | limiterTick
  | setMismatch
  | requestWord (fromSp fromRind : Bool)
  | normalAgreement
  | degTimeout
  | channelDisagree
  | voteMismatch
  | stallBlank
  | stallRequestExpiry
  | linkHoldExpiry
  | safetyCrcCheck (corrupt : Bool)
  | clockFault (tileClock : Bool)
  | oscillatorCheck (deviates : Bool)
  -- supervision (13)
  | mpWatchdogService (dt : Nat)
  | mpWatchdog
  | mpRestartReady
  | spWatchdogService (v : BitVec 8)
  | spWatchdog
  | spRestarted
  | rindHeartbeat (count : Nat)
  | mpBadAccess (addr : BitVec 32)
  -- heat (12)
  | tileSensorSample (t : Fin 64) (raw : BitVec 16)
  | quadSensorSample (q : Fin 4) (raw : BitVec 16)
  | dieSensorSample (raw : BitVec 16)
  | ntcSample (ohms : Nat)
  | mpPolicyTick (mv ma : Nat) (branch : List Nat)
  | shutdownRetry (t : Fin 64)
  | hardCut (target : Fin 68)
  | hardCutRelease (target : Fin 68)
  | heatRecordWrite (kind : Fin 7) (target : Fin 68)
  -- affinage (12)
  | affWWrite
  | fillCharge
  | affinageSave
  | saveDeferred
  -- flash and records (13, 15)
  | reserve (n : BitVec 23)
  | flashCommand (c : FlashCmd)
  | flashCommandDone
  | faultMapSave
  | telemetryHistory
  | eventPacket
  | eventRateWindow (code : BitVec 16) (key : Nat)
  | registerWrite (addr : BitVec 20) (v : BitVec 32)
  -- legacy personality (14)
  | hs (sets : Nat)
  | regWrite (dt : Nat) (f : T512Frame)
  | regRead (f : T512Frame)
  | lines (dt : Nat) (f : T512Frame)
  | showRows (dt : Nat) (f : T512Frame)
  | legacyEcho (f : T512Frame)
  | frameNak (noRoom : Bool)
  | frameRejected (type : BitVec 8) (f : T512Frame)
  | softReset (dt : Nat) (f : T512Frame)
  | faultIdxWrite (f : T512Frame)
  | faultEntryRead (f : T512Frame)
  | legacyStatusRead (f : T512Frame)
  | linkErrCntRead (f : T512Frame)
  | lowByteRead (f : T512Frame)
  -- clocks and test (05, 03, 16, 11)
  | crystalPllLocked
  | testEnHigh
  | testAccessPort (tms tdi : Bool) (lands : BitVec 12)
  | safetyOscillatorStop
deriving DecidableEq, Repr

end Sys2Proof
end

