-- ==== Sys2Proof/Decode.lean ====
section
/-!
DEFINITION. spec/opcode_table.json gives no row any bits (each "fields" is empty), so no word spells a command.
-/
namespace Sys2Proof

/-- The command that the `nbits`-bit word `w` spells by the table's bits: none, for the table gives no bits.
(DESIGN CHOICE: assumption log 51.) -/
def decodeTableWord (_nbits _w : Nat) : Option Instr := none

end Sys2Proof
end

