-- ==== Sys2Proof/Machine/Bits.lean ====
section
/-!
DEFINITION. Fields of byte strings, fixed-width arithmetic and the check codes: little-endian fields (R11), rounding
(R13), CRC-32C (R116), the CRC-16 of R222 and the CRC-8 of R87.
-/
namespace Sys2Proof.Machine

/-- Bits `lo + n - 1` to `lo` of `v`. -/
def bitsOf (v lo n : Nat) : Nat := (v >>> lo) % 2 ^ n

/-- Bit `i` of `v`. -/
def bitOf (v i : Nat) : Bool := v.testBit i

/-- A Bool as a bit. -/
def b2n (b : Bool) : Nat := if b then 1 else 0

/-- The value of a little-endian byte string (R11). -/
def leVal : List Byte → Nat
  | [] => 0
  | b :: bs => b.toNat + 256 * leVal bs

/-- The `n` little-endian bytes of `v` (R11). -/
def leBytes : Nat → Nat → List Byte
  | 0, _ => []
  | n + 1, v => BitVec.ofNat 8 v :: leBytes n (v / 256)

/-- The `n`-byte field at byte offset `off`. -/
def fieldAt (bs : List Byte) (off n : Nat) : Nat := leVal ((bs.drop off).take n)

/-- A `w`-bit two's-complement value. -/
def signedOf (w v : Nat) : Int :=
  if v % 2 ^ w < 2 ^ (w - 1) then (v % 2 ^ w : Nat) else (v % 2 ^ w : Nat) - (2 ^ w : Nat)

/-- An integer as a `w`-bit two's-complement field. -/
def toField (w : Nat) (i : Int) : Nat := (i % (2 ^ w : Nat)).toNat

/-- Clamp to `[lo, hi]` (R13). -/
def clampInt (lo hi v : Int) : Int := max lo (min hi v)

/-- Division rounded to nearest, ties to even (R13). -/
def rdiv (a : Int) (b : Nat) : Int :=
  let q := a / (b : Int)
  let r := (a % (b : Int)).toNat * 2
  if r < b then q else if b < r then q + 1 else if q % 2 = 0 then q else q + 1

/-- Natural division rounded to nearest, ties to even (R13). -/
def rdivNat (a b : Nat) : Nat :=
  let q := a / b
  let r := a % b * 2
  if r < b then q else if b < r then q + 1 else if q % 2 = 0 then q else q + 1

/-- Division rounded up. -/
def ceilDiv (a b : Nat) : Nat := (a + b - 1) / b

/-- Count of set bits among the low `n` bits. -/
def popCount : Nat → Nat → Nat
  | 0, _ => 0
  | n + 1, v => b2n (bitOf v n) + popCount n v

/-- `k` reflected CRC steps of polynomial `poly` on register `c`. -/
def crcShift (poly : Nat) : Nat → Nat → Nat
  | 0, c => c
  | k + 1, c => crcShift poly k (if c % 2 = 1 then (c >>> 1) ^^^ poly else c >>> 1)

/-- One byte into the CRC-32C register, reflected (R116). -/
def crc32cByte (c : Nat) (b : Byte) : Nat := crcShift 0x82F63B78 8 (c ^^^ b.toNat)

/-- The running CRC-32C register after `bs`. -/
def crc32cRun (c : Nat) (bs : List Byte) : Nat := bs.foldl crc32cByte c

/-- CRC-32C of a byte string (R116). -/
def crc32c (bs : List Byte) : Nat := crc32cRun 0xFFFFFFFF bs ^^^ 0xFFFFFFFF

/-- `k` most-significant-bit-first CRC steps, register of `w` bits. -/
def crcMsbShift (w poly : Nat) : Nat → Nat → Nat
  | 0, c => c
  | k + 1, c => crcMsbShift w poly k (if bitOf c (w - 1) then (c <<< 1 ^^^ poly) % 2 ^ w else (c <<< 1) % 2 ^ w)

/-- Bits of `v`, the most significant of `n` first, into an MSB-first CRC register. -/
def crcMsbBits (w poly : Nat) : Nat → Nat → Nat → Nat
  | 0, _, c => c
  | n + 1, v, c => crcMsbBits w poly n v (crcMsbShift w poly 1 (c ^^^ (b2n (bitOf v n) <<< (w - 1))))

/-- CRC-8, polynomial 0x07, initial 0, bytes most significant bit first (R87). -/
def crc8 (bs : List Byte) : Nat := bs.foldl (fun c b => crcMsbShift 8 0x07 8 (c ^^^ b.toNat)) 0

/-- CRC-16 of R222 (polynomial 0x1021, initial 0xFFFF, no final exclusive-or) over bits, most significant first. -/
def crc16Bits (n v c : Nat) : Nat := crcMsbBits 16 0x1021 n v c

/-- CRC-16 of R222 over bytes, each most significant bit first. -/
def crc16 (bs : List Byte) : Nat := bs.foldl (fun c b => crc16Bits 8 b.toNat c) 0xFFFF

/-- Set bit `i` of a vector to `b`. -/
def setBit {w : Nat} (v : BitVec w) (i : Nat) (b : Bool) : BitVec w :=
  if b then v ||| BitVec.twoPow w i else v &&& ~~~BitVec.twoPow w i

/-- Saturating 32-bit count (R400). -/
def sat32 (n : Nat) : Nat := min n 0xFFFFFFFF

/-- Saturating 16-bit count. -/
def sat16 (n : Nat) : Nat := min n 0xFFFF

/-- Full time of a 32-bit value seen from a full reference (R148). -/
def extend32 (v : Nat) (ref : Int) : Int := ref + signedOf 32 (toField 32 ((v : Int) - ref))

/-- `n` bytes of a little-endian word vector. -/
def bvBytes {w : Nat} (v : BitVec w) (n : Nat) : List Byte := leBytes n v.toNat

end Sys2Proof.Machine
end

