-- ==== Sys2Proof/Config.lean ====
section
/-!
DEFINITION. What one module's configuration fixes: the sections of the image as the engine holds them after a load
(02), with the values of the DLN2048-N factory image as defaults, and the free values of the spec, each an opaque
constant of which nothing is known (assumption log 4).
-/
namespace Sys2Proof

/-- `Config.freeNat k i` is an unknown number: the `k`-th kind of value the spec leaves open, at its `i`-th use.
(DESIGN CHOICE: assumption log 4.) -/
opaque Config.freeNat : Nat → Nat → Nat

/-- A byte of the factory image, which the spec describes only by its fields (R43-R63), by slot offset.
(DESIGN CHOICE: assumption log 3, 4.) -/
opaque Config.factoryByte : Nat → Byte

/-- The `i`-th NONCE of the SP's random source (R373). (DESIGN CHOICE: assumption log 4, 32.) -/
opaque Config.nonce : Nat → BitVec 128

/-- A granule of the pixel store whose stored word has three or more wrong bits, as the decoder returns it (R169).
(DESIGN CHOICE: assumption log 4, 14.) -/
opaque Config.eccGarbage : Nat → BitVec 64

/-- Layer descriptor (Table 7.2); the resets are the factory defaults, with Z set per layer. -/
structure Desc where
  /-- SURF_OFFSET (32; 07 Table 7.2). -/
  surf : BitVec 32 := 0
  /-- STRIDE (16; 07 Table 7.2). -/
  stride : BitVec 16 := 8
  /-- SRC_W (16; 07 Table 7.2). -/
  srcW : BitVec 16 := 1
  /-- SRC_H (16; 07 Table 7.2). -/
  srcH : BitVec 16 := 1
  /-- DST_X, two's complement (16; 07 Table 7.2). -/
  dstX : BitVec 16 := 0
  /-- DST_Y, two's complement (16; 07 Table 7.2). -/
  dstY : BitVec 16 := 0
  /-- DST_W (16; 07 Table 7.2). -/
  dstW : BitVec 16 := 1
  /-- DST_H (16; 07 Table 7.2). -/
  dstH : BitVec 16 := 1
  /-- STEP_X (32; 07 Table 7.2). -/
  stepX : BitVec 32 := 0x10000
  /-- STEP_Y (32; 07 Table 7.2). -/
  stepY : BitVec 32 := 0x10000
  /-- FORMAT (0-7; 07 Table 7.2). -/
  format : Nat := 0
  /-- VISIBLE (1; 07 Table 7.2). -/
  visible : Bool := false
  /-- OPAQUE (1; 07 Table 7.2). -/
  opq : Bool := false
  /-- BLEND (0-3; 07 Table 7.2). -/
  blend : Nat := 0
  /-- GLOBAL_ALPHA (8; 07 Table 7.2). -/
  alpha : BitVec 8 := 255
  /-- Z (n for layer n) (0-15; 07 Table 7.2). -/
  z : Nat := 0
  /-- FADE_MS (16; 07 Table 7.2). -/
  fadeMs : BitVec 16 := 0
  /-- FADE_CURVE (1; 07 Table 7.2). -/
  curve : Bool := false
deriving DecidableEq, Repr

/-- Zone record (Table 11.3), the fields that are not reserved. -/
structure ZoneRec where
  /-- X0 (11; 11 R302). -/
  x0 : Nat := 0
  /-- X1 (11; 11 R302). -/
  x1 : Nat := 0
  /-- Y0 (9; 11 R302). -/
  y0 : Nat := 0
  /-- Y1 (9; 11 R302). -/
  y1 : Nat := 0
  /-- LIMIT (12; 11 R302). -/
  limit : Nat := 0
  /-- ZONE_ID (5; 11 R302). -/
  id : Nat := 0
deriving DecidableEq, Repr

/-- SAFETY section (Table 2.5). -/
structure SafetyP where
  /-- RATE_LIMIT, px per ms (U8.8; 02 R49). -/
  rateLimit : Nat := 0x200
  /-- DEG_MARGIN_PX (8; 02 R49). -/
  degMargin : Nat := 24
  /-- DEG_CAP_PCT (8; 02 R49). -/
  degCap : Nat := 70
  /-- DEG_TIME_S (8; 02 R49). -/
  degTime : Nat := 30
  /-- KERB_SIDE (1; 02 R49). -/
  kerbSide : Bool := true
  /-- KERB_BAND (5; 02 R49). -/
  kerbBand : Nat := 16
  /-- HOLD_MAX_MS (16; 02 R49). -/
  holdMax : Nat := 500
  /-- ABOVE_CUT_CODE (12; 02 R49). -/
  aboveCut : Nat := 160
  /-- FB_CODE (12; 02 R49). -/
  fbCode : Nat := 2048
  /-- FB_ABOVE_CODE (12; 02 R49). -/
  fbAbove : Nat := 80
  /-- FB_CURRENT (8; 02 R49). -/
  fbCurrent : Nat := 160
  /-- CUT_MIN (32 x 9; 02 R49). -/
  cutMin : List Nat := (List.replicate 16 256 ++ List.replicate 16 200)
  /-- CUT_MAX (32 x 9; 02 R49). -/
  cutMax : List Nat := (List.replicate 32 280)
  /-- CUT_DEF (32 x 9; 02 R49). -/
  cutDef : List Nat := (List.replicate 32 256)
  /-- FB_ROW (32 x 9; 02 R49). -/
  fbRow : List Nat := (List.replicate 32 264)
  /-- DEFAULT_ZONE (0-32; 02 R49). -/
  zones : List ZoneRec := []
deriving DecidableEq, Repr

/-- LINK section (Table 2.6). -/
structure LinkP where
  /-- GEN_ALLOW (3; 02 R51). -/
  gen : BitVec 3 := 7
  /-- WIDTH_ALLOW (4; 02 R51). -/
  width : BitVec 4 := 15
  /-- REV_OFFER (3; 02 R51). -/
  rev : BitVec 3 := 7
  /-- PORTB_EN (1; 02 R51). -/
  portB : Bool := true
  /-- IDLE_EN (1; 02 R51). -/
  idle : Bool := true
  /-- ADDR_MODE (2; 02 R51). -/
  addrMode : Nat := 0
  /-- FIXED_ADDR (3; 02 R51). -/
  fixedAddr : BitVec 3 := 0
  /-- HOLD_MS (16; 02 R51). -/
  holdMs : Nat := 200
deriving DecidableEq, Repr

/-- One timing mode (Table 2.7); the resets are factory mode 0. -/
structure ModeP where
  /-- FRAME_RATE_HZ (16; 02 R52). -/
  rate : Nat := 120
  /-- STEP_NS (16; 02 R52). -/
  stepNs : Nat := 4000
  /-- GUARD_US (16; 02 R52). -/
  guardUs : Nat := 100
  /-- IDLE_FRAMES (8; 02 R52). -/
  idleFrames : Nat := 4
  /-- PWM_DIV per heat band (5 x 8; 02 R52). -/
  pwmDiv : List Nat := [8, 8, 8, 12, 16]
  /-- KEEPALIVE per heat band (5 x 8; 02 R52). -/
  keep : List Nat := [120, 120, 30, 7, 1]
deriving DecidableEq, Repr

/-- One layer envelope (Table 2.8); the resets are the weights and flags common to all layers. -/
structure EnvP where
  /-- MAX_W (16; 02 R54). -/
  maxW : Nat := 1024
  /-- MAX_H (16; 02 R54). -/
  maxH : Nat := 512
  /-- FORMATS (5; 02 R54). -/
  formats : BitVec 5 := 3
  /-- PAIR (1; 02 R54). -/
  pair : Bool := false
  /-- SAFETY_RELEVANT (1; 02 R54). -/
  safety : Bool := false
  /-- ENABLED (1; 02 R54). -/
  enabled : Bool := true
  /-- STALE_N (8; 02 R54). -/
  staleN : Nat := 3
  /-- POOL_BASE (32; 02 R54). -/
  base : Nat := 0
  /-- POOL_SIZE (32; 02 R54). -/
  size : Nat := 0
  /-- W_R (12; 02 R54). -/
  wr : Nat := 871
  /-- W_G (12; 02 R54). -/
  wg : Nat := 2929
  /-- W_B (12; 02 R54). -/
  wb : Nat := 296
deriving DecidableEq, Repr

/-- THERMAL section (Table 2.12); temperatures S12.4. -/
structure ThermalP where
  /-- KNEE_J (S12.4; 02 R59). -/
  kneeJ : Int := 0x780
  /-- SLOPE_J (16; 02 R59). -/
  slopeJ : Nat := 0x500
  /-- KNEE_S (S12.4; 02 R59). -/
  kneeS : Int := 0x5F0
  /-- SLOPE_S (16; 02 R59). -/
  slopeS : Nat := 0x300
  /-- FLOOR_PCT (8; 02 R59). -/
  floorPct : Nat := 20
  /-- SUSPECT_DEV_C (8; 02 R59). -/
  devC : Nat := 8
  /-- SUSPECT_MS (16; 02 R59). -/
  suspectMs : Nat := 1000
  /-- SHUTDOWN_C (S12.4; 02 R59). -/
  shutC : Int := 0x9B0
  /-- RETRY_C (S12.4; 02 R59). -/
  retryC : Int := 0x870
  /-- SHUTDOWN_LATCH_N (8; 02 R59). -/
  latchN : Nat := 3
  /-- SHUTDOWN_WINDOW_S (16; 02 R59). -/
  windowS : Nat := 600
  /-- BAND_EDGE (4 x S12.4; 02 R59). -/
  edges : List Int := [-160, 720, 1440, 2080]
  /-- HYST (U4.4; 02 R59). -/
  hyst : Nat := 0x30
  /-- SLEW per heat band (5 x 8; 02 R59). -/
  slew : List Nat := [8, 8, 4, 2, 1]
  /-- OPEN_MV per heat band (5 x 16; 02 R59). -/
  openMv : List Nat := [150, 150, 150, 150, 150]
  /-- SHORT_MV per heat band (5 x 16; 02 R59). -/
  shortMv : List Nat := [1800, 1750, 1700, 1650, 1600]
deriving DecidableEq, Repr

/-- AFFINAGE section (Table 2.13). -/
structure AffP where
  /-- EA_MEV (16; 02 R60). -/
  eaMev : Nat := 450
  /-- T_REF (S12.4; 02 R60). -/
  tRef : Int := 0x190
  /-- I_EXP (U4.12; 02 R60). -/
  iExp : Nat := 0x1800
  /-- REF_CODE (8; 02 R60). -/
  refCode : Nat := 160
  /-- SAVE_MIN (8; 02 R60). -/
  saveMin : Nat := 10
  /-- L70_H (32; 02 R60). -/
  l70 : Nat := 30000
  /-- HEADROOM_PCT (8; 02 R60). -/
  headroomPct : Nat := 25
deriving DecidableEq, Repr

/-- SERVICE section (Table 2.17). -/
structure ServiceP where
  /-- IMAGE_WRITE_EN (1; 02 R63). -/
  writeEn : Bool := true
  /-- UNLOCK_EN (1; 02 R63). -/
  unlockEn : Bool := true
  /-- MAX_ATTEMPTS (8; 02 R63). -/
  maxAttempts : Nat := 3
  /-- LOCKOUT_S (16; 02 R63). -/
  lockoutS : Nat := 60
deriving DecidableEq, Repr


/-- Factory timing modes (Table 2.7a). -/
def factoryModes : List ModeP :=
  [{}, { rate := 100, pwmDiv := [10, 10, 10, 15, 20], keep := [100, 100, 25, 6, 1] },
   { rate := 240, pwmDiv := [4, 4, 4, 6, 8], keep := [240, 240, 60, 15, 3] }]

/-- Factory layer envelopes (Table 2.8): V0-V3 then G0-G7. -/
def factoryEnvs : List EnvP :=
  (List.range 12).map fun n =>
    if n < 4 then { base := 0x900000 + 0x100000 * n, size := 0x100000 }
    else { maxW := 512, maxH := 128, formats := 0x1F, base := 0xD00000 + 0x60000 * (n - 4), size := 0x60000 }

/-- Factory pixel-store map (Table 2.9): BASE and SIZE. -/
def factoryRegions : List (Nat × Nat) :=
  [(0, 0x300000), (0x300000, 0x100000), (0x400000, 0x20000), (0x420000, 0x40000), (0x500000, 0x400000),
   (0x900000, 0x700000)]

/-- Factory default descriptors: Table 7.2's defaults with Z equal to the layer number. -/
def factoryDescs : List Desc := (List.range 12).map fun n => { z := n }

/-- What the engine holds of the loaded image; the resets are the DLN2048-N factory image. (DESIGN CHOICE: assumption log 3.) -/
structure Params where
  /-- IMAGE_SEQ (32; 02 R43). -/
  seq : BitVec 32 := 1
  /-- SECURITY_VERSION (0-32; 02 R43). -/
  secVer : Nat := 0
  /-- ADVANCE_ROLLBACK (1; 02 R43). -/
  advance : Bool := true
  /-- SAFETY (record; 02 R49). -/
  safety : SafetyP := {}
  /-- LINK (record; 02 R51). -/
  link : LinkP := {}
  /-- timing modes (1-8; 02 R52). -/
  modes : List ModeP := factoryModes
  /-- DEFAULT_MODE (3; 02 R52). -/
  defaultMode : Nat := 0
  /-- layer envelopes (12; 02 R54). -/
  envs : List EnvP := factoryEnvs
  /-- BASE and SIZE of each region (6; 02 R54). -/
  regions : List (Nat × Nat) := factoryRegions
  /-- default descriptors (12; 02 R54). -/
  descs : List Desc := factoryDescs
  /-- MIRROR_X (1; 02 R56). -/
  mirrorX : Bool := false
  /-- MIRROR_Y (1; 02 R56). -/
  mirrorY : Bool := false
  /-- MASTER_DEFAULT (U1.15; 02 R56). -/
  masterDefault : Nat := 0x8000
  /-- PROFILE_COUNT (0-4; 02 R58). -/
  profileCount : Nat := 0
  /-- DEFAULT_PROFILE (8; 02 R58). -/
  defaultProfile : Nat := 255
  /-- THERMAL (record; 02 R59). -/
  thermal : ThermalP := {}
  /-- AFFINAGE (record; 02 R60). -/
  aff : AffP := {}
  /-- MP_FW.ENTRY (32; 02 R61). -/
  fwEntry : Nat := 0
  /-- MP_FW.LOAD_SIZE (32; 02 R61). -/
  fwSize : Nat := 4
  /-- MP_FW.FW_VERSION (32; 02 R61). -/
  fwVersion : BitVec 32 := 0
  /-- LEGACY.POLICY (2; 02 R62). -/
  policy : Nat := 0
  /-- LEGACY.FAIL_THRESHOLD (8; 02 R62). -/
  failThreshold : Nat := 2
  /-- LEGACY.NEIGHBOUR_COMP (1; 02 R62). -/
  neighbour : Bool := true
  /-- TEST.PERTURB_EN (1; 02 R63). -/
  perturbEn : Bool := false
  /-- SERVICE (record; 02 R63). -/
  service : ServiceP := {}
deriving DecidableEq, Repr

end Sys2Proof
end

