-- ==== Sys2Proof/Machine/State.lean ====
section
/-!
DEFINITION. The state of the DLN2048 engine: every register, table, buffer, counter, mode and line the spec gives
it, as plain data, and the queue of waiting commands. Every field's docstring gives its width and the rule that
names it; every reset value the spec does not state is listed in INVENTORY.md with its log entry.
-/
namespace Sys2Proof.Machine

/-- Training states of a port, in the order of Table 15.4 (Table 3.3). -/
inductive LState where
  | off | detect | sweep | align | deskew | exchange | up | repair | idle | wake | loopback | backoff
deriving DecidableEq, Repr

/-- States of TB0 (R154). -/
inductive TbState where
  | free | acquire | locked | holdover
deriving DecidableEq, Repr

/-- Frame kinds (R218), in the order of ST 0x0502. -/
inductive FrameKind where
  | full | keepAlive | idle | transition
deriving DecidableEq, Repr

/-- Safety states (R314), in the order of Table 15.2. -/
inductive SafeState where
  | normal | degraded | fallback | dark
deriving DecidableEq, Repr

/-- What the Rind paints by itself (R319): nothing, the dark array, or the fallback beam. -/
inductive Paint where
  | none | dark | beam
deriving DecidableEq, Repr

/-- Trust states of a tile sensor, in the order of Table 12.2. -/
inductive Trust where
  | trusted | suspect | failed | unavailable
deriving DecidableEq, Repr

/-- Service session states, in the order of Table 13.5. -/
inductive SvcState where
  | locked | challenged | unlocked | lockout
deriving DecidableEq, Repr

/-- Start-up states, in the order of Table 2.19. -/
inductive StartState where
  | powerOn | fuseRead | select | load | bringUp | ready | serviceOnly | resetHeld
deriving DecidableEq, Repr

/-- Personality states (Table 2.21), in the order of Table 15.2. -/
inductive Personality where
  | unlatched | native | legacy
deriving DecidableEq, Repr

/-- What a request bound to a latch point changes (R227): the timing mode, the beam profile with its cross-fade, or
the master dimmer with its fade. -/
inductive BoundKind where
  | mode (m : Nat)
  | profile (p ms : Nat) (curve : Bool)
  | master (v ms : Nat) (curve : Bool)
deriving DecidableEq, Repr

/-- A timestamp: one capture of TB0 with its epoch, TB1 and TB2 (05 R147). -/
structure Stamp where
  /-- TB0 full time (ns; 05 R147). -/
  tb0 : Int := 0
  /-- epoch of TB0 (8; 05 R147). -/
  epoch : BitVec 8 := 0
  /-- TB1 (ns; 05 R147). -/
  tb1 : Nat := 0
  /-- TB2 (ns; 05 R147). -/
  tb2 : Nat := 0
deriving DecidableEq, Repr

/-- What a port's transmitter has last put on its lanes (03 R86, 04 R114). -/
structure Line where
  /-- scrambler of each transmit lane (4 x 58; 03 R86). -/
  scr : Sparse (BitVec 58) := []
  /-- blocks of the packet stream sent since TS_END, modulo 12, which every width divides (0-11; 03 R86). -/
  count : Nat := 0
  /-- the latest transmission at G2 and G3: physical lane and 66-bit block, the sync header in bits 1:0 (blocks; 03 R86). -/
  blocks : List (Nat × BitVec 66) := []
  /-- the latest transmission at G1: characters, bit 8 set for a K character (characters; 04 Table 4.1). -/
  chars : List (BitVec 9) := []
deriving DecidableEq, Repr

/-- A link control block waiting for its lane (04 R115). -/
structure Lcb where
  /-- KIND (1 ACK, 2 NAK, 3 CREDIT; 04 Table 4.2). -/
  kind : Nat := 1
  /-- VC of a CREDIT (0-31; 04 R115). -/
  vc : Nat := 0
  /-- SEQ, or TOTAL (12; 04 R115). -/
  value : Nat := 0
deriving DecidableEq, Repr

/-- An operation that waits for the MP, or for room in the AON reply buffer (13 R366). -/
structure Wait where
  /-- the packet, frame or UART operation (record; 13 R366). -/
  cmd : Instr := .lossOfVlog
  /-- receive queue it waits in (0-31, 32 UART; 13 R366). -/
  vc : Nat := 0
  /-- credits to free when it is consumed (0-16; 04 R130). -/
  credits : Nat := 0
  /-- staging bytes to release with them (0-4096; 04 R129). -/
  bytes : Nat := 0
  /-- port A SEQ of a broadcast whose forwarded copy shares its credits (12; 04 R130). -/
  shared : Option (BitVec 12) := none
  /-- stamp of its arrival, the EOP stamp (record; 08 R226). -/
  stamp : Stamp := {}
  /-- TB0 full time at its content stage (ns; 05 R158). -/
  content0 : Nat := 0
  /-- it is answered by a REPLY (1; 13 R366). -/
  owes : Bool := false
  /-- its consumer: 0 an engine block, 1 the MP, 2 the MP while a session is unlocked and else the SP, 3 the same with
  TEST_EN low, 4 the SP (0-4; 01 R31). -/
  who : Nat := 0
  /-- first store byte it writes (24; 06 R172). -/
  lo : Nat := 0
  /-- end of those bytes (25; 06 R172). -/
  hi : Nat := 0
deriving DecidableEq, Repr

/-- Candidate zone list (11 R303). -/
structure ZoneList where
  /-- LIST_SEQ (16; 11 R301). -/
  seq : BitVec 16 := 0
  /-- zone records (0-32; 11 R301). -/
  zones : List ZoneRec := []
  /-- CUT_ROW, empty when CUT_VALID is 0 (0 or 32; 11 R301). -/
  rows : List Nat := []
  /-- payload length (bytes; 11 R304). -/
  len : Nat := 0
  /-- TB3 at which the Rind took it (ns of TB3; 11 R303). -/
  at3 : Nat := 0
deriving DecidableEq, Repr

/-- A quadrant command sent and not yet answered (11 R328). -/
structure QuadCmd where
  /-- quadrant (0-3; 11 R328). -/
  quad : Nat := 0
  /-- command word (64; 09 Table 9.6). -/
  word : BitVec 64 := 0
  /-- it has been resent (1; 11 R328). -/
  resent : Bool := false
  /-- it belongs to a stall blanking (1; 01 R37). -/
  stall : Bool := false
deriving DecidableEq, Repr

/-- An active perturbation control (13 R374). -/
structure Perturb where
  /-- CONTROL (8; 13 Table 13.7). -/
  control : Nat := 0
  /-- TARGET (16; 13 Table 13.7). -/
  target : Nat := 0
  /-- VALUE (32; 13 Table 13.7). -/
  value : BitVec 32 := 0
  /-- set under TEST_EN on the UART (1; 13 R375). -/
  uart : Bool := false
  /-- uses left of a counted control (count; 13 Table 13.8). -/
  left : Nat := 0
deriving DecidableEq, Repr

/-- A T512 reply frame (14 R380). -/
structure T512Reply where
  /-- TYPE (8; 14 Table 14.2). -/
  type : Nat := 0x81
  /-- SEQ (8; 14 R380). -/
  seq : BitVec 8 := 0
  /-- ARG (16; 14 Table 14.2). -/
  arg : BitVec 16 := 0
  /-- payload (bytes; 14 Table 14.2). -/
  payload : List (BitVec 8) := []
deriving DecidableEq, Repr

/-- A command of the NVM controller (13 R368). -/
structure FlashJob where
  /-- the command (record; 13 R368). -/
  cmd : FlashCmd := { writer := 3, erase := false, addr := 0, data := [] }
  /-- sectors of an IMAGE_ERASE still to be erased after it (0-3071; 02 R80). -/
  more : Nat := 0
  /-- opcode of the image operation that ends with it, 0 none (16; 02 R79). -/
  op : Nat := 0
deriving DecidableEq, Repr

/-- One image slot of the flash (02 R41). (DESIGN CHOICE: assumption log 3.) -/
structure Slot where
  /-- holds the factory image, whose bytes the spec does not give (1; 02 R41). -/
  factory : Bool := false
  /-- sectors of a factory slot erased since (3072 sectors; 02 R41). -/
  gone : Sparse Bool := []
  /-- bytes other than the erased value 0xFF, by slot offset (12 MiB; 02 R41). -/
  cells : Sparse (BitVec 8) := []
deriving DecidableEq, Repr

/-- A fade from v0 to v1 (R212), evaluated once per latch point. -/
structure Fade where
  /-- value at the fade's start (U1.16; 07 R212). -/
  v0 : Nat := 0
  /-- end value (U1.16; 07 R212). -/
  v1 : Nat := 0
  /-- fade time F (0-4000 ms; 07 R212). -/
  ms : Nat := 0
  /-- true CIE lightness, false linear (1; 07 R212). -/
  curve : Bool := false
  /-- TB2 of the latch point at which it started (ns of TB2; 07 R212). -/
  start : Nat := 0
  /-- value held for the current frame (U1.16; 07 R212). -/
  val : Nat := 0
deriving DecidableEq, Repr

/-- One receive lane of a port. -/
structure Lane where
  /-- squelch open (1; 03 R85). -/
  squelch : Bool := false
  /-- bit lock (1; 03 R93). -/
  bitLock : Bool := false
  /-- comma aligned (G1) (1; 03 R94). -/
  comma : Bool := false
  /-- block lock (G2, G3) (1; 03 R95). -/
  block : Bool := false
  /-- receiver inverts this lane until the next attempt (1; 03 R95). -/
  inverted : Bool := false
  /-- LANE_ID the lane carries (0-3, 15 unknown; 03 R97). -/
  laneId : Nat := 15
  /-- TS_B within 64 UI of the earliest lane (1; 03 R96). -/
  deskewed : Bool := false
  /-- TS_END seen on this lane (1; 03 R89). -/
  ended : Bool := false
  /-- LPBK of the last TS_A block on this lane (0-4; 03 R111). -/
  lpbk : Nat := 0
deriving DecidableEq, Repr

/-- Lane layer of one port (03, Table 3.3). -/
structure Port where
  /-- training state (enum 12; 03 R89, 15 Table 15.4). -/
  st : LState := .off
  /-- generation found or running (0 none, 1-3; 03 R89). -/
  gen : Nat := 0
  /-- generation of the running SWEEP dwell (1-3; 03 R89). -/
  sweepGen : Nat := 3
  /-- complete SWEEP rounds (0-4; 03 R89). -/
  sweepRound : Nat := 0
  /-- framing identified (0 unknown, 1 native, 2 T512; 03 R90). -/
  framing : Nat := 0
  /-- index of the next BACKOFF interval (0 is 10 ms) (0-7; 03 R98). -/
  backoff : Nat := 0
  /-- receive lanes 0-3 (unlisted: Lane's reset) (4 lanes; 03 R93-R97). -/
  lanes : Sparse Lane := []
  /-- WORK_MASK (4; 03 R97). -/
  workMask : BitVec 4 := 0
  /-- USE_MASK (4; 03 R97). -/
  useMask : BitVec 4 := 0
  /-- ATTEMPT echoed (8; 03 R87). -/
  attempt : BitVec 8 := 0
  /-- last receiver detection on the back lane (port A) (enum 3; 03 R83). -/
  backDet : Detect := .absent
  /-- last detection per transmit lane (port B); unlisted ABSENT (4 lanes; 03 R84). -/
  txDet : Sparse Detect := []
  /-- transmit lanes whose detection has completed in this DETECT (port B) (4; 03 R84). -/
  txDone : BitVec 4 := 0
  /-- consecutive ABSENT results on the idle back lane (0-2; 03 R109). -/
  absentRun : Nat := 0
  /-- consecutive SHORTED results on the idle back lane (0-2; 03 R109). -/
  shortedRun : Nat := 0
  /-- back lane electrically idle (1; 03 R109). -/
  backIdle : Bool := false
  /-- receive lanes idle after IDLE_ENTER (1; 03 R107). -/
  rxIdle : Bool := false
  /-- loopback running (0 none, 1 near serial, 2 near parallel, 3 far end; 03 R110). -/
  loopback : Nat := 0
  /-- lane of the far-end loopback (0-3; 03 R111). -/
  loopLane : Nat := 0
  /-- what the port's sequencer has its transmitter send on the enabled lanes (0 nothing, 1 TS_A, 2 TS_B, 3 TS_END, 4
  REPAIR, 5 packets, 6 wake burst, 7 HS, 8 loopback; 03 R89). -/
  txBlock : Nat := 0
  /-- what the transmitter has last put on its lanes (record; 03 R86). -/
  line : Line := {}
  /-- TB1 at the first block lock of this ALIGN (ns of TB1; 03 Table 3.3). -/
  alignAt : Option Nat := none
  /-- port B lanes classified SHORTED this start (4; 03 R84). -/
  shortedMask : BitVec 4 := 0
  /-- event 0x0108 raised this start (1; 03 R84). -/
  shortedReported : Bool := false
  /-- role conflict reported: port B in this start (04 R139); port A since the last link down, which is the model's choice
  (R88 gives no rate: assumption log 52) (1; 04 R139). -/
  roleReported : Bool := false
  /-- REPAIRS (32; 15 Table 15.4). -/
  repairs : Nat := 0
  /-- LINK_UPS (32; 15 Table 15.4). -/
  linkUps : Nat := 0
  /-- NAKS_SENT (32; 15 Table 15.4). -/
  naksSent : Nat := 0
  /-- REPLAYS (32; 15 Table 15.4). -/
  replays : Nat := 0
  /-- CRC_FAILS (32; 15 Table 15.4). -/
  crcFails : Nat := 0
  /-- CONTENT_DISCARDS (32; 15 Table 15.4). -/
  contentDiscards : Nat := 0
deriving DecidableEq, Repr

/-- Results of LINK_SELFTEST, kept until the next self-test (R112). -/
structure SelfTest where
  /-- a self-test runs (1; 03 R112). -/
  running : Bool := false
  /-- generation it names (1-3; 03 R112). -/
  gen : Nat := 1
  /-- duration it names (1-1000 ms; 03 R112). -/
  ms : Nat := 0
  /-- lane mask tested (4; 03 R112). -/
  lanes : BitVec 4 := 0
  /-- saturating error counter per lane (4 x 32; 03 R112). -/
  errors : Sparse Nat := []
  /-- lock flag per lane (4; 03 R112). -/
  locks : BitVec 4 := 0
deriving DecidableEq, Repr

/-- Downstream credits of one VC (R129). -/
structure RxCredit where
  /-- credits charged and not yet freed (0-96; 04 R129). -/
  held : Nat := 0
  /-- TOTAL returned since link-up (11, mod 2048; 04 R129). -/
  total : Nat := 0
  /-- credits freed since the last CREDIT (0-96; 04 R129). -/
  freed : Nat := 0
  /-- staging bytes in use, in whole data blocks (bytes; 04 Table 4.16). -/
  bytes : Nat := 0
deriving DecidableEq, Repr

/-- A packet waiting for, or sent on, the back lane. -/
structure TxPkt where
  /-- upstream VC (0-31; 04 R119). -/
  vc : Nat := 0
  /-- TYPE (8; 04 Table 4.4). -/
  type : Nat := 0
  /-- TAG (16; 04 R118). -/
  tag : BitVec 16 := 0
  /-- source module ADDR (4; 04 R118). -/
  addr : BitVec 4 := 0
  /-- payload (bytes; 04 R118). -/
  payload : List (BitVec 8) := []
  /-- SEQ once transmitted (12; 04 R125). -/
  seq : BitVec 12 := 0
  /-- header stamp at entry on port B of a forwarded packet (0.5 ns of TB1; 04 R141). -/
  entry : Nat := 0
  /-- it came from port B through TQ6 (1; 04 R140). -/
  fwd : Bool := false
deriving DecidableEq, Repr

/-- Packet layer of port A (04). -/
structure Link where
  /-- selected revision (0 none) (0, 0x20, 0x21, 0x30; 04 R135). -/
  rev : Nat := 0
  /-- REV_SEL of the last CAP_ANSWER (0, 1, 2, 4; 04 R135). -/
  offered : Nat := 0
  /-- HOP of the accepted CAP_OFFER (0-7; 04 R137). -/
  hop : Nat := 0
  /-- module address in force (3; 04 R137). -/
  addr : BitVec 3 := 0
  /-- the address of this start has been set (1; 04 R137). -/
  addrKnown : Bool := false
  /-- expected SEQ E (12; 04 R125). -/
  expSeq : BitVec 12 := 0
  /-- accepted packets not yet acknowledged (0-8; 04 R126). -/
  unacked : Nat := 0
  /-- E named by the last NAK (suppression) (12; 04 R126). -/
  nakFor : Option (BitVec 12) := none
  /-- TB1 of the last NAK (ns of TB1; 04 R126). -/
  nakAt : Nat := 0
  /-- SEQ of the run of link-stage failures (12; 04 R128). -/
  failSeq : BitVec 12 := 0
  /-- consecutive failures of that SEQ (0-5; 04 R128). -/
  failRun : Nat := 0
  /-- SEQ of the next upstream packet (12; 04 R125). -/
  txSeq : BitVec 12 := 0
  /-- replay buffer, oldest first (32 KiB; 04 R127). -/
  replay : List TxPkt := []
  /-- replays of the oldest packet (0-4; 04 R128). -/
  replayCount : Nat := 0
  /-- NAKs naming the oldest packet (0-5; 04 R128). -/
  nakCount : Nat := 0
  /-- SEQ of the packet a replay in progress sends next (12; 04 R127). -/
  replayNext : Option (BitVec 12) := none
  /-- receive credits per VC (32 VCs; 04 R129). -/
  credits : Sparse RxCredit := []
  /-- upstream credits left per VC (6 VCs; 04 R133). -/
  txLeft : Sparse Nat := []
  /-- last CREDIT TOTAL received per VC (6 VCs, mod 2048; 04 R129). -/
  txTotal : Sparse Nat := []
  /-- VCs with unlimited upstream credits (32; 04 Table 4.5). -/
  txFree : BitVec 32 := 0
  /-- LCBs waiting for the back lane (list; 04 R115). -/
  lcbs : List Lcb := []
  /-- transmit queues, head first (TQ0, TQ2-TQ6; 04 Table 4.17). -/
  tqs : Sparse (List TxPkt) := []
  /-- packets whose producer waits because its transmit queue is full (per queue; 04 R132). -/
  blocked : Sparse (List TxPkt) := []
  /-- queues whose head has waited 500 us, oldest first (0-6; 04 R132). -/
  starved : List Nat := []
  /-- operations waiting for the MP, oldest first (receive queues; 13 R366). -/
  waiting : List Wait := []
  /-- AON reply buffer while the MP is not ready (64 entries; 13 R366). -/
  aonReplies : List TxPkt := []
  /-- last CAP_ANSWER sent (packet; 04 R135). -/
  capTx : Option TxPkt := none
  /-- the last-frame hold of a link down is running (1; 03 R101). -/
  holdRun : Bool := false
deriving DecidableEq, Repr

/-- A downstream packet to forward on port B. -/
structure FwdPkt where
  /-- VC (0-31; 04 R140). -/
  vc : Nat := 0
  /-- TYPE (8; 04 R140). -/
  type : Nat := 0
  /-- ADDR (4; 04 R140). -/
  addr : BitVec 4 := 0
  /-- TAG (16; 04 R140). -/
  tag : BitVec 16 := 0
  /-- broadcast, consumed here too (1; 04 R131). -/
  bcast : Bool := false
  /-- payload (bytes; 04 R140). -/
  payload : List (BitVec 8) := []
  /-- port A credits it holds (1-16; 04 R130). -/
  credits : Nat := 0
  /-- port A SEQ it arrived with (12; 04 R130). -/
  aSeq : BitVec 12 := 0
  /-- a broadcast that waits to be consumed here too, which then frees the credits (1; 04 R130). -/
  here : Bool := false
  /-- header stamp at entry (0.5 ns of TB1; 04 R141). -/
  entry : Nat := 0
  /-- port B SEQ once sent (12; 04 R140). -/
  seq : BitVec 12 := 0
deriving DecidableEq, Repr

/-- Packet layer of port B (04 R139-R141). -/
structure LinkB where
  /-- SEQ of the next packet sent downstream (12; 04 R140). -/
  txSeq : BitVec 12 := 0
  /-- expected SEQ of upstream packets (12; 04 R125). -/
  expSeq : BitVec 12 := 0
  /-- upstream packets accepted and not yet acknowledged (0-8; 04 R126). -/
  unacked : Nat := 0
  /-- E named by the last NAK on port B (suppression) (12; 04 R126). -/
  nakFor : Option (BitVec 12) := none
  /-- TB1 of that NAK (ns of TB1; 04 R126). -/
  nakAt : Nat := 0
  /-- SEQ of the run of link-stage failures on port B (12; 04 R128). -/
  failSeq : BitVec 12 := 0
  /-- consecutive failures of that SEQ (0-5; 04 R128). -/
  failRun : Nat := 0
  /-- upstream credits granted to the downstream module (per VC; 04 R139). -/
  granted : Sparse Nat := []
  /-- those charged and returned (per VC; 04 R139). -/
  credits : Sparse RxCredit := []
  /-- LCBs waiting for port B's lanes (list; 04 R115). -/
  lcbs : List Lcb := []
  /-- packets waiting for port B, in port A SEQ order (list; 04 R140). -/
  wait : List FwdPkt := []
  /-- forwarded packets awaiting acknowledgement (list; 04 R130). -/
  sent : List FwdPkt := []
  /-- downstream credits left per VC (32 VCs; 04 R139). -/
  left : Sparse Nat := []
  /-- last CREDIT TOTAL received on port B per VC (32 VCs, mod 2048; 04 R139). -/
  total : Sparse Nat := []
  /-- VCs of port B with unlimited credits (32; 04 Table 4.5). -/
  free : BitVec 32 := 0
  /-- replays of the oldest packet sent on port B (0-4; 04 R128). -/
  replayCount : Nat := 0
  /-- NAKs naming that packet (0-5; 04 R128). -/
  nakCount : Nat := 0
  /-- port B SEQ of the packet a replay in progress sends next (12; 04 R127). -/
  replayNext : Option (BitVec 12) := none
  /-- last CAP packet sent on port B (packet; 04 R139). -/
  capTx : Option TxPkt := none
  /-- downstream module's address (3; 15 Table 15.4). -/
  downAddr : BitVec 3 := 0
  /-- downstream module's HOP (0-7; 15 Table 15.4). -/
  downHop : Nat := 0
  /-- revision selected on port B (0, 0x20, 0x21, 0x30; 04 R139). -/
  rev : Nat := 0
deriving DecidableEq, Repr

/-- Clocks and time bases (05). (DESIGN CHOICE: assumption log 24.) -/
structure Clocks where
  /-- safety oscillator and SAFE PLL locked (1; 02 Table 2.19). -/
  safe : Bool := false
  /-- crystal PLLs locked (1; 02 Table 2.20). -/
  crystal : Bool := false
  /-- TB2 runs (1; 05 Table 5.1). -/
  gridOn : Bool := false
  /-- TB0 full time, units of 2^-32 ns (64 + 32 fraction bits; 05 R145). -/
  tb0 : Nat := 0
  /-- TB0 epoch (8; 05 R155). -/
  epoch : BitVec 8 := 0
  /-- TB1 full time, units of 2^-32 ns (64 + 32 fraction bits; 05 R145). -/
  tb1 : Nat := 0
  /-- TB2 full time, units of 2^-32 ns (64 + 32 fraction bits; 05 R145). -/
  tb2 : Nat := 0
  /-- TB3 full time (ns; 05 R146). -/
  tb3 : Nat := 0
  /-- frequency term f (+-200 ppm, units of 2^-32; 05 R152). -/
  f : Int := 0
  /-- slew term s (+-500 ppm, units of 2^-32; 05 R152). -/
  slew : Int := 0
  /-- offset still to be removed by the slew (units of 2^-32 ns; 05 R152). -/
  slewLeft : Int := 0
  /-- what the slew term has added to TB0 so far (units of 2^-32 ns; 05 R152). -/
  slewed : Int := 0
  /-- steering term g (+-0.1 %, units of 2^-32; 05 R156). -/
  g : Int := 0
deriving DecidableEq, Repr

/-- A SYNC awaiting its FOLLOW_UP. -/
structure SyncRx where
  /-- SEQID (16; 05 R150). -/
  seqid : BitVec 16 := 0
  /-- receive stamp, whose TB0 is t2 (record; 05 R150). -/
  rx : Stamp := {}
  /-- CORRECTION c_s (S32.16; 05 R150). -/
  cs : Int := 0
  /-- what the slew term had added to TB0 by then (units of 2^-32 ns; 05 R152). -/
  slewed : Int := 0
deriving DecidableEq, Repr

/-- An outstanding DELAY_REQ with its triggering pair. -/
structure DelayReq where
  /-- SEQID (16; 05 R150). -/
  seqid : BitVec 16 := 0
  /-- t1 of the triggering pair (ns; 05 R151). -/
  t1 : Int := 0
  /-- t2 of the triggering pair (ns; 05 R151). -/
  t2 : Int := 0
  /-- c_s of the triggering pair (S32.16; 05 R151). -/
  cs : Int := 0
  /-- transmit stamp, whose TB0 is t3 (record; 05 R150). -/
  tx : Stamp := {}
deriving DecidableEq, Repr

/-- Discipline of TB0, stamps (05). -/
structure Sync where
  /-- TB0 state (enum 4; 05 R154). -/
  state : TbState := .free
  /-- consecutive accepted samples below 250 ns (0-4; 05 R154). -/
  okRun : Nat := 0
  /-- candidate offset of a large sample (2^-16 ns; 05 R153). -/
  cand : Option Int := none
  /-- last accepted offset (2^-16 ns; 15 Table 15.4). -/
  offset : Int := 0
  /-- a sample has been accepted (1; 05 R152). -/
  haveOff : Bool := false
  /-- TB1 at the t2 of the last accepted sample (ns of TB1; 05 R152). -/
  offTb1 : Nat := 0
  /-- what was left of its offset after a step (2^-16 ns; 05 R152). -/
  resid : Int := 0
  /-- what the slew term had added to TB0 at that t2 (units of 2^-32 ns; 05 R152). -/
  offSlewed : Int := 0
  /-- master epoch of the last accepted FOLLOW_UP (8; 05 R153). -/
  masterEpoch : Option (BitVec 8) := none
  /-- unpaired SYNC (record; 05 R150). -/
  sync : Option SyncRx := none
  /-- outstanding DELAY_REQ (record; 05 R150). -/
  req : Option DelayReq := none
  /-- SEQID of the next DELAY_REQ (16; 05 R150). -/
  reqSeq : BitVec 16 := 0
  /-- paired FOLLOW_UPs since the last request fell due (count; 05 R151). -/
  paired : Nat := 0
  /-- no FOLLOW_UP paired yet since link-up (1; 05 R151). -/
  firstDue : Bool := true
  /-- a postponed DELAY_REQ (1; 05 R151). -/
  postponed : Bool := false
  /-- TB1 of the last DELAY_REQ (ns of TB1; 05 R151). -/
  lastReq : Option Nat := none
  /-- last accepted path delays, newest first (8 values of 2^-16 ns; 05 R151). -/
  delays : List Int := []
  /-- consecutive samples with f at its limit (0-10; 05 R152). -/
  freqRun : Nat := 0
  /-- TB2 frame-locked (1; 05 R157). -/
  locked : Bool := false
  /-- grid error e (ns; 05 R156). -/
  gridErr : Int := 0
  /-- TB1 of the previous stamped TSEVT edge (ns of TB1; 05 R161). -/
  tsLast : Option Nat := none
  /-- TSEVT overrun counter, saturating (16; 05 R161). -/
  tsOver : Nat := 0
  /-- TB0 steps (16; 15 Table 15.4). -/
  steps : Nat := 0
deriving DecidableEq, Repr

/-- Latch-point grid and frame (08). -/
structure Grid where
  /-- the grid runs (from BRING_UP) (1; 08 R216). -/
  started : Bool := false
  /-- timing mode in force (0-7; 08 R233). -/
  mode : Nat := 0
  /-- frame counter (16; 08 R216). -/
  frame : BitVec 16 := 0
  /-- grid instant of the next latch point (ns of TB0; 08 R215). -/
  nextG : Nat := 0
  /-- TB2 instant of the next latch point (ns of TB2; 08 R216). -/
  nextL : Nat := 0
  /-- TB2 instant of the last latch point (ns of TB2; 08 R219). -/
  lastL : Nat := 0
  /-- kind of the current frame (enum 4; 08 R218). -/
  kind : FrameKind := .idle
  /-- this frame's ALIGN has been sent to the tiles (1; 09 R251). -/
  timed : Bool := false
  /-- compressed steps in the current frame (1; 08 R219). -/
  compressed : Bool := false
  /-- the first latch point after the grid start has passed (1; 08 R235). -/
  firstDone : Bool := false
  /-- latch points since the last one that brought a change (count; 08 R235). -/
  quiet : Nat := 0
  /-- an idle run is in progress (1; 08 R235). -/
  idleRun : Bool := false
  /-- frames since the last frame with a scan window (count; 08 R236). -/
  sinceScan : Nat := 0
  /-- a keep-alive fell due in a transition frame (1; 08 R236). -/
  keepDue : Bool := false
  /-- the next latch point brings a change (WRITE into an active span, safety state, rescan input) (1; 08 R235). -/
  change : Bool := false
  /-- next scan step of the current window (0-128; 08 R219). -/
  step : Nat := 0
  /-- event 0x0305 raised in this frame (1; 06 R187). -/
  starvedSeen : Bool := false
  /-- buffer of the most recent full scan window (0-1; 06 R167). -/
  lastFull : Nat := 0
  /-- a full scan window has completed (1; 06 R167). -/
  haveFull : Bool := false
  /-- previous LAMPSYNC edge (ns of TB2; 08 R238). -/
  lampLast : Option Nat := none
  /-- a loss of LAMPSYNC has been reported and not regained (1; 08 R238). -/
  lampLost : Bool := false
  /-- follower steers to LAMPSYNC (1; 08 R238). -/
  onLamp : Bool := false
  /-- grid error measured at the last usable LAMPSYNC edge (2^-32 ns; 08 R238). -/
  lampErr : Int := 0
  /-- LAMPSYNC pulses driven as leader (count; 08 R237). -/
  lampPulse : Nat := 0
deriving DecidableEq, Repr

/-- Bytes [lo, hi) of a layer pool. -/
structure Span where
  /-- first byte (pool offset; 07 R197). -/
  lo : Nat := 0
  /-- end (pool offset; 07 R197). -/
  hi : Nat := 0
deriving DecidableEq, Repr

/-- Snoop run of a layer VC; a CVU context (10 R273). -/
structure Run where
  /-- run start (pool offset; 07 R196). -/
  start : Nat := 0
  /-- run length (bytes; 07 R196). -/
  len : Nat := 0
  /-- running CRC-32C register (32; 10 Table 10.5a). -/
  crc : BitVec 32 := 0xFFFFFFFF
  /-- run broken (1; 10 R272). -/
  broken : Bool := false
  /-- the stored context fails its parity (1; 01 Table 1.9). -/
  parBad : Bool := false
deriving DecidableEq, Repr

/-- One layer (R191). -/
structure Layer where
  /-- shadow descriptor (64 bytes; 07 R191). -/
  shadow : Desc := {}
  /-- active descriptor (64 bytes; 07 R191). -/
  active : Desc := {}
  /-- last applied descriptor with VISIBLE 1, kept for a fade-out (64 bytes; 07 R213). -/
  kept : Desc := {}
  /-- opacity fade; val is g (record; 07 R212). -/
  fade : Fade := {}
  /-- stale (1; 07 R210). -/
  stale : Bool := false
  /-- ready spans, oldest first (0-4; 07 R197). -/
  spans : List Span := []
  /-- spans added at the next latch strobe (list; 07 R197). -/
  waits : List Span := []
  /-- running snoop context (record; 07 R196). -/
  run : Option Run := none
  /-- checkpoint context (record; 10 R273). -/
  chk : Option Run := none
deriving DecidableEq, Repr

/-- A pending commit (R208). -/
structure Commit where
  /-- COMMIT_SEQ (16; 07 R208). -/
  seq : BitVec 16 := 0
  /-- LAYER_MASK (12; 07 R208). -/
  mask : BitVec 12 := 0
  /-- descriptor copies (list; 07 R208). -/
  copies : List (Nat × Desc) := []
  /-- AWAIT_POUR, not yet released (1; 08 R230). -/
  await : Bool := false
  /-- POUR_ID (8; 08 R230). -/
  pourId : BitVec 8 := 0
  /-- number of the POUR that released it, 0 while none has (count; 08 R231). -/
  group : Nat := 0
  /-- grid instant it is bound to (ns of TB0; 08 R227). -/
  due : Nat := 0
  /-- LATCH_TIME of the POUR that released it, as extended (ns of TB0; 05 R158). -/
  held : Int := 0
  /-- TB1 at acceptance (ns of TB1; 08 R230). -/
  at1 : Nat := 0
  /-- deferral count (count; 07 R209). -/
  defers : Nat := 0
deriving DecidableEq, Repr

/-- A request bound to a latch point (R227). -/
structure Bound where
  /-- grid instant it is bound to (ns of TB0; 08 R227). -/
  due : Nat := 0
  /-- what it changes (record; 08 R227). -/
  kind : BoundKind := .mode 0
deriving DecidableEq, Repr

/-- Composition state outside the layers (07, 09). -/
structure Comp where
  /-- profile A (8, 0xFF none; 07 R205). -/
  pA : Nat := 255
  /-- profile B (8, 0xFF none; 07 R205). -/
  pB : Nat := 255
  /-- weight of A (record; 07 R205). -/
  w : Fade := {}
  /-- pending commits, in order of acceptance (0-8; 07 R208). -/
  pending : List Commit := []
  /-- bound requests, in order of acceptance (list; 08 R227). -/
  bound : List Bound := []
  /-- POURs that have released commits (count; 08 R230). -/
  pours : Nat := 0
  /-- COMMIT_SEQ last applied (16; 15 Table 15.4). -/
  lastSeq : BitVec 16 := 0
  /-- master dimmer; val is m (record; 09 R258). -/
  master : Fade := {}
  /-- quadrants in which a profile holds a non-zero byte (per profile; 09 R262). -/
  nonzero : Sparse (BitVec 4) := []
deriving DecidableEq, Repr

/-- Output stage (09 R257). -/
structure Out where
  /-- LUT memory, entries other than the base curve (65536 x 12; 01 R39). -/
  lut : Sparse Nat := []
  /-- base curve: legacy table instead of R56's (1; 14 R377). -/
  lutLegacy : Bool := false
  /-- STRIPE_SCALE in force (unlisted 0x8000) (64 x 16; 09 R259). -/
  stripe : Sparse Nat := []
  /-- STRIPE_SCALE from the next latch point (64 x 16; 09 R259). -/
  stripeNext : Sparse Nat := []
  /-- the LUT memory lost its contents with PD3: number of the free values it holds (count; 01 R40). -/
  lutGone : Option Nat := none
  /-- a stripe scale changes at the next latch point (1; 09 R260). -/
  stripeDirty : Bool := false
  /-- suppressed rows of the current frame (rows; 10 R276). -/
  frameLines : List Nat := []
  /-- consecutive scan frames with a suppressed line (0-3; 10 R276). -/
  badRun : Nat := 0
  /-- suppression fault stands (1; 10 R276). -/
  standing : Bool := false
  /-- clean scan frames since (0-120; 10 R276). -/
  cleanRun : Nat := 0
  /-- SUPPRESSED_LINES (32; 15 Table 15.4). -/
  suppressed : Nat := 0
deriving DecidableEq, Repr

/-- A measured period of a tile (R288). -/
structure Meas where
  /-- ROW (0-127; 10 Table 10.6). -/
  row : Nat := 0
  /-- CMIN (12; 10 R286). -/
  cmin : Nat := 0
  /-- CGAP (12; 10 R286). -/
  cgap : Nat := 0
  /-- a latch of the row was written, or VLED_LOW held (1; 10 R288). -/
  dirty : Bool := false
deriving DecidableEq, Repr

/-- A held FILL_RECT (R268). -/
structure Rect where
  /-- first column (0-127; 09 Table 9.6). -/
  x0 : Nat := 0
  /-- last column (0-127; 09 Table 9.6). -/
  x1 : Nat := 0
  /-- first row (0-127; 09 Table 9.6). -/
  y0 : Nat := 0
  /-- last row (0-127; 09 Table 9.6). -/
  y1 : Nat := 0
  /-- code (12; 09 Table 9.6). -/
  code : BitVec 12 := 0
deriving DecidableEq, Repr

/-- One tile (09, 10). -/
structure Tile where
  /-- request Q of DRV_TILE, set by the MP (8; 09 Table 9.9). -/
  req : BitVec 8 := 160
  /-- CODE last received in CUR_SET (8; 09 Table 9.1). -/
  tgt : BitVec 8 := 160
  /-- SLEW in codes per ms (1-255; 09 Table 9.1). -/
  slew : Nat := 8
  /-- slew carried over (fraction of a code, 1/102400000; 09 R254). -/
  frac : Nat := 0
  /-- ceiling C from SET_CEIL; none reads the fused ceiling CF[t] (8; 09 Table 9.9). -/
  ceil : Option (BitVec 8) := none
  /-- override enabled (1; 09 Table 9.7). -/
  ovrEn : Bool := false
  /-- override O (8; 09 R254). -/
  ovr : BitVec 8 := 0
  /-- A takes the target at the next boundary without slew (1; 09 R254). -/
  ovrNew : Bool := false
  /-- applied code A (8; 09 Table 9.9). -/
  applied : BitVec 8 := 0
  /-- local count source (1; 09 Table 9.7). -/
  localSrc : Bool := false
  /-- PERIOD in force (U20.8; 09 Table 9.1). -/
  period : BitVec 28 := 0
  /-- PERIOD from PWM_SET, for the next ALIGN (U20.8; 09 Table 9.1). -/
  periodNew : Option (BitVec 28) := none
  /-- PHASE from PWM_SET; none reads t mod 64 (6; 09 Table 9.1). -/
  phase : Option (BitVec 6) := none
  /-- next period boundary as the last ALIGN names it (TILE cycles; 09 Table 9.1). -/
  align : Option Nat := none
  /-- exact start of the period in progress (TILE cycles, 8 fraction bits; 09 R246). -/
  start : Nat := 0
  /-- held FILL_RECTs, oldest first (0-8; 09 R268). -/
  held : List Rect := []
  /-- rows that a row segment has written after the fill engine in the sweep in progress (128; 09 R245). -/
  wrote : BitVec 128 := 0
  /-- segments ignored (count; 08 R223). -/
  ignored : Nat := 0
  /-- open threshold (10; 10 Table 10.6). -/
  openMv : Nat := 150
  /-- short threshold (12; 10 Table 10.6). -/
  shortMv : Nat := 1800
  /-- row to measure in the next period (record; 10 R288). -/
  measNext : Option Meas := none
  /-- measured period in progress (record; 10 R288). -/
  meas : Option Meas := none
  /-- tamp permissions (128; 10 R289). -/
  tamp : BitVec 128 := 0
  /-- failing columns, open (128; 10 R287). -/
  resOpen : BitVec 128 := 0
  /-- failing columns, short (128; 10 R287). -/
  resShort : BitVec 128 := 0
  /-- failing columns, stuck-on (128; 10 R287). -/
  resStuck : BitVec 128 := 0
  /-- odd-parity columns of the latest scan (128; 10 R280). -/
  resParity : BitVec 128 := 0
  /-- columns checked for open and short in the latest measured period (128; 10 R288). -/
  resLit : BitVec 128 := 0
  /-- columns checked for stuck-on in the latest measured period (128; 10 R288). -/
  resDark : BitVec 128 := 0
  /-- row of the latest measured period (0-127; 10 R287). -/
  resRow : Nat := 0
  /-- scheduled SWITCH_GAP offset (TILE cycles; 10 R291). -/
  gap : Option Nat := none
  /-- last switch gap test passed (1; 10 Table 10.7). -/
  gapPass : Bool := false
  /-- test load used (1; 10 Table 10.7). -/
  gapLoad : Bool := false
  /-- COLLAPSE (8; 10 Table 10.7). -/
  gapTime : Nat := 0
  /-- consecutive failing gap tests (0-2; 10 R291). -/
  gapFails : Nat := 0
  /-- ROW of a MEAS earlier in the segment (0-127; 10 Table 10.6). -/
  segRow : Option Nat := none
  /-- next row of the diagnosis sweep (0-127; 10 R290). -/
  sweepRow : Nat := 0
  /-- event 0x070A raised in this sweep (1; 10 R290). -/
  overdue : Bool := false
  /-- request above the fused ceiling already seen (1; 09 Table 9.12). -/
  ceilSeen : Bool := false
  /-- latest control word of each kind the engine has sent and the tile has not received, key 4·OP + quarter (per kind; 09 R250). -/
  ctl : Sparse (BitVec 96) := []
  /-- header of the control segment that carries each of them, same key (per kind; 08 Table 8.3). -/
  ctlHead : Sparse (BitVec 32) := []
  /-- row segment last released to it: header and payload words (record; 08 R222). -/
  rowOut : Option (BitVec 32 × List (BitVec 96)) := none
  /-- readback word last sent (48; 08 R225). -/
  rbWord : BitVec 48 := 0
deriving DecidableEq, Repr

/-- One quadrant (09 R262-R266). -/
structure Quad where
  /-- OFF_REQ (1; 09 Table 9.10). -/
  offReq : Bool := false
  /-- switch-off granted, waiting for a period boundary (1; 09 R264). -/
  granted : Bool := false
  /-- domain switch closed (1; 02 Table 2.19). -/
  powered : Bool := false
  /-- ready: the wake is complete (1; 09 R265). -/
  ready : Bool := false
  /-- ON, as DRV_QPWR reads it: 1 by default, powered and ready from BRING_UP's power-up on (1; 09 Table 9.10). -/
  on : Bool := true
  /-- power-force line (1; 09 Table 9.10). -/
  forced : Bool := false
  /-- may-be-lit (1; 09 R262). -/
  lit : Bool := false
  /-- TB1 at which the dark timer last restarted (ns of TB1; 09 R263). -/
  darkFrom : Nat := 0
  /-- a wake is in progress (1; 09 R265). -/
  waking : Bool := false
  /-- ready since the last latch point: completion needs a rescan (1; 09 R260). -/
  fresh : Bool := false
  /-- held row segments (tile, row) in step order (list; 09 R266). -/
  heldSegs : List (Nat × Nat) := []
  /-- answers on the status line to the latest command, in order (list; 09 R268). -/
  answers : List (BitVec 16) := []
deriving DecidableEq, Repr

/-- Drive registers and VLED monitor (09 R269, R256, 16 R420). -/
structure Drive where
  /-- QDARK_MS (16; 09 Table 9.11). -/
  qdarkMs : Nat := 500
  /-- QLOCK (1; 09 Table 9.11). -/
  qlock : Bool := false
  /-- CL (8; 09 Table 9.11). -/
  cl : Nat := 255
  /-- module limiter ACTIVE (1; 09 Table 9.11). -/
  limActive : Bool := false
  /-- I_LIM (16; 09 Table 9.11). -/
  iLim : Nat := 12000
  /-- PWM_DIV in force (1-32; 09 R249). -/
  pwmDiv : Nat := 8
  /-- module heat band whose PWM row is in force (0-4; 09 R249). -/
  pwmBand : Nat := 1
  /-- module heat band at the last latch point, whose row is next in force (0-4; 09 R249). -/
  bandNext : Nat := 1
  /-- 1 ms mean voltage (mV; 15 Table 15.4). -/
  vledMv : Nat := 0
  /-- 1 ms mean current (mA; 15 Table 15.4). -/
  vledMa : Nat := 0
  /-- quadrant branch currents (4 x mA; 15 Table 15.4). -/
  branchMa : Sparse Nat := []
  /-- VLED present (1; 16 R420). -/
  present : Bool := false
  /-- VLED_LOW (1; 16 R420). -/
  low : Bool := false
  /-- overcurrent latched until the next start (1; 11 R327). -/
  overcurrent : Bool := false
deriving DecidableEq, Repr

/-- Diagnosis engine (10). -/
structure Diag where
  /-- SWEEP_MS (11; 10 Table 10.9). -/
  sweepMs : Nat := 1000
  /-- GAP_MS (8; 10 Table 10.9). -/
  gapMs : Nat := 250
  /-- consecutive failing measurements, key 8p + cause (pixel and cause; 10 R293). -/
  fails : Sparse Nat := []
  /-- consecutive passing measurements of a mapped pixel (pixel and cause; 10 R293). -/
  passes : Sparse Nat := []
  /-- cause that entered each mapped pixel (per mapped pixel; 10 R293). -/
  cause : Sparse Nat := []
  /-- fault list: pixels whose cause is recorded (0-16384; 10 R293). -/
  list : List Nat := []
  /-- event 0x070B raised (1; 10 R293). -/
  listFull : Bool := false
  /-- REPORT_SEQ (16; 10 Table 10.10). -/
  reportSeq : BitVec 16 := 0
  /-- entries and departures not yet reported (list; 10 R294). -/
  delta : List (Nat × Nat × Bool) := []
  /-- a full report is due (1; 10 R294). -/
  fullDue : Bool := false
  /-- entries lost because TQ4 was full (1; 10 Table 10.10). -/
  lost : Bool := false
  /-- SWEEPS (32; 15 Table 15.4). -/
  sweeps : Nat := 0
  /-- fault map changed since its last save (1; 15 R412). -/
  mapDirty : Bool := false
  /-- tiles whose gap test is pending (tiles; 10 R291). -/
  gapOrder : List Nat := []
deriving DecidableEq, Repr

/-- Record of a released row segment (R277). -/
structure SegRec where
  /-- tile (0-63; 10 R277). -/
  tile : Nat := 0
  /-- ROW (0-127; 10 R277). -/
  row : Nat := 0
  /-- FRAME8 (8; 10 R277). -/
  frame8 : BitVec 8 := 0
  /-- KEEPALIVE (1; 10 R277). -/
  keep : Bool := false
  /-- LINE_CRC (16; 10 R277). -/
  crc : BitVec 16 := 0
deriving DecidableEq, Repr

/-- Entry of a READBACK packet (Table 10.11). -/
structure Mismatch where
  /-- TILE (0-63; 10 Table 10.11). -/
  tile : Nat := 0
  /-- ROW (0-127; 10 Table 10.11). -/
  row : Nat := 0
  /-- FAULT (1; 10 Table 10.11). -/
  fault : Bool := false
  /-- REASON (0-3; 10 Table 10.11). -/
  reason : Nat := 0
  /-- SIG (16; 10 Table 10.11). -/
  sig : BitVec 16 := 0
deriving DecidableEq, Repr

/-- SP readback compare (10 R277-R281, R295). -/
structure Readback where
  /-- records awaiting readback, oldest first (list; 10 R277). -/
  expect : List SegRec := []
  /-- miss bits, key 128t + r (8192; 10 R278). -/
  miss : Sparse Bool := []
  /-- fault bits (8192; 10 R278). -/
  fault : Sparse Bool := []
  /-- good_run (8192; 10 R278). -/
  goodRun : Sparse Nat := []
  /-- re-reads due, key 128t + r, with the frame of the mismatch (segments; 10 R279). -/
  reread : List (Nat × BitVec 16) := []
  /-- parity scans due after the re-read (segments; 10 R280). -/
  scanDue : List Nat := []
  /-- LINE_CRCs reported in the current window, by segment 128t + r (segments; 10 R281). -/
  reported : List (Nat × BitVec 16) := []
  /-- next segment of the rotation (0-8191; 10 R281). -/
  rot : Nat := 0
  /-- CRC generator fault (1; 10 R281). -/
  crcGen : Bool := false
  /-- SIGs of the frame's good readbacks, key 64r + t (list; 10 R295). -/
  sigs : List (Nat × BitVec 16) := []
  /-- mismatches of the frame (list; 10 R295). -/
  bad : List Mismatch := []
  /-- readbacks judged in the frame (16; 10 R295). -/
  checked : Nat := 0
  /-- frame they belong to (16; 10 R295). -/
  frame : BitVec 16 := 0
  /-- the frame before this one was a keep-alive frame (1; 10 Table 10.11). -/
  prevKeep : Bool := false
  /-- suppressed lines of the frame before this one (16; 10 Table 10.11). -/
  prevLines : Nat := 0
  /-- READBACK_MISMATCHES (32; 15 Table 15.4). -/
  mismatches : Nat := 0
deriving DecidableEq, Repr

/-- CVU context registers (R284). -/
structure Cvu where
  /-- VALUE (32; 10 Table 10.5a). -/
  value : BitVec 32 := 0xFFFFFFFF
  /-- PAR_ERR (1; 10 Table 10.5a). -/
  parErr : Bool := false
  /-- ALG (Table 10.4) (3; 10 Table 10.5a). -/
  alg : Nat := 0
deriving DecidableEq, Repr

/-- One zone of a clamp set (R300). -/
structure ZoneC where
  /-- USED (1; 11 R300). -/
  used : Bool := false
  /-- ZX0 (11; 11 R300). -/
  x0 : Nat := 0
  /-- ZX1 (11; 11 R300). -/
  x1 : Nat := 0
  /-- ZY0 (9; 11 R300). -/
  y0 : Nat := 0
  /-- ZY1 (9; 11 R300). -/
  y1 : Nat := 0
  /-- ZLIM (12; 11 R300). -/
  lim : Nat := 0
deriving DecidableEq, Repr

/-- A clamp set (R300). -/
structure ClampSet where
  /-- CUT_ROW (unlisted 256, the ROM and factory CUT_DEF) (32 x 10; 11 R300). -/
  rows : Sparse Nat := []
  /-- ABOVE_CUT_CODE (12; 11 R329). -/
  above : Nat := 160
  /-- zones by ZONE_ID (32; 11 R300). -/
  zones : Sparse ZoneC := []
  /-- CAP (12; 11 R309). -/
  cap : Nat := 4095
deriving DecidableEq, Repr

/-- Limiter quantities of one zone (R309), effective values with 8 fraction bits. -/
structure ZoneL where
  /-- in use (1; 11 R309). -/
  used : Bool := false
  /-- being removed (1; 11 R310). -/
  removing : Bool := false
  /-- effective X0 (S.8; 11 R309). -/
  ex0 : Int := 0
  /-- effective X1 (S.8; 11 R309). -/
  ex1 : Int := 0
  /-- effective Y0 (S.8; 11 R309). -/
  ey0 : Int := 0
  /-- effective Y1 (S.8; 11 R309). -/
  ey1 : Int := 0
  /-- effective LIMIT (S.8; 11 R309). -/
  elim : Int := 0
  /-- target X0 (int; 11 R309). -/
  tx0 : Int := 0
  /-- target X1 (int; 11 R309). -/
  tx1 : Int := 0
  /-- target Y0 (int; 11 R309). -/
  ty0 : Int := 0
  /-- target Y1 (int; 11 R309). -/
  ty1 : Int := 0
  /-- target LIMIT (int; 11 R309). -/
  tlim : Int := 0
deriving DecidableEq, Repr

/-- Rate limiter of one channel (R309-R311). -/
structure Limiter where
  /-- zones by ZONE_ID (32; 11 R309). -/
  zones : Sparse ZoneL := []
  /-- effective cutoff rows (unlisted 256 << 8) (32 x S.8; 11 R309). -/
  rows : Sparse Int := []
  /-- bounded requested rows (unlisted 256) (32; 11 R307). -/
  want : Sparse Int := []
  /-- effective margin W (S.8; 11 R309). -/
  w : Int := 0
  /-- effective CAP, 4095 << 8 (S.8; 11 R309). -/
  cap : Int := 1048320
deriving DecidableEq, Repr

/-- An open stall deadline (R312). -/
structure Stall where
  /-- frame k (16; 11 R312). -/
  frame : BitVec 16 := 0
  /-- tightened rectangles (x0, x1, y0, y1) (list; 11 R312). -/
  rects : List (Nat × Nat × Nat × Nat) := []
  /-- the swap lowered CAP (1; 11 R313). -/
  capped : Bool := false
  /-- tiles under fill at L(k) (64; 11 R312). -/
  heldAt : BitVec 64 := 0
  /-- segments with a good readback since, key 128t + r (segments; 11 R312). -/
  good : List Nat := []
deriving DecidableEq, Repr

/-- Zone lists and clamp sets (11). -/
structure Zones where
  /-- candidate list (record; 11 R303). -/
  cand : Option ZoneList := none
  /-- the Rind's limiter (record; 11 R309). -/
  lim : Limiter := {}
  /-- the SP's limiter (record; 11 R306). -/
  spLim : Limiter := {}
  /-- working copy (last complete write) (record; 01 R29). -/
  work : ClampSet := {}
  /-- pending set (record; 01 R29). -/
  pending : Option ClampSet := none
  /-- active set (record; 01 R29). -/
  active : ClampSet := {}
  /-- consecutive ticks with a difference (0-10; 11 R306). -/
  diffRun : Nat := 0
  /-- consecutive ticks without (0-1000; 11 R306). -/
  sameRun : Nat := 0
  /-- LAST_LIST_SEQ (16; 15 Table 15.4). -/
  lastSeq : BitVec 16 := 0
  /-- open stall deadline (record; 11 R312). -/
  stall : Option Stall := none
  /-- stall blankings within the last second (ns of TB3; 11 R313). -/
  stalls : List Nat := []
  /-- quadrants whose power-force a stall blanking holds (4; 01 R37). -/
  blankQuads : BitVec 4 := 0
deriving DecidableEq, Repr

/-- Safety states and light removal (11). -/
structure Safety where
  /-- effective safety state (enum 4; 02 R72). -/
  state : SafeState := .dark
  /-- off latch (1; 11 R314). -/
  offLatch : Bool := false
  /-- the first NORMAL of this start has been reached (1; 02 R72). -/
  firstNormal : Bool := false
  /-- LBREQ after the filter (open input: inactive) (1; 11 R321). -/
  lbreq : Bool := false
  /-- RIND_CAUSES, bit per row of Table 11.6 (19; 11 Table 11.6). -/
  rindCauses : BitVec 19 := 0
  /-- SP_CAUSES (19; 11 Table 11.6). -/
  spCauses : BitVec 19 := 0
  /-- own request last sent by the Rind: 0 NORMAL, 1 DEGRADED, 2 off class (0-2; 11 R315). -/
  rindSent : Nat := 0
  /-- own request last sent by the SP (0-2; 11 R315). -/
  spSent : Nat := 0
  /-- words from the Rind missing in a row (0-3; 11 R315). -/
  rindMiss : Nat := 0
  /-- words from the SP missing in a row (0-3; 11 R315). -/
  spMiss : Nat := 0
  /-- DEG_ELAPSED_MS (ms; 11 R317). -/
  degMs : Nat := 0
  /-- ms the Rind's own request has been NORMAL (ms; 11 R322). -/
  rindOkMs : Nat := 0
  /-- ms the SP's own request has been NORMAL (ms; 11 R322). -/
  spOkMs : Nat := 0
  /-- accepted recoveries of the last 600 s (ns of TB3; 11 R322). -/
  recover : List Nat := []
  /-- RECOVERIES (32; 15 Table 15.4). -/
  recoveries : Nat := 0
  /-- CHANNEL_DISAGREE present (1; 11 R315). -/
  disagree : Bool := false
  /-- vote difference found by the SP (1; 11 R315). -/
  voteBad : Bool := false
  /-- safety oscillator fault (1; 11 Table 11.1). -/
  oscFault : Bool := false
  /-- safety oscillator stopped (1; 11 R299). -/
  oscStopped : Bool := false
  /-- bit 0 FAB, bit 1 TILE clock fault (2; 01 R30). -/
  clockFault : BitVec 2 := 0
  /-- tiles under fill (64; 11 R319). -/
  held : BitVec 64 := 0
  /-- what the Rind paints (enum 3; 11 R319). -/
  paint : Paint := .none
  /-- a handover is prepared for the next latch point (1; 11 R320). -/
  handover : Bool := false
  /-- causes of a tile cut, bit per row (64 x 5; 11 Table 11.7). -/
  cuts : Sparse (BitVec 5) := []
  /-- stuck-on pixels held by the Rind (0-64; 11 R325). -/
  stuckOn : List Nat := []
  /-- switch faults (64; 10 R291). -/
  switchFault : BitVec 64 := 0
  /-- switches stuck closed (64; 11 R327). -/
  switchClosed : BitVec 64 := 0
  /-- the Rind uses the ROM parameters (1; 11 R329). -/
  romParams : Bool := true
  /-- SAFETY_CRC mismatch found (1; 02 R50). -/
  crcBad : Bool := false
  /-- the Rind's SAFETY copy (record; 02 R50). -/
  copy : Option SafetyP := none
  /-- quadrant commands sent and not yet answered, oldest first (list; 11 R328). -/
  cmds : List QuadCmd := []
  /-- VLED_INH asserted for a switch stuck closed (1; 11 R327). -/
  inhSwitch : Bool := false
  /-- FAULT_N for stuck reset, released at READY (1; 02 R74). -/
  stuckReset : Bool := false
deriving DecidableEq, Repr

/-- Tile sensor (12 R337-R340). -/
structure TSensor where
  /-- last reading (S12.4; 12 R335). -/
  raw : Int := 0
  /-- trust state (enum 4; 12 Table 12.2). -/
  state : Trust := .unavailable
  /-- state before the quadrant was switched off (enum 4; 12 Table 12.2). -/
  before : Trust := .trusted
  /-- learned offset (units of 2^-32 degC; 12 R337). -/
  off : Int := 0
  /-- above (ms; 12 R337). -/
  above : Nat := 0
  /-- below (ms; 12 R337). -/
  below : Nat := 0
  /-- consecutive samples out of range (0-3; 12 R338). -/
  oor : Nat := 0
  /-- samples in range since the quadrant is ready (0-3; 12 Table 12.2). -/
  inr : Nat := 0
  /-- neighbours' estimate (units of 2^-32 degC; 12 R337). -/
  nbest : Int := 0
  /-- tile heat band (0-4; 09 Table 9.9). -/
  band : Nat := 1
deriving DecidableEq, Repr

/-- Quadrant precision sensor (R339). -/
structure QSensor where
  /-- last reading (S12.4; 12 R335). -/
  raw : Int := 0
  /-- FAILED (1; 12 R339). -/
  failed : Bool := false
  /-- consecutive samples out of range (0-3; 12 R339). -/
  oor : Nat := 0
  /-- c_q (S12.4; 12 R339). -/
  cm : Int := 0
  /-- common-mode correction set (1; 12 R339). -/
  cmSet : Bool := false
  /-- time above DEV (ms; 12 R339). -/
  aboveMs : Nat := 0
  /-- time below DEV/2 (ms; 12 R339). -/
  belowMs : Nat := 0
  /-- time more than 10 degC below the NTC (ms; 12 R339). -/
  coldMs : Nat := 0
deriving DecidableEq, Repr

/-- Thermal unit (12), not reset by NRESET. -/
structure Thermal where
  /-- tile sensors (64; 12 R337). -/
  tiles : Sparse TSensor := []
  /-- quadrant sensors (4; 12 R339). -/
  quads : Sparse QSensor := []
  /-- controller-die sensor (S12.4; 12 R335). -/
  die : Int := 0
  /-- NTC (S12.4; 12 R336). -/
  ntc : Int := 0
  /-- NTC FAILED (1; 12 R339). -/
  ntcFailed : Bool := false
  /-- consecutive samples out of range (0-3; 12 R339). -/
  ntcOor : Nat := 0
  /-- module heat band (0-4; 12 R340). -/
  band : Nat := 1
deriving DecidableEq, Repr

/-- Hard cut and policy shutdown of one tile (R345-R347). -/
structure Heat where
  /-- hard cut latched until the next start (1; 12 R347). -/
  cutLatch : Bool := false
  /-- hard cuts of the last 600 s (ns of TB3; 12 R347). -/
  cutTimes : List Nat := []
  /-- junction estimate (units of 2^-32 degC; 12 R341). -/
  tj : Int := 0
  /-- derating factor (units of 2^-64; 12 R342). -/
  ft : Nat := 18446744073709551616
  /-- policy shutdown (1; 12 R345). -/
  shut : Bool := false
  /-- shutdown latched until the next start (1; 12 R346). -/
  shutLatch : Bool := false
  /-- shutdowns within the window (ns of TB1; 12 R346). -/
  shutTimes : List Nat := []
  /-- B_t (units of 2^-64; 12 R357). -/
  boost : Nat := 0
  /-- event 0x0A06 raised this start (1; 12 R358). -/
  eolSeen : Bool := false
deriving DecidableEq, Repr

/-- A hard cut in force (R347). -/
structure HCut where
  /-- the cut holds (1; 12 R347). -/
  cut : Bool := false
  /-- the sources that decided it (tile 0-63, 64 + q quadrant; 12 R347). -/
  srcs : List Nat := []
deriving DecidableEq, Repr

/-- MP policy state (12). -/
structure Policy where
  /-- per tile (64; 12 R345). -/
  tiles : Sparse Heat := []
  /-- hard cuts in force, by target (tiles 0-63, 64 + q quadrants; 12 R347). -/
  cuts : Sparse HCut := []
  /-- power factor (units of 2^-64; 12 R343). -/
  fp : Nat := 18446744073709551616
deriving DecidableEq, Repr

/-- Affinage (12 R350-R360). -/
structure Affin where
  /-- AFF_W (64 x 25; 12 Table 12.4). -/
  weights : Sparse Nat := []
  /-- latch point of the previous scan window (ns of TB2; 12 R351). -/
  prevL : Option Nat := none
  /-- remainder carried (ns below 1024; 12 R351). -/
  rem : Nat := 0
  /-- D of the current window (21; 12 R351). -/
  units : Nat := 0
  /-- 48-bit sequence (48; 12 R351). -/
  lfsr : BitVec 48 := 1
  /-- a counter has saturated this start (1; 12 R350). -/
  saturated : Bool := false
  /-- OPERATING_S (32; 12 R355). -/
  opS : Nat := 0
  /-- ZERO_START (1; 12 R355). -/
  zeroStart : Bool := false
  /-- SAVE_SEQ (32; 15 Table 15.4). -/
  saveSeq : BitVec 32 := 0
  /-- SAVE_SLOT (0-15; 15 Table 15.4). -/
  saveSlot : Nat := 0
  /-- a refused save is repeated (1; 12 R354). -/
  deferred : Bool := false
  /-- some tile's headroom is exhausted (1; 12 R358). -/
  eol : Bool := false
  /-- regions whose event 0x0A08 was raised (6; 12 R359). -/
  wearSeen : BitVec 6 := 0
  /-- REPORT_SEQ (16; 12 Table 12.7). -/
  reportSeq : BitVec 16 := 0
  /-- MODULE_REMAIN_H (32; 12 R356). -/
  remainH : Nat := 4294967295
  /-- MIN_BLOCK (16; 12 R356). -/
  minBlock : Nat := 0
  /-- MODULE_HEADROOM (S8.8; 12 R356). -/
  headroom : Int := 0
deriving DecidableEq, Repr

/-- Module flash (02 Table 2.1, 13). (DESIGN CHOICE: assumption log 3.) -/
structure Flash where
  /-- slot A (record; 02 R41). -/
  slotA : Slot := { factory := true }
  /-- slot B (record; 02 R41). -/
  slotB : Slot := {}
  /-- record regions, by flash address (unlisted 0xFF) (8 MiB; 02 R41). -/
  recs : Sparse (BitVec 8) := []
  /-- erase count per sector (8192; 12 R359). -/
  erases : Sparse Nat := []
  /-- command in progress (record; 13 R368). -/
  cur : Option FlashJob := none
  /-- waiting commands (list; 13 R368). -/
  wait : List FlashJob := []
  /-- FLASH_RETRIES (32; 15 Table 15.4). -/
  retries : Nat := 0
deriving DecidableEq, Repr

/-- NVM budgets (13 R369, R370). -/
structure Nvm where
  /-- PROG_LEVEL (23; 13 Table 13.4). -/
  prog : Nat := 1048576
  /-- ERASE_LEVEL (9; 13 Table 13.4). -/
  erase : Nat := 256
  /-- refill fraction of the program level (ns x bytes; 13 R369). -/
  progFrac : Nat := 0
  /-- refill fraction of the erase level (ns x sectors; 13 R369). -/
  eraseFrac : Nat := 0
  /-- TB1 of the last refill (ns of TB1; 13 R369). -/
  refillAt : Nat := 0
  /-- REFUSED (16; 13 Table 13.4). -/
  refused : Nat := 0
  /-- reservation left (23; 13 R370). -/
  reserve : Nat := 0
  /-- RESERVE_OK (1; 13 Table 13.4). -/
  reserveOk : Bool := false
  /-- reserved path's program level (bytes; 13 R369). -/
  spProg : Nat := 262144
  /-- reserved path's erase level (sectors; 13 R369). -/
  spErase : Nat := 64
  /-- refill fraction of the reserved program level (ns x bytes; 13 R369). -/
  spProgFrac : Nat := 0
  /-- refill fraction of the reserved erase level (ns x sectors; 13 R369). -/
  spEraseFrac : Nat := 0
deriving DecidableEq, Repr

/-- MP and its supervision (13). -/
structure Mp where
  /-- the MP is ready (1; 13 R366). -/
  ready : Bool := false
  /-- slot whose CODE stands in MP SRAM from address 0 on (1 MiB; 02 R61). -/
  code : Option SlotId := none
  /-- address at which the MP was last started; none runs the ROM service monitor (20; 02 R61, R68). -/
  entry : Option Nat := none
  /-- PD10 held off until the next start (1; 13 R365). -/
  heldOff : Bool := false
  /-- last watchdog service (ns of TB1; 13 R364). -/
  lastServ : Nat := 0
  /-- bites of the last 600 s (ns of TB1; 13 R365). -/
  bites : List Nat := []
  /-- MP_RESTARTS (32; 15 Table 15.4). -/
  restarts : Nat := 0
deriving DecidableEq, Repr

/-- SP supervision (13). -/
structure Sp where
  /-- the SP runs (1; 02 Table 2.20). -/
  running : Bool := false
  /-- the SP is kept in reset until the next start (1; 13 R367). -/
  heldOff : Bool := false
  /-- next value of the watchdog sequence (8; 13 R364). -/
  wdSeq : BitVec 8 := 0
  /-- last watchdog service (ns of TB3; 13 R364). -/
  lastServ : Nat := 0
  /-- bites of the last 600 s (ns of TB3; 13 R367). -/
  bites : List Nat := []
  /-- heartbeat value last read (count; 13 R367). -/
  beat : Nat := 0
  /-- consecutive reads without advance (0-3; 13 R367). -/
  stalled : Nat := 0
  /-- Rind heartbeat stalled (1; 13 R367). -/
  beatFault : Bool := false
  /-- the millisecond's vote, word and compare are complete (1; 13 R364). -/
  wordDone : Bool := false
deriving DecidableEq, Repr

/-- Service session (13 R371-R375). -/
structure Service where
  /-- session state (enum 4; 13 R372). -/
  state : SvcState := .locked
  /-- SESSION_PATH (0 none, 1 VC4, 2 UART; 13 R371). -/
  path : Nat := 0
  /-- valid NONCE (128; 13 R373). -/
  nonce : Option (BitVec 128) := none
  /-- consecutive failures (read back from the safety records) (count; 13 R372). -/
  fails : Nat := 0
  /-- a lockout was started and not ended (safety records) (1; 13 R372). -/
  lockRec : Bool := false
  /-- UART frame being received (bytes; 13 R371). -/
  uartRx : List (BitVec 8) := []
  /-- UART reply frames sent, newest last (bytes from 0x7E to the CRC; 13 R371). -/
  uartTx : List (List (BitVec 8)) := []
  /-- active perturbation controls (list; 13 R374). -/
  perturb : List Perturb := []
deriving DecidableEq, Repr

/-- Row buffers of one legacy row (14 R382). -/
structure LegRow where
  /-- shown copy (0-3; 14 R377). -/
  shown : Nat := 0
  /-- committed copy, slot 0 (0-3, 4 NONE; 14 R382). -/
  cmt0 : Nat := 4
  /-- committed copy, slot 1 (0-3, 4 NONE; 14 R382). -/
  cmt1 : Nat := 4
  /-- working copy (0-3, 4 NONE; 14 R382). -/
  work : Nat := 4
deriving DecidableEq, Repr

/-- Legacy personality (14). -/
structure Legacy where
  /-- RW registers that differ from their reset values (held as value xor reset) (128 x 8; 14 Table 14.3). -/
  regs : Sparse (BitVec 8) := []
  /-- RC bits of STATUS (8; 14 Table 14.4). -/
  status : BitVec 8 := 0
  /-- TEMP (8; 14 R393). -/
  temp : BitVec 8 := 0
  /-- TEMP_EXT (8; 14 R393). -/
  tempExt : BitVec 8 := 0
  /-- SHOW_CNT (8; 14 Table 14.3). -/
  showCnt : BitVec 8 := 0
  /-- LINK_ERR_CNT (8; 14 Table 14.3). -/
  errCnt : Nat := 0
  /-- latched high bytes, by the address of the low byte (3 x 8; 14 R389). -/
  hi : Sparse (BitVec 8) := []
  /-- snapshot of the fault list (blocks; 14 R392). -/
  snap : List Nat := []
  /-- row bookkeeping (128; 14 R382). -/
  rows : Sparse LegRow := []
  /-- latch point SHOW slot 0 is bound to (ns of TB0; 14 R383). -/
  slot0 : Option Nat := none
  /-- latch point SHOW slot 1 is bound to (ns of TB0; 14 R383). -/
  slot1 : Option Nat := none
  /-- SEQ of the SHOW of slot 0 (8; 14 R383). -/
  seq0 : BitVec 8 := 0
  /-- SEQ of the SHOW of slot 1 (8; 14 R383). -/
  seq1 : BitVec 8 := 0
  /-- block table (65536 x 4; 14 R386). -/
  nfail : Sparse Nat := []
  /-- last accepted SEQ since link-up (8; 14 R381). -/
  lastSeq : Option (BitVec 8) := none
  /-- stored reply (record; 14 R381). -/
  lastReply : Option T512Reply := none
  /-- consecutive failing frames (0-5; 14 R381). -/
  badRun : Nat := 0
  /-- replies sent, newest last (list; 14 R380). -/
  replies : List T512Reply := []
  /-- pending light effects (due, register, value) (list; 14 R384). -/
  light : List (Nat × Nat × BitVec 8) := []
  /-- HS sets received in the handshake (count; 14 R378). -/
  hsRx : Nat := 0
  /-- GLOBAL_DIM in force on the light (8; 14 R384). -/
  dim : BitVec 8 := 255
  /-- CTRL.ENABLE in force on the light (1; 14 R384). -/
  enable : Bool := false
  /-- CH_CUR in force on the light (held as value xor 0xA0) (64 x 8; 14 R384). -/
  cur : Sparse (BitVec 8) := []
deriving DecidableEq, Repr

/-- An event record (15 Table 15.5). -/
structure Event where
  /-- CODE (16; 15 R403). -/
  code : BitVec 16 := 0
  /-- SEVERITY (0-2; 15 R403). -/
  sev : Nat := 0
  /-- SOURCE is the SP (1; 15 R403). -/
  sp : Bool := false
  /-- TB0_NS (32; 15 R403). -/
  tb0 : BitVec 32 := 0
  /-- EPOCH (8; 15 R403). -/
  epoch : BitVec 8 := 0
  /-- TB1_NS (32; 15 R403). -/
  tb1 : BitVec 32 := 0
  /-- FRAME (16; 15 R403). -/
  frame : BitVec 16 := 0
  /-- SEQ (16; 15 R403). -/
  seq : BitVec 16 := 0
  /-- fields (size in bytes, value) (list; 15 R404). -/
  data : List (Nat × Nat) := []
  /-- number of the formed EVENT packet that holds it, 0 none (count; 15 R408). -/
  pkt : Nat := 0
deriving DecidableEq, Repr

/-- An open at-most-once-per-second window (R405). -/
structure Window where
  /-- event code (16; 15 R405). -/
  code : BitVec 16 := 0
  /-- key its rule names (key; 15 R405). -/
  key : Nat := 0
  /-- occurrences counted since (count; 15 R405). -/
  count : Nat := 0
  /-- data of the latest occurrence, without the count (list; 15 R405). -/
  data : List (Nat × Nat) := []
deriving DecidableEq, Repr

/-- Event allocator, ring and flags (15). -/
structure Events where
  /-- EVENT_SEQ (16; 15 R403). -/
  next : BitVec 16 := 0
  /-- records in TQ1, oldest first (16 KiB; 15 R408). -/
  ring : List Event := []
  /-- AON event buffer while the MP is not ready (128; 13 R366). -/
  aon : List Event := []
  /-- EVENTS_LOST (32; 15 R408). -/
  lost : Nat := 0
  /-- EVENT packets formed so far (count; 15 R406). -/
  formed : Nat := 0
  /-- LOST of the next packet (16; 15 R408). -/
  lostNext : Nat := 0
  /-- open one-second windows (list; 15 R405). -/
  windows : List Window := []
  /-- FLAGS (11; 15 Table 15.3). -/
  flags : BitVec 11 := 0
  /-- FLAG_COUNT (11 x 16; 15 R402). -/
  counts : Sparse Nat := []
deriving DecidableEq, Repr

/-- What a transfer returned to its requester. -/
structure Answer where
  /-- requester (0-10; 06 R165). -/
  who : Nat := 0
  /-- words read (words; 06 R165). -/
  words : List (BitVec 256) := []
  /-- a word is marked POISON (1; 06 R169). -/
  poison : Bool := false
  /-- refused: words marked ACCESS (1; 06 R168). -/
  access : Bool := false
  /-- discarded by a release of its lock (1; 06 R183, R184). -/
  abort : Bool := false
  /-- bus error to the MP (1; 06 Table 6.6). -/
  busError : Bool := false
deriving DecidableEq, Repr

/-- One bank arbiter (06). -/
structure Bank where
  /-- active table (held as entry xor default-table entry) (64 x 4; 06 R174). -/
  active : Sparse (BitVec 4) := []
  /-- shadow table (held likewise) (64 x 4; 06 R179). -/
  shadow : Sparse (BitVec 4) := []
  /-- POINTER (0-63; 06 Table 6.5b). -/
  ptr : Nat := 0
  /-- LOCK_OWNER (0-10; 06 Table 6.5b). -/
  owner : Option Nat := none
  /-- SWAP_PENDING (1; 06 Table 6.5b). -/
  swap : Bool := false
  /-- SHADOW_BUSY (1; 06 Table 6.5b). -/
  busyBit : Bool := false
  /-- LOCK_BROKEN (1; 06 Table 6.5b). -/
  broken : Bool := false
  /-- WDOG_BIT (1; 06 Table 6.5b). -/
  wdog : Bool := false
  /-- ACCESS_ERR (1; 06 Table 6.5b). -/
  access : Bool := false
  /-- FREEZE (1; 06 Table 6.5a). -/
  freeze : Bool := false
  /-- requester that last received an idle slot (0-10; 06 R176). -/
  lastIdle : Nat := 10
  /-- requester of the current grant (0-10; 06 R180). -/
  grant : Option Nat := none
  /-- requests at the ports (0-11; 06 R173). -/
  reqs : List StoreReq := []
  /-- result of the latest transfer (record; 06 R165). -/
  answer : Option Answer := none
  /-- aborts of the latest release of a lock, one per discarded request (list; 06 R184). -/
  aborts : List Answer := []
  /-- ROW of the scrubber's locked rewrite in progress (0-32767; 06 R171). -/
  scrubFix : Option Nat := none
  /-- event 0x0308 raised in this pass (1; 06 R171). -/
  overdue : Bool := false
  /-- ECC_CORRECTED (32; 15 Table 15.4). -/
  corrected : Nat := 0
  /-- rewrite queue (ROW), oldest first (0-8; 06 R169). -/
  rewrite : List Nat := []
  /-- next ROW of the scrub pass (0-32767; 06 R171). -/
  scrubRow : Nat := 0
deriving DecidableEq, Repr

/-- Pixel store (06). -/
structure Store where
  /-- bytes, held as value xor what an unlisted address reads as (16 MiB; 06 R163). -/
  cells : Sparse (BitVec 8) := []
  /-- address intervals [lo, hi) that a load has filled with one value (list; 02 R57). -/
  fills : List (Nat × Nat × BitVec 8) := []
  /-- stored bits that differ from the written word (per granule; 06 R169). -/
  flips : Sparse (BitVec 72) := []
  /-- uncorrectable log, newest first (0-16; 06 R169). -/
  log : List Nat := []
  /-- bank group 0 initialised (1; 06 R172). -/
  init0 : Bool := false
  /-- bank group 1 initialised (1; 06 R172). -/
  init1 : Bool := false
  /-- WDOG_US (7; 06 Table 6.5e). -/
  wdogUs : Nat := 10
  /-- WLOCK (1; 06 Table 6.5e). -/
  wlock : Bool := false
  /-- STAGING_CORRECTED (32; 15 Table 15.4). -/
  stagCorr : Nat := 0
  /-- STAGING_UNCORRECTABLE (32; 15 Table 15.4). -/
  stagUnc : Nat := 0
deriving DecidableEq, Repr

/-- Switched power domains (01 Table 1.8). -/
structure Power where
  /-- PD1 (1; 01 R36). -/
  pd1 : Bool := false
  /-- PD2 (1; 01 R36). -/
  pd2 : Bool := false
  /-- PD3 (1; 01 R36). -/
  pd3 : Bool := false
  /-- PD4 (1; 01 R36). -/
  pd4 : Bool := false
  /-- PD5 (1; 01 R36). -/
  pd5 : Bool := false
  /-- PD10 (1; 01 R36). -/
  pd10 : Bool := false
deriving DecidableEq, Repr

/-- Fuse block (01 Table 1.2). (DESIGN CHOICE: assumption log 2.) -/
structure Fuse where
  /-- key hash (256; 02 R47). -/
  keyHash : BitVec 256 := 1
  /-- rollback counter F (0-32; 02 R48). -/
  rollback : Nat := 0
  /-- serial number (64; 04 Table 4.5). -/
  serial : BitVec 64 := 1
  /-- service key K (256; 13 R373). -/
  svcKey : BitVec 256 := 1
  /-- fused ceilings (held as 255 - CF[t]) (64 x 8; 09 R256). -/
  ceils : Sparse Nat := []
  /-- delay trims of the capture points, per lane and generation (units of 0.5 ns; 05 R147). A command's instant is the one
  at the land, the correction already made (assumption log 54). -/
  trims : Sparse Nat := []
  /-- the other fuse bits, by bit number (rest of 4096; 01 Table 1.9). -/
  rest : Sparse Bool := []
deriving DecidableEq, Repr

/-- Start-up (02). -/
structure Start where
  /-- start-up state (enum 8; 02 R69). -/
  state : StartState := .powerOn
  /-- VLOG valid (1; 16 R419). -/
  vlog : Bool := false
  /-- a fuse row failed its redundancy check (1; 02 R69). -/
  fuseBad : Bool := false
  /-- slots still to be loaded (0-2; 02 R66). -/
  order : List SlotId := []
  /-- slot being loaded (enum; 02 R69). -/
  loading : Option SlotId := none
  /-- active slot (enum; 02 R79). -/
  active : Option SlotId := none
  /-- REASON_A (8; 15 Table 15.4). -/
  reasonA : Nat := 255
  /-- REASON_B (8; 15 Table 15.4). -/
  reasonB : Nat := 255
  /-- the failing flash read has been retried (1; 02 R67). -/
  retried : Bool := false
  /-- slots whose header could not be read (0-2; 02 R67). -/
  noHeader : List SlotId := []
  /-- bring-up timeouts (0-2; 02 Table 2.19). -/
  attempts : Nat := 0
  /-- READY_MS (ms of TB1; 15 Table 15.4). -/
  readyMs : Option Nat := none
  /-- a rollback advance is in progress (1; 02 R48). -/
  rolling : Bool := false
  /-- cause of this start (0-2; 15 Table 15.8). -/
  cause : Nat := 0
  /-- stuck reset seen in this RESET_HELD (1; 02 R74). -/
  stuck : Bool := false
  /-- personality (enum 3; 02 R77). -/
  pers : Personality := .unlatched
  /-- event 0x0105 raised for the present partner (1; 02 R78). -/
  mismatch : Bool := false
  /-- IMAGE_ERASES (0-4; 02 R80). -/
  imgErases : Nat := 0
  /-- START_COUNT (16; 15 R411). -/
  startCount : Nat := 0
  /-- the start log entry is written (1; 15 R411). -/
  logged : Bool := false
  /-- OUTCOME reached (0-2; 15 Table 15.8). -/
  outcome : Option Nat := none
  /-- ADDR0 strap (open reads 1) (1; 16 Table 16.2). -/
  addr0 : Bool := true
  /-- ADDR1 strap (open reads 1) (1; 16 Table 16.2). -/
  addr1 : Bool := true
  /-- TB3 at this start (ns of TB3; 12 Table 12.3). -/
  at3 : Nat := 0
  /-- TEST_EN (pulled down) (1; 16 Table 16.2). -/
  testEn : Bool := false
  /-- event 0x0808 for the release of VLED_INH at power-on raised since power-on (1; 15 Table 15.7). -/
  inhTold : Bool := false
deriving DecidableEq, Repr

/-- Test access port (16 R430). (PRESUMED: assumption log 12.) -/
structure Tap where
  /-- IEEE 1149.1 state, 0 test-logic reset (0-15; 16 R430). -/
  st : Nat := 0
  /-- instruction register (4; 16 R430). -/
  ir : BitVec 4 := 15
  /-- instruction shift stage (4; 16 R430). -/
  irShift : BitVec 4 := 0
  /-- bypass bit (1; 16 R430). -/
  bypass : Bool := false
  /-- boundary shift stage, one cell per control land outside the port itself (12; 16 R430). -/
  cells : BitVec 12 := 0
  /-- boundary update stage (12; 16 R430). -/
  outs : BitVec 12 := 0
  /-- TDO (1, none high-impedance; 16 R430). -/
  tdo : Option Bool := none
deriving DecidableEq, Repr

/-- Each layer at reset: the factory defaults of Table 7.2, Z equal to the layer number. -/
def resetLayers : List Layer :=
  (List.range 12).map fun n => { shadow := { z := n }, active := { z := n }, kept := { z := n } }

/-- The whole machine. (DESIGN CHOICE: assumption log 50.) -/
structure State where
  /-- Commands waiting, first in first out. -/
  pending : List Instr := []
  /-- Start-up (02). -/
  start : Start := {}
  /-- Fuse block. -/
  fuse : Fuse := {}
  /-- Module flash. -/
  flash : Flash := {}
  /-- Parameters of the loaded image. -/
  img : Params := {}
  /-- Switched power domains. -/
  power : Power := {}
  /-- Port A, lane layer. -/
  portA : Port := {}
  /-- Port B, lane layer. -/
  portB : Port := {}
  /-- LINK_SELFTEST results. -/
  selfTest : SelfTest := {}
  /-- Port A, packet layer. -/
  link : Link := {}
  /-- Port B, packet layer. -/
  linkB : LinkB := {}
  /-- Clocks and time bases. -/
  clk : Clocks := {}
  /-- TB0 discipline and stamps. -/
  sync : Sync := {}
  /-- Latch-point grid. -/
  grid : Grid := {}
  /-- Pixel store. -/
  store : Store := {}
  /-- Bank arbiters 0-15. -/
  banks : Sparse Bank := []
  /-- Layers V0-V3, G0-G7. -/
  layers : List Layer := resetLayers
  /-- Commits, profiles, master dimmer. -/
  comp : Comp := {}
  /-- Output stage. -/
  out : Out := {}
  /-- Tiles 0-63. -/
  tiles : Sparse Tile := []
  /-- Pixel latches, code in bits 11:0 and parity in bit 12, by pixel number. -/
  latches : Sparse (BitVec 13) := []
  /-- Quadrants 0-3. -/
  quads : Sparse Quad := []
  /-- Drive registers and VLED monitor. -/
  drive : Drive := {}
  /-- Diagnosis engine. -/
  diag : Diag := {}
  /-- Readback compare. -/
  rb : Readback := {}
  /-- CVU context registers 0-47. -/
  cvu : Sparse Cvu := []
  /-- Zone lists, clamp sets. -/
  zones : Zones := {}
  /-- Safety states. -/
  safety : Safety := {}
  /-- Thermal unit. -/
  thermal : Thermal := {}
  /-- Heat policy. -/
  policy : Policy := {}
  /-- Affinage. -/
  affin : Affin := {}
  /-- NVM budgets. -/
  nvm : Nvm := {}
  /-- MP supervision. -/
  mp : Mp := {}
  /-- SP supervision. -/
  sp : Sp := {}
  /-- Service session. -/
  svc : Service := {}
  /-- Legacy personality. -/
  leg : Legacy := {}
  /-- Events and flags. -/
  ev : Events := {}
  /-- Test access port. -/
  tap : Tap := {}
  /-- Counter of free values drawn so far (the model's own). -/
  free : Nat := 0
deriving DecidableEq, Repr

/-- The machine stops with a fault. No command of this block does: the spec gives every one an effect. -/
inductive Fault where
  /-- Raised by no meaning; the type is here because the interface asks for one. Safe. -/
  | none
deriving DecidableEq, Repr

/-- The model has no meaning to give. -/
inductive Refusal where
  /-- Raised by an arm of `exec` whose command has no meaning yet. Safe: the machine stops by name. -/
  | notModelled (mnemonic : String)
deriving DecidableEq, Repr

/-- The machine right after reset: supplies absent, every field at the reset value of its structure.
(DESIGN CHOICE: assumption log 1, 2.) -/
def State.reset : State := {}

end Sys2Proof.Machine
end

