-- ==== Sys2Proof/Machine/Flags.lean ====
section
/-!
DEFINITION. The flags of Table 15.3 (R23, R402): how an event sets one, which of them a STATUS_READ with CLEAR may
clear, and what a start leaves.
-/
namespace Sys2Proof.Machine

/-- Bit numbers of Table 15.3. -/
def fCommitLate : Nat := 0
def fPourMiss : Nat := 1
def fSchedLate : Nat := 2
def fLockBroken : Nat := 3
def fStarved : Nat := 4
def fLayerStale : Nat := 5
def fIntegrity : Nat := 6
def fDisagree : Nat := 7
def fStuckReset : Nat := 8
def fThermalLatch : Nat := 9
def fEol : Nat := 10

/-- A flag is set, and its FLAG_COUNT incremented, saturating (R402). -/
def State.setFlag (s : State) (i : Nat) : State :=
  { s with ev := { s.ev with flags := setBit s.ev.flags i true, counts := s.ev.counts.modify 0 i fun n => sat16 (n + 1) } }

/-- The flags whose condition still holds, which a STATUS_READ does not clear (R402). -/
def State.heldFlags (s : State) : BitVec 11 :=
  let stale := s.layers.any fun l => l.stale
  let integ := !s.rb.fault.isEmpty || s.out.standing || s.rb.crcGen
  let b (i : Nat) (c : Bool) : BitVec 11 := if c then BitVec.twoPow 11 i else 0
  b fLayerStale stale ||| b fIntegrity integ ||| b fDisagree true ||| b fThermalLatch true ||| b fEol s.affin.eol

/-- Drop the counts of the flags in `m`. -/
def dropCounts (m : BitVec 11) (c : Sparse Nat) : Sparse Nat := c.filter fun p => !m.getLsbD p.1

/-- CLEAR 1 of a STATUS_READ whose range includes ST 0x0010: each flag returned as 1 is cleared with its FLAG_COUNT,
but for those whose condition holds (R402). (DESIGN CHOICE: assumption log 34.) -/
def State.clearFlags (s : State) : State :=
  let m := s.ev.flags &&& ~~~s.heldFlags
  { s with ev := { s.ev with flags := s.ev.flags &&& ~~~m, counts := dropCounts m s.ev.counts } }

/-- Every flag is cleared at a start, STUCK_RESET excepted (R402). -/
def Events.startFlags (e : Events) : Events :=
  let keep : BitVec 11 := BitVec.twoPow 11 fStuckReset
  { e with flags := e.flags &&& keep, counts := dropCounts (~~~keep) e.counts }

end Sys2Proof.Machine
end

