-- ==== Sys2Proof/Machine/Wire.lean ====
section
/-!
DEFINITION. What stands on the lanes: packets with their header and CRC as blocks and characters (04 R114-R118), link
control blocks (Table 4.2), training blocks (03 R87), the scrambler and the striping of R86, the self-test patterns of
R112, and how a received frame is read back.
-/
namespace Sys2Proof.Machine

/-! ### The service UART (13 R371) -/

/-- A UART frame around a payload: 0x7E, LEN, the payload, a CRC-32C over LEN and the payload. -/
def uartFrame (payload : List Byte) : List Byte :=
  let body := leBytes 2 payload.length ++ payload
  0x7E :: (body ++ leBytes 4 (crc32c body))

/-- The payload of a received frame; none where LEN, the length or the CRC fails: such a frame is ignored. -/
def readUart (bs : List Byte) : Option (List Byte) :=
  let n := fieldAt bs 1 2
  let body := (bs.drop 1).take (2 + n)
  if bs.take 1 = [0x7E] && 4 ≤ n && n ≤ 4096 && bs.length = 7 + n && fieldAt bs (3 + n) 4 = crc32c body then some (body.drop 2)
  else none

/-! ### Elements -/

/-- An element of a packet stream: a data block or a control block with its 64-bit payload (03 R86). -/
structure Blk where
  ctl : Bool
  w   : BitVec 64
deriving DecidableEq, Repr

/-- Eight bytes, the first in bits 7:0, zero where fewer are given (04 R114). -/
def blkWord (bs : List Byte) : BitVec 64 := BitVec.ofNat 64 (leVal (bs.take 8))

/-- SOP, EOP with its CRC, IDLE fill (Table 4.1). -/
def sopBlk : Blk := { ctl := true, w := 0x33 }
def eopBlk (crc : Nat) : Blk := { ctl := true, w := BitVec.ofNat 64 (0xE7 + crc % 2 ^ 32 * 256) }
def idleBlk : Blk := { ctl := true, w := 0x1E }

/-- K and D characters, bit 8 set for K; K28.n, K27.7, K29.7 (Table 4.1, 03 R87). -/
def kChar (v : Nat) : BitVec 9 := BitVec.ofNat 9 (256 + v)
def dChar (b : Byte) : BitVec 9 := BitVec.setWidth 9 b
def k28 (n : Nat) : BitVec 9 := kChar (32 * n + 28)
def k27_7 : BitVec 9 := kChar 0xFB
def k29_7 : BitVec 9 := kChar 0xFD

/-! ### Header (Table 4.3) -/

/-- A packet header, all fields. -/
structure WireHdr where
  seq  : BitVec 12
  addr : BitVec 4
  vc   : Nat
  dir  : Bool
  type : Nat
  len  : Nat
  tag  : BitVec 16
deriving DecidableEq, Repr

/-- The 64 bits of a header; the reserved bits are 0. -/
def WireHdr.word (h : WireHdr) : BitVec 64 :=
  BitVec.ofNat 64 (h.tag.toNat + h.len % 2 ^ 13 * 2 ^ 16 + h.type % 256 * 2 ^ 32 + b2n h.dir * 2 ^ 42 + h.vc % 32 * 2 ^ 43
    + h.addr.toNat * 2 ^ 48 + h.seq.toNat * 2 ^ 52)

/-- The header that 64 bits hold; reserved bits are not looked at (R12). -/
def wireHdr (w : BitVec 64) : WireHdr :=
  { seq := BitVec.ofNat 12 (bitsOf w.toNat 52 12), addr := BitVec.ofNat 4 (bitsOf w.toNat 48 4), vc := bitsOf w.toNat 43 5
    dir := bitOf w.toNat 42, type := bitsOf w.toNat 32 8, len := bitsOf w.toNat 16 13, tag := BitVec.ofNat 16 (bitsOf w.toNat 0 16) }

/-- The header's 8 bytes in transmission order. -/
def WireHdr.bytes (h : WireHdr) : List Byte := leBytes 8 h.word.toNat

/-! ### Packets (R114, R116) -/

/-- The packet CRC: over the 8 header bytes, then the LENGTH payload bytes (R116). -/
def packetCrc (h : WireHdr) (payload : List Byte) : Nat := crc32c (h.bytes ++ payload)

/-- The payload's data blocks, the last padded with zero bytes; `n` bounds their number. -/
def dataBlks : Nat → List Byte → List Blk
  | 0, _ => []
  | _ + 1, [] => []
  | n + 1, bs => { ctl := false, w := blkWord bs } :: dataBlks n (bs.drop 8)

/-- A packet at G2 and G3 (R114). -/
def packetBlks (h : WireHdr) (payload : List Byte) : List Blk :=
  sopBlk :: { ctl := false, w := h.word } :: (dataBlks payload.length payload ++ [eopBlk (packetCrc h payload)])

/-- A packet at G1: characters, without padding (R114, Table 4.1). -/
def packetChars (h : WireHdr) (payload : List Byte) : List (BitVec 9) :=
  k27_7 :: ((h.bytes ++ payload).map dChar ++ k29_7 :: (leBytes 4 (packetCrc h payload)).map dChar)

/-- What a receiver finds in the blocks from one SOP to its EOP (R116, R120): a framing error, a CRC failure, or the header
and the LENGTH payload bytes. LCBs and training blocks have been removed (R115). -/
inductive FrameRead where
  | framing
  | crc (h : WireHdr)
  | good (h : WireHdr) (payload : List Byte)
deriving DecidableEq, Repr

/-- The data blocks at the front of a list, and what follows them. -/
def dataFront : List Blk → List (BitVec 64) × List Blk
  | [] => ([], [])
  | b :: bs => if b.ctl then ([], b :: bs) else let r := dataFront bs; (b.w :: r.1, r.2)

/-- Read one packet: SOP, header, ceil(LENGTH / 8) data blocks, EOP; the padding is zero, LENGTH at most 4 096 (R120). -/
def readFrame (bs : List Blk) : FrameRead :=
  match bs with
  | [] => .framing
  | sop :: rest =>
    if sop ≠ sopBlk then .framing
    else match dataFront rest with
      | (hw :: ds, [eop]) =>
        let h := wireHdr hw
        let bytes := ds.flatMap fun w => leBytes 8 w.toNat
        if bitsOf eop.w.toNat 0 8 ≠ 0xE7 || decide (4096 < h.len) || decide (ds.length ≠ ceilDiv h.len 8)
            || (bytes.drop h.len).any (fun b => b ≠ 0) then .framing
        else if bitsOf eop.w.toNat 8 32 ≠ crc32c (leBytes 8 hw.toNat ++ bytes.take h.len) then .crc h
        else .good h (bytes.take h.len)
      | _ => .framing

/-- A T512 frame as characters: SOF K28.0, the fields of Table 14.1 with their CRC-16, EOF K28.4 (14 R379). -/
def t512Chars (type : Nat) (seq : BitVec 8) (arg : BitVec 16) (payload : List Byte) : List (BitVec 9) :=
  let body := leBytes 1 type ++ leBytes 1 seq.toNat ++ leBytes 2 arg.toNat ++ leBytes 2 payload.length ++ payload
  k28 0 :: ((body ++ leBytes 2 (crc16 body)).map dChar ++ [k28 4])

/-- Read a T512 frame: none for a framing or CRC failure (14 R379). -/
def readT512 (cs : List (BitVec 9)) : Option (Nat × T512Frame) :=
  let bs := (cs.drop 1).dropLast.map fun c => BitVec.setWidth 8 c
  let n := fieldAt bs 4 2
  if cs.head? = some (k28 0) && cs.getLast? = some (k28 4) && ((cs.drop 1).dropLast.all fun c => !c.getLsbD 8)
      && decide (bs.length = 8 + n) && decide (n ≤ 4096) && fieldAt bs (6 + n) 2 = crc16 (bs.take (6 + n)) then
    some (fieldAt bs 0 1, { seq := BitVec.ofNat 8 (fieldAt bs 1 1), arg := BitVec.ofNat 16 (fieldAt bs 2 2)
                            payload := (bs.drop 6).take n })
  else none

/-- HS and IDLE, the ordered sets of T512 framing (14 R378). -/
def t512Hs : List (BitVec 9) := [k28 5, dChar 0xC5]
def t512Idle : List (BitVec 9) := [k28 5, dChar 0x50]

/-! ### Link control blocks (R117, Table 4.2) -/

/-- VALUE of an LCB: SEQ, or VC and TOTAL. -/
def Lcb.field (l : Lcb) : Nat := if l.kind = 3 then l.vc % 32 * 2048 + l.value % 2048 else l.value % 4096

/-- Bytes 1 to 6 of an LCB. -/
def Lcb.body (l : Lcb) : List Byte := leBytes 1 (l.kind % 16 * 16) ++ leBytes 2 l.field ++ [0, 0, 0]

/-- Bytes 1 to 7: the CRC8 last. -/
def Lcb.bytes (l : Lcb) : List Byte := l.body ++ leBytes 1 (crc8 l.body)

/-- An LCB as a control block, and as characters (Table 4.1). -/
def Lcb.blk (l : Lcb) : Blk := { ctl := true, w := blkWord (0x4B :: l.bytes) }
def Lcb.chars (l : Lcb) : List (BitVec 9) := k28 2 :: l.bytes.map dChar

/-- The LCB that bytes 1 to 7 carry: none when its CRC8 fails or its KIND is reserved, which is ignored (R117). -/
def readLcb (bs : List Byte) : Option Lcb :=
  let kind := bitsOf (fieldAt bs 0 1) 4 4
  let v := fieldAt bs 1 2
  if fieldAt bs 6 1 ≠ crc8 (bs.take 6) then none
  else if kind = 1 || kind = 2 then some { kind := kind, value := v % 4096 }
  else if kind = 3 then some { kind := 3, vc := v / 2048 % 32, value := v % 2048 }
  else none

/-! ### Training blocks (03 R87, Table 3.2) -/

/-- A training block: bits 55:0, then the CRC8 over their bytes. -/
def trainBlock (role : Bool) (lane phase gen lpbk : Nat) (work use : BitVec 4) (attempt : BitVec 8) : BitVec 64 :=
  let low := 0xE1 + b2n role * 2 ^ 23 + lane % 4 * 2 ^ 24 + phase % 16 * 2 ^ 28 + gen % 4 * 2 ^ 34 + lpbk % 16 * 2 ^ 36
    + work.toNat * 2 ^ 40 + use.toNat * 2 ^ 44 + attempt.toNat * 2 ^ 48
  BitVec.ofNat 64 (low + crc8 (leBytes 7 low) * 2 ^ 56)

/-- A native training set at G1: K28.5, K28.1 and the eight bytes (R87). -/
def trainSet (w : BitVec 64) : List (BitVec 9) := k28 5 :: k28 1 :: (leBytes 8 w.toNat).map dChar

/-! ### Scrambler and striping (03 R86) -/

/-- One bit through the self-synchronising scrambler x^58 + x^39 + 1: the bit sent, which enters the register. -/
def scrBit (st : BitVec 58) (d : Bool) : Bool := (d ^^ st.getLsbD 38) ^^ st.getLsbD 57

/-- The register after a bit on the line. -/
def scrShift (st : BitVec 58) (b : Bool) : BitVec 58 := (st <<< 1) ||| BitVec.ofNat 58 (b2n b)

/-- Scramble `n` bits of `v`, bit 0 first; the register, and the bits sent from bit `i` up. -/
def scrambleBits : Nat → Nat → Nat → BitVec 58 → BitVec 58 × Nat
  | 0, _, _, st => (st, 0)
  | n + 1, i, v, st =>
    let b := scrBit st (bitOf v i)
    let r := scrambleBits n (i + 1) v (scrShift st b)
    (r.1, b2n b * 2 ^ i + r.2)

/-- Descramble: each line bit enters the register, and the data bit comes out. -/
def descrambleBits : Nat → Nat → Nat → BitVec 58 → BitVec 58 × Nat
  | 0, _, _, st => (st, 0)
  | n + 1, i, v, st =>
    let r := descrambleBits n (i + 1) v (scrShift st (bitOf v i))
    (r.1, b2n (scrBit st (bitOf v i)) * 2 ^ i + r.2)

/-- 66 bits on a lane: the sync header 0b01 for data, 0b10 for control, in bits 1:0, then the payload (R86). -/
def lineBlock (ctl : Bool) (payload : Nat) : BitVec 66 := BitVec.ofNat 66 ((if ctl then 2 else 1) + payload % 2 ^ 64 * 4)

/-- A sync header is valid: 0b01 or 0b10 (R86). -/
def syncValid (b : BitVec 66) : Bool := bitsOf b.toNat 0 2 = 1 || bitsOf b.toNat 0 2 = 2

/-- Put a block of the packet stream on a lane, scrambled. -/
def Line.put (l : Line) (lane : Nat) (b : Blk) : Line :=
  let r := scrambleBits 64 0 b.w.toNat (l.scr.get 0 lane)
  { l with scr := l.scr.set 0 lane r.1, blocks := l.blocks ++ [(lane, lineBlock b.ctl r.2)], count := (l.count + 1) % 12 }

/-- Put blocks of the packet stream on the lanes: block n on logical lane n mod w, the i-th of `lanes` (R86, R97). -/
def Line.putAll (l : Line) (lanes : List Nat) (bs : List Blk) : Line :=
  bs.foldl (fun m b => m.put (lanes.getD (m.count % max 1 lanes.length) 0) b) { l with blocks := [], chars := [] }

/-- Put a training, wake or idle-entry block on every lane, unscrambled (R86). -/
def Line.putTrain (l : Line) (ws : List (Nat × BitVec 64)) : Line :=
  { l with blocks := ws.map fun x => (x.1, lineBlock true x.2.toNat), chars := [] }

/-! ### Self-test patterns (03 R112) -/

/-- One bit of a pseudo-random sequence x^n + x^m + 1: the register shifts in the sum of bits n - 1 and m - 1. -/
def prbsStep (n m : Nat) (st : Nat) : Nat := (st * 2 + b2n (bitOf st (n - 1) ^^ bitOf st (m - 1))) % 2 ^ n

/-- The pattern of a generation: PRBS31 (x^31 + x^28 + 1) at G2 and G3, PRBS7 (x^7 + x^6 + 1) at G1. -/
def prbsOf (gen : Nat) : Nat → Nat := if gen = 1 then prbsStep 7 6 else prbsStep 31 28

/-- `k` bits of a generation's pattern from a register value. -/
def prbsBits (gen : Nat) : Nat → Nat → List Bool
  | 0, _ => []
  | k + 1, st => let st' := prbsOf gen st; bitOf st' 0 :: prbsBits gen k st'

end Sys2Proof.Machine
end

