-- ==== Sys2Proof/Machine/Ops.lean ====
section
/-!
DEFINITION. The named operations the meanings share: the accessors of State, geometry (R3-R9), the passing of time
(R144-R157), events (R403-R408), replies (R124), link control blocks and credits (R126-R130), the receive path of
port A (R120, R125, R140, R366), and grid arithmetic (R215).
-/
namespace Sys2Proof.Machine

/-! ### Accessors -/

def State.tile (s : State) (t : Nat) : Tile := s.tiles.get {} t
def State.modTile (s : State) (t : Nat) (f : Tile → Tile) : State := { s with tiles := s.tiles.modify {} t f }
def State.bank (s : State) (b : Nat) : Bank := s.banks.get {} b
def State.modBank (s : State) (b : Nat) (f : Bank → Bank) : State := { s with banks := s.banks.modify {} b f }
def State.quad (s : State) (q : Nat) : Quad := s.quads.get {} q
def State.modQuad (s : State) (q : Nat) (f : Quad → Quad) : State := { s with quads := s.quads.modify {} q f }
def State.layer (s : State) (n : Nat) : Layer := s.layers.getD n {}
def State.modLayer (s : State) (n : Nat) (f : Layer → Layer) : State := { s with layers := s.layers.modify n f }
def State.port (s : State) : PortId → Port
  | .a => s.portA
  | .b => s.portB
def State.modPort (s : State) (p : PortId) (f : Port → Port) : State :=
  match p with
  | .a => { s with portA := f s.portA }
  | .b => { s with portB := f s.portB }
/-- Number of a port in events and status words. -/
def portNum : PortId → Nat
  | .a => 0
  | .b => 1
def State.env (s : State) (n : Nat) : EnvP := s.img.envs.getD n { enabled := false }
def State.mode (s : State) (m : Nat) : ModeP := s.img.modes.getD m {}
/-- The timing mode in force. -/
def State.modeNow (s : State) : ModeP := s.mode s.grid.mode
/-- BASE of a region of the pixel-store map (Table 2.9). -/
def State.regionBase (s : State) (r : Nat) : Nat := (s.img.regions.getD r (0, 0)).1
def State.regionSize (s : State) (r : Nat) : Nat := (s.img.regions.getD r (0, 0)).2

/-- Apply `f` for each number in the list, in order. -/
def State.forEach (s : State) (xs : List Nat) (f : State → Nat → State) : State := xs.foldl f s

/-- Apply `f` when `c` holds. -/
def State.cond (s : State) (c : Bool) (f : State → State) : State := if c then f s else s

/-- A free value of kind `k`: nothing is known of it (Config.freeNat). (DESIGN CHOICE: assumption log 4.) -/
def State.freeVal (s : State) (k : Nat) : Nat := Config.freeNat k s.free
/-- The next use draws another free value. -/
def State.drawn (s : State) : State := { s with free := s.free + 1 }

/-! ### Geometry -/

/-- Tile of array pixel (x, y) (R5). -/
def tileAt (x y : Nat) : Nat := 16 * (y / 128) + x / 128
/-- Tile of pixel index p (R4, R5). -/
def tileOfPixel (p : Nat) : Nat := tileAt (p % 2048) (p / 2048)
/-- Quadrant of a tile (R6). -/
def quadOfTile (t : Nat) : Nat := 2 * (t / 32) + t % 16 / 8
/-- The 16 tiles of a quadrant (Table 0.3). -/
def tilesOfQuad (q : Nat) : List Nat := (List.range 64).filter fun t => quadOfTile t = q
/-- First column and row of a tile. -/
def tileX (t : Nat) : Nat := t % 16 * 128
def tileY (t : Nat) : Nat := t / 16 * 128
/-- Content column shown at array column x (R9). -/
def State.contentX (s : State) (x : Nat) : Nat := if s.img.mirrorX then 2047 - x else x
/-- Content row shown at array row y (R9). -/
def State.contentY (s : State) (y : Nat) : Nat := if s.img.mirrorY then 511 - y else y

/-! ### Time -/

/-- Units of a time base below the nanosecond (R145). (DESIGN CHOICE: assumption log 24.) -/
def nsUnit : Nat := 4294967296

/-- Whole nanoseconds of TB0, TB1 and TB2 (R145: truncated). -/
def State.now0 (s : State) : Nat := s.clk.tb0 / nsUnit
def State.now1 (s : State) : Nat := s.clk.tb1 / nsUnit
def State.now2 (s : State) : Nat := s.clk.tb2 / nsUnit

/-- Nat plus an integer increment, never below 0. -/
def addI (n : Nat) (i : Int) : Nat := ((n : Int) + i).toNat

/-- Cycles in which the slew term still acts: as many as remove the offset it was set for, at most `n` (R152). -/
def slewCycles (c : Clocks) (n : Nat) : Nat :=
  if c.slew = 0 then 0 else min n (ceilDiv c.slewLeft.natAbs (4 * c.slew.natAbs))

/-- `n` cycles of the TIME clock (Table 5.1): TB0 at 4(1 + f + s) ns, TB1 at 4 ns, TB2 at 4(1 + f + g) ns, the slew
term until its offset is removed. `d` is the sum of 4g over the cycles. Without the crystal PLLs no base runs.
(DESIGN CHOICE: assumption log 5.) -/
def Clocks.advance (c : Clocks) (d : Int) (n : Nat) : Clocks :=
  if c.crystal then
    let k := slewCycles c n
    let ended := decide (c.slew ≠ 0) && decide (c.slewLeft.natAbs ≤ 4 * c.slew.natAbs * k)
    { c with
      tb0 := addI c.tb0 (4 * (nsUnit + c.f) * n + 4 * c.slew * k)
      tb1 := c.tb1 + 4 * nsUnit * n
      tb2 := if c.gridOn then addI c.tb2 (4 * (nsUnit + c.f) * n + d) else c.tb2
      slew := if ended then 0 else c.slew
      slewLeft := if ended then 0 else c.slewLeft - 4 * c.slew * k
      slewed := c.slewed + 4 * c.slew * k }
  else c

/-- Frame period P of a rate in units of 2^-32 ns (R215: it may be fractional; here truncated to 2^-32 ns). -/
def periodUnits (rate : Nat) : Nat := 1000000000 * nsUnit / max rate 1
/-- Frame period in whole nanoseconds. -/
def periodNs (rate : Nat) : Nat := 1000000000 / max rate 1

/-- First grid instant of a rate at or after `t` (R215). -/
def gridAtLeast (rate t : Nat) : Nat :=
  let r := max rate 1
  ceilDiv (t * r) 1000000000 * 1000000000 / r

/-- The number of the grid instant at or next after `t`. -/
def gridIndex (rate t : Nat) : Nat := ceilDiv (t * max rate 1) 1000000000

/-- Reduce `e` into [-P/2, P/2) (R156). -/
def reduceHalf (e : Int) (p : Nat) : Int :=
  let q : Int := max p 1
  (e + q / 2) % q - q / 2

/-- Grid error e in 2^-32 ns: the latch point as TB2 will generate it, measured on TB0, less its grid instant, reduced
into half a frame period either way (R156). -/
def State.gridError (s : State) : Int :=
  reduceHalf ((s.clk.tb0 : Int) + ((s.grid.nextL * nsUnit : Nat) - (s.clk.tb2 : Int)) - (s.grid.nextG * nsUnit : Nat))
    (periodUnits s.modeNow.rate)

/-- Steering term for a grid error: e / 100 us, limited to 0.1 % (R156). (DESIGN CHOICE: assumption log 24.) -/
def steer (e : Int) : Int := clampInt (-4294967) 4294967 (rdiv e 100000)

/-- The power b^n of a factor in units of 2^-64, by repeated squaring; `k` bounds the bits of `n`. -/
def powUnits : Nat → Nat → Nat → Nat
  | 0, _, _ => 2 ^ 64
  | k + 1, n, b => if n = 0 then 2 ^ 64 else
      let h := powUnits k (n / 2) (b * b / 2 ^ 64)
      if n % 2 = 1 then h * b / 2 ^ 64 else h

/-- What remains of a grid error within 100 ns, where g is proportional to it, after `n` cycles that each remove
4e / 100 us beside the slew `sl` (R156). (DESIGN CHOICE: assumption log 24.) -/
def errNear (e sl : Int) (n : Nat) : Int :=
  let b := 100000 * sl
  b + rdiv ((e - b) * (powUnits 64 n (2 ^ 64 * 24999 / 25000) : Nat)) (2 ^ 64)

/-- The grid error after `n` cycles: while it is 100 ns or more, g holds its limit (R156). -/
def errAfter (e sl : Int) (n : Nat) : Int :=
  let far : Int := 429496700000
  if far ≤ e then
    let k := ceilDiv (e - far).toNat (4 * (4294967 - sl)).toNat
    if n ≤ k then e - 4 * (4294967 - sl) * n else errNear (e - 4 * (4294967 - sl) * k) sl (n - k)
  else if e ≤ -far then
    let k := ceilDiv (-far - e).toNat (4 * (4294967 + sl)).toNat
    if n ≤ k then e + 4 * (4294967 + sl) * n else errNear (e + 4 * (4294967 + sl) * k) sl (n - k)
  else errNear e sl n

/-- The sum of 4g over `n` cycles: what steering adds to TB2 while it removes the grid error, or the error of the last
LAMPSYNC edge (R156, R238). -/
def State.steerSum (s : State) (n : Nat) : Int :=
  if s.clk.gridOn && s.grid.started then
    if s.grid.onLamp then s.grid.lampErr - errAfter s.grid.lampErr 0 n
    else
      let k := slewCycles s.clk n
      4 * s.clk.slew * k - (errAfter (errAfter s.gridError s.clk.slew k) 0 (n - k) - s.gridError)
  else 4 * s.clk.g * n

/-! ### Events -/

/-- Packed size of event data: each field at the next multiple of its size (R404). -/
def packLen (data : List (Nat × Nat)) : Nat := data.foldl (fun off f => ceilDiv off (max f.1 1) * max f.1 1 + f.1) 0

/-- The DATA bytes of an event record, a multiple of 4 (R404). -/
def packData (data : List (Nat × Nat)) : List Byte :=
  let bs := data.foldl (fun acc f =>
    acc ++ List.replicate (ceilDiv acc.length (max f.1 1) * max f.1 1 - acc.length) 0 ++ leBytes f.1 f.2) []
  bs ++ List.replicate (ceilDiv bs.length 4 * 4 - bs.length) 0

/-- DLEN (R404). -/
def dataWords (data : List (Nat × Nat)) : Nat := ceilDiv (packLen data) 4

/-- Bytes of an event record. -/
def Event.size (e : Event) : Nat := 16 + 4 * dataWords e.data

/-- The event record as sent (Table 15.5). -/
def Event.bytes (e : Event) : List Byte :=
  leBytes 2 e.code.toNat ++ [BitVec.ofNat 8 (e.sev * 64 + dataWords e.data * 8 + b2n e.sp)] ++ leBytes 1 e.epoch.toNat
    ++ leBytes 4 e.tb0.toNat ++ leBytes 2 e.seq.toNat ++ leBytes 2 e.frame.toNat ++ leBytes 4 e.tb1.toNat
    ++ packData e.data

/-- Codes of severity FAULT (Tables 15.6 and 15.7), 0x0801 apart. -/
def faultCodes : List Nat :=
  [0x0B03, 0x0B08, 0x0304, 0x0703, 0x0705, 0x0707, 0x0708, 0x0803, 0x080D, 0x080E, 0x0806, 0x0808, 0x080F, 0x0810,
   0x0811, 0x0812, 0x0908, 0x0909, 0x0C03, 0x0C09]

/-- Codes of severity WARN (Tables 15.6 and 15.7). -/
def warnCodes : List Nat :=
  [0x0102, 0x0103, 0x0104, 0x0105, 0x0106, 0x0107, 0x0108, 0x0109, 0x0B01, 0x0B06, 0x0203, 0x0204, 0x0208, 0x0209,
   0x020A, 0x0302, 0x0303, 0x0305, 0x0307, 0x0308, 0x0402, 0x0403, 0x0404, 0x0406, 0x0501, 0x0503, 0x0504, 0x0505,
   0x0509, 0x0602, 0x0609, 0x0701, 0x0704, 0x0706, 0x0709, 0x070A, 0x070B, 0x070C, 0x0805, 0x0807, 0x0809, 0x080B]
  ++ [0x0901, 0x0903, 0x0906, 0x090A, 0x090B, 0x0A02, 0x0A04, 0x0A05, 0x0A06, 0x0A07, 0x0A08, 0x0C01, 0x0C04, 0x0C05,
   0x0C07, 0x0C08, 0x0D03, 0x0D04, 0x0D05, 0x0D06]

/-- SEVERITY: 0 INFO, 1 WARN, 2 FAULT. A state change to NORMAL is INFO, any other FAULT (Table 15.7). -/
def severity (code : Nat) (data : List (Nat × Nat)) : Nat :=
  if code = 0x0801 then (if (data.getD 1 (0, 0)).2 = 0 then 0 else 2)
  else if faultCodes.contains code then 2 else if warnCodes.contains code then 1 else 0

/-- Codes the SP writes: area 0x08 (R407), and those named in R376. -/
def spCode (code : Nat) : Bool :=
  code / 256 = 8 || [0x0C01, 0x0C02, 0x0C03, 0x0C08, 0x0C09].contains code

/-- Codes whose data ends with a count of occurrences (Tables 15.6 and 15.7, R405). -/
def countCodes : List Nat := [0x0106, 0x0208, 0x0301, 0x0307, 0x0601, 0x0706, 0x0809, 0x0C04, 0x0D04]

/-- Remove the first record that satisfies `p`. -/
def dropFirst (p : Event → Bool) : List Event → List Event
  | [] => []
  | e :: es => if p e then es else e :: dropFirst p es

/-- Insert a record where a memory of `cap` units holds `w` units a record, by the discard rule of R408; the number of
records discarded beside it. -/
def insertEvent (cap : Nat) (w : Event → Nat) (new : Event) : Nat → List Event → Nat → List Event × Nat
  | 0, es, d => (es, d + 1)
  | k + 1, es, d =>
    if (es.map w).foldl (· + ·) 0 + w new ≤ cap then (es ++ [new], d)
    else if es.any (fun e => e.sev = 0) then insertEvent cap w new k (dropFirst (fun e => e.sev = 0) es) (d + 1)
    else if es.any (fun e => e.sev = 1) then insertEvent cap w new k (dropFirst (fun e => e.sev = 1) es) (d + 1)
    else if new.sev ≠ 2 then (es, d + 1)
    else insertEvent cap w new k (dropFirst (fun e => e.sev = 2) es) (d + 1)

/-- Count `d` discarded records (R408). -/
def Events.discarded (v : Events) (d : Nat) : Events := { v with lost := sat32 (v.lost + d), lostNext := sat16 (v.lostNext + d) }

/-- Put a record into TQ1's 16 KiB. -/
def Events.toRing (v : Events) (e : Event) : Events :=
  let r := insertEvent 16384 Event.size e (v.ring.length + 2) v.ring 0
  { v with ring := r.1 }.discarded r.2

/-- Put a record into the AON buffer of 128 records (R366). (DESIGN CHOICE: assumption log 34.) -/
def Events.toAon (v : Events) (e : Event) : Events :=
  let r := insertEvent 128 (fun _ => 1) e (v.aon.length + 2) v.aon 0
  { v with aon := r.1 }.discarded r.2

/-- Raise an event: a record with the next SEQ, in TQ1, or in the AON buffer while the MP is not ready and the code is
outside area 0x08 (R366, R403). (DESIGN CHOICE: assumption log 34.) -/
def State.raise (s : State) (code : Nat) (data : List (Nat × Nat)) : State :=
  let e : Event :=
    { code := BitVec.ofNat 16 code, sev := severity code data, sp := spCode code, tb0 := BitVec.ofNat 32 s.now0,
      epoch := s.clk.epoch, tb1 := BitVec.ofNat 32 s.now1, frame := s.grid.frame, seq := s.ev.next, data := data }
  let v := { s.ev with next := s.ev.next + 1 }
  { s with ev := if s.mp.ready || code / 256 = 8 then v.toRing e else v.toAon e }

/-- Data of a rated event: with its count where the code has one (R405). -/
def ratedData (code n : Nat) (data : List (Nat × Nat)) : List (Nat × Nat) :=
  if countCodes.contains code then data ++ [(4, n)] else data

/-- Raise an event at most once per second per key (R405). `n` is what one occurrence adds to the count. -/
def State.raiseRatedN (s : State) (code key n : Nat) (data : List (Nat × Nat)) : State :=
  let hit (w : Window) : Bool := w.code = BitVec.ofNat 16 code && w.key = key
  if s.ev.windows.any hit then
    let upd (w : Window) : Window := if hit w then { w with count := sat32 (w.count + n), data := data } else w
    { s with ev := { s.ev with windows := s.ev.windows.map upd } }
  else
    let t := s.raise code (ratedData code n data)
    { t with ev := { t.ev with windows := t.ev.windows ++ [{ code := BitVec.ofNat 16 code, key := key, data := data }] } }

/-- Raise an event at most once per second per key, one occurrence. (DESIGN CHOICE: assumption log 34.) -/
def State.raiseRated (s : State) (code key : Nat) (data : List (Nat × Nat)) : State := s.raiseRatedN code key 1 data

/-- Insert a record before the first that was detected after it; `next` is the SEQ of the next event. -/
def seqInsert (next : BitVec 16) (e : Event) : List Event → List Event
  | [] => [e]
  | x :: l => if (e.seq - next).toNat < (x.seq - next).toNat then e :: x :: l else x :: seqInsert next e l

/-- Records in order of detection: they leave in SEQ order (R406). -/
def seqSort (next : BitVec 16) (l : List Event) : List Event := l.foldr (seqInsert next) []

/-- The waiting AON records pass to TQ1 when the MP is ready (R366). (DESIGN CHOICE: assumption log 34.) -/
def State.flushAon (s : State) : State :=
  let v := s.ev.aon.foldl Events.toRing { s.ev with aon := [] }
  let formed := v.ring.filter fun e => e.pkt ≠ 0
  let rest := v.ring.filter fun e => e.pkt = 0
  { s with ev := { v with ring := formed ++ seqSort v.next rest } }

/-! ### The passing of time -/

/-- Steering and frame lock after time has passed or TB0 has stepped (R156, R157). A follower on LAMPSYNC steers by its
edges instead (R238). -/
def State.regrid (s : State) : State :=
  if s.clk.gridOn && s.grid.started then
    let e := if s.grid.onLamp then s.grid.lampErr else s.gridError
    let t := { s with clk := { s.clk with g := steer e }, sync := { s.sync with gridErr := rdiv e nsUnit } }
    let lock := decide (e.natAbs < 1000 * nsUnit)
    if lock = s.sync.locked then t
    else { t with sync := { t.sync with locked := lock } }.raise 0x020B [(1, b2n lock), (4, toField 32 (rdiv e nsUnit))]
  else s

/-- `n` TIME cycles pass (assumption log 5). -/
def State.elapse (s : State) (n : Nat) : State :=
  if n = 0 then s
  else
    let d := s.steerSum n
    { s with
      clk := s.clk.advance d n
      grid := { s.grid with lampErr := if s.clk.crystal && s.grid.onLamp then s.grid.lampErr - d else s.grid.lampErr } }.regrid

/-- TB1 with the 0.5 ns interpolator, in units of 0.5 ns (R35, R141). -/
def State.halfNow1 (s : State) : Nat := s.clk.tb1 / 2147483648

/-- Stamp of a capture on port A: TB0 with the STAMP_OFFSET control where it is active (R226, Table 13.8). -/
def State.stamp (s : State) (point : Nat) (t : Int) : Int :=
  match s.svc.perturb.find? fun p => p.control = 4 && p.target = point with
  | some p => t + signedOf 32 p.value.toNat
  | none => t

/-- A timestamp taken now at a capture point: TB0 with its epoch, TB1 and TB2 (R147). The delay from the land to the
capture flop, held in the fuse trims, is removed: the stamp is that of the land. (DESIGN CHOICE: assumption log 5.) -/
def State.capture (s : State) (point : Nat) : Stamp :=
  { tb0 := s.stamp point s.now0, epoch := s.clk.epoch, tb1 := s.now1, tb2 := s.now2 }

/-- (e1, t1) lies before (e2, t2): by epoch first, in the same epoch by full time (R149). -/
def Stamp.before (a : Stamp) (epoch : BitVec 8) (t : Int) : Bool :=
  if a.epoch = epoch then decide (a.tb0 < t) else decide (signedOf 8 (a.epoch - epoch).toNat < 0)

/-! ### Replies, link control blocks, credits -/

/-- The packet layer of port A carries packets: training complete with native framing, state UP. -/
def State.linkUp (s : State) : Bool := s.portA.st = .up && s.portA.framing = 1

/-- Packets pass on port A's back lane: the link is up, its receive lanes idle or waking included (R107, R109). -/
def State.backUp (s : State) : Bool :=
  s.portA.framing = 1 && (s.portA.st = .up || s.portA.st = .idle || s.portA.st = .wake)

/-- A port's link is up, under repair or idle: no link down has been declared since its link-up (R99). -/
def Port.linked (p : Port) : Bool := p.st = .up || p.st = .repair || p.st = .idle || p.st = .wake

/-- The T512 link of port A is up. -/
def State.legacyUp (s : State) : Bool := s.portA.st = .up && s.portA.framing = 2

/-- Queue a link control block for the back lane (R115): KIND 1 ACK, 2 NAK, 3 CREDIT. -/
def State.lcb (s : State) (kind vc value : Nat) : State :=
  { s with link := { s.link with lcbs := s.link.lcbs ++ [{ kind := kind, vc := vc, value := value }] } }

/-- Send an ACK naming the last SEQ that passed (R126). -/
def State.sendAck (s : State) : State :=
  let t := s.lcb 1 0 (s.link.expSeq - 1).toNat
  { t with link := { t.link with unacked := 0 } }

/-- Send a NAK for E, unless one for E went out less than 20 us ago (R126). -/
def State.sendNak (s : State) : State :=
  if s.link.nakFor = some s.link.expSeq && decide (s.now1 < s.link.nakAt + 20000) then s
  else
    let t := s.lcb 2 0 s.link.expSeq.toNat
    { t with
      link := { t.link with nakFor := some t.link.expSeq, nakAt := t.now1, unacked := 0 }
      portA := { t.portA with naksSent := sat32 (t.portA.naksSent + 1) } }

/-- Lanes a port transmits on, in logical order: the back lane of port A, the lanes of USE_MASK on port B (R97). -/
def State.txLanes (s : State) : PortId → List Nat
  | .a => [0]
  | .b => (List.range 4).filter fun i => s.portB.useMask.getLsbD i

/-- Put elements of the packet stream on a port's lanes: blocks at G2 and G3, characters at G1 (R86, R114). -/
def State.emit (s : State) (p : PortId) (bs : List Blk) (cs : List (BitVec 9)) : State :=
  s.modPort p fun q => { q with line :=
    if q.gen = 1 then { q.line with blocks := [], chars := cs } else q.line.putAll (s.txLanes p) bs }

/-- The waiting LCBs of port A leave, ahead of every packet (R132). -/
def State.flushLcbs (s : State) : State :=
  if s.link.lcbs.isEmpty then s
  else ({ s with link := { s.link with lcbs := [] } } : State).emit .a (s.link.lcbs.map Lcb.blk) (s.link.lcbs.flatMap Lcb.chars)

/-- Initial credits of a receive queue (Table 4.16); in the service-only state VC4 alone (R143). -/
def State.grant (s : State) (vc : Nat) : Nat :=
  if s.start.state = .serviceOnly then (if vc = 4 then 64 else 0)
  else if vc = 0 || vc = 1 || vc = 4 then 64 else if vc = 2 || vc = 3 then 32
  else if 8 ≤ vc && vc ≤ 19 then 96 else 0

/-- Credits a packet costs (R129). -/
def creditCost (len : Nat) : Nat := max 1 (ceilDiv len 256)

/-- CREDIT_HOLD is active on the VC (Table 13.8). -/
def State.creditHeld (s : State) (vc : Nat) : Bool :=
  s.svc.perturb.any fun p => p.control = 1 && p.target = vc && p.value = 1

/-- Send a CREDIT for a VC with its current TOTAL, unless CREDIT_HOLD holds it (R129). -/
def State.sendCredit (s : State) (vc : Nat) : State :=
  if s.creditHeld vc then s
  else
    let t := s.lcb 3 vc (s.link.credits.get {} vc).total
    { t with link := { t.link with credits := t.link.credits.modify {} vc fun c => { c with freed := 0 } } }

/-- Staging bytes a payload takes: whole data blocks (R114). (DESIGN CHOICE: assumption log 53.) -/
def stageBytes (len : Nat) : Nat := ceilDiv len 8 * 8

/-- Charge credits and staging to a VC (R129). -/
def State.charge (s : State) (vc n len : Nat) : State :=
  { s with link := { s.link with credits := s.link.credits.modify {} vc fun c =>
    { c with held := c.held + n, bytes := c.bytes + stageBytes len } } }

/-- Free credits on a VC with their staging; 16 freed since the last CREDIT send one (R129). -/
def State.freeCredits (s : State) (vc n len : Nat) : State :=
  if n = 0 then s
  else
    let t := { s with link := { s.link with credits := s.link.credits.modify {} vc fun c =>
      { held := c.held - n, total := (c.total + n) % 2048, freed := c.freed + n, bytes := c.bytes - stageBytes len } } }
    if 16 ≤ (t.link.credits.get {} vc).freed then t.sendCredit vc else t

/-- A packet within its credits that fails the content stage has them returned; one beyond them was never charged
(R120, R129). -/
def State.returnCredits (s : State) (vc len : Nat) : State :=
  let n := creditCost len
  if s.grant vc < (s.link.credits.get {} vc).held + n then s else (s.charge vc n len).freeCredits vc n len

/-- Bytes a packet takes in a queue: header and payload. -/
def TxPkt.size (p : TxPkt) : Nat := 8 + p.payload.length

/-- Bytes waiting in a transmit queue. -/
def State.queued (s : State) (q : Nat) : Nat := ((s.link.tqs.get [] q).map TxPkt.size).foldl (· + ·) 0

/-- Depth of a transmit queue in bytes (Table 4.17). -/
def queueDepth (q : Nat) : Nat :=
  if q = 0 || q = 1 then 16384 else if q = 2 || q = 5 then 8192 else if q = 3 then 4096 else if q = 4 then 28672
  else if q = 6 then 49152 else 0

/-- A transmit queue has room for a packet, and no earlier producer waits for it (R132). -/
def State.tqRoom (s : State) (q : Nat) (p : TxPkt) : Bool :=
  (s.link.blocked.get [] q).isEmpty && decide (s.queued q + p.size ≤ queueDepth q)

/-- Queue a packet on a transmit queue; the producer of a queue that is full waits with it (R132). -/
def State.enqueue (s : State) (q : Nat) (p : TxPkt) : State :=
  if s.tqRoom q p then { s with link := { s.link with tqs := s.link.tqs.modify [] q fun l => l ++ [p] } }
  else { s with link := { s.link with blocked := s.link.blocked.modify [] q fun l => l ++ [p] } }

/-- Packets at the front of a list that fit into `room` bytes, and the rest. -/
def fitting : Nat → List TxPkt → List TxPkt × List TxPkt
  | _, [] => ([], [])
  | room, p :: ps => if p.size ≤ room then let r := fitting (room - p.size) ps; (p :: r.1, r.2) else ([], p :: ps)

/-- Waiting producers put their packets into a transmit queue as it drains (R132). -/
def State.refill (s : State) (q : Nat) : State :=
  let r := fitting (queueDepth q - s.queued q) (s.link.blocked.get [] q)
  if r.1.isEmpty then s
  else { s with link := { s.link with tqs := s.link.tqs.modify [] q fun l => l ++ r.1, blocked := s.link.blocked.set [] q r.2 } }

/-- Upstream packet of this module. Its ADDR is the one in force as it is queued: R138 does not say which a packet carries that
waits over an ADDR_SET. (DESIGN CHOICE: assumption log 52.) -/
def State.upPkt (s : State) (vc type : Nat) (tag : BitVec 16) (payload : List Byte) : TxPkt :=
  { vc := vc, type := type, tag := tag, addr := BitVec.setWidth 4 s.link.addr, payload := payload }

/-- REPLY payload (Table 4.12). -/
def replyBytes (status type opcode : Nat) (data : List Byte) : List Byte :=
  leBytes 1 status ++ leBytes 1 type ++ leBytes 2 opcode ++ leBytes 2 data.length ++ [0, 0] ++ data

/-- The packet is a broadcast. -/
def isBcast (h : Hdr) : Bool := h.addr = 0xF

/-- Send the REPLY to a packet: none to a broadcast that is accepted (R131); in the AON reply buffer while the MP is not
ready (R366). -/
def State.reply (s : State) (h : Hdr) (type opcode status : Nat) (data : List Byte) : State :=
  if isBcast h && status = 0 then s
  else
    let p := s.upPkt 0 0x11 h.tag (replyBytes status type opcode data)
    if s.mp.ready then s.enqueue 0 p
    else { s with link := { s.link with aonReplies := s.link.aonReplies ++ [p] } }

/-- The waiting replies pass to TQ0 when the MP is ready (R366). -/
def State.flushReplies (s : State) : State :=
  (s.link.aonReplies.foldl (fun t p => t.enqueue 0 p) { s with link := { s.link with aonReplies := [] } })

/-- Types marked REPLY in Table 4.4. -/
def replyTypes : List Nat := [0x10, 0x20, 0x21, 0x30, 0x31, 0x50, 0x81]

/-- A CVU context holds the register of a stream's CRC-32C when its work ends (10 R283, R284). -/
def State.setContext (s : State) (n : Nat) (bs : List Byte) : State :=
  { s with cvu := s.cvu.modify {} n fun c => { c with value := BitVec.ofNat 32 (crc32cRun 0xFFFFFFFF bs) } }

/-- A CVU context of a layer fails its parity: the run is broken, PAR_ERR set, event 0x070C (10 R282). -/
def State.contextBad (s : State) (ctx : Nat) : State :=
  ({ s with cvu := s.cvu.modify {} ctx fun c => { c with parErr := true } } : State).raise 0x070C [(1, ctx)]

/-- A run whose context fails its parity is broken, its context valid from now on. -/
def Run.checked (r : Run) : Run := if r.parBad then { r with broken := true, parBad := false } else r

/-- The running context of a layer is checked as it is used (10 R282). -/
def State.checkRun (s : State) (n : Nat) : State :=
  let l := s.layer n
  (s.cond (l.run.any fun r => r.parBad) fun t => t.contextBad n).modLayer n fun x => { x with run := x.run.map Run.checked }

/-- The checkpoint of a layer is copied back to its running context (10 R273). -/
def State.restoreRun (s : State) (n : Nat) : State :=
  let l := s.layer n
  (s.cond (l.chk.any fun r => r.parBad) fun t => t.contextBad (12 + n)).modLayer n fun x =>
    { x with run := x.chk.map Run.checked, chk := x.chk.map Run.checked }

/-- A WRITE on a layer VC has failed a stage: its layer's checkpoint is copied back (10 R273). -/
def State.restoreFor (s : State) (vc type : Nat) : State :=
  s.cond (type = 0x80 && 8 ≤ vc && vc ≤ 19) fun t => t.restoreRun (vc - 8)

/-- A packet fails the content stage: a REPLY with the status where its type has one, otherwise the discard event with
the cause; its credits return (R120). -/
def State.contentFail (s : State) (h : Hdr) (vc type opcode status cause len : Nat) : State :=
  let t := { s with portA := { s.portA with contentDiscards := sat32 (s.portA.contentDiscards + 1) } }.returnCredits vc len |>.restoreFor vc type
  if replyTypes.contains type then t.reply h type opcode status []
  else t.raiseRated 0x0106 cause [(1, cause), (1, vc), (1, type)]

/-! ### The receive path of port A -/

/-- A packet as the receive path sees it. -/
structure Rx where
  h       : Hdr
  vc      : Nat
  type    : Nat
  opcode  : Nat
  len     : Nat
  payload : List Byte
  /-- LENGTH lies in the range of its TYPE (R120, check 5). -/
  lenOk   : Bool
  /-- The fields its type places in the content stage pass (check 6). -/
  fieldsOk : Bool
  /-- Its consumer (R31), by the numbers of `Wait.who`. -/
  who     : Nat := 0
  /-- First store byte it writes, and the end of those bytes. -/
  lo      : Nat := 0
  hi      : Nat := 0

/-- SEQ classification (R125): 0 the expected one, 1 a duplicate, 2 ahead. -/
def seqClass (e q : BitVec 12) : Nat := if q = e then 0 else if 2048 ≤ (q - e).toNat then 1 else 2

/-- A packet with the expected SEQ passes the link stage: the sequence advances, the eighth unacknowledged packet is
acknowledged at once (R126). -/
def State.linkPass (s : State) : State :=
  let t := { s with link := { s.link with
    expSeq := s.link.expSeq + 1, unacked := s.link.unacked + 1, nakFor := none, failRun := 0 } }
  if 8 ≤ t.link.unacked then t.sendAck else t

/-- A packet that fails for its SEQ: a duplicate is acknowledged again, one ahead is NAKed (R125, R126). -/
def State.linkOther (s : State) (q : BitVec 12) : State :=
  if seqClass s.link.expSeq q = 1 then s.sendAck else s.sendNak

/-- Port B sends packets: trained and up (R140). -/
def State.portBUp (s : State) : Bool := s.portB.st = .up

/-- Queue a packet for port B (R140), holding `credits` of port A, which a broadcast shares with its own consumption
here while that is still to come. -/
def State.forward (s : State) (p : Rx) (credits : Nat) (here : Bool) : State :=
  { s with linkB := { s.linkB with wait := s.linkB.wait ++
      [{ vc := p.vc, type := p.type, addr := p.h.addr, tag := p.h.tag, bcast := isBcast p.h, payload := p.payload,
         credits := credits, aSeq := p.h.seq, here := here, entry := s.halfNow1 }] } }

/-- A bank does not serve an engine access: its group is powered and not initialised, or it is frozen or locked (R172, R185,
R186). -/
def State.bankBlocked (s : State) (b : Nat) : Bool :=
  (if b < 8 then s.power.pd4 else s.power.pd5) &&
    (!(if b < 8 then s.store.init0 else s.store.init1) || (s.bank b).freeze || (s.bank b).owner.isSome)

/-- Store bytes [lo, hi) have a word in a bank (Table 6.1). -/
def bankTouched (lo hi b : Nat) : Bool :=
  let l := max lo (b / 8 * 0x800000) / 32
  let h := min hi (b / 8 * 0x800000 + 0x800000)
  decide (32 * (l + (b + 8 - l % 8) % 8) < h)

/-- Store bytes [lo, hi) lie in part in a bank that does not serve. -/
def State.storeBlocked (s : State) (lo hi : Nat) : Bool :=
  (List.range 16).any fun b => bankTouched lo hi b && s.bankBlocked b

/-- The consumer of an operation is the MP (R31): 1 always, 2 while a session is unlocked, 3 the same with TEST_EN low. -/
def State.mpConsumes (s : State) (who : Nat) : Bool :=
  who = 1 || (s.svc.state = .unlocked && (who = 2 || (who = 3 && !s.start.testEn)))

/-- The consumer of an operation is the SP (R31): 4 always, 2 and 3 while the MP is not. -/
def State.spConsumes (s : State) (who : Nat) : Bool := who = 4 || ((who = 2 || who = 3) && !s.mpConsumes who)

/-- The operation must wait: for the MP or the SP, for room in the AON reply buffer, or for the bank it writes (R31, R172, R366).
(DESIGN CHOICE: assumption log 10.) -/
def State.stays (s : State) (w : Wait) : Bool :=
  (!s.mp.ready && (s.mpConsumes w.who || (w.owes && decide (64 ≤ s.link.aonReplies.length))))
    || (!s.sp.running && s.spConsumes w.who) || s.storeBlocked w.lo w.hi

/-- It must wait, or stands behind an earlier one of its queue (R366). -/
def State.mustWait (s : State) (w : Wait) : Bool := (s.link.waiting.any fun x => x.vc = w.vc) || s.stays w

/-- A packet as it would wait in its receive queue. -/
def Rx.waiting (p : Rx) : Wait :=
  { vc := p.vc, owes := replyTypes.contains p.type, who := p.who, lo := p.lo, hi := p.hi }

/-- An operation is kept in its receive queue, with the stamp of its arrival. -/
def State.keep (s : State) (w : Wait) : State :=
  { s with link := { s.link with waiting := s.link.waiting ++ [{ w with stamp := s.capture 0, content0 := s.now0 }] } }

/-- A packet that passed both stages and is meant for this module: consumed, or kept waiting in its receive queue with
its credits charged. (DESIGN CHOICE: assumption log 10.) -/
def State.deliver (s : State) (i : Instr) (p : Rx) (credits : Nat) (consume : State → State) : State :=
  if s.mustWait p.waiting then s.keep { p.waiting with cmd := i, credits := credits, bytes := p.len }
  else (consume s).freeCredits p.vc credits p.len

/-- A broadcast that is forwarded: consumed here too, its credits freed when both that and the downstream module's
acknowledgement have happened (R130, R131). -/
def State.deliverShared (s : State) (i : Instr) (p : Rx) (n : Nat) (consume : State → State) : State :=
  if s.mustWait p.waiting then
    (s.forward p n true).keep { p.waiting with cmd := i, credits := n, bytes := p.len, shared := some p.h.seq }
  else consume (s.forward p n false)

/-- After the content stage: own address, another module's, or broadcast (R140). -/
def State.route (s : State) (i : Instr) (p : Rx) (consume : State → State) : State :=
  let n := creditCost p.len
  let t := s.charge p.vc n p.len
  if isBcast p.h then
    if t.portB.linked then t.deliverShared i p n consume else t.deliver i p n consume
  else if p.h.addr = BitVec.setWidth 4 t.link.addr then t.deliver i p n consume
  else if t.portB.linked then t.forward p n false
  else (t.freeCredits p.vc n p.len).raiseRated 0x0106 8 [(1, 8), (1, p.vc), (1, p.type)]

/-- The content stage, checks 1 and 5 to 7 of R120 (a command's VC, DIR and TYPE are those of its row); in the
service-only state every VC but VC4 is discarded (R68). -/
def State.content (s : State) (i : Instr) (p : Rx) (consume : State → State) : State :=
  if s.start.state = .serviceOnly && p.vc ≠ 4 then
    { s with portA := { s.portA with contentDiscards := sat32 (s.portA.contentDiscards + 1) } }.raiseRated 0x0106 7
      [(1, 7), (1, p.vc), (1, p.type)]
  else if 8 ≤ p.h.addr.toNat && p.h.addr ≠ 0xF then s.contentFail p.h p.vc p.type p.opcode 4 0 p.len
  else if !p.lenOk then s.contentFail p.h p.vc p.type p.opcode 4 3 p.len
  else if !p.fieldsOk then s.contentFail p.h p.vc p.type p.opcode 4 9 p.len
  else if s.grant p.vc < (s.link.credits.get {} p.vc).held + creditCost p.len then
    s.contentFail p.h p.vc p.type p.opcode 8 5 p.len
  else s.route i p consume

/-- A packet beyond its credits has no room in the staging of its queue (R129, Table 4.16). -/
def State.noStaging (s : State) (vc len : Nat) : Bool :=
  let c := s.link.credits.get {} vc
  decide (0 < s.grant vc) && decide (s.grant vc < c.held + creditCost len)
    && decide (256 * s.grant vc < c.bytes + stageBytes len)

/-- Revision at least `r` is selected (R136). -/
def State.revAtLeast (s : State) (r : Nat) : Bool := r ≤ s.link.rev

/-- The engine is READY. -/
def State.isReady (s : State) : Bool := s.start.state = .ready

/-- A one-shot or counted perturbation is active for a control and target. (DESIGN CHOICE: assumption log 46.) -/
def State.perturbed (s : State) (c t : Nat) : Bool := s.svc.perturb.any fun p => p.control = c && p.target = t

/-! ### Module lines derived from state -/

/-- VLED_INH is asserted: before the Rind runs, for a switch stuck closed, for overcurrent (R327, R419, Table 2.19). -/
def State.vledInh (s : State) : Bool :=
  !s.start.vlog || s.start.state = .powerOn || s.safety.inhSwitch || s.drive.overcurrent

end Sys2Proof.Machine
end

