-- ==== Sys2Proof/Machine/Fixed.lean ====
section
/-!
DEFINITION. Numeric functions the spec gives in real arithmetic: the CIE lightness curve of R212 and the exponentials of
the heat and affinage rules, in fixed point.
-/
namespace Sys2Proof.Machine

/-- Integer cube root by bits: the largest r with r^3 at most `n`, below 2^k more than `acc`. -/
def icbrtGo (n : Nat) : Nat → Nat → Nat
  | 0, acc => acc
  | k + 1, acc => let c := acc + 2 ^ k; icbrtGo n k (if c * c * c ≤ n then c else acc)

/-- Integer cube root of a number below 2^144. (DESIGN CHOICE: assumption log 25.) -/
def icbrt (n : Nat) : Nat := icbrtGo n 48 0

/-- Scale of the lightness arithmetic. -/
def cieOne : Nat := 1099511627776

/-- CIE lightness of v / 65536, scaled (R212). -/
def lstar (v : Nat) : Nat :=
  if 216 * 65536 < v * 24389 then 116 * icbrt (v * cieOne * cieOne * cieOne / 65536) - 16 * cieOne
  else v * 24389 * cieOne / (27 * 65536)

/-- Luminance of a scaled lightness, in 1/65536, rounded to nearest (R212). -/
def ylum (l : Nat) : Nat :=
  if 8 * cieOne < l then
    let a := l + 16 * cieOne
    (a * a * a * 65536 * 2 / (116 * 116 * 116 * cieOne * cieOne * cieOne) + 1) / 2
  else (l * 27 * 65536 * 2 / (24389 * cieOne) + 1) / 2

/-- The rounded result of the CIE branch of fade() (R212). (DESIGN CHOICE: assumption log 16.) -/
def fadeCie (v0 v1 e f : Nat) : Nat :=
  let l0 : Int := lstar v0
  let l1 : Int := lstar v1
  ylum (l0 + (l1 - l0) * e / f).toNat

/-- The engine's own CIE result: the rounded one plus a free difference of at most 1 LSB (R212).
(DESIGN CHOICE: assumption log 16.) -/
def fadeCieEngine (v0 v1 e f : Nat) : Nat :=
  min 65536 (fadeCie v0 v1 e f + Config.freeNat 2 (((v0 * 131072 + v1) * 65536 + e) * 65536 + f) % 3 - 1)

/-- fade() of R212. (DESIGN CHOICE: assumption log 16.) -/
def fadeValue (v0 v1 e f : Nat) (cie : Bool) : Nat :=
  if f = 0 || f ≤ e then v1
  else if cie then fadeCieEngine v0 v1 e f
  else (v0 * (f - e) + v1 * e + f / 2) / f

/-- A fade evaluated at a latch point at `tb2` (R212). -/
def Fade.eval (x : Fade) (tb2 : Nat) : Fade := { x with val := fadeValue x.v0 x.v1 ((tb2 - x.start) / 1000000) x.ms x.curve }

/-- Start a fade from the value in force, or let an equal one continue (R213, R258). -/
def Fade.retarget (x : Fade) (v1 ms : Nat) (curve : Bool) (tb2 : Nat) : Fade :=
  if x.v1 = v1 && x.ms = ms && x.curve = curve then x
  else { v0 := x.val, v1 := v1, ms := ms, curve := curve, start := tb2, val := x.val }

/-- A fade at rest at a value. -/
def Fade.rest (v : Nat) : Fade := { v0 := v, v1 := v, val := v }

/-- alpha8 of R195. -/
def alpha8 (v : Nat) : Nat := v * 257 + v / 128

/-! ### Exponentials and logarithms

Reals are held in units of 2^-64 (assumption log 25). -/

/-- One, in units of 2^-64. -/
def fxOne : Nat := 18446744073709551616
/-- ln 2. -/
def fxLn2 : Nat := 12786308645202655660

/-- The terms of 2 atanh z from term `k` on, `n` of them: `p` is z^(2k+1), `q` is z^2. -/
def atanhGo (q : Nat) : Nat → Nat → Nat → Nat
  | 0, _, _ => 0
  | n + 1, k, p => 2 * p / (2 * k + 1) + atanhGo q n (k + 1) (p * q / fxOne)

/-- ln of a number in [1, 2). -/
def lnMant (m : Nat) : Nat :=
  let z := (m - fxOne) * fxOne / (m + fxOne)
  atanhGo (z * z / fxOne) 24 0 z

/-- ln of the quotient a / b, both at least 1. (DESIGN CHOICE: assumption log 25.) -/
def lnRatio (a b : Nat) : Int :=
  let half (n : Nat) : Int := (lnMant (n * fxOne / 2 ^ Nat.log2 n) : Nat) + (Nat.log2 n * fxLn2 : Nat)
  half (max 1 a) - half (max 1 b)

/-- The terms of exp r from term `k` on, `n` of them, `p` being the term before. -/
def expGo (r : Nat) : Nat → Nat → Nat → Nat
  | 0, _, _ => 0
  | n + 1, k, p => let t := p * r / fxOne / k; t + expGo r n (k + 1) t

/-- exp x; above 2^64 it is held at 2^128 units, below 2^-64 at 0. (DESIGN CHOICE: assumption log 25.) -/
def fxExp (x : Int) : Nat :=
  let n := x / (fxLn2 : Nat)
  let r := (x - n * (fxLn2 : Nat)).toNat
  let m := fxOne + expGo r 26 1 fxOne
  if 64 ≤ n then fxOne * fxOne else if n < -64 then 0 else if 0 ≤ n then m * 2 ^ n.toNat else m / 2 ^ (-n).toNat

/-- Units of 2^-32 of a degree in an S12.4 temperature. -/
def degUnit : Nat := 4294967296
/-- An S12.4 value in units of 2^-32 degC. -/
def ofS124 (v : Int) : Int := v * 268435456
/-- Units of 2^-32 degC narrowed to S12.4 (R13). -/
def toS124 (v : Int) : Int := clampInt (-32768) 32767 (rdiv v 268435456)

end Sys2Proof.Machine
end

