-- ==== Sys2Proof/Machine/LegReg.lean ====
section
/-!
DEFINITION. What the heat policy and the legacy commands share of the legacy personality (14): the register values, the
stripes of a tile column (R387), the STATUS bits (R390) and the temperature registers (R393).
-/
namespace Sys2Proof.Machine

/-- Reset value of a legacy RW register (Table 14.3). -/
def legReset (a : Nat) : Byte :=
  if a = 0x04 then 0x02 else if a = 0x05 then 0xFF else if a = 0x08 then 0x82 else if a = 0x09 then 0xB4
  else if a = 0x0A then 0x01 else if 0x40 ≤ a && a ≤ 0x7F then 0xA0 else 0

/-- Value of a legacy RW register; it is held as the difference from its reset value. -/
def State.legReg (s : State) (a : Nat) : Byte := s.leg.regs.get 0 a ^^^ legReset a

/-- The legacy personality is latched (R77). -/
def State.isLegacy (s : State) : Bool := s.start.pers = .legacy

/-- A STATUS bit is set (R390). -/
def State.legStatus (s : State) (bit : Nat) : State :=
  if s.isLegacy then { s with leg := { s.leg with status := setBit s.leg.status bit true } } else s

/-- CH_CUR of a stripe as in force on the light (R384). -/
def State.chCur (s : State) (c : Nat) : Byte := s.leg.cur.get 0 c ^^^ 0xA0
/-- The stripe is enabled (Table 14.6). -/
def stripeOn (v : Byte) : Bool := bitOf v.toNat 7
/-- CUR of a stripe. -/
def stripeCur (v : Byte) : Nat := v.toNat % 64

/-- The largest CUR among the enabled stripes of a tile column, none when no stripe is enabled (R387). -/
def columnCur (cur : Nat → Byte) (m : Nat) : Option Nat :=
  [0, 1, 2, 3].foldl (fun best i =>
    let v := cur (4 * m + i)
    if stripeOn v then some (max (best.getD 0) (stripeCur v)) else best) none

/-- STRIPE_SCALE of a stripe (R387). -/
def stripeScale (cur : Nat → Byte) (c : Nat) : Nat :=
  let v := cur c
  if stripeOn v then
    let jm := (columnCur cur (c / 4)).getD 0
    (32768 * (8 + stripeCur v) + (8 + jm) / 2) / (8 + jm)
  else 0

/-- floor(T) + 40, saturating in 8 bits; `t` in units of 2^-32 degC (R393). -/
def tempCode (t : Int) : Byte := BitVec.ofNat 8 (clampInt 0 255 (t / (degUnit : Nat) + 40)).toNat

/-- TEMP takes a new value; TEMP_WARN and TEMP_SHUT are set as it reaches its threshold from below, not again while it stays
there (R390, R393). (DESIGN CHOICE: assumption log 52.) -/
def State.setTemp (s : State) (t : Int) : State :=
  let v := tempCode t
  let u : State := { s with leg := { s.leg with temp := v } }
  let w := u.cond (decide (u.legReg 8 ≤ v) && !decide (s.legReg 8 ≤ s.leg.temp)) fun x => x.legStatus 6
  w.cond (decide (u.legReg 9 ≤ v) && !decide (s.legReg 9 ≤ s.leg.temp)) fun x => x.legStatus 5

end Sys2Proof.Machine
end

