-- ==== Sys2Proof/Machine/Nvm.lean ====
section
/-!
DEFINITION. The module flash and the NVM controller (02 R41, 13 R368-R370): bytes, erasure and programming, the two
budgets of the MP and the reserved path's own, flash commands, and the record headers of Tables 12.5 and 15.9.
-/
namespace Sys2Proof.Machine

/-! ### Bytes -/

/-- A byte of an image slot: of the factory image where nothing has erased it (its bytes are unknown), else as
programmed, else erased. (DESIGN CHOICE: assumption log 3.) -/
def Slot.byte (x : Slot) (off : Nat) : Byte :=
  if x.factory && !x.gone.get false (off / 4096) then Config.factoryByte off else x.cells.get 0xFF off

/-- A byte of the flash (Table 2.1). (DESIGN CHOICE: assumption log 48.) -/
def Flash.byte (f : Flash) (a : Nat) : Byte :=
  if a < 0xC00000 then f.slotA.byte a else if a < 0x1800000 then f.slotB.byte (a - 0xC00000) else f.recs.get 0xFF a

/-- `n` values from key `k` on, of a map whose keys below `k` are dropped: one pass. -/
def spanFrom (d : Byte) (k : Nat) : Nat → Sparse Byte → List Byte
  | 0, _ => []
  | n + 1, [] => d :: spanFrom d (k + 1) n []
  | n + 1, (i, v) :: m => if i = k then v :: spanFrom d (k + 1) n m else d :: spanFrom d (k + 1) n ((i, v) :: m)

/-- The values of keys `k` to `k + n - 1`. -/
def sparseSpan (d : Byte) (k n : Nat) (m : Sparse Byte) : List Byte := spanFrom d k n (m.dropWhile fun e => decide (e.1 < k))

/-- `n` bytes of the flash. -/
def Flash.bytes (f : Flash) (a n : Nat) : List Byte :=
  if 0x1800000 ≤ a then sparseSpan 0xFF a n f.recs else (List.range n).map fun i => f.byte (a + i)

/-- Store bytes, whatever stood there. -/
def Flash.put (f : Flash) (a : Nat) (bs : List Byte) : Flash :=
  let ws (base : Nat) : List (Nat × Byte) := bs.mapIdx fun i b => (base + i, b)
  if a < 0xC00000 then { f with slotA := { f.slotA with cells := Sparse.merge 0xFF (ws a) f.slotA.cells } }
  else if a < 0x1800000 then
    { f with slotB := { f.slotB with cells := Sparse.merge 0xFF (ws (a - 0xC00000)) f.slotB.cells } }
  else { f with recs := Sparse.merge 0xFF (ws a) f.recs }

/-- What a program of `b` leaves in a byte that read `old`: on an erased byte `b`; on any other the spec states no
result, and it is a free value. (DESIGN CHOICE: assumption log 15.) -/
def programmed (draw i : Nat) (old b : Byte) : Byte := if old = 0xFF then b else BitVec.ofNat 8 (Config.freeNat 3 (draw * 4096 + i))

/-- Program bytes at a flash address. (DESIGN CHOICE: assumption log 15.) -/
def State.flashProgram (s : State) (a : Nat) (bs : List Byte) : State :=
  let old := s.flash.bytes a bs.length
  let new := (old.zip bs).mapIdx fun i p => programmed s.free i p.1 p.2
  let t : State := { s with flash := s.flash.put a new }
  if old.all fun b => b = 0xFF then t else t.drawn

/-- Region of Table 2.1, in table order. -/
def flashRegion (a : Nat) : Nat :=
  if a < 0xC00000 then 0 else if a < 0x1800000 then 1 else if a < 0x1C00000 then 2 else if a < 0x1C40000 then 3
  else if a < 0x1C80000 then 4 else 5

/-- Erase one sector of a slot. -/
def Slot.eraseSector (x : Slot) (k : Nat) : Slot :=
  { x with
    gone := if x.factory then x.gone.set false k true else x.gone
    cells := x.cells.filter fun c => c.1 / 4096 ≠ k }

/-- Erase the 4 KiB sector that holds an address: every byte reads 0xFF, its erase count rises, and event 0x0A08 tells
when its region first passes 80 000 (R359). -/
def State.flashErase (s : State) (a : Nat) : State :=
  let k := a / 4096
  let f := s.flash
  let g : Flash :=
    if a < 0xC00000 then { f with slotA := f.slotA.eraseSector k }
    else if a < 0x1800000 then { f with slotB := f.slotB.eraseSector (k - 3072) }
    else { f with recs := f.recs.filter fun c => c.1 / 4096 ≠ k }
  let n := f.erases.get 0 k + 1
  let r := flashRegion a
  let t : State := { s with flash := { g with erases := f.erases.set 0 k n } }
  if 80000 < n && !s.affin.wearSeen.getLsbD r then
    { t with affin := { t.affin with wearSeen := setBit t.affin.wearSeen r true } }.raise 0x0A08 [(1, r), (4, n)]
  else t

/-- Erase `n` sectors from an address on. -/
def State.flashEraseMany (s : State) (a n : Nat) : State := s.forEach (List.range n) fun t i => t.flashErase (a + 4096 * i)

/-! ### Budgets (R369, R370) -/

/-- Nanoseconds of an hour. -/
def hourNs : Nat := 3600000000000

/-- A level refilled over `dt` ns at `rate` per hour, capped; its fraction beside it. -/
def refill (level frac rate cap dt : Nat) : Nat × Nat :=
  let acc := frac + dt * rate
  let l := level + acc / hourNs
  if cap ≤ l then (cap, 0) else (l, acc % hourNs)

/-- The budgets after `dt` ns: both MP levels and the reserved path's own (R369). -/
def Nvm.refilled (v : Nvm) (dt : Nat) : Nvm :=
  let p := refill v.prog v.progFrac 4194304 4194304 dt
  let e := refill v.erase v.eraseFrac 1024 256 dt
  let q := refill v.spProg v.spProgFrac 262144 262144 dt
  let x := refill v.spErase v.spEraseFrac 64 64 dt
  { v with
    prog := p.1, progFrac := p.2, erase := e.1, eraseFrac := e.2, spProg := q.1, spProgFrac := q.2, spErase := x.1,
    spEraseFrac := x.2 }

/-- The NVM controller's budgets take new values. -/
def State.setNvm (s : State) (v : Nvm) : State := { s with nvm := v }

/-- The budgets refilled for the time since the last refill (R369). -/
def State.nvmRefill (s : State) : State :=
  s.setNvm { s.nvm.refilled (s.now1 - s.nvm.refillAt) with refillAt := s.now1 }

/-- An MP command refused by a budget: counted, event 0x0C04 with its bytes (R369). -/
def State.nvmRefused (s : State) (bytes : Nat) : State :=
  (s.setNvm { s.nvm with refused := sat16 (s.nvm.refused + 1) }).raiseRatedN 0x0C04 0 bytes []

/-- The part of `n` program bytes that the reservation pays (R370). -/
def Nvm.reserved (v : Nvm) (n : Nat) : Nat := min n v.reserve

/-- The MP's budget allows `n` program bytes: the reservation first, then the level (R370). -/
def State.progFits (s : State) (n : Nat) : Bool := n - s.nvmRefill.nvm.reserved n ≤ s.nvmRefill.nvm.prog

/-- `n` program bytes are charged to the MP (R369, R370). -/
def State.payProg (s : State) (n : Nat) : State :=
  let v := s.nvmRefill.nvm
  s.setNvm { v with reserve := v.reserve - v.reserved n, prog := v.prog - (n - v.reserved n) }

/-- The MP's budget allows `n` sector erases (R369). -/
def State.eraseFits (s : State) (n : Nat) : Bool := n ≤ s.nvmRefill.nvm.erase

/-- `n` sector erases are charged to the MP (R369). -/
def State.payErase (s : State) (n : Nat) : State :=
  let v := s.nvmRefill.nvm
  s.setNvm { v with erase := v.erase - n }

/-- The reserved path's own budget allows `n` program bytes and `k` sector erases (R369). -/
def State.spFits (s : State) (n k : Nat) : Bool := n ≤ s.nvmRefill.nvm.spProg && k ≤ s.nvmRefill.nvm.spErase

/-- Bytes and erases are charged to the reserved path (R369). -/
def State.paySp (s : State) (n k : Nat) : State :=
  let v := s.nvmRefill.nvm
  s.setNvm { v with spProg := v.spProg - n, spErase := v.spErase - k }

/-- A write to RESERVE (R370). -/
def State.doReserve (s : State) (n : Nat) : State :=
  let t := s.nvmRefill
  if t.nvm.prog < n then t.setNvm { t.nvm with reserve := 0, reserveOk := false }
  else t.setNvm { t.nvm with prog := t.nvm.prog - n, reserve := n, reserveOk := true }

/-- RESERVE: the MP writes the register (R370). -/
def execReserve (n : BitVec 23) (s : State) : Host.Outcome State Fault Refusal :=
  .next (if s.mp.ready then s.doReserve n.toNat else s)

/-- The reserved path writes `bs` at `a`, erasing the sector first where `erase` says so, within its own budget; refused
whole where that does not suffice (R369). -/
def State.reservedWrite (s : State) (a : Nat) (bs : List Byte) (erase : Bool) : State :=
  if s.spFits bs.length (b2n erase) then
    ((s.paySp bs.length (b2n erase)).cond erase fun v => v.flashErase a).flashProgram a bs
  else s.nvmRefill

/-- The MP writes `bs` at `a` through its budgets, erasing the sector first where `erase` says so; refused whole
(R369). (DESIGN CHOICE: assumption log 44.) -/
def State.mpWrite (s : State) (a : Nat) (bs : List Byte) (erase : Bool) : State :=
  if !s.eraseFits (b2n erase) then s.nvmRefill.nvmRefused 4096
  else if !(s.payErase (b2n erase)).progFits bs.length then s.nvmRefill.nvmRefused bs.length
  else (((s.payErase (b2n erase)).payProg bs.length).cond erase fun v => v.flashErase a).flashProgram a bs

/-! ### Flash commands (R368) -/

/-- The slot an address lies in is inactive (R79). -/
def State.inactiveSlot (s : State) (a : Nat) : Bool :=
  if a < 0xC00000 then s.start.active ≠ some .a else a < 0x1800000 && s.start.active ≠ some .b

/-- Addresses a writer may write (R368): 1 the heat and safety records, 2 in an unlocked service session the inactive slot
(02 R41), 3 the affinage saves, the start log and the MP records. -/
def State.mayWrite (s : State) (w a : Nat) : Bool :=
  a < 0x2000000 &&
    (if w = 1 then flashRegion a = 3 else if w = 2 then s.svc.state = .unlocked && s.inactiveSlot a
     else flashRegion a = 2 || flashRegion a = 4 || flashRegion a = 5)

/-- Bytes a command covers. -/
def cmdSpan (c : FlashCmd) : Nat := if c.erase then 1 else max 1 c.data.length

/-- A command lies in its writer's regions. -/
def State.cmdAllowed (s : State) (c : FlashCmd) : Bool := s.mayWrite c.writer c.addr && s.mayWrite c.writer (c.addr + cmdSpan c - 1)

/-- The budget of the command's writer allows it. Image operations are bounded by R80. -/
def State.cmdFits (s : State) (c : FlashCmd) : Bool :=
  if c.writer = 2 then true
  else if c.writer = 1 then s.spFits (if c.erase then 0 else c.data.length) (b2n c.erase)
  else if c.erase then s.eraseFits 1 else s.progFits c.data.length

/-- The command's writer is charged. -/
def State.payCmd (s : State) (c : FlashCmd) : State :=
  if c.writer = 2 then s
  else if c.writer = 1 then s.paySp (if c.erase then 0 else c.data.length) (b2n c.erase)
  else if c.erase then s.payErase 1 else s.payProg c.data.length

/-- The controller takes a command: at once when it is free (R368). -/
def Flash.take (f : Flash) (j : FlashJob) : Flash :=
  if f.cur.isNone then { f with cur := some j } else { f with wait := f.wait ++ [j] }

/-- FLASH_COMMAND: begun when the controller is free, otherwise it waits (R368); outside its writer's regions, or beyond
its budget, refused whole (R369). (DESIGN CHOICE: assumption log 44.) -/
def execFlashCommand (c : FlashCmd) (s : State) : Host.Outcome State Fault Refusal :=
  if !s.cmdAllowed c then .next (s.raise 0x0C05 [(1, 1), (4, c.addr)])
  else if s.cmdFits c then .next { s.payCmd c with flash := s.flash.take { cmd := c } }
  else .next (s.nvmRefill.cond (c.writer = 3) fun t => t.nvmRefused (if c.erase then 4096 else c.data.length))

/-- Index of the waiting command served next: the highest priority, the oldest of it. -/
def nextFlash (l : List FlashJob) : Option Nat :=
  [1, 2, 3].findSome? fun w => l.findIdx? fun j => j.cmd.writer = w

/-- The controller turns to its next command. -/
def Flash.turn (f : Flash) : Flash :=
  match nextFlash f.wait with
  | some i => { f with cur := f.wait[i]?, wait := f.wait.eraseIdx i }
  | none => { f with cur := none }

/-- The effect of a command on the flash. -/
def State.flashDo (s : State) (c : FlashCmd) : State :=
  if c.erase then s.flashErase c.addr else s.flashProgram c.addr c.data

/-- An image operation completes: event 0x0B09 (02 R79). -/
def State.imageOp (s : State) (opcode slot result : Nat) : State := s.raise 0x0B09 [(2, opcode), (1, slot), (1, result)]

/-- What follows a completed command: the next sector of an IMAGE_ERASE goes before the later image operations, so that a
reserved write never waits for more than one sector (02 R80); the last one ends its operation. -/
def State.jobDone (s : State) (j : FlashJob) : State :=
  if 0 < j.more then
    let n : FlashJob := { j with cmd := { j.cmd with addr := j.cmd.addr + 4096 }, more := j.more - 1 }
    { s with flash := ({ s.flash with wait := n :: s.flash.wait } : Flash).turn }
  else
    let t : State := { s with flash := s.flash.turn }
    t.cond (j.op ≠ 0) fun u => u.imageOp j.op (if j.cmd.addr < 0xC00000 then 0 else 1) 0

/-- FLASH_COMMAND_DONE: the command in progress completes (R368). -/
def execFlashCommandDone (s : State) : Host.Outcome State Fault Refusal :=
  match s.flash.cur with
  | none => .next s
  | some j => .next ((s.flashDo j.cmd).jobDone j)

/-- The command in progress completes, the others and the rest of its operation are lost: what a reset of the controller leaves
(02 R73, 13 R365, R368). -/
def State.finishFlash (s : State) : State :=
  match s.flash.cur with
  | none => { s with flash := { s.flash with wait := [] } }
  | some j =>
    let t := s.flashDo j.cmd
    { t with flash := { t.flash with cur := none, wait := [] } }

/-- An image operation joins the controller's queue, behind the reserved writes (02 R80). -/
def State.flashQueue (s : State) (j : FlashJob) : State := { s with flash := s.flash.take j }

/-- The sectors and bytes of a queued image operation done. -/
def State.settleJob (s : State) (j : FlashJob) : State :=
  if j.cmd.erase then s.flashEraseMany j.cmd.addr (j.more + 1) else s.flashProgram j.cmd.addr j.cmd.data

/-- The flash as a later image operation finds it: those before it in the queue done. -/
def State.settled (s : State) : State :=
  ((s.flash.cur.toList ++ s.flash.wait).filter fun j => j.cmd.writer = 2).foldl State.settleJob s

/-! ### Records -/

/-- A 60-byte record with its CRC-32C behind it (R349, R411, R412). -/
def withCrc (bs : List Byte) : List Byte := bs ++ leBytes 4 (crc32c bs)

/-- The CRC of a 64-byte record matches. -/
def crcMatches (bs : List Byte) : Bool := fieldAt bs 60 4 = crc32c (bs.take 60)

/-- The 64-byte header of Table 12.5. -/
def saveHeader (magic seq opS serial erases bodyCrc : Nat) : List Byte :=
  withCrc (leBytes 4 magic ++ [1, 0, 0, 0] ++ leBytes 4 seq ++ leBytes 4 opS ++ leBytes 8 serial ++ leBytes 4 erases
    ++ leBytes 4 bodyCrc ++ List.replicate 28 0)

/-- A copy at `a` with its body at `a` + 0x1000 of `len` bytes is valid (R355, R412). -/
def State.copyValid (s : State) (a magic len : Nat) : Bool :=
  let h := s.flash.bytes a 64
  fieldAt h 0 4 = magic && fieldAt h 4 1 = 1 && fieldAt h 16 8 = s.fuse.serial.toNat && crcMatches h
    && fieldAt h 28 4 = crc32c (s.flash.bytes (a + 0x1000) len)

/-- SAVE_SEQ of a copy. -/
def State.copySeq (s : State) (a : Nat) : Nat := fieldAt (s.flash.bytes a 64) 8 4

/-- The valid copy with the highest SAVE_SEQ among addresses, the first of equals. (DESIGN CHOICE: assumption log 44.) -/
def State.latestCopy (s : State) (magic len : Nat) (as : List Nat) : Option Nat :=
  as.foldl (fun best a =>
    if !s.copyValid a magic len then best
    else match best with
      | some b => if s.copySeq b < s.copySeq a then some a else best
      | none => some a) none

/-- The highest valid record number in a ring of 64-byte entries, with its place: `num` reads the number of an entry.
(DESIGN CHOICE: assumption log 44.) -/
def State.ringLast (s : State) (base n : Nat) (ok : List Byte → Bool) (num : List Byte → Nat) : Option (Nat × Nat) :=
  if (s.flash.recs.any fun c => decide (base ≤ c.1) && decide (c.1 < base + 64 * n)) then
    (List.range n).foldl (fun best i =>
      let e := s.flash.bytes (base + 64 * i) 64
      if !(ok e && crcMatches e) then best
      else match best with
        | some b => if b.1 ≤ num e then some (num e, i) else best
        | none => some (num e, i)) none
  else none

end Sys2Proof.Machine
end

