-- ==== Sys2Proof/Machine/Limiter.lean ====
section
/-!
DEFINITION. The Rind clamp, the clamp sets and the rate limiter (01 R29, 11 R300, R307-R312).
-/
namespace Sys2Proof.Machine

/-! ### Parameters -/

/-- The Rind's ROM parameters (Table 11.8); KERB_SIDE and KERB_BAND, which the table does not list, are free values.
(DESIGN CHOICE: assumption log 4, 37.) -/
def romSafety : SafetyP :=
  { cutMin := List.replicate 32 256, cutMax := List.replicate 32 256
    kerbSide := decide (Config.freeNat 14 0 % 2 = 1), kerbBand := Config.freeNat 14 1 % 32 }

/-- The parameters the Rind uses (R329). -/
def State.rindP (s : State) : SafetyP := if s.safety.romParams then romSafety else s.safety.copy.getD romSafety

/-- The parameters the SP uses: its own copy of the section (R305, R306). -/
def State.spP (s : State) : SafetyP := if s.safety.copy.isSome then s.img.safety else romSafety

/-! ### Quantities -/

/-- Drop the 8 fraction bits, rounding down (R309). -/
def floor8 (x : Int) : Int := x / 256
/-- Drop the 8 fraction bits, rounding up (R309). -/
def ceil8 (x : Int) : Int := (x + 255) / 256

/-- One quantity's movement in a run of `dt` ms (R309): safe at once, unsafe at most `step` per ms. -/
def moveQ (sign : Int) (step : Nat) (dt : Nat) (tgt eff : Int) : Int :=
  let d := sign * (tgt * 256 - eff)
  if d ≤ 0 then tgt * 256 else eff + sign * min d ((step * dt : Nat) : Int)

/-- 16 codes per millisecond. -/
def codeStep : Nat := 4096

/-- Every edge of the zone equals its target. -/
def ZoneL.arrived (z : ZoneL) : Bool :=
  z.ex0 = z.tx0 * 256 && z.ex1 = z.tx1 * 256 && z.ey0 = z.ty0 * 256 && z.ey1 = z.ty1 * 256

/-- Movement of a zone. -/
def ZoneL.move (z : ZoneL) (rate dt : Nat) : ZoneL :=
  { z with
    ex0 := moveQ 1 rate dt z.tx0 z.ex0, ex1 := moveQ (-1) rate dt z.tx1 z.ex1
    ey0 := moveQ 1 rate dt z.ty0 z.ey0, ey1 := moveQ (-1) rate dt z.ty1 z.ey1
    elim := moveQ 1 codeStep dt z.tlim z.elim }

/-- Effective cutoff row of a band. -/
def Limiter.row (l : Limiter) (b : Nat) : Int := l.rows.get 65536 b
/-- Bounded requested row of a band. -/
def Limiter.wanted (l : Limiter) (b : Nat) : Int := l.want.get 256 b
/-- Set the effective row of a band. -/
def Limiter.setRow (l : Limiter) (b : Nat) (v : Int) : Limiter := { l with rows := l.rows.set 65536 b v }

/-- The bands. -/
def bands : List Nat := List.range 32

/-- CUT_DEF of a band. -/
def cutDefOf (p : SafetyP) (b : Nat) : Nat := p.cutDef.getD b 256

/-- Bound a requested row to [CUT_MIN, CUT_MAX] (R307). -/
def boundRow (p : SafetyP) (b r : Nat) : Nat := min (max r (p.cutMin.getD b 256)) (p.cutMax.getD b 256)

/-- Target row of a band: while DEGRADED never above CUT_DEF (R311). -/
def rowTarget (p : SafetyP) (deg : Bool) (l : Limiter) (b : Nat) : Int :=
  if deg && decide (l.wanted b < (cutDefOf p b : Nat)) then (cutDefOf p b : Nat) else l.wanted b

/-- Target of the margin W (R311). -/
def marginTarget (p : SafetyP) (deg : Bool) : Int := if deg then (p.degMargin : Nat) else 0
/-- Target of CAP (R311). -/
def capTarget (p : SafetyP) (deg : Bool) : Int := if deg then ((p.degCap * 4095 / 100 : Nat) : Int) else 4095

/-- The band lies outside the kerb side (R308). -/
def offKerb (p : SafetyP) (b : Nat) : Bool := if p.kerbSide then decide (b < p.kerbBand) else decide (p.kerbBand < b)

/-- The direction check of a tick: a row outside the kerb side below CUT_DEF is set to CUT_DEF (R308). -/
def kerbCheck (p : SafetyP) (l : Limiter) : Limiter :=
  bands.foldl (fun m b => if decide (ceil8 (m.row b) < (cutDefOf p b : Nat)) && offKerb p b
    then m.setRow b ((cutDefOf p b : Nat) * 256) else m) l

/-- Slots of removed zones that have arrived are freed at a tick (R310). -/
def freeZones (l : Limiter) : Limiter :=
  { l with zones := l.zones.filter fun z => !(z.2.used && z.2.removing && z.2.arrived) }

/-- limiter_run() of R309 (dt = 1 on a tick, after R308 and R310; dt = 0 otherwise). -/
def limiterRun (p : SafetyP) (deg : Bool) (dt : Nat) (l0 : Limiter) : Limiter :=
  let l := if dt = 0 then l0 else kerbCheck p (freeZones l0)
  let r := bands.foldl (fun m b => m.setRow b (moveQ (-1) p.rateLimit dt (rowTarget p deg l b) (l.row b))) l
  { r with
    zones := l.zones.map fun z => (z.1, z.2.move p.rateLimit dt)
    w := moveQ (-1) p.rateLimit dt (marginTarget p deg) l.w
    cap := moveQ 1 codeStep dt (capTarget p deg) l.cap }

/-- The clamp set of the limiter's quantities (R309): the margin widens, rounding enlarges. -/
def clampSetOf (p : SafetyP) (l : Limiter) : ClampSet :=
  let w := ceil8 l.w
  let zone (z : ZoneL) : ZoneC :=
    { used := true, x0 := (max 0 (floor8 z.ex0 - w)).toNat, x1 := (min 2047 (ceil8 z.ex1 + w)).toNat
      y0 := (max 0 (floor8 z.ey0 - w)).toNat, y1 := (min 511 (ceil8 z.ey1 + w)).toNat, lim := (floor8 z.elim).toNat }
  { rows := bands.foldl (fun m b => m.set 256 b (ceil8 (l.row b)).toNat) []
    above := p.aboveCut
    zones := (l.zones.filter fun z => z.2.used).map fun z => (z.1, zone z.2)
    cap := (floor8 l.cap).toNat }

/-- Every quantity at its target (R309, at BRING_UP): the valid default zones, CUT_DEF bounded, W 0, CAP 4095. -/
def limiterStart (p : SafetyP) (zs : List ZoneRec) : Limiter :=
  let rows := bands.map fun b => (b, boundRow p b (cutDefOf p b))
  { zones := zs.foldl (fun m z => m.put z.id
      { used := true, ex0 := z.x0 * 256, ex1 := z.x1 * 256, ey0 := z.y0 * 256, ey1 := z.y1 * 256, elim := z.limit * 256
        tx0 := z.x0, tx1 := z.x1, ty0 := z.y0, ty1 := z.y1, tlim := z.limit }) []
    rows := rows.foldl (fun m r => m.set 65536 r.1 (r.2 * 256 : Nat)) []
    want := rows.foldl (fun m r => m.set 256 r.1 (r.2 : Nat)) [] }

/-! ### The clamp -/

/-- Cutoff row of a band in a set. -/
def ClampSet.row (c : ClampSet) (b : Nat) : Nat := c.rows.get 256 b

/-- A zone covers a pixel. -/
def ZoneC.covers (z : ZoneC) (x y : Nat) : Bool :=
  z.used && decide (z.x0 ≤ x) && decide (x ≤ z.x1) && decide (z.y0 ≤ y) && decide (y ≤ z.y1)

/-- rind_clamp() of R300. -/
def rindClamp (k : ClampSet) (c x y : Nat) : Nat :=
  let c1 := if y < k.row (x / 64) then min c k.above else c
  let c2 := k.zones.foldl (fun v z => if z.2.covers x y then min v z.2.lim else v) c1
  min c2 k.cap

/-! ### Swaps -/

/-- Coordinates at which the limits of a set can change. -/
def ClampSet.edgesX (c : ClampSet) : List Nat := c.zones.flatMap fun z => [z.2.x0, z.2.x1 + 1]
def ClampSet.edgesY (c : ClampSet) : List Nat :=
  (c.zones.flatMap fun z => [z.2.y0, z.2.y1 + 1]) ++ bands.map c.row

/-- Some pixel's limit under `new` is lower than under `old` (R312), judged at every corner of their areas. -/
def tightens (old new : ClampSet) : Bool :=
  let xs := (bands.map fun b => 64 * b) ++ old.edgesX ++ new.edgesX
  let ys := 0 :: (old.edgesY ++ new.edgesY)
  ys.any fun y => decide (y < 512) && xs.any fun x =>
    decide (x < 2048) && decide (rindClamp new 4095 x y < rindClamp old 4095 x y)

/-- The tightened rectangles of a swap (R312): zones new, grown or with a lower limit, cutoffs lowered, CAP lowered. -/
def tightRects (old new : ClampSet) : List (Nat × Nat × Nat × Nat) :=
  let zs := new.zones.filterMap fun z =>
    let o := old.zones.get {} z.1
    let n := z.2
    if n.used && (!o.used || n.x0 < o.x0 || o.x1 < n.x1 || n.y0 < o.y0 || o.y1 < n.y1 || n.lim < o.lim)
    then some (n.x0, n.x1, n.y0, n.y1) else none
  let cs := bands.filterMap fun b =>
    if old.row b < new.row b then some (64 * b, 64 * b + 63, old.row b, new.row b - 1) else none
  zs ++ cs ++ (if new.cap < old.cap then [(0, 2047, 0, 511)] else [])

/-! ### Running it -/

/-- DEGRADED is in force. -/
def State.degraded (s : State) : Bool := s.safety.state = .degraded

/-- Both channels run the limiter; the Rind's result is written as the pending set, which completes with the run (R29,
R306, R309). -/
def State.runLimiter (s : State) (dt : Nat) : State :=
  let l := limiterRun s.rindP s.degraded dt s.zones.lim
  let m := limiterRun s.spP s.degraded dt s.zones.spLim
  let c := clampSetOf s.rindP l
  { s with zones := { s.zones with lim := l, spLim := m, work := c, pending := some c } }

end Sys2Proof.Machine
end

