-- ==== Sys2Proof/Machine/Power.lean ====
section
/-!
DEFINITION. What makes a quadrant lit, and its wake (R262, R265), and the LUT memory they look at (R56, R385).
-/
namespace Sys2Proof.Machine

/-- The base curve of the LUT memory: the factory table of R56, or the legacy table of R385. -/
def lutBase (legacy : Bool) (i : Nat) : Nat :=
  if legacy then (16 * i + 128) / 257 + i / 257 / 16 else (4095 * i + 32767) / 65535

/-- LUT[i]; the LUT memory is held as the difference from the base curve. After a loss of its contents every entry is a free
value (01 R40). (DESIGN CHOICE: assumption log 4, 27.) -/
def State.lut (s : State) (i : Nat) : Nat :=
  match s.out.lutGone with
  | none => s.out.lut.get 0 i ^^^ lutBase s.out.lutLegacy i
  | some d => Config.freeNat 16 (65536 * d + i) % 4096

/-- Bytes per pixel (Table 7.3). -/
def pixelBytes (format : Nat) : Nat := if format = 0 then 1 else if format = 3 then 3 else if format = 4 then 4 else 2

/-- The surface span of a descriptor: first byte and rounded end (R194). -/
def descSpan (d : Desc) : Nat × Nat :=
  let e := d.surf.toNat + (d.srcH.toNat - 1) * d.stride.toNat + d.srcW.toNat * pixelBytes d.format
  (d.surf.toNat, ceilDiv e 8 * 8)

/-- Columns of the clipped destination rectangle, half-open (R200). -/
def descCols (d : Desc) : Int × Int := (max 0 d.dstX.toInt, min 2048 (d.dstX.toInt + d.dstW.toNat))
/-- Rows of the clipped destination rectangle, half-open (R200). -/
def descRows (d : Desc) : Int × Int := (max 0 d.dstY.toInt, min 512 (d.dstY.toInt + d.dstH.toNat))

/-- The descriptor a layer is composed with: its active one, or the fields kept for a fade-out (R198, R213). -/
def Layer.used (l : Layer) : Desc := if l.active.visible then l.active else l.kept

/-- Content columns and rows of a quadrant's half, after the mirror (R6, R9): whether [lo, hi) meets it. -/
def meetsHalf (lo hi : Int) (half upper : Nat) : Bool :=
  decide (lo < hi) && (if upper = 1 then decide ((half : Int) < hi) else decide (lo < half))

/-- A clipped destination rectangle meets quadrant `q` (R262 item 3). -/
def State.rectMeets (s : State) (d : Desc) (q : Nat) : Bool :=
  let right := if s.img.mirrorX then 1 - q % 2 else q % 2
  let bottom := if s.img.mirrorY then 1 - q / 2 else q / 2
  meetsHalf (descCols d).1 (descCols d).2 1024 right && meetsHalf (descRows d).1 (descRows d).2 256 bottom

/-- A layer that could place light in `q`: BLEND 0, 1 or 3 and a rectangle in it. -/
def State.descLights (s : State) (d : Desc) (q : Nat) : Bool := d.blend ≠ 2 && s.rectMeets d q

/-- A profile holds a non-zero byte that maps into `q` (R262 item 2). -/
def State.profileLights (s : State) (p q : Nat) : Bool := p ≠ 255 && (s.comp.nonzero.get 0 p).getLsbD q

/-- The master dimmer is, or is pending to be, other than 0. -/
def State.masterOn (s : State) : Bool :=
  s.comp.master.val ≠ 0 || s.comp.master.v1 ≠ 0 ||
    s.comp.bound.any fun b => match b.kind with
      | .master v _ _ => v ≠ 0
      | _ => false

/-- The may-be-lit condition of R262 for quadrant `q`, over the active state and what is pending. -/
def State.couldLight (s : State) (q : Nat) : Bool :=
  s.masterOn &&
    (s.lut 0 ≠ 0
      || s.profileLights s.comp.pA q || s.profileLights s.comp.pB q
      || (s.layers.any fun l => l.fade.val ≠ 0 && s.descLights l.used q)
      || (s.comp.pending.any fun c => c.copies.any fun x =>
            x.2.visible && (x.2.alpha ≠ 0 || (s.layer x.1).fade.val ≠ 0) && s.descLights x.2 q)
      || (s.comp.bound.any fun b => match b.kind with
            | .profile p _ _ => s.profileLights p q
            | _ => false))

/-- An MP access that is refused (R36, R263): event 0x0C05. (DESIGN CHOICE: assumption log 33.) -/
def State.badSwitch (s : State) (addr : Nat) : State := s.raise 0x0C05 [(1, 2), (4, addr)]

/-- Address of DRV_QPWR on the register bridge (Tables 13.2, 9.8). -/
def qpwrAddr : Nat := 0x02100

/-- A quadrant's domain switch closes: every latch is written to code 0 (R241, Table 9.5). -/
def State.closeSwitch (s : State) (q : Nat) : State :=
  let t := s.modQuad q fun x =>
    { x with powered := true, waking := true, ready := false, on := false, granted := false, heldSegs := [] }
  { t with latches := t.latches.filter fun x => quadOfTile (tileOfPixel x.1) ≠ q }

/-- A wake of a quadrant that is off begins: event 0x0604 (R265). -/
def State.wake (s : State) (q : Nat) : State := if (s.quad q).powered then s else (s.closeSwitch q).raise 0x0604 [(1, q)]

/-- A granted switch-off is refused after all, with the refusal's event (R36, R37). -/
def State.withdrawOff (s : State) (q : Nat) : State :=
  s.cond (s.quad q).granted fun t =>
    (t.modQuad q fun k => { k with granted := false }).cond (t.start.state ≠ .serviceOnly) fun u => u.badSwitch qpwrAddr

/-- A quadrant's may-be-lit bit takes a value. While it is 1 the dark timer stands, counting from its fall; at 1 a granted
switch-off is refused after all, and a powered-down quadrant is woken (R37, R263, R265). -/
def State.setLit (s : State) (q : Nat) (on : Bool) : State :=
  let t := s.modQuad q fun k => { k with lit := on, darkFrom := if on || k.lit then s.now1 else k.darkFrom }
  t.cond on fun u => (u.withdrawOff q).wake q

/-- At the acceptance of a request (R262): a bit can only become 1. -/
def State.litOnAccept (s : State) : State :=
  s.forEach [0, 1, 2, 3] fun t q => if t.couldLight q then t.setLit q true else t

/-- At a latch point (R262). -/
def State.litAtLatch (s : State) : State := s.forEach [0, 1, 2, 3] fun t q => t.setLit q (t.couldLight q)

/-- A non-zero code is written for a quadrant: its dark timer restarts (R263). -/
def State.codeWritten (s : State) (q : Nat) : State := s.modQuad q fun k => { k with darkFrom := s.now1 }

end Sys2Proof.Machine
end

