-- ==== Sys2Proof/Machine/Safe.lean ====
section
/-!
DEFINITION. What the safety commands share (11): the causes and requests of the two channels (R315, R318), the
effective state (R314, R316), tile cuts (R324), the quadrant commands the Rind sends (R267), painting (R319), FAULT_N
(R331).
-/
namespace Sys2Proof.Machine

/-! ### Causes and requests (Table 11.6, rows counted from 0) -/

def cLinkHold : Nat := 0
def cSafetyCrc : Nat := 1
def cDegTime : Nat := 2
def cClock : Nat := 3
def cSpWatchdog : Nat := 4
def cStall : Nat := 5
def cSwitch : Nat := 6
def cStuckFull : Nat := 7
def cBadZone : Nat := 8
def cDisagree : Nat := 9
def cSuppress : Nat := 10
def cReadback : Nat := 11
def cCrcGen : Nat := 12
def cStale : Nat := 13
def cSetDiff : Nat := 14
def cMpBite : Nat := 15
def cOsc : Nat := 16
def cHeartbeat : Nat := 17
def cCapStall : Nat := 18

/-- A cause bit is set in a mask. -/
def hasAny (m : BitVec 19) (l : List Nat) : Bool := l.any fun i => m.getLsbD i

/-- The Rind's own request: 0 NORMAL, 1 DEGRADED, 2 off class (Table 11.6). -/
def State.rindOwn (s : State) : Nat :=
  let m := s.safety.rindCauses
  if hasAny m [cLinkHold, cDegTime, cClock, cSpWatchdog, cStuckFull, cDisagree, cCapStall] then 2
  else if hasAny m [cSafetyCrc, cStall, cSwitch, cBadZone] then 1 else 0

/-- The SP's own request (Table 11.6); a clamp-set difference asks for FALLBACK from its 10th tick on (R306). -/
def State.spOwn (s : State) : Nat :=
  let m := s.safety.spCauses
  if hasAny m [cOsc, cHeartbeat] || (m.getLsbD cSetDiff && decide (10 ≤ s.zones.diffRun)) then 2
  else if hasAny m [cSuppress, cReadback, cCrcGen, cStale, cSetDiff, cMpBite] then 1 else 0

/-- A channel's request as events and status give it: the off class is FALLBACK, or DARK for an expired link hold with
LBREQ inactive (Table 11.6). -/
def reqNumber (level : Nat) (m : BitVec 19) (lbreq : Bool) : Nat :=
  if level = 2 && m.getLsbD cLinkHold && !lbreq then 3 else level

/-- The SP's own request as the Rind last received it; missing 3 times in a row it is FALLBACK (R315). -/
def State.spSeen (s : State) : Nat := if 3 ≤ s.safety.spMiss then 2 else s.safety.spSent
/-- The Rind's own request as the SP last received it. -/
def State.rindSeen (s : State) : Nat := if 3 ≤ s.safety.rindMiss then 2 else s.safety.rindSent

/-- Full requests (R315). -/
def State.rindFull (s : State) : Nat := max s.rindOwn s.spSeen
def State.spFull (s : State) : Nat := max s.spOwn s.rindSeen

/-- The vote the Rind acts on: its full request, which takes in the SP's last word (R315). -/
def State.vote (s : State) : Nat := s.rindFull

/-- The full requests of both channels are NORMAL (R72, R316). -/
def State.bothNormal (s : State) : Bool := s.rindFull = 0 && s.spFull = 0

/-- Causes held until the next start (Table 11.6). -/
def untilStart : BitVec 19 :=
  BitVec.ofNat 19 (2 ^ cSafetyCrc + 2 ^ cClock + 2 ^ cSwitch + 2 ^ cStuckFull + 2 ^ cBadZone + 2 ^ cDisagree + 2 ^ cCrcGen
    + 2 ^ cOsc + 2 ^ cHeartbeat)

/-- Both channels' causes, as one mask. -/
def State.allCauses (s : State) : BitVec 19 := s.safety.rindCauses ||| s.safety.spCauses

/-! ### Quadrant commands the Rind sends (Table 9.6) -/

/-- A command word with its CRC8. -/
def quadWord (cmd tile : Nat) (all : Bool) (x0 x1 y0 y1 arg : Nat) : BitVec 64 :=
  let body := cmd * 2 ^ 60 + tile % 16 * 2 ^ 56 + b2n all * 2 ^ 55 + x0 % 128 * 2 ^ 48 + x1 % 128 * 2 ^ 41
    + y0 % 128 * 2 ^ 34 + y1 % 128 * 2 ^ 27 + arg % 4096 * 2 ^ 15
  BitVec.ofNat 64 (body + crcMsbBits 8 0x07 56 (body / 256) 0)

/-- Local index of a tile in its quadrant (R267). -/
def localOf (t : Nat) : Nat := 8 * (t / 16 % 2) + t % 8
/-- Tile of a quadrant's local index. -/
def tileOf (q l : Nat) : Nat := 16 * (2 * (q / 2) + l / 8) + 8 * (q % 2) + l % 8

/-- Send a command on a quadrant's bus; it awaits its answer (R268, R328). -/
def State.sendCmd (s : State) (q : Nat) (w : BitVec 64) (stall : Bool) : State :=
  { s with safety := { s.safety with cmds := s.safety.cmds ++ [{ quad := q, word := w, stall := stall }] } }

def State.sendSource (s : State) (q : Nat) (localSrc : Bool) : State :=
  s.sendCmd q (quadWord 4 0 true 0 0 0 0 (b2n localSrc * 2048)) false
def State.sendOverride (s : State) (q : Nat) (on : Bool) (o : Nat) : State :=
  s.sendCmd q (quadWord 3 0 true 0 0 0 0 (b2n on * 2048 + o % 256 * 8)) false
def State.sendCeil (s : State) (t c : Nat) : State :=
  s.sendCmd (quadOfTile t) (quadWord 2 (localOf t) false 0 0 0 0 (c % 256 * 16)) false

/-- FILL_RECTs over the intersection of an array rectangle with each tile of a quadrant (R313, R319). -/
def State.sendFill (s : State) (q : Nat) (x0 x1 y0 y1 code : Nat) (stall : Bool) : State :=
  s.forEach (tilesOfQuad q) fun u t =>
    let bx := tileX t
    let by' := tileY t
    if x1 < bx || bx + 127 < x0 || y1 < by' || by' + 127 < y0 then u
    else u.sendCmd q (quadWord 1 (localOf t) false (max x0 bx - bx) (min x1 (bx + 127) - bx) (max y0 by' - by')
      (min y1 (by' + 127) - by') code) stall

/-! ### Tile cuts (Table 11.7, rows counted from 0) -/

def kDark : Nat := 0
def kStuck : Nat := 1
def kSegment : Nat := 2
def kFill : Nat := 3
def kHeat : Nat := 4

/-- The Rind runs: VLOG is valid and the safety oscillator turns (R299). -/
def State.rindRuns (s : State) : Bool := s.start.vlog && s.clk.safe && !s.safety.oscStopped

/-- The tile's cut line is low: a cause holds, or the Rind does not run and every cut line has fallen (R299, Table 2.19). -/
def State.isCut (s : State) (t : Nat) : Bool := !s.rindRuns || s.safety.cuts.get 0 t ≠ 0

/-- VLED_INH follows the tiles whose stuck-closed switch leaves them without their cut (R327). -/
def State.checkInh (s : State) : State :=
  let now := (List.range 64).any fun t => s.safety.switchClosed.getLsbD t && s.isCut t
  let t : State := { s with safety := { s.safety with inhSwitch := now } }
  t.cond (now && !s.safety.inhSwitch) fun u => u.raise 0x0808 [(1, 0)]

/-- A cause of a tile cut arises or clears (R324): each cut and each release raises event 0x0807. -/
def State.setCut (s : State) (t row : Nat) (on : Bool) : State :=
  let old := s.safety.cuts.get 0 t
  let new := setBit old row on
  if new = old then s
  else
    let u : State := { s with safety := { s.safety with cuts := s.safety.cuts.set 0 t new } }
    let v := u.cond (decide ((old = 0) ≠ (new = 0))) fun x => x.raise 0x0807 [(1, t), (1, b2n on), (1, row)]
    v.checkInh

/-! ### FALLBACK and DARK (R319) -/

/-- A quadrant's bus takes commands: its tiles are powered and ready. -/
def State.quadReady (s : State) (q : Nat) : Bool := (s.quad q).powered && (s.quad q).ready

/-- The commands that paint the fallback beam in one quadrant (R49, R319). -/
def State.paintBeam (s : State) (q : Nat) : State :=
  let p := s.rindP
  let t := (s.sendSource q true).sendOverride q true p.fbCurrent
  t.forEach bands fun u b =>
    let r := p.fbRow.getD b 264
    let v := u.cond (decide (0 < r)) fun w => w.sendFill q (64 * b) (64 * b + 63) 0 (min r 512 - 1) p.fbAbove false
    v.cond (decide (r < 512)) fun w => w.sendFill q (64 * b) (64 * b + 63) r 511 p.fbCode false

/-- The command that darkens one quadrant: FILL_RECT code 0 over every tile (R319). -/
def State.paintDark (s : State) (q : Nat) : State := s.sendCmd q (quadWord 1 0 true 0 127 0 127 0) false

/-- What the Rind paints, sent to a quadrant that is ready. -/
def State.paintQuad (s : State) (q : Nat) : State :=
  if !s.quadReady q then s
  else match s.safety.paint with
    | .none => s
    | .beam => s.paintBeam q
    | .dark => s.paintDark q

/-- The power-force line of a quadrant is asserted, which powers it (R37, R265). -/
def State.forceOn (s : State) (q : Nat) : State := ((s.modQuad q fun k => { k with forced := true }).withdrawOff q).wake q

/-- Painting starts (R319): every tile is held under fill, quadrants that are off are forced on (in the service-only state only
for the beam, 02 R68), and the ready ones are painted. `beam` is false for DARK, where every cut line falls. (DEDUCED: assumption
log 45.) -/
def State.startPaint (s : State) (beam : Bool) : State :=
  let t : State := { s with safety := { s.safety with
    held := BitVec.allOnes 64, handover := false, paint := if beam then .beam else .dark } }
  let u := t.forEach (List.range 64) fun v i => v.setCut i kDark (!beam)
  let w := u.forEach [0, 1, 2, 3] fun v q => v.cond (!v.quadReady q && (beam || v.start.state ≠ .serviceOnly)) fun x => x.forceOn q
  w.forEach [0, 1, 2, 3] State.paintQuad

/-- The Rind paints anew with the parameters it now holds. -/
def State.repaint (s : State) : State := s.forEach [0, 1, 2, 3] State.paintQuad

/-- Number of a safety state (Table 15.2). -/
def stateNum : SafeState → Nat
  | .normal => 0
  | .degraded => 1
  | .fallback => 2
  | .dark => 3

/-- The state is in the off class (R314). -/
def SafeState.off : SafeState → Bool
  | .fallback => true
  | .dark => true
  | _ => false

/-- FALLBACK or DARK, as LBREQ decides (R314). -/
def State.offState (s : State) : SafeState := if s.safety.lbreq then .fallback else .dark

/-- The beam is painted in this state: in FALLBACK, in the service-only state while VLED is present too (02 R68). -/
def State.beamDue (s : State) (n : SafeState) : Bool := n = .fallback && (s.start.state ≠ .serviceOnly || s.drive.present)

/-- What the Rind paints in the off class is painted anew: started where it must change. -/
def State.paintAnew (s : State) : State :=
  if !s.safety.state.off then s
  else if decide (s.safety.paint = .beam) = s.beamDue s.safety.state then s.repaint
  else s.startPaint (s.beamDue s.safety.state)

/-- The effective state changes (R316): event 0x0801, a limiter run with dt = 0, and painting on entry to the off class.
The change brings a change at the next latch point (R235). -/
def State.changeState (s : State) (n : SafeState) : State :=
  if s.safety.state = n then s
  else
    let t : State := { s with
      safety := { s.safety with state := n, degMs := 0 }, grid := { s.grid with change := true } }
    let u := t.raise 0x0801 [(1, stateNum s.safety.state), (1, stateNum n), (4, s.allCauses.toNat)]
    let v := u.runLimiter 0
    if n.off then v.startPaint (v.beamDue n)
    else v.forEach (List.range 64) fun w i => w.setCut i kDark false

/-- The effective state follows the vote (R314, R315, Table 11.5). Causes cleared once the state is in the off class
clear here. -/
def State.judge (s : State) : State :=
  let v := s.vote
  let latch := s.safety.offLatch || (s.safety.firstNormal && (2 ≤ v || (s.safety.state.off && v ≠ 0)))
  let t : State := { s with safety := { s.safety with offLatch := latch } }
  let n : SafeState :=
    if latch || t.safety.state.off || 2 ≤ v then t.offState else if v = 1 then .degraded else t.safety.state
  let u := t.changeState n
  if u.safety.state.off then
    { u with safety := { u.safety with
      rindCauses := setBit (setBit u.safety.rindCauses cDegTime false) cCapStall false } }
  else u

/-- A cause of a channel arises or clears: event 0x0802 when the channel's own request changes (R318), the time its
request has been NORMAL restarts, and the effective state follows. -/
def State.setCause (s : State) (rind : Bool) (row : Nat) (on : Bool) : State :=
  let t : State :=
    if rind then { s with safety := { s.safety with rindCauses := setBit s.safety.rindCauses row on } }
    else { s with safety := { s.safety with spCauses := setBit s.safety.spCauses row on } }
  let before := if rind then s.rindOwn else s.spOwn
  let after := if rind then t.rindOwn else t.spOwn
  let mask := if rind then t.safety.rindCauses else t.safety.spCauses
  let u : State :=
    if rind then { t with safety := { t.safety with rindOkMs := if after = 0 && before = 0 then t.safety.rindOkMs else 0 } }
    else { t with safety := { t.safety with spOkMs := if after = 0 && before = 0 then t.safety.spOkMs else 0 } }
  let v := u.cond (before ≠ after) fun w =>
    w.raise 0x0802 [(1, b2n rind), (1, reqNumber after mask s.safety.lbreq), (4, mask.toNat)]
  v.judge

/-- A cause that is cleared at once, the off latch holding the state (Table 11.6). -/
def State.pulseCause (s : State) (row : Nat) : State := (s.setCause true row true).setCause true row false

/-! ### FAULT_N (R331) -/

/-- FAULT_N is asserted. -/
def State.faultN (s : State) : Bool :=
  s.safety.state = .degraded || (s.safety.state.off && s.safety.firstNormal)
    || s.safety.disagree || s.safety.stuckReset || s.safety.switchFault ≠ 0 || s.drive.overcurrent
    || s.safety.clockFault ≠ 0 || s.safety.oscFault || s.safety.crcBad || s.safety.voteBad
    || s.safety.rindCauses.getLsbD cBadZone
    || s.sp.heldOff || s.sp.beatFault
    || s.start.vlog && (s.start.state = .powerOn || s.start.state = .serviceOnly
      || (s.start.state = .bringUp && decide (2 ≤ s.start.attempts)))

end Sys2Proof.Machine
end

