-- ==== Sys2Proof/Machine/Tiles.lean ====
section
/-!
DEFINITION. Pixel cells, tiles and the quadrant command bus (09): latches, count buses, tile current, fill engines, the
Rind's handling of answers, the module limiter and the VLED monitor.
-/
namespace Sys2Proof.Machine

/-! ### Pixel cells -/

/-- Counts conducted in a period in which code `a` is replaced by `b` at count `w` (R243). -/
def onCounts (a b w : Nat) : Nat :=
  let e (c : Nat) : Nat := if c = 4095 then 4096 else c
  min (e a) w + (e b - w)

/-- A latch holding a code with valid parity: an even number of ones (R241). -/
def latchWord (c : BitVec 12) : BitVec 13 := BitVec.ofNat 13 (c.toNat + popCount 12 c.toNat % 2 * 4096)

/-- The code bits of a latch. -/
def latchCode (v : BitVec 13) : BitVec 12 := BitVec.ofNat 12 v.toNat

/-- The latch's parity check passes (R244). -/
def latchOk (v : BitVec 13) : Bool := popCount 13 v.toNat % 2 = 0

/-- Pixel index of a tile's local row and column (R4, R5). -/
def tilePixel (t row col : Nat) : Nat := 2048 * (tileY t + row) + tileX t + col

/-- The latch of a tile's local row and column. (DESIGN CHOICE: assumption log 48.) -/
def State.latch (s : State) (t row col : Nat) : BitVec 13 := s.latches.get 0 (tilePixel t row col)

/-- A latch write covers columns `mask` of a tile's row: a measured period of the row loses its results, tamps on the
columns end (R288, R292). -/
def State.rowTouched (s : State) (t row : Nat) (mask : BitVec 128) : State :=
  match (s.tile t).meas with
  | some m =>
    if m.row = row && mask ≠ 0 then
      s.modTile t fun x => { x with meas := some { m with dirty := true }, tamp := x.tamp &&& ~~~mask }
    else s
  | none => s

/-- Write one row of a tile with codes, all 13 bits of each latch (R241). -/
def State.writeRow (s : State) (t row : Nat) (codes : List (BitVec 12)) : State :=
  let ws := (codes.take 128).mapIdx fun i c => (tilePixel t row i, latchWord c)
  ({ s with latches := Sparse.merge 0 ws s.latches }).rowTouched t row (BitVec.allOnes 128)

/-! ### Count buses and tile current -/

/-- Operation code of a control word (R250). -/
def ctlOp (w : BitVec 96) : Nat := bitsOf w.toNat 88 8

/-- A tile's links carry segments: its quadrant is powered. -/
def State.tileOn (s : State) (t : Nat) : Bool := (s.quad (quadOfTile t)).powered

/-- A segment header with its HCRC (Table 8.3). -/
def segHeader (kind row : Nat) (keep : Bool) (plen frame8 : Nat) : BitVec 32 :=
  let body := kind * 2 ^ 28 + row % 128 * 2 ^ 21 + b2n keep * 2 ^ 20 + plen % 16 * 2 ^ 16 + frame8 % 256 * 2 ^ 8
  BitVec.ofNat 32 (body + crcMsbBits 8 0x07 24 (body / 256) 0)

/-- A header that a tile does not ignore: its HCRC, its KIND, and a PLEN that suits it, 16 written as 0 (Table 8.3, R223).
(DESIGN CHOICE: assumption log 35.) -/
def headerOk (kind w : Nat) : Bool :=
  w % 256 = crcMsbBits 8 0x07 24 (w / 256) 0 && bitsOf w 28 4 = kind && (kind = 2 || bitsOf w 16 4 = 16 % 16)

/-- The `n` low bits of `v`, most significant first (R222). -/
def msbBits : Nat → Nat → List Bool
  | 0, _ => []
  | n + 1, v => bitOf v n :: msbBits n v

/-- LINE_CRC of payload words (R222). -/
def payloadCrc (ws : List (BitVec 96)) : Nat := ws.foldl (fun c w => crc16Bits 96 w.toNat c) 0xFFFF

/-- The bits of a segment in transmission order: SYNC, HEADER, PAYLOAD, LINE_CRC (Table 8.2). -/
def segBits (hdr : BitVec 32) (ws : List (BitVec 96)) : List Bool :=
  msbBits 32 0xB59E2C47 ++ msbBits 32 hdr.toNat ++ (ws.flatMap fun w => msbBits 96 w.toNat) ++ msbBits 16 (payloadCrc ws)

/-- Data lanes 0 and 1 of a segment: bits 2i and bits 2i + 1 (R222). -/
def segLanes : List Bool → List Bool × List Bool
  | a :: b :: l => let r := segLanes l; (a :: r.1, b :: r.2)
  | [a] => ([a], [])
  | [] => ([], [])

/-- The engine sends a tile a control word, in a segment of its own; the latest of its kind waits there for the tile's
reception. A tile without power is sent none (R250, R264). (DESIGN CHOICE: assumption log 35.) -/
def State.sendCtl (s : State) (t key : Nat) (w : Nat) : State :=
  if s.tileOn t then
    s.modTile t fun x =>
      { x with ctl := x.ctl.put key (BitVec.ofNat 96 w)
               ctlHead := x.ctlHead.put key (segHeader 2 0 (s.grid.kind = .keepAlive) 1 (s.grid.frame.toNat % 256)) }
  else s

/-- A readback word with its HCRC (Table 8.4). -/
def readbackWord (kind row : Nat) (keep crcFail parity : Bool) (frame8 sig : Nat) : BitVec 48 :=
  let body := kind * 2 ^ 44 + row * 2 ^ 37 + b2n keep * 2 ^ 36 + b2n crcFail * 2 ^ 35 + b2n parity * 2 ^ 34 + frame8 * 2 ^ 24 + sig * 2 ^ 8
  BitVec.ofNat 48 (body + crcMsbBits 8 0x07 40 (body / 256) 0)

/-- The readback segment: the sync 0x9D2B, then the word (R225). -/
def readbackSegment (w : BitVec 48) : BitVec 64 := BitVec.ofNat 64 (0x9D2B * 2 ^ 48 + w.toNat)

/-- Header of the control segment that carries a word: as the engine sent it, or for one sent as it arrives, of this frame. -/
def State.ctlHeader (s : State) (t key : Nat) : BitVec 32 :=
  match (s.tile t).ctlHead.find? fun e => e.1 = key with
  | some e => e.2
  | none => segHeader 2 0 (s.grid.kind = .keepAlive) 1 (s.grid.frame.toNat % 256)

/-- A control word of an operation arrives at a tile: the word waiting under `key` is taken, `f` is its effect, and the
tile acknowledges its segment with `row` and `sig`, KEEPALIVE and FRAME8 copied from the header; a segment whose header fails
is ignored and counted (R223, R225, R287). `seg` is the row that a MEAS has named in the segment. (Which words share a segment, DESIGN
CHOICE: assumption log 35.) -/
def State.onWord (s : State) (t key op : Nat) (w : BitVec 96) (seg : Option Nat) (row sig : Nat) (f : Tile → Tile) : State :=
  let h := (s.ctlHeader t key).toNat
  if !s.tileOn t || ctlOp w ≠ op then s
  else if !headerOk 2 h then s.modTile t fun x => { x with ignored := x.ignored + 1 }
  else
    s.modTile t fun x =>
      { f { x with ctl := x.ctl.drop key, ctlHead := x.ctlHead.drop key } with
        segRow := seg
        rbWord := readbackWord 2 row (bitOf h 20) false false (bitsOf h 8 8) sig }

/-- A control word that is a segment of its own and acknowledges with zeros. -/
def State.onCtl (s : State) (t : Nat) (op : Nat) (w : BitVec 96) (f : Tile → Tile) : State :=
  s.onWord t (4 * op) op w none 0 0 f

/-- The fused ceiling CF[t]; the fuses are held as 255 - CF[t]. (DESIGN CHOICE: assumption log 2.) -/
def State.fusedCeil (s : State) (t : Nat) : Nat := 255 - s.fuse.ceils.get 0 t

/-- The Rind ceiling a tile holds; one that has received none holds its fused ceiling (Table 9.9). -/
def State.ceilOf (s : State) (t : Nat) : Nat := match (s.tile t).ceil with
  | some c => c.toNat
  | none => s.fusedCeil t

/-- The target of a tile's applied code (R254). -/
def State.curTarget (s : State) (t : Nat) : Nat :=
  let x := s.tile t
  min (if x.ovrEn then x.ovr.toNat else x.tgt.toNat) (s.ceilOf t)

/-- TILE cycles, with 8 fraction bits, of a local-source period: 4096 / 2.5 MHz (R252). -/
def localPeriod : Nat := 167772160

/-- PERIOD of a timing mode and a PWM_DIV, in TILE cycles with 8 fraction bits (R246). -/
def pwmUnits (rate div : Nat) : Nat := rdivNat 102400000000 (max 1 (rate * div))

/-- PERIOD of the timing mode and PWM_DIV in force (R246). -/
def State.pwmPeriod (s : State) : Nat := pwmUnits s.modeNow.rate s.drive.pwmDiv

/-- The TILE clock, 400 MHz of the crystal PLLs: cycles so far (R246). -/
def State.tileNow (s : State) : Nat := s.clk.tb1 * 2 / (5 * nsUnit)

/-- Period a tile runs on. -/
def Tile.periodUsed (x : Tile) : Nat := if x.localSrc then localPeriod else x.period.toNat

/-- The count of the period in progress at TILE cycle `now`: 4096 from its natural end to a later boundary that an ALIGN
has named (R242, R246, R248). -/
def Tile.count (x : Tile) (now : Nat) : Nat := min 4096 ((256 * now - x.start) * 4096 / max 1 x.periodUsed)

/-- The output device conducts at a count (R242): code 4095 at every count, that of the gap included. -/
def conducts (c n : Nat) : Bool := c = 4095 || decide (n < c)

/-- The period in progress ends, at the boundary the last ALIGN named or at its natural end, and the next begins; a PERIOD that
waited for the ALIGN takes effect (R246, R248). -/
def Tile.nextPeriod (x : Tile) : Tile :=
  match x.align with
  | some n => { x with start := 256 * n, align := none, period := x.periodNew.getD x.period, periodNew := none }
  | none => { x with start := x.start + x.periodUsed }

/-- TILE cycles from now to a tile's first boundary when its boundaries are anchored to the latch point `l` of TB2 with PERIOD
`p`: L + (t mod 64) Tp/64 + m Tp, on the nearest 2.5 ns edge (R246, R247). -/
def State.alignDelay (s : State) (l p t : Nat) : Nat :=
  let cyc : Nat := 81920 * nsUnit
  let x : Int := ((l * nsUnit : Nat) - (s.clk.tb2 : Int)) * 32768 + (t % 64 * p * 5 * nsUnit : Nat)
  (rdiv (if x < 0 then x % (max 1 (p * 320 * nsUnit) : Nat) else x) cyc).toNat

/-- That boundary as a TILE cycle. -/
def State.alignAt (s : State) (l p t : Nat) : Nat := s.tileNow + s.alignDelay l p t

/-- Units of a code in which the slew is accumulated: codes x TILE cycles / 256 per millisecond. -/
def slewUnit : Nat := 102400000

/-- The movement of A at a period boundary (R254). -/
def Tile.slewTo (x : Tile) (tgt : Nat) : Tile :=
  let a := x.applied.toNat
  if x.ovrNew || a = tgt then { x with applied := BitVec.ofNat 8 tgt, frac := 0, ovrNew := false }
  else
    let acc := x.frac + x.slew * x.periodUsed
    let n := acc / slewUnit
    let gap := if a < tgt then tgt - a else a - tgt
    if gap ≤ n then { x with applied := BitVec.ofNat 8 tgt, frac := 0 }
    else { x with applied := BitVec.ofNat 8 (if a < tgt then a + n else a - n), frac := acc - n * slewUnit }

/-- TILE_PERIOD_BOUNDARY: the next period begins (R248); A slews (R254); a row that a MEAS has named is measured in the
period that begins (R288). (DESIGN CHOICE: assumption log 50.) -/
def execTilePeriodBoundary (t : Fin 64) (s : State) : Host.Outcome State Fault Refusal :=
  if s.tileOn t then
    let tgt := s.curTarget t
    .next (s.modTile t fun x =>
      { (x.slewTo tgt).nextPeriod with
        meas := x.measNext.map fun m => { m with dirty := s.drive.low }
        measNext := none, segRow := none })
  else .next s

/-- CUR_SET (Table 9.1): SLEW 0 is handled as 1. -/
def execCurSet (t : Fin 64) (w : BitVec 96) (s : State) : Host.Outcome State Fault Refusal :=
  .next (s.onCtl t 1 w fun x =>
    { x with tgt := BitVec.ofNat 8 (bitsOf w.toNat 80 8), slew := max 1 (bitsOf w.toNat 72 8) })

/-- PWM_SET (Table 9.1): ignored outside its range and in local mode (R251, R252). -/
def execPwmSet (t : Fin 64) (w : BitVec 96) (s : State) : Host.Outcome State Fault Refusal :=
  let p := bitsOf w.toNat 60 28
  .next (s.onCtl t 2 w fun x =>
    if x.localSrc || p < 25600000 || 204800000 < p then x
    else { x with periodNew := some (BitVec.ofNat 28 p), phase := some (BitVec.ofNat 6 (bitsOf w.toNat 54 6)) })

/-- ALIGN (Table 9.1): names the tile's next boundary, DELAY from now, with which a waiting PERIOD takes effect (R248, R251). -/
def execAlign (t : Fin 64) (w : BitVec 96) (s : State) : Host.Outcome State Fault Refusal :=
  let n := s.tileNow + bitsOf w.toNat 64 24
  .next (s.onCtl t 3 w fun x => if x.localSrc then x else { x with align := some n })

/-- Tile heat band. -/
def State.tileBand (s : State) (t : Nat) : Nat := (s.thermal.tiles.get {} t).band

/-- SLEW of a tile's band (R255). -/
def State.slewOf (s : State) (t : Nat) : Nat := s.img.thermal.slew.getD (s.tileBand t) 1

/-- The engine sends a tile its CUR_SET (R255). -/
def State.sendCurSet (s : State) (t : Nat) : State :=
  s.sendCtl t 4 (1 * 2 ^ 88 + (s.tile t).req.toNat * 2 ^ 80 + s.slewOf t % 256 * 2 ^ 72)

/-- The engine sends a tile its thresholds (R290). -/
def State.sendThresh (s : State) (t : Nat) : State :=
  let b := s.tileBand t
  s.sendCtl t 276 (0x45 * 2 ^ 88 + s.img.thermal.openMv.getD b 150 % 1024 * 2 ^ 78 + s.img.thermal.shortMv.getD b 1800 % 4096 * 2 ^ 66)

/-- A tile's request takes a value: forwarded in a CUR_SET when it changes (R255), reported when it first exceeds the
fused ceiling (Table 9.12). -/
def State.setRequest (s : State) (t q : Nat) : State :=
  let beyond := decide (s.fusedCeil t < q)
  let changed := decide ((s.tile t).req.toNat ≠ q % 256)
  let seen := (s.tile t).ceilSeen
  let u := s.modTile t fun x => { x with req := BitVec.ofNat 8 q, ceilSeen := beyond }
  (u.cond changed fun v => v.sendCurSet t).cond (beyond && !seen) fun v => v.raiseRated 0x0601 t [(1, t)]

/-- DRV_TILE_WRITE: REQ is the only field the MP writes (Table 9.9). -/
def execDrvTileWrite (t : Fin 64) (v : BitVec 32) (s : State) : Host.Outcome State Fault Refusal :=
  .next (s.setRequest t (v.toNat % 256))

/-! ### The quadrant command bus -/

def qCmd (w : BitVec 64) : Nat := bitsOf w.toNat 60 4
def qTile (w : BitVec 64) : Nat := bitsOf w.toNat 56 4
def qAll (w : BitVec 64) : Bool := bitOf w.toNat 55
def qArg (w : BitVec 64) : Nat := bitsOf w.toNat 15 12
/-- CRC8 of the command passes. -/
def qCrcOk (w : BitVec 64) : Bool := w.toNat % 256 = crcMsbBits 8 0x07 56 (w.toNat / 256) 0
/-- The command is executed, not answered with NAK: its CRC8 passes and its CMD is not reserved (R267). -/
def qValid (w : BitVec 64) : Bool := qCrcOk w && decide (1 ≤ qCmd w) && decide (qCmd w ≤ 5)
/-- Tiles a command addresses, in the order of their answers. -/
def qTiles (q : Nat) (w : BitVec 64) : List Nat :=
  if qAll w then (List.range 16).map (tileOf q) else [tileOf q (qTile w)]

/-- A tile's answer (Table 9.7). -/
def State.answer (s : State) (t : Nat) (nak : Bool) : BitVec 16 :=
  let x := s.tile t
  let hi := localOf t
  let mid := b2n nak * 8 + b2n x.localSrc * 4 + b2n x.ovrEn * 2 + b2n (!x.held.isEmpty)
  BitVec.ofNat 16 (hi * 4096 + mid * 256 + (hi ^^^ mid))

/-- A command arrives on a quadrant's bus (R267, R268): `nak` and `f` give, per tile, whether it is refused there and its
effect. A word of another command is not this command's. -/
def State.busCommand (s : State) (cmd q : Nat) (w : BitVec 64) (nak : Tile → Bool) (f : State → Nat → State) : State :=
  if !(s.quad q).powered || (qValid w && qCmd w ≠ cmd) then s
  else
    let t0 := s.modQuad q fun k => { k with answers := [] }
    t0.forEach (qTiles q w) fun u t =>
      let n := !qValid w || nak (u.tile t)
      let v := if n then u else f u t
      v.modQuad q fun k => { k with answers := k.answers ++ [v.answer t n] }

/-- Rectangle of a FILL_RECT. -/
def qRect (w : BitVec 64) : Rect :=
  { x0 := bitsOf w.toNat 48 7, x1 := bitsOf w.toNat 41 7, y0 := bitsOf w.toNat 34 7, y1 := bitsOf w.toNat 27 7
    code := BitVec.ofNat 12 (qArg w) }

/-- FILL_RECT: it joins the held set and the sweep starts again; a ninth is answered NAK; an empty one writes nothing
(R267, R268). -/
def execFillRect (q : Fin 4) (w : BitVec 64) (s : State) : Host.Outcome State Fault Refusal :=
  let r := qRect w
  .next (s.busCommand 1 q w (fun x => decide (8 ≤ x.held.length)) fun u t =>
    if r.x1 < r.x0 || r.y1 < r.y0 then u else u.modTile t fun x => { x with held := x.held ++ [r], wrote := 0 })

/-- SET_CEIL: an applied code above the new ceiling falls to it at once (R254). -/
def execSetCeil (q : Fin 4) (w : BitVec 64) (s : State) : Host.Outcome State Fault Refusal :=
  let c := qArg w / 16
  .next (s.busCommand 2 q w (fun _ => false) fun u t => u.modTile t fun x =>
    { x with ceil := some (BitVec.ofNat 8 c), applied := BitVec.ofNat 8 (min x.applied.toNat c) })

/-- SET_OVERRIDE: what enables, disables, or changes an enabled O moves A at the next boundary without slew (R254). -/
def execSetOverride (q : Fin 4) (w : BitVec 64) (s : State) : Host.Outcome State Fault Refusal :=
  let en := bitOf (qArg w) 11
  let o := BitVec.ofNat 8 (qArg w / 8)
  .next (s.busCommand 3 q w (fun _ => false) fun u t => u.modTile t fun x =>
    { x with ovrEn := en, ovr := o, ovrNew := x.ovrNew || en ≠ x.ovrEn || (en && o ≠ x.ovr) })

/-- SET_SOURCE: each change of source raises event 0x0608; the phase of the local source counts from this command (R252). -/
def execSetSource (q : Fin 4) (w : BitVec 64) (s : State) : Host.Outcome State Fault Refusal :=
  let l := bitOf (qArg w) 11
  .next (s.busCommand 4 q w (fun _ => false) fun u t =>
    if (u.tile t).localSrc = l then u
    else (u.modTile t fun x =>
      { x with localSrc := l, align := if l then some (u.tileNow + rdivNat (t * localPeriod) 16384) else none }).raise 0x0608
        [(1, t), (1, b2n l)])

/-- STATUS: the answer alone (Table 9.6). -/
def execQuadStatus (q : Fin 4) (w : BitVec 64) (s : State) : Host.Outcome State Fault Refusal :=
  .next (s.busCommand 5 q w (fun _ => false) fun u _ => u)

/-- A rectangle covers a tile-local pixel. -/
def Rect.covers (r : Rect) (row col : Nat) : Bool :=
  decide (r.y0 ≤ row) && decide (row ≤ r.y1) && decide (r.x0 ≤ col) && decide (col ≤ r.x1)

/-- Latch writes of one row of a sweep: the most recently received covering rectangle wins (R268). -/
def sweepRowWrites (t row : Nat) (held : List Rect) : List (Nat × BitVec 13) :=
  let rs := (held.filter fun r => decide (r.y0 ≤ row) && decide (row ≤ r.y1)).reverse
  if rs.isEmpty then []
  else (List.range 128).filterMap fun col =>
    (rs.find? fun r => r.covers row col).map fun r => (tilePixel t row col, latchWord r.code)

/-- Columns of a row that the held rectangles cover. -/
def coverMask (row : Nat) (held : List Rect) : BitVec 128 :=
  (List.range 128).foldl (fun m c => if held.any fun r => r.covers row c then setBit m c true else m) 0

/-- FILL_SWEEP_DONE: a sweep has painted every held rectangle, in order of receipt, and they leave the set (R268). In a row
that a segment wanted during the sweep the fill wrote first and the segment's codes stand (R245); the rule speaks of both at
once, and here a segment during the sweep counts as that. (DESIGN CHOICE: assumption log 52.) -/
def execFillSweepDone (t : Fin 64) (s : State) : Host.Outcome State Fault Refusal :=
  let x := s.tile t
  if !s.tileOn t || x.held.isEmpty then .next s
  else
    let ws := ((List.range 128).filter fun row => !x.wrote.getLsbD row).flatMap fun row => sweepRowWrites t row x.held
    let u : State := { s with latches := Sparse.merge 0 ws s.latches }
    let v := match x.meas with
      | some m => u.rowTouched t m.row (coverMask m.row x.held)
      | none => u
    .next (v.modTile t fun y => { y with held := [], wrote := 0 })

/-! ### Answers as the Rind receives them (R328) -/

/-- Index of the first command of a quadrant that awaits an answer and satisfies `p`. -/
def findCmd (q : Nat) (p : BitVec 64 → Bool) (l : List QuadCmd) : Option Nat :=
  l.findIdx? fun c => c.quad = q && p c.word

/-- Power-force is released once every FILL_RECT of a DARK quadrant is answered (R37). In the service-only state the quadrant,
powered only as the beam requires, then goes off (02 R68). -/
def State.darkDone (s : State) (q : Nat) : State :=
  if s.safety.paint = .dark && !(s.safety.cmds.any fun c => c.quad = q) && !s.zones.blankQuads.getLsbD q then
    s.modQuad q fun k => { k with forced := false, granted := k.granted || (k.powered && s.start.state = .serviceOnly) }
  else s

/-- A command has failed: sent once more, or given up, the tiles it addresses cut, event 0x0811 (R328). -/
def State.cmdFailed (s : State) (q i : Nat) : State :=
  let c := s.safety.cmds.getD i {}
  if !c.resent then
    { s with safety := { s.safety with cmds := s.safety.cmds.modify i fun x => { x with resent := true } } }
  else
    let t : State := { s with safety := { s.safety with cmds := s.safety.cmds.eraseIdx i } }
    ((t.forEach (qTiles q c.word) fun u x => u.setCut x kFill true).raise 0x0811 [(1, q), (1, qCmd c.word)]).darkDone q

/-- A command is answered by its last tile. -/
def State.cmdDone (s : State) (q i : Nat) : State :=
  { s with safety := { s.safety with cmds := s.safety.cmds.eraseIdx i } }.darkDone q

/-- COMMAND_ANSWER: the answer of a tile to the oldest command that addresses it (R268, R328). An answer whose CHK does
not match is no answer. -/
def execCommandAnswer (q : Fin 4) (a : BitVec 16) (s : State) : Host.Outcome State Fault Refusal :=
  let v := a.toNat
  let l := bitsOf v 12 4
  if bitsOf v 0 4 ≠ (l ^^^ bitsOf v 8 4) ^^^ bitsOf v 4 4 then .next s
  else match findCmd q (fun w => qAll w || qTile w = l) s.safety.cmds with
    | none => .next s
    | some i =>
      let w := (s.safety.cmds.getD i {}).word
      if bitOf v 11 then .next (s.cmdFailed q i)
      else if qAll w && l ≠ 15 then .next s
      else .next (s.cmdDone q i)

/-- COMMAND_TIMEOUT: the oldest command of the quadrant has no answer within 2 us (R328). -/
def execCommandTimeout (q : Fin 4) (s : State) : Host.Outcome State Fault Refusal :=
  match findCmd q (fun _ => true) s.safety.cmds with
  | none => .next s
  | some i => .next (s.cmdFailed q i)

/-- POWER_FORCE_RELEASE: 10 ms after the last FILL_RECT of a stall blanking is answered, unless another cause needs the
line (R37). -/
def execPowerForceRelease (q : Fin 4) (s : State) : Host.Outcome State Fault Refusal :=
  if s.zones.blankQuads.getLsbD q then
    let t : State := { s with zones := { s.zones with blankQuads := setBit s.zones.blankQuads q false } }
    .next (if t.safety.paint = .none then t.modQuad q fun k => { k with forced := false } else t.darkDone q)
  else .next s

/-! ### Module limiter and VLED monitor -/

/-- Current limit for a mean voltage (R256). -/
def limitMa (mv : Nat) : Nat := min 12000 (40000000 / max 3000 mv)

/-- CL after a millisecond (R256). -/
def nextCl (cl ma lim : Nat) : Nat :=
  if lim < ma then (if 8 < cl then cl - 8 else 0) else if ma * 100 < lim * 95 && cl < 255 then cl + 1 else cl

/-- The limiter limits a tile: its request, or its enabled override, lies above CL and so does its fused ceiling. -/
def State.clLimits (s : State) (cl t : Nat) : Bool :=
  let x := s.tile t
  decide (cl < s.fusedCeil t) && decide (cl < (if x.ovrEn then x.ovr.toNat else x.tgt.toNat))

/-- MODULE_LIMIT_UPDATE (R256). The Rind sends SET_CEIL where min(CF, CL) has changed. -/
def execModuleLimitUpdate (ma mv : Nat) (s : State) : Host.Outcome State Fault Refusal :=
  let lim := limitMa mv
  let cl := nextCl s.drive.cl ma lim
  let act := decide (cl < 255) && (List.range 64).any (s.clLimits cl)
  let t : State := { s with drive := { s.drive with
    cl := cl, iLim := lim, limActive := act, vledMa := ma, vledMv := mv } }
  let u := t.forEach (List.range 64) fun v x =>
    v.cond (min (s.fusedCeil x) s.drive.cl ≠ min (s.fusedCeil x) cl && v.quadReady (quadOfTile x)) fun y =>
      y.sendCeil x (min (s.fusedCeil x) cl)
  .next (u.cond (act ≠ s.drive.limActive) fun v => v.raise 0x0602 [(1, b2n act), (1, cl)])

/-- OVERCURRENT: VLED_INH and FAULT_N are latched until the next start (R256, R327). -/
def execOvercurrent (ma : Nat) (s : State) : Host.Outcome State Fault Refusal :=
  if 16000 < ma && !s.drive.overcurrent then
    let t : State := { s with drive := { s.drive with overcurrent := true } }
    .next ((t.raise 0x0810 [(2, sat16 ma)]).raise 0x0808 [(1, 1)])
  else .next s

/-- VLED_LOW: the condition begins below 3.30 V and ends at 3.35 V; measured periods that overlap it are discarded
(R420). -/
def execVledLow (mv : Nat) (s : State) : Host.Outcome State Fault Refusal :=
  let ev (t : State) (low : Bool) : State := t.raiseRated 0x0609 0 [(1, b2n low), (2, sat16 mv)]
  if !s.drive.low && decide (mv < 3300) then
    let t : State := { s with drive := { s.drive with low := true } }
    let u := t.forEach (List.range 64) fun v x =>
      if (v.tile x).meas.isSome then v.modTile x fun y => { y with meas := y.meas.map fun m => { m with dirty := true } } else v
    .next (ev u true)
  else if s.drive.low && decide (3350 ≤ mv) then .next (ev { s with drive := { s.drive with low := false } } false)
  else .next s

/-- VLED_PRESENT: present at 3.00 V, no longer below 2.90 V (R420); in the service-only state the beam follows it (02 R68). -/
def execVledPresent (mv : Nat) (s : State) : Host.Outcome State Fault Refusal :=
  let p := if s.drive.present then decide (2900 ≤ mv) else decide (3000 ≤ mv)
  let t : State := { s with drive := { s.drive with present := p } }
  .next (t.cond (s.start.state = .serviceOnly && p ≠ s.drive.present) State.paintAnew)

/-! ### Quadrant power requests and stripe scales -/

/-- OFF_REQ (R263): granted when the dark timer has run, the quadrant is not lit and the power-force line is not
asserted. -/
def execOffReq (q : Fin 4) (s : State) : Host.Outcome State Fault Refusal :=
  let k := s.quad q
  let ok := decide (k.darkFrom + 1000000 * s.drive.qdarkMs ≤ s.now1) && !k.lit && !k.forced
  let t := s.modQuad q fun x => { x with offReq := true }
  if !k.powered then .next t
  else if ok then .next (t.modQuad q fun x => { x with granted := true })
  else .next (t.badSwitch qpwrAddr)

/-- WAKE_REQ: the MP writes 0 to OFF_REQ (R265). -/
def execWakeReq (q : Fin 4) (s : State) : Host.Outcome State Fault Refusal :=
  .next ((s.modQuad q fun x => { x with offReq := false, granted := false }).wake q)

/-- DRV_STRIPE_WRITE: in the legacy personality, from the next latch point on; values above 0x8000 are ignored (R259,
Table 9.11). -/
def execDrvStripeWrite (c : Fin 64) (v : BitVec 32) (s : State) : Host.Outcome State Fault Refusal :=
  let x := v.toNat % 65536
  if s.start.pers = .legacy && x ≤ 0x8000 then
    .next { s with out := { s.out with
      stripeNext := s.out.stripeNext.set 0x8000 c x
      stripeDirty := s.out.stripeDirty || s.out.stripeNext.get 0x8000 c ≠ x } }
  else .next s

end Sys2Proof.Machine
end

