-- ==== Sys2Proof/Machine/Heat.lean ====
section
/-!
DEFINITION. Heat (12 R335-R349): the readings and their trust, the heat bands, derating, shutdown, the hard cut and the
heat record. Temperatures are in units of 2^-32 degC unless a name or a rule says S12.4.
-/
namespace Sys2Proof.Machine

/-! ### Readings -/

/-- A SENSOR_OVERRIDE in force on a source (Table 13.8): tile 0-63, 64 + q quadrant, 68 die, 69 NTC. -/
def State.overridden (s : State) (src : Nat) : Option Int :=
  (s.svc.perturb.find? fun p => p.control = 9 && p.target = src).map fun p => signedOf 16 p.value.toNat

def State.tsensor (s : State) (t : Nat) : TSensor := s.thermal.tiles.get {} t
def State.qsensor (s : State) (q : Nat) : QSensor := s.thermal.quads.get {} q
def State.setTsensor (s : State) (t : Nat) (x : TSensor) : State :=
  { s with thermal := { s.thermal with tiles := s.thermal.tiles.set {} t x } }
def State.setQsensor (s : State) (q : Nat) (x : QSensor) : State :=
  { s with thermal := { s.thermal with quads := s.thermal.quads.set {} q x } }

/-- Readings in S12.4 as every use but the hard cut takes them. -/
def State.tRead (s : State) (t : Nat) : Int := (s.overridden t).getD (s.tsensor t).raw
def State.qRead (s : State) (q : Nat) : Int := (s.overridden (64 + q)).getD (s.qsensor q).raw
def State.dieRead (s : State) : Int := (s.overridden 68).getD s.thermal.die
def State.ntcRead (s : State) : Int := (s.overridden 69).getD s.thermal.ntc

/-- Out of range: below -55 degC or above 200 degC (R335). -/
def outOfRange (r : Int) : Bool := decide (r < -880) || decide (3200 < r)

/-- TRUSTED or SUSPECT. -/
def State.usable (s : State) (t : Nat) : Bool := (s.tsensor t).state = .trusted || (s.tsensor t).state = .suspect

/-- The largest of a list. -/
def maxOf : List Int → Option Int
  | [] => none
  | x :: xs => some (xs.foldl max x)

/-- A tile sensor's own part of T_e, without c_q: raw, or for SUSPECT the hotter of raw and the neighbours' estimate
(Table 12.2). -/
def State.ownEst (s : State) (t : Nat) : Int :=
  let r := ofS124 (s.tRead t)
  if (s.tsensor t).state = .suspect then max r (s.tsensor t).nbest else r

/-- T_q (R339). -/
def State.tq (s : State) (q : Nat) : Int :=
  if !(s.qsensor q).failed then ofS124 (s.qRead q)
  else match maxOf (([0, 1, 2, 3].filter fun p => !(s.qsensor p).failed).map fun p => ofS124 (s.qRead p)) with
    | some v => v
    | none => match maxOf (((List.range 64).filter s.usable).map s.ownEst) with
      | some v => v
      | none => ofS124 (s.dieRead + 320)

/-- c_q (R339). (DESIGN CHOICE: assumption log 43.) -/
def State.cq (s : State) (q : Nat) : Int := if (s.qsensor q).failed then 0 else ofS124 (s.qsensor q).cm

/-- Tiles that share an edge with a tile in the 16 x 4 grid (R337). -/
def edgeTiles (t : Nat) : List Nat :=
  (if t % 16 = 0 then [] else [t - 1]) ++ (if t % 16 = 15 then [] else [t + 1])
    ++ (if t < 16 then [] else [t - 16]) ++ (if 48 ≤ t then [] else [t + 16])

/-- The neighbours of a tile (R337). -/
def State.neighbours (s : State) (t : Nat) : List Nat :=
  (edgeTiles t).filter fun n => s.tileOn n && (s.tsensor n).state = .trusted

/-- T_e(t) (Table 12.2). -/
def State.tileEst (s : State) (t : Nat) : Int :=
  match (s.tsensor t).state with
  | .trusted => s.ownEst t + s.cq (quadOfTile t)
  | .suspect => s.ownEst t + s.cq (quadOfTile t)
  | .failed => if (s.neighbours t).isEmpty then s.tq (quadOfTile t) else (s.tsensor t).nbest
  | .unavailable => s.tq (quadOfTile t)

/-! ### Heat bands (R340) -/

/-- Band after a temperature, rising from `b` across the lower edges of H1 to H4. -/
def bandUp (edges : List Int) (t : Int) (b : Nat) : Nat :=
  [1, 2, 3, 4].foldl (fun h k => if h < k && ofS124 (edges.getD (k - 1) 32767) ≤ t then k else h) b

/-- Band after a temperature, falling below an edge less the hysteresis. -/
def bandDown (edges : List Int) (hyst : Nat) (t : Int) (b : Nat) : Nat :=
  [4, 3, 2, 1].foldl (fun h k => if h = k && t < ofS124 (edges.getD (k - 1) (-32768) - hyst) then k - 1 else h) b

/-- The module band is the highest tile band; a change raises event 0x0904. -/
def State.moduleBand (s : State) : State :=
  let b := (List.range 64).foldl (fun m t => max m (s.tileBand t)) 0
  if b = s.thermal.band then s
  else ({ s with thermal := { s.thermal with band := b } } : State).raise 0x0904 [(1, b)]

/-- A tile's band follows T_e(t); a change sends CUR_SET and THRESH (R255, R290). -/
def State.updateBand (s : State) (t : Nat) : State :=
  let x := s.tsensor t
  let e := s.tileEst t
  let b := bandDown s.img.thermal.edges s.img.thermal.hyst e (bandUp s.img.thermal.edges e x.band)
  if b = x.band then s
  else
    let u := s.setTsensor t { x with band := b }
    (u.cond (s.tileOn t) fun v => (v.sendCurSet t).sendThresh t).moduleBand

/-! ### Samples -/

/-- The cross-check of a sample (R337). -/
def State.crossCheck (s : State) (t : Nat) : TSensor :=
  let x := s.tsensor t
  let nb := s.neighbours t
  if nb.isEmpty then x
  else
    let lim : Int := (s.img.thermal.devC * degUnit : Nat)
    let est := rdiv ((nb.map fun n => ofS124 (s.tRead n)).foldl (· + ·) 0) nb.length + x.off
    let dev := ofS124 (s.tRead t) - est
    let far := decide (lim < dev.natAbs)
    let near := decide (2 * (dev.natAbs : Int) < lim)
    { x with
      off := if x.state = .trusted && near then clampInt (-4 * (degUnit : Nat)) (4 * (degUnit : Nat)) (x.off + rdiv dev 16000) else x.off
      above := if far then x.above + 4 else 0
      below := if near then x.below + 4 else 0
      nbest := est }

/-- The tile sensor leaves its trust state (Table 12.2). (DESIGN CHOICE: assumption log 43.) -/
def State.trustStep (s : State) (t : Nat) (ready : Bool) : State :=
  let x := s.tsensor t
  let r := s.tRead t
  let oor := if outOfRange r then min 3 (x.oor + 1) else 0
  let inr := if ready && !outOfRange r then min 3 (x.inr + 1) else 0
  let y : TSensor := { x with oor := oor, inr := inr }
  let data : List (Nat × Nat) := [(1, t), (2, toField 16 r), (2, toField 16 (toS124 x.nbest))]
  match x.state with
  | .failed => s.setTsensor t y
  | .unavailable => s.setTsensor t (if 3 ≤ inr then { y with state := x.before } else y)
  | .trusted =>
    if 3 ≤ oor then (s.setTsensor t { y with state := .failed }).raise 0x0903 [(1, t), (2, toField 16 r)]
    else if s.img.thermal.suspectMs ≤ x.above then (s.setTsensor t { y with state := .suspect }).raise 0x0901 data
    else s.setTsensor t y
  | .suspect =>
    if 3 ≤ oor then (s.setTsensor t { y with state := .failed }).raise 0x0903 [(1, t), (2, toField 16 r)]
    else if 10 * s.img.thermal.suspectMs ≤ x.below then (s.setTsensor t { y with state := .trusted }).raise 0x0902 data
    else s.setTsensor t y

/-- The highest tile estimate (R393). -/
def State.hottest (s : State) : Int := ((List.range 64).map s.tileEst).foldl max (s.tileEst 0)

/-- TILE_SENSOR_SAMPLE: a sensor in a powered quadrant is read, checked against its neighbours (R337), its trust state
and its heat band follow (R338, R340), and TEMP (R393). (DESIGN CHOICE: assumption log 43.) -/
def execTileSensorSample (t : Fin 64) (raw : BitVec 16) (s : State) : Host.Outcome State Fault Refusal :=
  if !s.tileOn t then .next s
  else
    let s1 := s.setTsensor t { s.tsensor t with raw := raw.toInt }
    let s2 := s1.setTsensor t (s1.crossCheck t)
    let s3 := (s2.trustStep t (s2.quad (quadOfTile t)).ready).updateBand t
    .next (s3.setTemp s3.hottest)

/-- The mean of a quadrant's TRUSTED tile sensors, none when it has none (R339). -/
def State.tileMean (s : State) (q : Nat) : Option Int :=
  let ts := (tilesOfQuad q).filter fun t => (s.tsensor t).state = .trusted
  if ts.isEmpty then none else some (rdiv ((ts.map fun t => ofS124 (s.tRead t)).foldl (· + ·) 0) ts.length)

/-- The common-mode correction of a quadrant after a sample (R339). -/
def State.commonMode (s : State) (q : Nat) : State :=
  let x := s.qsensor q
  match s.tileMean q with
  | none => s
  | some m =>
    let d := ofS124 (s.qRead q) - m
    let lim : Int := (s.img.thermal.devC * degUnit : Nat)
    let above := if lim < d then x.aboveMs + 1 else 0
    let below := if 2 * d < lim then x.belowMs + 1 else 0
    let y : QSensor := { x with aboveMs := above, belowMs := below }
    let c := max 0 (toS124 d)
    if !x.cmSet && decide (s.img.thermal.suspectMs ≤ above) then
      (s.setQsensor q { y with cmSet := true, cm := c }).raise 0x090A [(1, q), (1, 1), (2, toField 16 c)]
    else if x.cmSet && decide (10 * s.img.thermal.suspectMs ≤ below) then
      (s.setQsensor q { y with cmSet := false, cm := 0 }).raise 0x090A [(1, q), (1, 0), (2, 0)]
    else s.setQsensor q { y with cm := if x.cmSet then c else 0 }

/-- QUAD_SENSOR_SAMPLE: a reading every 1 ms; out of range three times, or 10 degC below a trusted NTC for 10 s, it is
FAILED (R339). Tiles without their own sensor follow it (R340). -/
def execQuadSensorSample (q : Fin 4) (raw : BitVec 16) (s : State) : Host.Outcome State Fault Refusal :=
  let s1 := s.setQsensor q { s.qsensor q with raw := raw.toInt }
  let x := s1.qsensor q
  let r := s1.qRead q
  let oor := if outOfRange r then min 3 (x.oor + 1) else 0
  let cold := if !s1.thermal.ntcFailed && decide (r + 160 < s1.ntcRead) then x.coldMs + 1 else 0
  let y : QSensor := { x with oor := oor, coldMs := cold }
  let s2 :=
    if x.failed then s1.setQsensor q y
    else if 3 ≤ oor || 10000 ≤ cold then
      (s1.setQsensor q { y with failed := true, cm := 0, cmSet := false }).raise 0x0903 [(1, 64 + q.val), (2, toField 16 r)]
    else (s1.setQsensor q y).commonMode q
  .next (s2.forEach ((tilesOfQuad q).filter fun t =>
    (s2.tsensor t).state = .unavailable || ((s2.tsensor t).state = .failed && !s2.tileOn t)) State.updateBand)

/-- DIE_SENSOR_SAMPLE (Table 12.1). -/
def execDieSensorSample (raw : BitVec 16) (s : State) : Host.Outcome State Fault Refusal :=
  .next { s with thermal := { s.thermal with die := raw.toInt } }

/-- The temperature of the thermistor by the beta model, in S12.4 (R336): T = 1 / (1/298.15 + ln(R / 10 000) / 3 435).
The formula has no value for a short, which reads as some value above 200 degC. (DESIGN CHOICE: assumption log 4, 25.) -/
def ntcTemp (ohms : Nat) : Int :=
  let inv : Int := (fxOne * 20 / 5963 : Nat) + lnRatio ohms 10000 / 3435
  if ohms = 0 then (3201 + Config.freeNat 15 0 % 29567 : Nat)
  else clampInt (-32768) 32767 (rdiv ((fxOne * fxOne * 16 : Nat) * 100 - 27315 * 16 * inv * (fxOne : Nat)) (100 * inv.toNat * fxOne))

/-- NTC_SAMPLE: out of range three times it is FAILED, event 0x090B (R336, R339); TEMP_EXT follows (R393). -/
def execNtcSample (ohms : Nat) (s : State) : Host.Outcome State Fault Refusal :=
  let s1 : State := { s with thermal := { s.thermal with ntc := ntcTemp ohms } }
  let oor := if outOfRange s1.ntcRead then min 3 (s.thermal.ntcOor + 1) else 0
  let failed := s.thermal.ntcFailed || decide (3 ≤ oor)
  let s2 : State := { s1 with
    thermal := { s1.thermal with ntcOor := oor, ntcFailed := failed }
    leg := { s1.leg with tempExt := if failed then 0 else tempCode (ofS124 s1.ntcRead) } }
  .next (s2.cond (failed && !s.thermal.ntcFailed) fun t => t.raise 0x090B [])

/-! ### Junction estimate, derating, power (R341-R344) -/

def State.heat (s : State) (t : Nat) : Heat := s.policy.tiles.get {} t
def State.modHeat (s : State) (t : Nat) (f : Heat → Heat) : State :=
  { s with policy := { s.policy with tiles := s.policy.tiles.modify {} t f } }

/-- What a restart of the MP leaves of a tile's heat state: the Rind's part, and what a rule holds to the next start; the rest
stood in MP SRAM (01 R36, R346, R358). (DESIGN CHOICE: assumption log 27.) -/
def Heat.restarted (h : Heat) : Heat :=
  { cutLatch := h.cutLatch, cutTimes := h.cutTimes, shutLatch := h.shutLatch, eolSeen := h.eolSeen }

/-- The MP's policy after it lost its SRAM. -/
def Policy.restarted (p : Policy) : Policy :=
  { cuts := p.cuts, tiles := (p.tiles.map fun e => (e.1, e.2.restarted)).filter fun e => e.2 ≠ {} }

/-- T_j(t) for a mean voltage and the branch current of the tile's quadrant (R341). -/
def State.junction (s : State) (t mv ma : Nat) : Int := s.tileEst t + rdiv ((6 * mv * ma * degUnit : Nat) : Int) 16000000

/-- 1 - SLOPE / 25 600 x max(0, T - KNEE), in units of 2^-64 (R342). -/
def slopeFactor (slope : Nat) (knee : Int) (t : Int) : Int :=
  (fxOne : Nat) - rdiv ((slope : Int) * max 0 (t - ofS124 knee) * (degUnit : Nat)) 25600

/-- T_s: the NTC, or the die sensor less 10 degC while it is FAILED (R342). -/
def State.sinkTemp (s : State) : Int := ofS124 (if s.thermal.ntcFailed then s.dieRead - 160 else s.ntcRead)

/-- f_t (R342). -/
def State.derate (s : State) (tj : Int) : Nat :=
  let p := s.img.thermal
  (max ((p.floorPct * fxOne / 100 : Nat) : Int) (min (slopeFactor p.slopeJ p.kneeJ tj) (slopeFactor p.slopeS p.kneeS s.sinkTemp))).toNat

/-- f_p after a tick (R343): V x I against 0.9 x min(12 A x V, 40 W), both in microwatts. -/
def nextPower (fp mv ma : Nat) : Nat :=
  let p := mv * ma * 10
  let b := 9 * min (12000 * mv) 40000000
  if b < p then rdivNat (fp * b) p else min fxOne (fp + fxOne / 1000)

/-- f_p as U0.16, 0xFFFF at 1.0. -/
def powerField (fp : Nat) : Nat := min 0xFFFF (rdivNat fp 281474976710656)

/-- Units of 1/16 uA of the reference on-current of a tile: I_on(REF_CODE), or in the legacy personality I_on(4 jm),
none with no stripe enabled (R344, R387). -/
def State.refCurrent (s : State) (t : Nat) : Option Nat :=
  if s.isLegacy then (columnCur s.chCur (t % 16)).map fun j => 32 + 4 * j else some (32 + s.img.aff.refCode)

/-- REQ before shutdown, from B_t and the factors given (R344). -/
def requestCode (ref boost ft fp : Nat) : Nat :=
  let x : Int := (ref * (fxOne + boost) * ft * fp : Nat)
  let u : Int := (fxOne * fxOne * fxOne : Nat)
  (clampInt 0 255 ((2 * x - 63 * u) / (2 * u))).toNat

/-- The tile is at request 0: in policy shutdown, or latched (R345, R346). -/
def State.isShut (s : State) (t : Nat) : Bool := (s.heat t).shut || (s.heat t).shutLatch

/-- REQ of a tile (R344). -/
def State.policyRequest (s : State) (t : Nat) : Nat :=
  if s.isShut t then 0
  else match s.refCurrent t with
    | none => 0
    | some r => requestCode r (s.heat t).boost (s.heat t).ft s.policy.fp

/-- A shutdown is counted; the one that fills the window is latched: flag THERMAL_LATCH, event 0x0908 (R346). -/
def State.countShutdown (s : State) (t : Nat) : State :=
  let h := s.heat t
  let w := s.img.thermal.windowS * 1000000000
  let times := (h.shutTimes.filter fun x => decide (s.now1 < x + w)) ++ [s.now1]
  let u := s.modHeat t fun x => { x with shutTimes := times }
  if s.img.thermal.latchN ≤ times.length && !h.shutLatch then
    ((u.modHeat t fun x => { x with shutLatch := true }).setFlag fThermalLatch).raise 0x0908 [(1, t)]
  else u

/-- One tile at a policy tick: T_j, f_t with its event, a policy shutdown with its own (R341, R342, R345). -/
def State.policyTile (s : State) (mv ma : Nat) (t : Nat) : State :=
  let h := s.heat t
  let tj := s.junction t mv ma
  let ft := s.derate tj
  let u := s.modHeat t fun x => { x with tj := tj, ft := ft }
  let begins := decide (ft < fxOne)
  let v := u.cond (begins ≠ decide (h.ft < fxOne)) fun x => x.raiseRated 0x0905 t [(1, t), (1, b2n begins)]
  if !h.shut && decide (ofS124 s.img.thermal.shutC ≤ tj) then
    (((v.modHeat t fun x => { x with shut := true }).raise 0x0906 [(1, t), (2, toField 16 (toS124 tj))]).legStatus 5).countShutdown t
  else v

/-- MP_POLICY_TICK: every 100 ms, with the means of the VLED voltage, the VLED current and the branch currents (R341 to
R346). (DESIGN CHOICE: assumption log 43.) -/
def execMpPolicyTick (mv ma : Nat) (branch : List Nat) (s : State) : Host.Outcome State Fault Refusal :=
  if !s.mp.ready then .next s
  else
    let i (q : Nat) : Nat := branch.getD q 0
    let s1 : State := { s with drive := { s.drive with
      branchMa := [0, 1, 2, 3].foldl (fun m q => m.set 0 q (i q)) s.drive.branchMa } }
    let s2 := s1.forEach (List.range 64) fun u t => u.policyTile mv (i (quadOfTile t)) t
    let fp := nextPower s.policy.fp mv ma
    let s3 : State := { s2 with policy := { s2.policy with fp := fp } }
    let s4 := s3.cond (decide (fp < fxOne) ≠ decide (s.policy.fp < fxOne)) fun u => u.raise 0x090C [(2, powerField fp)]
    .next (s4.forEach (List.range 64) fun u t => u.setRequest t (u.policyRequest t))

/-- SHUTDOWN_RETRY: T_j has stayed below RETRY_C for 1 s (R345). -/
def execShutdownRetry (t : Fin 64) (s : State) : Host.Outcome State Fault Refusal :=
  let h := s.heat t
  if s.mp.ready && h.shut && decide (h.tj < ofS124 s.img.thermal.retryC) then
    .next ((s.modHeat t fun x => { x with shut := false }).raise 0x0907 [(1, t.val), (2, toField 16 (toS124 h.tj))])
  else .next s

/-! ### Hard cut (R347) -/

/-- 165, 145 and 135 degC in S12.4. -/
def hotRaw : Int := 2640
def nearRaw : Int := 2320
def coolRaw : Int := 2160

/-- Tiles of a hard cut's target: a tile 0-63, or the 16 tiles of quadrant `target - 64`. -/
def cutTiles (target : Nat) : List Nat := if target < 64 then [target] else tilesOfQuad (target - 64)

/-- Quadrant of a target. -/
def cutQuad (target : Nat) : Nat := if target < 64 then quadOfTile target else target - 64

/-- A raw source of a hard cut: tile 0-63, precision sensor 64 + q, hottest usable tile sensor of a quadrant 68 + q. -/
def State.cutRaw (s : State) (src : Nat) : Option Int :=
  if src < 64 then (if s.usable src then some (s.tsensor src).raw else none)
  else if src < 68 then (if (s.qsensor (src - 64)).failed then none else some (s.qsensor (src - 64)).raw)
  else maxOf (((tilesOfQuad (src - 68)).filter s.usable).map fun t => (s.tsensor t).raw)

/-- The source is FAILED: for the hottest tile sensor, when all sixteen are. -/
def State.srcFailed (s : State) (src : Nat) : Bool :=
  if src < 64 then (s.tsensor src).state = .failed
  else if src < 68 then (s.qsensor (src - 64)).failed
  else (tilesOfQuad (src - 68)).all fun t => (s.tsensor t).state = .failed

/-- The source reads at least `lim`. -/
def State.readsHot (s : State) (src : Nat) (lim : Int) : Bool :=
  match s.cutRaw src with
  | some v => decide (lim ≤ v)
  | none => false

/-- The sources of a target: the one judged at 165 degC, the one at 145. -/
def cutSources (target : Nat) : Nat × Nat :=
  if target < 64 then (target, 64 + quadOfTile target) else (target, target + 4)

/-- The sources that decide a cut of the target now, empty where it does not meet the rule. -/
def State.cutDecides (s : State) (target : Nat) : List Nat :=
  let a := (cutSources target).1
  let b := (cutSources target).2
  if s.srcFailed b then (if s.readsHot a hotRaw then [a] else [])
  else if s.srcFailed a then (if s.readsHot b hotRaw then [b] else [])
  else if s.readsHot a hotRaw && s.readsHot b nearRaw then [a, b] else []

def State.hcut (s : State) (target : Nat) : HCut := s.policy.cuts.get {} target
def State.setHcut (s : State) (target : Nat) (c : HCut) : State :=
  { s with policy := { s.policy with cuts := s.policy.cuts.set {} target c } }

/-- A heat cut holds a tile: a cut in force on it or on its quadrant, or its latch. -/
def State.heatHeld (s : State) (t : Nat) : Bool :=
  (s.hcut t).cut || (s.hcut (64 + quadOfTile t)).cut || (s.heat t).cutLatch

/-- A hard cut begins on one tile: its third within 600 s is latched with event 0x0909 kind 6; it counts as a shutdown
(R346). -/
def State.cutTile (s : State) (t : Nat) : State :=
  let times := ((s.heat t).cutTimes.filter fun x => decide (s.clk.tb3 < x + 600000000000)) ++ [s.clk.tb3]
  let latch := decide (3 ≤ times.length) && !(s.heat t).cutLatch
  let u := (s.modHeat t fun h => { h with cutTimes := times, cutLatch := h.cutLatch || latch }).setCut t kHeat true
  let v := u.cond latch fun x => (x.setFlag fThermalLatch).raise 0x0909 [(1, t), (1, 6)]
  v.cond v.mp.ready fun x => x.countShutdown t

/-- HARD_CUT: the sources have read their temperatures for 10 ms (R347). -/
def execHardCut (target : Fin 68) (s : State) : Host.Outcome State Fault Refusal :=
  let srcs := s.cutDecides target
  if srcs.isEmpty || (s.hcut target).cut then .next s
  else
    let u := ((s.setHcut target { cut := true, srcs := srcs }).raise 0x0909 [(1, target.val), (1, 4)]).legStatus 5
    .next (u.forEach (cutTiles target) State.cutTile)

/-- HARD_CUT_RELEASE: every source that decided the cut has read below 135 degC for 1 s; a latched tile stays cut
(R347). -/
def execHardCutRelease (target : Fin 68) (s : State) : Host.Outcome State Fault Refusal :=
  let c := s.hcut target
  if !c.cut || c.srcs.any (fun x => s.readsHot x coolRaw) then .next s
  else
    let u := (s.setHcut target {}).raise 0x0909 [(1, target.val), (1, 5)]
    .next (u.forEach (cutTiles target) fun v t => v.setCut t kHeat (v.heatHeld t))

/-! ### Heat record (R349) -/

/-- First byte of the heat record. -/
def heatBase : Nat := 0x1C00000

/-- TRUST encoding (Table 12.3). -/
def trustNum : Trust → Nat
  | .trusted => 0
  | .suspect => 1
  | .failed => 2
  | .unavailable => 3

/-- The tile whose readings an entry gives: the target, or the hottest usable tile of a cut quadrant. -/
def State.recordTile (s : State) (target : Nat) : Nat :=
  if target < 64 then target
  else
    let ts := tilesOfQuad (target - 64)
    ts.foldl (fun b t => if s.usable t && (!s.usable b || decide (s.tRead b < s.tRead t)) then t else b) (ts.getD 0 0)

/-- A heat record entry (Table 12.3). -/
def State.heatEntry (s : State) (seq kind target : Nat) : List Byte :=
  let t := s.recordTile target
  let q := cutQuad target
  let w := s.img.thermal.windowS * 1000000000
  let count (x : Nat) : Nat := ((s.heat x).shutTimes.filter fun y => decide (s.now1 < y + w)).length
  let temp (gone : Bool) (v : Int) : List Byte := leBytes 2 (if gone then 0x8000 else toField 16 v)
  withCrc (leBytes 4 seq ++ leBytes 4 s.affin.opS ++ leBytes 4 ((s.clk.tb3 - s.start.at3) / 1000000)
    ++ leBytes 2 s.start.startCount ++ leBytes 1 kind ++ leBytes 1 (((cutTiles target).map count).foldl max 0)
    ++ leBytes 1 target ++ leBytes 1 (trustNum (s.tsensor t).state) ++ leBytes 1 s.thermal.band ++ [0]
    ++ leBytes 2 (toField 16 (toS124 (s.heat t).tj)) ++ temp ((s.tsensor t).state = .unavailable) (s.tRead t)
    ++ temp (s.qsensor q).failed (s.qRead q) ++ temp s.thermal.ntcFailed s.ntcRead ++ temp false s.dieRead ++ [0, 0]
    ++ leBytes 2 s.drive.vledMv ++ leBytes 2 s.drive.vledMa ++ List.replicate 24 0)

/-- HEAT_RECORD_WRITE: the SP writes the next of 128 entries, erasing a sector before its first (R349). -/
def execHeatRecordWrite (kind : Fin 7) (target : Fin 68) (s : State) : Host.Outcome State Fault Refusal :=
  if kind.val = 0 || !s.sp.running then .next s
  else
    let last := s.ringLast heatBase 128 (fun e => 1 ≤ fieldAt e 14 1 && fieldAt e 14 1 ≤ 6) fun e => fieldAt e 0 4
    let at' := match last with
      | some p => (p.1 + 1, (p.2 + 1) % 128)
      | none => (0, 0)
    .next (s.reservedWrite (heatBase + 64 * at'.2) (s.heatEntry at'.1 kind.val target) (at'.2 % 64 = 0))

end Sys2Proof.Machine
end

