-- ==== Sys2Proof/Machine/Memory.lean ====
section
/-!
DEFINITION. The pixel store (06): bytes by address, the ECC check of a read word (R169), the regions and who may reach
them (R166, R168). A byte is held as its value xor what its address reads as unlisted: zero (R172), or the value a load
has filled the interval with (R57).
-/
namespace Sys2Proof.Machine

/-- Bank of a store address (R163). -/
def bankOf (a : Nat) : Nat := 8 * (a / 0x800000 % 2) + a / 32 % 8
/-- ROW of a store address (Table 6.1). -/
def rowOf (a : Nat) : Nat := a / 256 % 32768
/-- Address of the word at a bank's ROW (Table 6.1). -/
def wordAddr (b row : Nat) : Nat := b / 8 * 0x800000 + row % 32768 * 256 + b % 8 * 32

/-- What an unlisted address reads as: the latest fill that covers it, else zero. (DESIGN CHOICE: assumption log 48.) -/
def Store.base (m : Store) (a : Nat) : Byte :=
  match m.fills.find? fun f => decide (f.1 ≤ a) && decide (a < f.2.1) with
  | some f => f.2.2
  | none => 0

/-- The data byte at an address. (DESIGN CHOICE: assumption log 48.) -/
def Store.byte (m : Store) (a : Nat) : Byte := m.cells.get 0 a ^^^ m.base a
/-- Write one data byte. -/
def Store.setByte (m : Store) (a : Nat) (v : Byte) : Store := { m with cells := m.cells.set 0 a (v ^^^ m.base a) }
/-- Write consecutive data bytes. -/
def Store.setBytes (m : Store) (a : Nat) : List Byte → Store
  | [] => m
  | b :: bs => (m.setByte a b).setBytes (a + 1) bs
/-- `n` consecutive data bytes. -/
def Store.bytes (m : Store) (a n : Nat) : List Byte := (List.range n).map fun i => m.byte (a + i)
/-- Fill an interval with one value: check bits valid. -/
def Store.fill (m : Store) (lo hi : Nat) (v : Byte) : Store :=
  { m with
    cells := m.cells.filter fun c => decide (c.1 < lo) || decide (hi ≤ c.1)
    fills := (lo, hi, v) :: m.fills
    flips := m.flips.filter fun c => decide (8 * c.1 < lo) || decide (hi ≤ 8 * c.1) }
/-- Put a whole block in place of what stood there: check bits valid. -/
def Store.load (m : Store) (a : Nat) (bs : List Byte) : Store :=
  let hi := a + bs.length
  { m with
    cells := Sparse.merge 0 (bs.mapIdx fun i b => (a + i, b ^^^ m.base (a + i))) (m.cells.filter fun c => decide (c.1 < a) || decide (hi ≤ c.1))
    flips := m.flips.filter fun c => decide (8 * c.1 < a) || decide (hi ≤ 8 * c.1) }
/-- A bank group zeroed with valid check bits (R172). -/
def Store.clearGroup (m : Store) (group : Nat) : Store :=
  let lo := group * 0x800000
  let hi := lo + 0x800000
  let out (a : Nat) : Bool := decide (a < lo) || decide (hi ≤ a)
  { m with
    cells := m.cells.filter fun c => out c.1
    flips := m.flips.filter fun c => out (8 * c.1)
    fills := (m.fills.map fun f => if group = 0 then (max f.1 hi, f.2) else (f.1, min f.2.1 lo, f.2.2)).filter
      fun f => decide (f.1 < f.2.1) }

/-- Region of an address; 6 when it lies in none (Table 2.9). -/
def State.regionOf (s : State) (a : Nat) : Nat :=
  ((List.range 6).find? fun r => decide (s.regionBase r ≤ a) && decide (a < s.regionBase r + s.regionSize r)).getD 6

/-- Regions a requester reads (Table 6.3). -/
def readRegions (who : Nat) : List Nat :=
  if who = 0 then [0] else if who = 1 || who = 2 then [4, 5] else if who = 4 then [0, 1] else if who = 7 then [0, 1, 2]
  else if who = 8 then [3] else if who = 9 then [2] else if who = 5 || who = 10 then [0, 1, 2, 3, 4, 5] else []
/-- Regions a requester writes (Table 6.3). -/
def writeRegions (who : Nat) : List Nat :=
  if who = 0 then [0] else if who = 3 then [5] else if who = 5 then [2, 3] else if who = 6 then [1, 2, 3, 4]
  else if who = 8 then [3] else if who = 9 then [2] else if who = 10 then [0, 1, 2, 3, 4, 5] else []

/-- The store's banks are powered and initialised (R172). -/
def State.groupReady (s : State) (group : Nat) : Bool :=
  if group = 0 then s.power.pd4 && s.store.init0 else s.power.pd5 && s.store.init1

/-- Wrong stored bits of a granule. -/
def State.flipsOf (s : State) (g : Nat) : Nat := popCount 72 (s.store.flips.get 0 g).toNat

/-- How a read takes a granule (R169): 0 clean, 1 corrected, 2 POISON. Three or more wrong bits are not guaranteed to be
detected: which of the three it is, is a free value. (DESIGN CHOICE: assumption log 14.) -/
def State.granuleCheck (s : State) (g : Nat) : Nat :=
  if s.flipsOf g ≤ 2 then s.flipsOf g else Config.freeNat 1 g % 3

/-- A single-bit error: corrected, counted, queued for the scrubber (R169). -/
def State.eccCorrected (s : State) (g : Nat) : State :=
  let a := 8 * g
  let t := s.modBank (bankOf a) fun k =>
    let q := if k.rewrite.contains (rowOf a) || 8 ≤ k.rewrite.length then k.rewrite else k.rewrite ++ [rowOf a]
    { k with corrected := sat32 (k.corrected + 1), rewrite := q }
  t.raiseRated 0x0301 0 []

/-- A double-bit error: the word's address is logged (R169). -/
def State.eccPoison (s : State) (g : Nat) : State :=
  let a := 8 * g / 32 * 32
  { s with store := { s.store with log := (a :: s.store.log).take 16 } }.raise 0x0302 [(1, bankOf a), (4, a)]

/-- The check of one granule on a read (R169). -/
def State.eccGranule (s : State) (g : Nat) : State :=
  if s.granuleCheck g = 1 then s.eccCorrected g else if s.granuleCheck g = 2 then s.eccPoison g else s

/-- The check of a list of granules that a reader has fetched (R169). -/
def State.eccHits (s : State) (gs : List Nat) : State := s.forEach gs State.eccGranule

/-- A granule of a list reads as POISON. -/
def State.anyPoison (s : State) (gs : List Nat) : Bool := gs.any fun g => s.granuleCheck g = 2

/-- The check of the granules of `[a, a + n)` (R169). -/
def State.eccRead (s : State) (a n : Nat) : State :=
  if s.store.flips.isEmpty || n = 0 then s
  else s.forEach ((s.store.flips.map fun c => c.1).filter fun g => a / 8 ≤ g && g ≤ (a + n - 1) / 8) State.eccGranule

/-- Some granule of `[a, a + n)` reads as POISON. -/
def State.poisoned (s : State) (a n : Nat) : Bool :=
  n ≠ 0 && s.store.flips.any fun c => a / 8 ≤ c.1 && c.1 ≤ (a + n - 1) / 8 && s.granuleCheck c.1 = 2

/-- A granule as a read returns it: corrected; with two wrong bits as it stands, wrong; with three or more an unknown
value. Bits 63:0 of `flips` are the data bits, the others the check bits. (DESIGN CHOICE: assumption log 14.) -/
def State.granule (s : State) (g : Nat) : BitVec 64 :=
  let w := BitVec.ofNat 64 (leVal (s.store.bytes (8 * g) 8))
  if s.flipsOf g ≤ 1 then w
  else if s.flipsOf g = 2 then w ^^^ BitVec.setWidth 64 (s.store.flips.get 0 g)
  else Config.eccGarbage g

/-- Data bytes as a reader with the ECC check receives them. -/
def State.readBytes (s : State) (a n : Nat) : List Byte :=
  if s.store.flips.isEmpty then s.store.bytes a n
  else (List.range n).map fun i => BitVec.ofNat 8 ((s.granule ((a + i) / 8)).toNat >>> (8 * ((a + i) % 8)))

/-- The bits an armed ECC_INJECT flips in the next write of a granule (Table 13.8): TARGET [15:8] the bit, [1:0] how many. -/
def injectMask (p : Perturb) : BitVec 72 :=
  let b := p.target / 256 % 72
  BitVec.twoPow 72 b ||| (if p.target % 4 = 2 then BitVec.twoPow 72 ((b + 1) % 72) else 0)

/-- The ECC_INJECT control waiting for a granule. (DESIGN CHOICE: assumption log 46.) -/
def State.injectFor (s : State) (g : Nat) : Option Perturb :=
  s.svc.perturb.find? fun p => p.control = 5 && p.value.toNat / 8 = g

/-- A perturbation control that acts once is inactive after it has acted (R375). -/
def State.injectDone (s : State) (g : Nat) : State :=
  { s with svc := { s.svc with perturb := s.svc.perturb.filter fun p => !(p.control = 5 && p.value.toNat / 8 = g) } }

/-- After a granule has been written: its check bits are valid, but for what ECC_INJECT flips (R164, Table 13.8). -/
def State.granuleWritten (s : State) (g : Nat) : State :=
  match s.injectFor g with
  | some p => { s.injectDone g with store := { s.store with flips := s.store.flips.set 0 g (injectMask p) } }
  | none => { s with store := { s.store with flips := s.store.flips.drop g } }

/-- Granule numbers that a write of `n` bytes at `a` touches. -/
def granulesOf (a n : Nat) : List Nat :=
  if n = 0 then [] else (List.range ((a + n - 1) / 8 - a / 8 + 1)).map fun i => a / 8 + i

/-- Write bytes whose granules are written whole, or read, corrected and merged (R164, R182). A poisoned granule written
in part stays poisoned. -/
def State.storeBytes (s : State) (a : Nat) (bs : List Byte) : State :=
  let keep (g : Nat) : Bool := s.flipsOf g ≥ 2 && !(decide (a ≤ 8 * g) && decide (8 * g + 8 ≤ a + bs.length))
  let t : State := { s with store := s.store.setBytes a bs }
  if t.store.flips.isEmpty && t.svc.perturb.isEmpty then t
  else t.forEach ((granulesOf a bs.length).filter fun g => !keep g) State.granuleWritten

/-- Put a block of whole granules in place: what a loader or a restore writes. -/
def State.loadBytes (s : State) (a : Nat) (bs : List Byte) : State :=
  let t : State := { s with store := s.store.load a bs }
  let hit (p : Perturb) : Bool := p.control = 5 && decide (a ≤ p.value.toNat / 8 * 8) && decide (p.value.toNat / 8 * 8 < a + bs.length)
  t.forEach ((s.svc.perturb.filter hit).map fun p => p.value.toNat / 8) State.granuleWritten

end Sys2Proof.Machine
end

