-- ==== Sys2Proof/Machine/Affinage.lean ====
section
/-!
DEFINITION. Affinage (12 R350-R360): the stress counters of region 3, the charge of a block, the weights, the saves, the
predictions and compensation, and the reports.
-/
namespace Sys2Proof.Machine

/-! ### Counters and charges (R350, R351) -/

/-- Number of blocks. -/
def blockCount : Nat := 65536

/-- Store address of a block's counter (R166). -/
def State.counterAddr (s : State) (k : Nat) : Nat := s.regionBase 3 + 4 * k

/-- S_k as a reader with the ECC check receives it. -/
def State.counter (s : State) (k : Nat) : Nat := leVal (s.readBytes (s.counterAddr k) 4)

def State.setCounter (s : State) (k v : Nat) : State := s.storeBytes (s.counterAddr k) (leBytes 4 v)

/-- Block of an array pixel (R8). -/
def blockAt (x y : Nat) : Nat := 512 * (y / 4) + x / 4
/-- Tile of a block. -/
def tileOfBlock (k : Nat) : Nat := tileAt (k % 512 * 4) (k / 512 * 4)
/-- The 1 024 blocks of a tile. -/
def blocksOfTile (t : Nat) : List Nat :=
  (List.range 32).flatMap fun r => (List.range 32).map fun c => 512 * (tileY t / 4 + r) + tileX t / 4 + c

/-- MAGIC of an affinage slot. -/
def affMagic : Nat := 0x414E4C44
/-- Flash address of an affinage slot (R354). -/
def affSlot (i : Nat) : Nat := 0x1800000 + 0x40000 * i
/-- Bytes of the saved counters. -/
def affBody : Nat := 196608
/-- The valid slot with the highest SAVE_SEQ (R355). -/
def State.latestSave (s : State) : Option Nat :=
  (s.latestCopy affMagic affBody ((List.range 16).map affSlot)).map fun a => (a - affSlot 0) / 0x40000

/-- A counter as restored: saved value x 256, 0 without a valid save (R355). -/
def State.savedCounter (s : State) (k : Nat) : Nat :=
  match s.latestSave with
  | some i => fieldAt (s.flash.bytes (affSlot i + 0x1000 + 3 * k) 3) 0 3 * 256
  | none => 0

/-- A counter read with POISON is replaced by its saved value, event 0x0A05 (R353). Its granule holds a second counter,
as lost as the first: the granule is written whole, both restored (R164). (DESIGN CHOICE: assumption log 30.) -/
def State.healCounter (s : State) (k : Nat) : State :=
  let lo := k / 2 * 2
  if s.poisoned (s.counterAddr lo) 8 then
    let t := s.loadBytes (s.counterAddr lo) (leBytes 4 (s.savedCounter lo) ++ leBytes 4 (s.savedCounter (lo + 1)))
    let u : State := { t with store := { t.store with flips := t.store.flips.drop (s.counterAddr lo / 8) } }
    (u.raise 0x0A05 [(2, lo)]).raise 0x0A05 [(2, lo + 1)]
  else s

/-- A reader of every counter: each granule checked, those with POISON replaced (R169, R353). -/
def State.healAll (s : State) : State :=
  if s.store.flips.isEmpty then s
  else
    let t := s.eccRead (s.regionBase 3) (4 * blockCount)
    t.forEach ((List.range blockCount).filter fun k => k % 2 = 0 && t.poisoned (t.counterAddr k) 8) State.healCounter

/-- The 48-bit sequence advances (R351; the form and the seed are the model's, assumption log 30). -/
def lfsrNext (v : BitVec 48) : BitVec 48 :=
  let b := v.getLsbD 47 ^^ v.getLsbD 27 ^^ v.getLsbD 26 ^^ v.getLsbD 0
  v <<< 1 ||| (if b then 1 else 0)

/-- The charge of one block (R351): its counter, and the first saturation of the start (R350).
(DESIGN CHOICE: assumption log 30.) -/
def State.chargeBlock (s : State) (k sigma units w : Nat) : State :=
  let num := sigma * units * w
  let r := lfsrNext s.affin.lfsr
  let t : State := { s with affin := { s.affin with lfsr := r } }
  let inc := num / 2 ^ 48 + (if r.toNat < num % 2 ^ 48 then 1 else 0)
  if inc = 0 && t.store.flips.isEmpty then t
  else
    let u := (t.eccRead (s.counterAddr k) 4).healCounter k
    let n := u.counter k + inc
    let v := u.setCounter k (min 0xFFFFFFFF n)
    if 0xFFFFFFFF ≤ n && !v.affin.saturated then
      { v with affin := { v.affin with saturated := true } }.raise 0x0A07 [(2, k)]
    else v

/-- A code as a sum counts it: 4095 as 4096 (R351). -/
def sumCode (c : Nat) : Nat := if c = 4095 then 4096 else c

/-! ### Weights (R352) -/

/-- ln of the weight of an applied code and a junction estimate: the current term and the Arrhenius term, in units of
2^-64. -/
def weightLn (p : AffP) (a : Nat) (tj : Int) : Int :=
  let d1 : Int := 100 * p.tRef + 437040
  let d2 : Int := max 1 (100 * tj + 27315 * (degUnit : Nat))
  rdiv ((p.iExp : Int) * lnRatio (32 + a) (32 + p.refCode)) 4096
    + ((p.eaMev : Int) * 100000000 * (fxOne : Nat) * (1600 * d2 - 100 * (degUnit : Nat) * d1)) / (8617333 * d1 * d2)

/-- AFF_W of an applied code and a junction estimate. (DESIGN CHOICE: assumption log 25.) -/
def weightOf (p : AffP) (a : Nat) (tj : Int) : Nat :=
  min 0x1FFFFFF ((fxExp (weightLn p a tj) * 65536 + fxOne / 2) / fxOne)

/-- A tile the Rind reports held under fill. -/
def State.isHeld (s : State) (t : Nat) : Bool := s.safety.held.getLsbD t

/-- A second of operation: VLED present, not DARK, some tile neither cut nor in a switched-off quadrant (R355). -/
def State.operates (s : State) : Bool :=
  s.drive.present && s.safety.state ≠ .dark && (List.range 64).any fun t => !s.isCut t && s.tileOn t

/-- AFF_W_WRITE: once per second the MP writes each tile's weight, 0 for a tile cut or held (R352), and counts operating
time (R355). (DESIGN CHOICE: assumption log 30.) -/
def execAffWWrite (s : State) : Host.Outcome State Fault Refusal :=
  if !s.mp.ready then .next s
  else
    let w (t : Nat) : Nat :=
      if s.isCut t || s.isHeld t then 0 else weightOf s.img.aff (s.tile t).applied.toNat (s.heat t).tj
    .next { s with affin := { s.affin with
      weights := (List.range 64).foldl (fun m t => m.set 0 t (w t)) []
      opS := if s.operates then sat32 (s.affin.opS + 1) else s.affin.opS } }

/-- Code the fallback beam gives an array pixel (R49, R319). -/
def fillCode (p : SafetyP) (x y : Nat) : Nat := if y < p.fbRow.getD (x / 64) 264 then p.fbAbove else p.fbCode

/-- Code sum of a block under the fallback beam. -/
def fillSum (p : SafetyP) (k : Nat) : Nat :=
  ((List.range 16).map fun i => sumCode (fillCode p (k % 512 * 4 + i % 4) (k / 512 * 4 + i / 4))).foldl (· + ·) 0

/-- Units of 1 024 ns in a second, truncated (assumption log 30). -/
def secondUnits : Nat := 976562

/-- FILL_CHARGE: the MP charges the blocks of the tiles held under fill and not cut (R352). (DESIGN CHOICE: assumption log 30.) -/
def execFillCharge (s : State) : Host.Outcome State Fault Refusal :=
  if !s.mp.ready || !s.groupReady 0 then .next s
  else .next (s.forEach ((List.range 64).filter fun t => s.isHeld t && !s.isCut t) fun u t =>
    let w := weightOf s.img.aff s.rindP.fbCurrent (s.heat t).tj
    u.forEach (blocksOfTile t) fun v k => v.chargeBlock k (fillSum s.rindP k) secondUnits w)

/-! ### Predictions (R356-R358) -/

/-- L70_SU (R356). (DESIGN CHOICE: assumption log 30.) -/
def l70Su (p : AffP) : Nat := max 1 (rdivNat (p.l70 * 3600000000000) 67108864)

/-- rho of a stress, in units of 2^-64: 0.7 to the power S / L70_SU. (DESIGN CHOICE: assumption log 25.) -/
def rhoOf (p : AffP) (su : Nat) : Nat := fxExp (lnRatio 7 10 * (su : Int) / (l70Su p : Nat))

/-- A pixel's bit in the fault map (R293). -/
def State.mapped (s : State) (p : Nat) : Bool := bitOf (leVal (s.readBytes (s.regionBase 2 + p / 8) 1)) (p % 8)

/-- Pixels of a block (R8). -/
def blockPixels (k : Nat) : List Nat := (List.range 16).map fun i => 2048 * (k / 512 * 4 + i / 4) + k % 512 * 4 + i % 4

/-- The block is in use (R356). -/
def State.inUse (s : State) (k : Nat) : Bool := s.counter k ≠ 0 && (blockPixels k).any fun p => !s.mapped p

/-- R_k (Table 12.6). -/
def State.blockHours (s : State) (k : Nat) : Nat :=
  let c := s.counter k
  let l := l70Su s.img.aff
  if !s.inUse k || s.affin.opS < 3600 then 0xFFFFFFFF
  else if l ≤ c then 0
  else min 0xFFFFFFFE (s.affin.opS * (l - c) / (3600 * c))

/-- cap_t in units of 2^-64, as a fraction of 1 (Table 12.6). -/
def State.tileCap (s : State) (t : Nat) : Nat :=
  let p := s.img.aff
  min (p.headroomPct * fxOne / 100) ((32 + s.fusedCeil t) * fxOne / (32 + p.refCode) - fxOne)

/-- Predictions of one tile. -/
structure TilePred where
  rho   : Nat := 0
  need  : Nat := 0
  hours : Nat := 0xFFFFFFFF
  worst : Nat := 0

/-- The predictions of a tile (Table 12.6); WORST_BLOCK of a tile with no block in use is a free value.
(DESIGN CHOICE: assumption log 17.) -/
def State.tilePred (s : State) (t : Nat) : TilePred :=
  let ks := (blocksOfTile t).filter s.inUse
  let sum := (ks.map fun k => rhoOf s.img.aff (s.counter k)).foldl (· + ·) 0
  let rho := if ks.isEmpty then fxOne else rdivNat sum ks.length
  let best := ks.foldl (fun (b : Option (Nat × Nat)) k =>
    let h := s.blockHours k
    match b with
    | some x => if h < x.1 then some (h, k) else some x
    | none => some (h, k)) none
  { rho := rho, need := fxOne * fxOne / max 1 rho - fxOne
    hours := (best.map Prod.fst).getD 0xFFFFFFFF, worst := (best.map Prod.snd).getD (Config.freeNat 5 t % 65536) }

/-- A fraction in units of 2^-64 as per cent in S8.8 (R13). -/
def pctS88 (v : Int) : Int := clampInt (-32768) 32767 (rdiv (v * 25600) fxOne)

/-- Tile headroom in per cent, S8.8. -/
def State.tileHeadroom (s : State) (t : Nat) (p : TilePred) : Int := pctS88 ((s.tileCap t : Int) - p.need)

/-- Compensation of a tile takes effect (R357); headroom exhausted once per start (R358). -/
def State.compensate (s : State) (t : Nat) (p : TilePred) : State :=
  let beyond := decide (s.tileCap t < p.need)
  let first := beyond && !(s.heat t).eolSeen
  let u := s.modHeat t fun h => { h with boost := min p.need (s.tileCap t), eolSeen := h.eolSeen || beyond }
  u.cond first fun v => (v.setFlag fEol).raise 0x0A06 [(1, t)]

/-- The predictions of every tile. -/
def State.predictions (s : State) : List TilePred := (List.range 64).map s.tilePred

/-- The predictions at a save or after the restore: compensation, end of life, the module's values (R356 to R358). -/
def State.predict (s : State) (ps : List TilePred) : State :=
  let t := s.forEach (List.range 64) fun u i => u.compensate i (ps.getD i {})
  let worst := ps.foldl (fun (b : TilePred) p => if p.hours < b.hours then p else b) (ps.getD 0 {})
  let heads := (List.range 64).map fun i => s.tileHeadroom i (ps.getD i {})
  { t with affin := { t.affin with
    remainH := worst.hours, minBlock := worst.worst, headroom := heads.foldl min 32767
    eol := (List.range 64).any fun i => decide (s.tileCap i < (ps.getD i {}).need) } }

/-! ### Reports (R360) -/

/-- Sectors of a flash region. -/
def regionSectors (r : Nat) : List Nat := (List.range 8192).filter fun k => flashRegion (4096 * k) = r

/-- Highest sector erase count of a region. -/
def State.wearMax (s : State) (r : Nat) : Nat := (regionSectors r).foldl (fun m k => max m (s.flash.erases.get 0 k)) 0

/-- Hours to endurance at that sector's average rate (R359). -/
def State.wearHours (s : State) (r : Nat) : Nat :=
  let n := s.wearMax r
  if n = 0 then 0xFFFFFFFF else min 0xFFFFFFFE (s.affin.opS * (100000 - n) / (3600 * n))

/-- One tile's entry of the summary (Table 12.7). -/
def State.summaryTile (s : State) (t : Nat) (p : TilePred) : List Byte :=
  let req := if s.isLegacy && (s.refCurrent t).isNone then 0 else requestCode ((s.refCurrent t).getD 0) (s.heat t).boost fxOne fxOne
  leBytes 4 p.hours ++ leBytes 2 (toField 16 (s.tileHeadroom t p)) ++ leBytes 2 (min 0xFFFF (rdivNat ((s.heat t).boost * 25600) fxOne))
    ++ leBytes 2 p.worst ++ leBytes 1 req ++ [0] ++ leBytes 2 (min 0xFFFF (rdivNat (p.rho * 65536) fxOne)) ++ [0, 0]

/-- The summary (Table 12.7). -/
def State.summary (s : State) (ps : List TilePred) : List Byte :=
  leBytes 2 s.affin.reportSeq.toNat ++ [0]
    ++ leBytes 1 (b2n s.affin.eol + 2 * b2n s.affin.zeroStart + 4 * b2n s.affin.saturated)
    ++ leBytes 4 s.affin.opS ++ leBytes 4 s.affin.remainH ++ leBytes 2 (toField 16 s.affin.headroom) ++ leBytes 2 s.affin.minBlock
    ++ ((List.range 64).flatMap fun t => s.summaryTile t (ps.getD t {}))
    ++ (List.range 6).flatMap fun r => leBytes 4 (s.wearMax r) ++ leBytes 4 (s.wearHours r)

/-- A block page (Table 12.8). -/
def State.blockPage (s : State) (i : Nat) : List Byte :=
  leBytes 2 s.affin.reportSeq.toNat ++ [1, 0] ++ leBytes 4 s.affin.opS ++ leBytes 2 (512 * i) ++ leBytes 2 512 ++ leBytes 4 0
    ++ (List.range 512).flatMap fun j => leBytes 4 (s.counter (512 * i + j))

/-- The summary and its 128 block pages go to TQ5 (R360). -/
def State.affReport (s : State) (ps : List TilePred) : State :=
  let pkt (b : List Byte) : TxPkt := s.upPkt 5 0x52 0 b
  let t := s.enqueue 5 (pkt (s.summary ps))
  let u := t.forEach (List.range 128) fun v i => v.enqueue 5 (pkt (s.blockPage i))
  { u with affin := { u.affin with reportSeq := u.affin.reportSeq + 1 } }

/-- The report the MP sends after a link-up (R360). -/
def State.reportAtLinkUp (s : State) : State :=
  s.cond (s.mp.ready && s.groupReady 0) fun t => t.healAll.affReport t.healAll.predictions

/-! ### Saves (R354, R359) -/

/-- The 24-bit saved values of every counter. -/
def State.savedBytes (s : State) : List Byte := (List.range blockCount).flatMap fun k => leBytes 3 (s.counter k / 256)

/-- ERASE_COUNT for a slot's next header (Table 12.5). -/
def State.nextErase (s : State) (slot : Nat) : Nat :=
  let n (i : Nat) : Nat := fieldAt (s.flash.bytes (affSlot i) 64) 24 4
  let valid (i : Nat) : Bool := s.copyValid (affSlot i) affMagic affBody
  if valid slot then n slot + 1
  else (((List.range 16).filter valid).map n).foldl max 0 + 1

/-- Copies of the erase counts (Table 15.9). -/
def eraseMagic : Nat := 0x454E4C44
def eraseCopies : List Nat := [0x1D00000, 0x1D10000]

/-- The copy written next, and its SAVE_SEQ: alternately. -/
def State.nextCopy (s : State) (magic len : Nat) (as : List Nat) : Nat × Nat :=
  match s.latestCopy magic len as with
  | some a => ((as.find? fun b => b ≠ a).getD a, s.copySeq a + 1)
  | none => (as.getD 0 0, 1)

/-- Write one copy of the MP records: its sectors erased, the body, then the header (R412). -/
def State.writeCopy (s : State) (a seq magic : Nat) (body : List Byte) : State :=
  let t := (s.flashEraseMany a (1 + ceilDiv body.length 4096)).flashProgram (a + 0x1000) body
  t.flashProgram a (saveHeader magic seq 0 s.fuse.serial.toNat 0 (crc32c body))

/-- The same through the MP's budgets, refused whole (R369). -/
def State.saveCopy (s : State) (magic : Nat) (as : List Nat) (body : List Byte) : State :=
  let c := s.nextCopy magic body.length as
  let n := 1 + ceilDiv body.length 4096
  let m := body.length + 64
  if s.eraseFits n && (s.payErase n).progFits m then ((s.payErase n).payProg m).writeCopy c.1 c.2 magic body
  else s.nvmRefill.nvmRefused m

/-- The erase counts as saved. -/
def State.eraseBody (s : State) : List Byte := (List.range 8192).flatMap fun k => leBytes 4 (s.flash.erases.get 0 k)

/-- The erase counts are saved with each affinage save (R412). -/
def State.saveErases (s : State) : State := s.saveCopy eraseMagic eraseCopies s.eraseBody

/-- The erase counts come from their latest copy: an MP restart loses those made since (R412). -/
def State.restoreErases (s : State) : State :=
  match s.latestCopy eraseMagic 32768 eraseCopies with
  | some a =>
    let bs := s.flash.bytes (a + 0x1000) 32768
    { s with flash := { s.flash with erases := (List.range 8192).foldl (fun m k => m.set 0 k (fieldAt bs (4 * k) 4)) [] } }
  | none => { s with flash := { s.flash with erases := [] } }

/-- The slot and SAVE_SEQ of the next save (R354). (DESIGN CHOICE: assumption log 44.) -/
def State.nextSave (s : State) : Nat × Nat :=
  match s.latestSave with
  | some i => ((i + 1) % 16, s.copySeq (affSlot i) + 1)
  | none => (0, 1)

/-- The save is refused: it is repeated each minute, event 0x0A02 (R354). -/
def State.saveRefused (s : State) : State :=
  { s with affin := { s.affin with deferred := true } }.raise 0x0A02 []

/-- A save the budgets have accepted: slot erased, counters, header last, predictions and report (R354, R356, R360).
(DESIGN CHOICE: assumption log 44.) -/
def State.writeSave (s : State) : State :=
  let n := s.nextSave
  let a := affSlot n.1
  let c := s.nextErase n.1
  let h := s.healAll
  let body := h.savedBytes
  let t := (h.flashEraseMany a 64).flashProgram (a + 0x1000) body
  let u := t.flashProgram a (saveHeader affMagic n.2 s.affin.opS s.fuse.serial.toNat c (crc32c body))
  let v : State := { u with affin := { u.affin with saveSeq := BitVec.ofNat 32 n.2, saveSlot := n.1, deferred := false } }
  let w := (v.raise 0x0A01 [(1, n.1), (4, n.2)]).saveErases
  let ps := w.predictions
  let x := w.predict ps
  x.affReport ps

/-- A save through the MP's budgets: 64 erases and 196 672 bytes, reserved first (R354, R370). -/
def State.affSave (s : State) : State :=
  let bytes := affBody + 64
  if !s.eraseFits 64 then (s.nvmRefill.nvmRefused bytes).saveRefused
  else
    let r := (s.payErase 64).doReserve bytes
    if r.nvm.reserveOk then (r.setNvm { r.nvm with reserve := 0 }).writeSave
    else ((s.doReserve bytes).nvmRefused bytes).saveRefused

/-- AFFINAGE_SAVE: every SAVE_MIN minutes of operation (R354). -/
def execAffinageSave (s : State) : Host.Outcome State Fault Refusal :=
  .next (if s.mp.ready && s.groupReady 0 then s.affSave else s)

/-- SAVE_DEFERRED: a refused save is made again (R354). -/
def execSaveDeferred (s : State) : Host.Outcome State Fault Refusal :=
  .next (if s.mp.ready && s.groupReady 0 && s.affin.deferred then s.affSave else s)

/-! ### Restore (R355) -/

/-- Counters as region 3 holds them, from the 24-bit values of a save: saved << 8 (R355). -/
def counterBytes : List Byte → List Byte
  | a :: b :: c :: l => 0 :: a :: b :: c :: counterBytes l
  | _ => []

/-- Region 3 is filled from the latest valid save. -/
def State.restoreCounters (s : State) : State :=
  match s.latestSave with
  | some i => s.loadBytes (s.regionBase 3) (counterBytes (s.flash.bytes (affSlot i + 0x1000) affBody))
  | none => s.loadBytes (s.regionBase 3) (List.replicate (4 * blockCount) 0)

/-- The restore of a start: counters, OPERATING_S, events 0x0A03 or 0x0A04, and the predictions (R355, R356). -/
def State.affRestore (s : State) : State :=
  let t := s.restoreCounters
  let u := match s.latestSave with
    | some i =>
      let h := s.flash.bytes (affSlot i) 64
      ({ t with affin := { t.affin with
          opS := fieldAt h 12 4, saveSeq := BitVec.ofNat 32 (fieldAt h 8 4), saveSlot := i, zeroStart := false } } : State).raise
        0x0A03 [(1, i), (4, fieldAt h 8 4)]
    | none => ({ t with affin := { t.affin with zeroStart := true } } : State).raise 0x0A04 []
  u.predict u.predictions

end Sys2Proof.Machine
end

