-- ==== Sys2Proof/Machine/Arbiter.lean ====
section
/-!
DEFINITION. The bank arbiters (06): slot tables, one decision, locked sequences, scrub. What lets a bank serve again stands in
Banks, BANK_INIT_DONE with the loads that follow it in Domains.
-/
namespace Sys2Proof.Machine

/-- Entry `i` of the default table: each row 0, 1, 2, 3, 1, 2, 4, 0xF (R180). -/
def defaultSlot (i : Nat) : BitVec 4 := BitVec.ofNat 4 ([0, 1, 2, 3, 1, 2, 4, 15].getD (i % 8) 0)

/-- Entry of a table held as the difference from the default table. -/
def slotEntry (m : Sparse (BitVec 4)) (i : Nat) : BitVec 4 := m.get 0 i ^^^ defaultSlot i

/-- Owner of a slot of the active table, the scan-out floor included (R174, R175); none for an open slot. -/
def Bank.slotOwner (k : Bank) (i : Nat) : Option Nat :=
  if i % 8 = 0 then some 0 else if (slotEntry k.active i).toNat ≤ 10 then some (slotEntry k.active i).toNat else none

/-- The turn hint of a requester (R180). -/
def Bank.turnHint (k : Bank) (m : Nat) : Nat :=
  if k.grant = some m then 0
  else ((List.range 15).find? fun d => k.slotOwner ((k.ptr + d) % 64) = some m).getD 15

/-- Oldest request of a requester at the bank's port. -/
def Bank.request (k : Bank) (m : Nat) : Option StoreReq := k.reqs.find? fun r => r.who = m

/-- Remove the oldest request of a requester. -/
def dropReq (m : Nat) : List StoreReq → List StoreReq
  | [] => []
  | r :: rs => if r.who = m then rs else r :: dropReq m rs

/-- Winner of an idle slot: the first with a request in the order after the last idle winner (R176). -/
def Bank.idleWinner (k : Bank) : Option Nat :=
  ((List.range 11).map fun d => (k.lastIdle + 1 + d) % 11).find? fun m => (k.request m).isSome

/-- The pointer's next value. -/
def Bank.advance (k : Bank) : Bank := { k with ptr := (k.ptr + 1) % 64 }

/-- The wrap: at the decision for slot 0 a pending swap makes the shadow the active table (R179). A swap armed while the
pointer stands at 0 since reset or wake takes effect at that first decision too, though the pointer has not passed from 63:
the rule does not say. (DESIGN CHOICE: assumption log 52.) -/
def Bank.wrap (k : Bank) : Bank := if k.swap && k.ptr = 0 then { k with active := k.shadow, swap := false } else k

/-- A requester may make the request: every beat in a region it may read or write (R168). -/
def State.permitted (s : State) (b : Nat) (r : StoreReq) : Bool :=
  r.rows.all fun row => (if r.write then writeRegions r.who else readRegions r.who).contains (s.regionOf (wordAddr b row))

/-- Refuse a request: ACCESS_ERR, event 0x0307; a read answers zero words marked ACCESS (R168). -/
def State.refuse (s : State) (b : Nat) (r : StoreReq) : State :=
  let bad := (r.rows.find? fun row => !s.permitted b { r with rows := [row] }).getD 0
  let ans : Answer :=
    { who := r.who, words := if r.write then [] else r.rows.map fun _ => 0, access := true, busError := decide (r.who = 5) }
  (s.modBank b fun k => { k with access := true, answer := some ans }).raiseRated 0x0307 r.who
    [(1, r.who), (4, wordAddr b bad)]

/-- A request to a bank without power: an error to its requester; the MP's is a bus error with event 0x0C05 (R40). -/
def State.refuseDark (s : State) (b : Nat) (r : StoreReq) : State :=
  let ans : Answer :=
    { who := r.who, words := if r.write then [] else r.rows.map fun _ => 0, access := true, busError := decide (r.who = 5) }
  let t := s.modBank b fun k => { k with answer := some ans }
  t.cond (r.who = 5) fun u => u.raise 0x0C05 [(1, 0), (4, wordAddr b (r.rows.headD 0))]

/-- The block that holds a requester is powered (Table 1.2): requesters 0 to 4, 8 and 9 in PD3, 5 and 6 in PD10, 10 in PD4; the
SP runs. -/
def State.requesterOn (s : State) (who : Nat) : Bool :=
  if who = 7 then s.sp.running else if who = 10 then s.power.pd4 else if who = 5 || who = 6 then s.power.pd10 else s.power.pd3

/-- New requests of powered requesters reach the ports; those outside the permissions are refused without a slot, and one
to a bank without power is refused with an error: a bus error and event 0x0C05 to the MP (R40, R168). -/
def State.arrive (s : State) (b : Nat) (reqs : List StoreReq) : State :=
  (reqs.filter fun r => s.requesterOn r.who).foldl (fun t r =>
    if !(if b < 8 then t.power.pd4 else t.power.pd5) then t.refuseDark b r
    else if t.permitted b r then t.modBank b fun k => { k with reqs := k.reqs ++ [r] } else t.refuse b r) s

/-- Write the granules of one beat that the mask names (R164). -/
def State.writeBeat (s : State) (a : Nat) (mask : BitVec 4) (w : BitVec 256) : State :=
  s.forEach ((List.range 4).filter fun g => mask.getLsbD g) fun t g =>
    t.storeBytes (a + 8 * g) (leBytes 8 (w.toNat >>> (64 * g)))

/-- One word as a reader receives it (R169). -/
def State.readWord (s : State) (a : Nat) : BitVec 256 := BitVec.ofNat 256 (leVal (s.readBytes a 32))

/-- The scrubber's grant (R171): for the oldest entry of the rewrite queue the LOCK read of its locked sequence, released at
once where the word is poisoned; otherwise the next word of the pass is read. -/
def State.scrub (s : State) (b : Nat) : State :=
  match (s.bank b).rewrite with
  | row :: rest =>
    let a := wordAddr b row
    let t := s.modBank b fun k => { k with rewrite := rest }
    if t.poisoned a 32 then t.eccRead a 32 else t.modBank b fun k => { k with owner := some 10, scrubFix := some row }
  | [] =>
    let row := (s.bank b).scrubRow
    (s.eccRead (wordAddr b row) 32).modBank b fun k =>
      { k with scrubRow := (row + 1) % 32768, overdue := k.overdue && row ≠ 32767 }

/-- The RELEASE write of the scrubber's sequence: the corrected word, all four granules (R171). -/
def State.scrubWrite (s : State) (b row : Nat) : State :=
  let t := s.modBank b fun k => { k with owner := none, scrubFix := none, grant := some 10 }
  (List.range 4).foldl (fun u g => u.granuleWritten (wordAddr b row / 8 + g)) t

/-- The transfer of a grant (R164, R165, R169). -/
def State.transfer (s : State) (b : Nat) (r : StoreReq) : State :=
  if r.who = 10 then s.scrub b
  else if r.write then
    let t := (List.zip r.rows r.data).foldl (fun u x => u.writeBeat (wordAddr b x.1) r.mask x.2) s
    t.modBank b fun k => { k with answer := some { who := r.who } }
  else
    let addrs := r.rows.map (wordAddr b)
    let ans : Answer :=
      { who := r.who, words := addrs.map s.readWord, poison := addrs.any fun a => s.poisoned a 32
        busError := r.who = 5 && addrs.any fun a => s.poisoned a 32 }
    (s.forEach addrs fun t a => t.eccRead a 32).modBank b fun k => { k with answer := some ans }

/-- Grant a requester's oldest request (R176, R177, R182): `idle` when it wins an idle slot. -/
def State.grantReq (s : State) (b m : Nat) (idle : Bool) : State :=
  match (s.bank b).request m with
  | none => s
  | some r =>
    let held := (s.bank b).owner.isSome
    let t := s.modBank b fun k =>
      let k1 := if held then k else k.advance
      { k1 with
        reqs := dropReq m k.reqs, grant := some m, lastIdle := if idle then m else k.lastIdle
        owner := if r.write && r.release then none else if !r.write && r.lock then some m else k.owner }
    t.transfer b r

/-- One decision of a bank (R173, R176, R177, R182, R186). -/
def State.arbitrate (s : State) (b : Nat) : State :=
  let k := s.bank b
  match k.owner with
  | some o =>
    match k.scrubFix with
    | some row => s.scrubWrite b row
    | none => if (k.request o).isSome then s.grantReq b o false else s.modBank b fun x => { x with grant := none }
  | none =>
    if k.reqs.isEmpty then s.modBank b fun x => { x.wrap.advance with grant := none }
    else if k.freeze then s.modBank b fun x => { x with grant := none }
    else
      let t := s.modBank b Bank.wrap
      let kt := t.bank b
      match kt.slotOwner kt.ptr with
      | some o =>
        if (kt.request o).isSome then t.grantReq b o false
        else match kt.idleWinner with
          | some m => t.grantReq b m true
          | none => t
      | none => match kt.idleWinner with
        | some m => t.grantReq b m true
        | none => t

/-- SLOT_SHADOW_WRITE (R179, R181): entries 11 to 14 are stored as 0xF; ignored while a swap is pending. -/
def execSlotShadowWrite (b : Fin 16) (j : Fin 8) (v : BitVec 32) (s : State) : Host.Outcome State Fault Refusal :=
  if (s.bank b.val).swap then
    .next ((s.modBank b.val fun k => { k with busyBit := true }).raise 0x0306 [(1, b.val)])
  else
    let put (m : Sparse (BitVec 4)) (i : Nat) : Sparse (BitVec 4) :=
      let e := bitsOf v.toNat (4 * i) 4
      m.set 0 (8 * j.val + i) (BitVec.ofNat 4 (if 10 < e then 15 else e) ^^^ defaultSlot (8 * j.val + i))
    .next (s.modBank b.val fun k => { k with shadow := (List.range 8).foldl put k.shadow })

/-- SWAP: ARB_CTRL.SWAP is written with 1 (R179). -/
def execSwap (b : Fin 16) (s : State) : Host.Outcome State Fault Refusal :=
  .next (s.modBank b.val fun k => { k with swap := true })

/-- An owner's queued requests up to the one that ends its sequence: those that a broken lock discards (R183). -/
def seqOf (m : Nat) : List StoreReq → List StoreReq
  | [] => []
  | r :: rs => if r.who ≠ m then seqOf m rs else if r.write && r.release then [r] else r :: seqOf m rs

/-- The requests that stay when a sequence is discarded. -/
def dropSeq (m : Nat) : List StoreReq → List StoreReq
  | [] => []
  | r :: rs => if r.who ≠ m then r :: dropSeq m rs else if r.write && r.release then rs else dropSeq m rs

/-- What an owner does about an aborted sequence (Table 6.6): the affinage accumulator makes it again, the fault-map writer
once; the others do not. -/
def retryOf (m : Nat) (gone : List StoreReq) : List StoreReq :=
  (gone.filter fun r => r.write && (m = 8 || (m = 9 && !r.again))).flatMap fun r =>
    [{ r with write := false, data := [], lock := true, release := false, again := true }, { r with again := true }]

/-- What the release of a lock by owner reset, fault or watchdog does: `gone` are the requests discarded, each answered by
an abort (R183, R184). -/
def State.breakLock (s : State) (b o : Nat) (gone kept : List StoreReq) : State :=
  (s.modBank b fun k => { k with
    owner := none, broken := true, grant := none, scrubFix := none, reqs := kept ++ retryOf o gone
    aborts := gone.map fun r => { who := r.who, abort := true, busError := decide (r.who = 5) } }).setFlag fLockBroken

/-- SCRUB_OVERDUE: a pass over the bank takes longer than 1 s; once per pass (R171). -/
def execScrubOverdue (b : Fin 16) (s : State) : Host.Outcome State Fault Refusal :=
  .next (if (s.bank b.val).overdue then s
    else (s.modBank b.val fun k => { k with overdue := true }).raise 0x0308 [(1, b.val)])

end Sys2Proof.Machine
end

