-- ==== Sys2Proof/Machine/Compose.lean ====
section
/-!
DEFINITION. Composition and the output-stage chain (07 R194-R205, 09 R257, 14 R385): the luminance of a content pixel
from base and layers, and the code of an array pixel, each with the words it fetched that hold wrong bits (R169, R274).
-/
namespace Sys2Proof.Machine

/-! ### Fetches -/

/-- A little-endian value fetched from the store, and the granules with wrong bits in the words read for it (R169). -/
structure Fetched where
  val  : Nat
  hits : List Nat := []

/-- Fetch `n` bytes at a store address. -/
def State.fetch (s : State) (a n : Nat) : Fetched :=
  let lo := a / 32 * 32
  let hi := (a + max n 1 - 1) / 32 * 32 + 32
  { val := leVal (s.readBytes a n)
    hits := if s.store.flips.isEmpty then [] else (s.store.flips.map fun c => c.1).filter fun g => lo ≤ 8 * g && 8 * g < hi }

/-! ### Conversion (R195) -/

def up5 (c : Nat) : Nat := c * 2048 ||| c * 64 ||| c * 2 ||| c / 16
def up6 (c : Nat) : Nat := c * 1024 ||| c * 16 ||| c / 4
def up8 (c : Nat) : Nat := c * 257

/-- weigh() with the layer's weights. -/
def envWeigh (e : EnvP) (r g b : Nat) : Nat := min 0xFFFF ((e.wr * r + e.wg * g + e.wb * b + 2048) / 4096)

/-- convert(): luminance and alpha of a source pixel. -/
def convert (e : EnvP) (d : Desc) (p : Nat) : Nat × Nat :=
  let rgb := envWeigh e (up8 (bitsOf p 16 8)) (up8 (bitsOf p 8 8)) (up8 (bitsOf p 0 8))
  match d.format with
  | 0 => (up8 (bitsOf p 0 8), 65536)
  | 1 => (bitsOf p 0 16 / 16 * 16 ||| bitsOf p 12 4, 65536)
  | 2 => (envWeigh e (up5 (bitsOf p 11 5)) (up6 (bitsOf p 5 6)) (up5 (bitsOf p 0 5)), 65536)
  | 3 => (rgb, 65536)
  | _ => (rgb, if d.opq then 65536 else alpha8 (bitsOf p 24 8))

/-- Premultiplied luminance P and alpha a of a source pixel or a sample, and the granules with wrong bits read for it. -/
structure Sample where
  p    : Nat
  a    : Nat
  hits : List Nat := []

/-- Source pixel (i, j) of layer `n` (R194, R199). -/
def State.source (s : State) (n : Nat) (d : Desc) (i j : Nat) : Sample :=
  let b := pixelBytes d.format
  let f := s.fetch ((s.env n).base + d.surf.toNat + j * d.stride.toNat + i * b) b
  let c := convert (s.env n) d f.val
  { p := (c.1 * c.2 + 0x8000) / 65536, a := c.2, hits := f.hits }

/-- Clamp a source coordinate (R202). -/
def clampSrc (v : Int) (size : Nat) : Nat := (clampInt 0 ((size : Int) - 1) v).toNat

/-- Bilinear weighting of four neighbours (R202). -/
def bilinear (q00 q10 q01 q11 fx fy : Nat) : Nat :=
  ((q00 * (256 - fx) + q10 * fx) * (256 - fy) + (q01 * (256 - fx) + q11 * fx) * fy + 0x8000) / 65536

/-- Sample of a video layer at destination column i and row j (R202). -/
def State.sampleVideo (s : State) (n : Nat) (d : Desc) (i j : Int) : Sample :=
  let u : Int := ((2 * i + 1) * (d.stepX.toNat : Int) - 65536) / 2
  let v : Int := ((2 * j + 1) * (d.stepY.toNat : Int) - 65536) / 2
  let x0 := u / 65536
  let y0 := v / 65536
  let fx := (u / 256 % 256).toNat
  let fy := (v / 256 % 256).toNat
  let xa := clampSrc x0 d.srcW.toNat
  let xb := clampSrc (x0 + 1) d.srcW.toNat
  let ya := clampSrc y0 d.srcH.toNat
  let yb := clampSrc (y0 + 1) d.srcH.toNat
  let q00 := s.source n d xa ya
  let q10 := s.source n d xb ya
  let q01 := s.source n d xa yb
  let q11 := s.source n d xb yb
  { p := bilinear q00.p q10.p q01.p q11.p fx fy, a := bilinear q00.a q10.a q01.a q11.a fx fy
    hits := q00.hits ++ q10.hits ++ q01.hits ++ q11.hits }

/-- Sample of a layer at a content pixel inside its destination rectangle (R201). -/
def State.sampleLayer (s : State) (n : Nat) (d : Desc) (x y : Nat) : Sample :=
  let i : Int := (x : Int) - d.dstX.toInt
  let j : Int := (y : Int) - d.dstY.toInt
  if n < 4 then s.sampleVideo n d i j else s.source n d i.toNat j.toNat

/-! ### Blending (R198-R200, Table 7.5) -/

/-- A blend of premultiplied P' and alpha a' onto D, clamped. -/
def blend (mode d p a : Nat) : Nat :=
  min 0xFFFF (match mode with
    | 0 => p + (d * (65536 - a) + 0x8000) / 65536
    | 1 => d + p
    | 2 => (d * (65536 - a + p) + 0x8000) / 65536
    | _ => max d p)

/-- A layer's sample applied to D with opacity g (R199). -/
def applySample (mode g d : Nat) (q : Sample) : Nat :=
  blend mode d ((q.p * g + 0x8000) / 65536) ((q.a * g + 0x8000) / 65536)

/-- The active layers in stacking order, those that are usable (R190, R198). -/
def State.stack (s : State) : List Nat :=
  (List.range 16).flatMap fun z => (List.range 12).filter fun n =>
    (s.env n).enabled && (s.layer n).fade.val ≠ 0 && (s.layer n).used.z = z

/-- A content pixel lies in a descriptor's clipped destination rectangle (R200). -/
def descCovers (d : Desc) (x y : Nat) : Bool :=
  decide ((descCols d).1 ≤ (x : Int)) && decide ((x : Int) < (descCols d).2)
    && decide ((descRows d).1 ≤ (y : Int)) && decide ((y : Int) < (descRows d).2)

/-- The span that holds a content pixel lies under the layer, declared opaque (R204). -/
def Layer.hides (l : Layer) (x y : Nat) : Bool :=
  l.used.opq && l.used.blend = 0 && l.fade.val = 65536
    && descCovers l.used (x / 16 * 16) y && descCovers l.used (x / 16 * 16 + 15) y

/-- The layers fetched at a content pixel, and whether the base is (R204). -/
def State.fetchedLayers (s : State) (x y : Nat) : List Nat × Bool :=
  s.stack.foldl (fun acc n => if (s.layer n).hides x y then ([n], false) else (acc.1 ++ [n], acc.2)) ([], true)

/-- One profile's value at a content pixel (R205). -/
def State.profileAt (s : State) (p x y : Nat) : Fetched :=
  if p = 255 then { val := 0 }
  else
    let f := s.fetch (s.regionBase 4 + 0x100000 * p + 2048 * y + x) 1
    { f with val := up8 f.val }

/-- The base of a content pixel (R205). -/
def State.baseAt (s : State) (x y : Nat) : Fetched :=
  let w := s.comp.w.val
  let a := s.profileAt s.comp.pA x y
  let b : Fetched := if w = 65536 then { val := 0 } else s.profileAt s.comp.pB x y
  { val := (a.val * w + b.val * (65536 - w) + 0x8000) / 65536, hits := a.hits ++ b.hits }

/-- Luminance of a content pixel in the native personality (R198). -/
def State.compose (s : State) (x y : Nat) : Fetched :=
  let fl := s.fetchedLayers x y
  let base : Fetched := if fl.2 then s.baseAt x y else { val := 0 }
  fl.1.foldl (fun acc n =>
    let l := s.layer n
    if descCovers l.used x y then
      let q := s.sampleLayer n l.used x y
      { val := applySample l.used.blend l.fade.val acc.val q, hits := acc.hits ++ q.hits }
    else acc) base

/-- The legacy row bookkeeping of a row. -/
def State.legRow (s : State) (v : Nat) : LegRow := s.leg.rows.get {} v

/-- Luminance in the legacy personality at an array pixel, whose content pixel is (xc, yc) (R385). -/
def State.legacyL (s : State) (x y xc yc : Nat) : Fetched :=
  let v := yc / 4
  let f := s.fetch (s.regionBase 5 + 0x10000 * (s.legRow v).shown + 512 * v + xc / 4) 1
  let n := s.leg.nfail.get 0 (512 * (y / 4) + x / 4)
  let l := f.val * 257
  let l' := if s.img.neighbour && 1 ≤ n && n < s.img.failThreshold && n ≤ 8 then (l * 16 + (16 - n) / 2) / (16 - n) else l
  { f with val := min l' 0xFFFF }

/-- drive_code() before the clamp: steps 2 to 4 of Table 9.2 (R257). -/
def scaleCode (c0 k s m : Nat) : Nat := min 4095 ((c0 * k * s * m + 2 ^ 37) / 2 ^ 38)

/-- The code of an array pixel, and the granules with wrong bits fetched for it (R9, R220, R257). -/
def State.pixelCode (s : State) (x y : Nat) : Fetched :=
  let xc := s.contentX x
  let yc := s.contentY y
  let l := if s.start.pers = .legacy then s.legacyL x y xc yc else s.compose xc yc
  let k := s.fetch (s.regionBase 1 + 2048 * y + x) 1
  let c := scaleCode (s.lut l.val) k.val (s.out.stripe.get 0x8000 (x / 32)) s.comp.master.val
  { val := rindClamp s.zones.active c x y, hits := l.hits ++ k.hits }

/-- The codes of an array row, and the granules with wrong bits fetched for them, each once. -/
def State.rowCodes (s : State) (y : Nat) : List Nat × List Nat :=
  let px := (List.range 2048).map fun x => s.pixelCode x y
  (px.map Fetched.val, (px.flatMap Fetched.hits).eraseDups)

end Sys2Proof.Machine
end

