-- ==== Sys2Proof/Machine/Scan.lean ====
section
/-!
DEFINITION. Scan-out (08 R218-R225, 06 R166, R167, R187, 09 R266, 10 R274-R277): the output buffer, the steps of a scan
window, suppressed lines, and a row segment at its tile.
-/
namespace Sys2Proof.Machine

/-! ### The output buffer (R166, R167) -/

/-- Store address of an array row in an output buffer. -/
def State.bufAddr (s : State) (b y : Nat) : Nat := s.regionBase 0 + 0x180000 * b + 3072 * y

/-- Bytes of a row of codes: two pixels in 24 bits (R166). -/
def packRow : List Nat → List Byte
  | a :: b :: l => leBytes 3 (a + 4096 * b) ++ packRow l
  | [a] => leBytes 3 a
  | [] => []

/-- Codes of the bytes of a row. -/
def unpackRow : List Byte → List Nat
  | x :: y :: z :: l => let v := leVal [x, y, z]; v % 4096 :: v / 4096 :: unpackRow l
  | _ => []

/-- Codes of an array row as a buffer holds them. -/
def State.bufRow (s : State) (b y : Nat) : List Nat := unpackRow (s.readBytes (s.bufAddr b y) 3072)

/-- The 128 codes of a tile's segment in a row. -/
def segCodes (codes : List Nat) (t : Nat) : List Nat := (codes.drop (tileX t)).take 128

/-- A word of a tile's segment reads as POISON in a buffer. -/
def State.segPoison (s : State) (b y t : Nat) : Bool := s.poisoned (s.bufAddr b y + 192 * (t % 16)) 192

/-- LINE_CRC of a segment's codes (R222). -/
def lineCrc (codes : List Nat) : BitVec 16 := BitVec.ofNat 16 (codes.foldl (fun c v => crc16Bits 12 v c) 0xFFFF)

/-- Buffer the frame's window writes, or reads when it is a keep-alive (R167, R218). -/
def State.windowBuf (s : State) : Nat := if s.grid.kind = .full then s.grid.frame.toNat % 2 else s.grid.lastFull

/-- Array rows of a step (R219). -/
def stepRows (step : Nat) : List Nat := [step, step + 128, step + 256, step + 384]

/-! ### Rows -/

/-- RESIDUE_INJECT forces a residue mismatch on the row in this frame (Table 13.8). -/
def State.injected (s : State) (y : Nat) : Bool := s.svc.perturb.any fun p => p.control = 8 && p.target = y && 0 < p.left

/-- It has acted in one more frame. -/
def State.injectSpent (s : State) (y : Nat) : State :=
  let f (p : Perturb) : Perturb := if p.control = 8 && p.target = y then { p with left := p.left - 1 } else p
  { s with svc := { s.svc with perturb := (s.svc.perturb.map f).filter fun p => !(p.control = 8 && p.left = 0) } }

/-- A row that is not written anew is made to hold what the latches hold (R275). -/
def State.keepRow (s : State) (y : Nat) : State :=
  let b := s.windowBuf
  if s.grid.haveFull && s.grid.lastFull = b then s
  else s.storeBytes (s.bufAddr b y) (packRow (s.bufRow (1 - b) y))

/-- A row is suppressed in the frame (R274). -/
def State.suppress (s : State) (y : Nat) : State := { s with out := { s.out with frameLines := s.out.frameLines ++ [y] } }

/-- A non-zero code is written for a quadrant of the row's half (R263). -/
def State.rowLights (s : State) (y : Nat) (codes : List Nat) : State :=
  let q := 2 * (y / 256)
  (s.cond ((codes.take 1024).any fun c => c ≠ 0) fun t => t.codeWritten q).cond ((codes.drop 1024).any fun c => c ≠ 0)
    fun t => t.codeWritten (q + 1)

/-- One row of a full frame: composed, or suppressed for a residue mismatch. -/
def State.fullRow (s : State) (residue : List Nat) (y : Nat) : State :=
  let hit := s.injected y
  let t := s.cond hit fun u => u.injectSpent y
  let r := s.rowCodes y
  let t := t.eccHits r.2
  if hit || residue.contains y || s.anyPoison r.2 then (t.keepRow y).suppress y
  else (t.storeBytes (t.bufAddr t.windowBuf y) (packRow r.1)).rowLights y r.1

/-- One row of a keep-alive frame: suppressed where a residue mismatch or POISON keeps a segment back. -/
def State.keepAliveRow (s : State) (residue : List Nat) (y : Nat) : State :=
  let hit := s.injected y
  let t := s.cond hit fun u => u.injectSpent y
  let bad := (List.range 16).any fun i => s.segPoison s.windowBuf y i
  let t := t.eccRead (s.bufAddr s.windowBuf y) 3072
  if hit || residue.contains y || bad then t.suppress y else t

/-! ### Affinage (R351) -/

/-- Code sum of a block, from the rows of the window's buffer. -/
def blockSum (rows : List (List Nat)) (col : Nat) : Nat :=
  ((rows.flatMap fun r => (r.drop (4 * col)).take 4).map sumCode).foldl (· + ·) 0

/-- The blocks whose last row a step completes are charged. -/
def State.chargeStep (s : State) (step : Nat) : State :=
  if step % 4 ≠ 3 then s
  else s.forEach (stepRows step) fun t y =>
    let rows := [y - 3, y - 2, y - 1, y].map fun i => t.bufRow t.windowBuf i
    t.forEach (List.range 512) fun u c =>
      let k := 512 * (y / 4) + c
      u.chargeBlock k (blockSum rows c) u.affin.units (u.affin.weights.get 0 (tileOfBlock k))

/-! ### Segments -/

/-- The record of a released segment (R277). -/
def State.segRec (s : State) (t row : Nat) (keep : Bool) (codes : List Nat) : SegRec :=
  { tile := t, row := row, frame8 := BitVec.ofNat 8 s.grid.frame.toNat, keep := keep, crc := lineCrc codes }

/-- The payload words of a row segment: eight codes of 12 bits each, the first most significant (R222). -/
def payloadWords (codes : List Nat) : List (BitVec 96) :=
  (List.range 16).map fun i =>
    BitVec.ofNat 96 ((List.range 8).foldl (fun v j => v * 4096 + codes.getD (8 * i + j) 0 % 4096) 0)

/-- The header of a released row segment: KIND 1, its row, PLEN 16 (Table 8.3). -/
def SegRec.header (x : SegRec) : BitVec 32 := segHeader 1 x.row x.keep 16 x.frame8.toNat

/-- A row segment goes out on its tile's link, and the SP expects its readback (R222, R277). -/
def State.sendRow (s : State) (x : SegRec) (codes : List Nat) : State :=
  ({ s with rb := { s.rb with expect := s.rb.expect ++ [x] } } : State).modTile x.tile fun t =>
    { t with rowOut := some (x.header, payloadWords codes) }

/-- A segment is released in its step: the SP holds its LINE_CRC too (R281). -/
def State.released (s : State) (x : SegRec) (codes : List Nat) : State :=
  ({ s with rb := { s.rb with reported := s.rb.reported ++ [(128 * x.tile + x.row, x.crc)] } } : State).sendRow x codes

/-- One tile's segment of a step: none to a tile held under fill, none to a quadrant without power, held back while a
woken quadrant is not ready (R264, R266, R319), none of a suppressed line. `whole` are the rows with a mismatch. -/
def State.releaseSeg (s : State) (whole : List Nat) (step t : Nat) : State :=
  let y := tileY t + step
  let q := quadOfTile t
  let b := s.windowBuf
  if (if s.grid.kind = .full then s.out.frameLines.contains y else whole.contains y || s.segPoison b y t) then s
  else if s.isHeld t || !(s.quad q).powered then s
  else if !(s.quad q).ready then s.modQuad q fun k => { k with heldSegs := k.heldSegs ++ [(t, step)] }
  else
    let codes := segCodes (s.bufRow b y) t
    s.released (s.segRec t step (s.grid.kind = .keepAlive) codes) codes

/-! ### The window's end (R276) -/

/-- Lines suppressed in the frame; the suppression fault. (DEDUCED: assumption log 36.) -/
def State.judgeLines (s : State) : State :=
  let n := s.out.frameLines.length
  if n = 0 then
    let clean := if s.out.standing then s.out.cleanRun + 1 else 0
    let t : State := { s with out := { s.out with badRun := 0, cleanRun := clean } }
    if s.out.standing && 120 ≤ clean then
      { t with out := { t.out with standing := false, cleanRun := 0 } }.setCause false cSuppress false
    else t
  else
    let run := min 3 (s.out.badRun + 1)
    let t : State := { s with out := { s.out with badRun := run, cleanRun := 0, suppressed := sat32 (s.out.suppressed + n) } }
    let u := t.raise 0x0704 [(2, n), (2, s.out.frameLines.headD 0)]
    if !s.out.standing && (4 < n || run = 3) then
      ((({ u with out := { u.out with standing := true } }.setFlag fIntegrity).raise 0x0705 [(1, if 4 < n then 0 else 1)])).setCause
        false cSuppress true
    else u

/-- The step is done; after the last one the window is (R167, R276). -/
def State.stepDone (s : State) (step : Nat) : State :=
  let t : State := { s.chargeStep step with grid := { s.grid with step := step + 1 } }
  if step + 1 = 128 then
    let u : State := if s.grid.kind = .full then
        { t with grid := { t.grid with lastFull := s.windowBuf, haveFull := true } }
      else t
    u.judgeLines
  else t

/-- Step time T of the frame (R219). -/
def State.stepTime (s : State) : Nat := if s.grid.compressed then min s.modeNow.stepNs 15000 else s.modeNow.stepNs

/-- STEP_STRETCH holds every step past its deadline (Table 13.8). -/
def State.stretched (s : State) : Bool := s.svc.perturb.any fun p => p.control = 10 && s.stepTime + 16000 < p.value.toNat

/-- A step is not sent: SCANOUT_STARVED, event 0x0305 once per frame (R187). The rows of a full frame come to hold what
the latches hold, so that the buffer equals them (R275). -/
def State.starve (s : State) (bank : Nat) : State :=
  let step := s.grid.step
  let t := if s.grid.kind = .full then s.forEach (stepRows step) State.keepRow else s
  let u := if s.grid.starvedSeen then t
    else ({ t with grid := { t.grid with starvedSeen := true } }.setFlag fStarved).raise 0x0305 [(1, bank), (1, step)]
  u.stepDone step

/-- A scan window is open and its next step may run. -/
def State.inWindow (s : State) : Bool :=
  (s.grid.kind = .full || s.grid.kind = .keepAlive) && s.grid.step < 128 && s.power.pd3

/-- A bank is held from the engine's fetches: frozen, or locked by another requester (R185, R186). -/
def Bank.held (k : Bank) : Bool := k.freeze || k.owner.isSome

/-- What the window's lines are fetched from reaches bank group 1: the output frames, the correction table, a layer or
profile that is shown. -/
def State.scanIn1 (s : State) : Bool :=
  let hi (a : Nat) : Bool := decide (0x800000 < a)
  hi (s.regionBase 0 + s.regionSize 0) || hi (s.regionBase 1 + s.regionSize 1)
    || (s.grid.kind = .full && (s.stack.any (fun n => hi ((s.env n).base + (descSpan (s.layer n).used).2))
      || (s.comp.pA ≠ 255 && hi (s.regionBase 4 + 0x100000 * (s.comp.pA + 1)))
      || (s.comp.pB ≠ 255 && hi (s.regionBase 4 + 0x100000 * (s.comp.pB + 1)))))

/-- The first bank whose data the step cannot have: a row takes words of every bank of its group. A group that is not ready
has no bank ready: the lowest is named, which the spec leaves open. (DESIGN CHOICE: assumption log 52.) -/
def State.missingBank (s : State) : Option Nat :=
  if !s.groupReady 0 then some 0
  else if s.scanIn1 && !s.groupReady 1 then some 8
  else (List.range (if s.scanIn1 then 16 else 8)).find? fun b => (s.bank b).held

/-- SCAN_STEP_RELEASE: the next step's rows are composed or read, written, and their segments released (R220, R221).
`residueRows` are the rows in which a residue or parity check failed (R274). (DESIGN CHOICE: assumption log 8.) -/
def execScanStepRelease (residueRows : List Nat) (s : State) : Host.Outcome State Fault Refusal :=
  if !s.inWindow then .next s
  else if s.stretched then .next (s.starve 0xFF)
  else match s.missingBank with
  | some b => .next (s.starve b)
  | none =>
    let step := s.grid.step
    let whole := (stepRows step).filter fun y => s.injected y || residueRows.contains y
    let t := s.forEach (stepRows step) fun u y =>
      if s.grid.kind = .full then u.fullRow residueRows y else u.keepAliveRow residueRows y
    .next ((t.forEach (List.range 64) fun u i => u.releaseSeg whole step i).stepDone step)

/-- SCANOUT_STARVED: the step's data is not complete by its deadline (R187, R221). -/
def execScanoutStarved (bank : Option (Fin 16)) (s : State) : Host.Outcome State Fault Refusal :=
  .next (if s.inWindow then s.starve (match bank with | some b => b.val | none => 0xFF) else s)

/-! ### A row segment at its tile (R223, R225, R241) -/

/-- A CRC_INJECT that waits for a tile (Table 13.8). (DESIGN CHOICE: assumption log 46.) -/
def State.crcInject (s : State) (target t : Nat) : Bool :=
  s.svc.perturb.any fun p => p.control = 6 && p.target = target && p.value.toNat = t

/-- It has acted. -/
def State.crcInjected (s : State) (target t : Nat) : State :=
  { s with svc := { s.svc with perturb := s.svc.perturb.filter fun p => !(p.control = 6 && p.target = target && p.value.toNat = t) } }

/-- The latched codes of a tile's row, and whether one fails its parity. -/
def State.latchedRow (s : State) (t row : Nat) : List Nat × Bool :=
  let ls := (List.range 128).map fun c => s.latch t row c
  (ls.map fun v => (latchCode v).toNat, ls.any fun v => !latchOk v)

/-- ROW_SEGMENT: an ignored segment is counted and not answered; a LINE_CRC that passes writes the row's latches with
parity, after what the fill engine paints there (R245); the readback gives the signature of what is latched (R223, R225).
CRC_INJECT strikes the check value on the link, or the signature (Table 13.8). -/
def execRowSegment (t : Fin 64) (hdr : BitVec 32) (codes : List (BitVec 12)) (crc : BitVec 16) (s : State) :
    Host.Outcome State Fault Refusal :=
  let w := hdr.toNat
  if !s.tileOn t then .next s
  else if !headerOk 1 w || codes.length ≠ 128 then .next (s.modTile t fun x => { x with ignored := x.ignored + 1 })
  else
    let row := bitsOf w 21 7
    let bad := s.crcInject 1 t
    let s1 := s.cond bad fun u => u.crcInjected 1 t
    let ok := lineCrc (codes.map BitVec.toNat) = (if bad then crc ^^^ 1 else crc)
    let s2 := if ok then s1.writeRow t row codes else s1
    let r := s2.latchedRow t row
    let flip := s2.crcInject 2 t
    let sig := if flip then lineCrc r.1 ^^^ 1 else lineCrc r.1
    let s3 := s2.cond flip fun u => u.crcInjected 2 t
    .next (s3.modTile t fun x =>
      { x with wrote := if ok && !x.held.isEmpty then setBit x.wrote row true else x.wrote
               rbWord := readbackWord 1 row (bitOf w 20) (!ok) r.2 (bitsOf w 8 8) sig.toNat })

/-! ### Catch-up (R266) -/

/-- WAKE_CATCHUP: after the window's last step, the held segments are sent in step order, event 0x0605. -/
def execWakeCatchup (q : Fin 4) (s : State) : Host.Outcome State Fault Refusal :=
  let k := s.quad q
  if !s.quadReady q || k.heldSegs.isEmpty || s.grid.step ≠ 128 then .next s
  else
    let keep := decide (s.grid.kind = .keepAlive)
    let b := s.windowBuf
    let t := k.heldSegs.foldl (fun u x =>
      if u.isHeld x.1 then u
      else
        let codes := segCodes (s.bufRow b (tileY x.1 + x.2)) x.1
        u.released (s.segRec x.1 x.2 keep codes) codes) s
    .next ((t.modQuad q fun x => { x with heldSegs := [] }).raise 0x0605 [(1, q.val), (2, k.heldSegs.length)])

end Sys2Proof.Machine
end

