-- ==== Sys2Proof/Machine/Diagnosis.lean ====
section
/-!
DEFINITION. Diagnosis (10): the readback compare and its packets (R277-R281, R295), the diagnosis control words (R287),
measured periods and sweeps (R285-R290), gap tests (R291, R292), the fault map and its reports (R293, R294).
-/
namespace Sys2Proof.Machine

/-! ### The fault map (R293) -/

/-- Write a pixel's bit in region 2, by a locked sequence. -/
def State.setMapped (s : State) (p : Nat) (on : Bool) : State :=
  let a := s.regionBase 2 + p / 8
  let old : BitVec 8 := BitVec.ofNat 8 (leVal (s.readBytes a 1))
  (s.eccRead a 1).storeBytes a [setBit old (p % 8) on]

/-- Block of a pixel (R8). -/
def blockOfPixel (p : Nat) : Nat := blockAt (p % 2048) (p / 2048)

/-- Pixels of a block in the fault map, saturating at 15 (R386). -/
def State.blockFails (s : State) (k : Nat) : Nat := min 15 ((blockPixels k).filter s.mapped).length

/-- The block table follows region 2 for one block; a change of a legacy pixel's failed state is reported (R386, R391). -/
def State.blockUpdate (s : State) (k : Nat) : State :=
  if !s.isLegacy then s
  else
    let old := s.leg.nfail.get 0 k
    let n := s.blockFails k
    let th := s.img.failThreshold
    let t : State := { s with leg := { s.leg with nfail := s.leg.nfail.set 0 k n } }
    let u := t.cond (old < th && th ≤ n) fun v => (v.legStatus 7).raise 0x0D06 [(1, 1), (2, k)]
    u.cond (th ≤ old && n < th) fun v => v.raise 0x0D06 [(1, 0), (2, k)]

/-- A stuck-on entry or departure passes through the SP to the Rind, which holds 64; a 65th asks for FALLBACK (R325). -/
def State.stuckChange (s : State) (p : Nat) (enters : Bool) : State :=
  if !enters then { s with safety := { s.safety with stuckOn := s.safety.stuckOn.filter fun x => x ≠ p } }
  else if s.safety.stuckOn.length < 64 then { s with safety := { s.safety with stuckOn := s.safety.stuckOn ++ [p] } }
  else s.setCause true cStuckFull true

/-- Entries of the fault list. -/
def listDepth : Nat := 16384

/-- The cause is recorded, or the list is full: event 0x070B once (R293). -/
def State.listCause (s : State) (p : Nat) : State :=
  if s.diag.list.length < listDepth then { s with diag := { s.diag with list := s.diag.list ++ [p] } }
  else if s.diag.listFull then s
  else { s with diag := { s.diag with listFull := true } }.raise 0x070B []

/-- A pixel enters the fault map. -/
def State.enterMap (s : State) (p cause : Nat) : State :=
  let t := (s.setMapped p true).raise 0x0701 [(1, cause), (4, p)]
  let u : State := { t with diag := { t.diag with
    cause := t.diag.cause.set 0 p cause, passes := t.diag.passes.drop p, delta := t.diag.delta ++ [(p, if t.diag.list.length < listDepth then cause else 0, false)]
    mapDirty := true } }
  ((u.listCause p).cond (cause = 3) fun v => v.stuckChange p true).blockUpdate (blockOfPixel p)

/-- A pixel leaves the fault map. -/
def State.leaveMap (s : State) (p cause : Nat) : State :=
  let t := (s.setMapped p false).raise 0x0702 [(1, cause), (4, p)]
  let u : State := { t with diag := { t.diag with
    cause := t.diag.cause.drop p, passes := t.diag.passes.drop p, delta := t.diag.delta ++ [(p, if t.diag.list.contains p then cause else 0, true)]
    list := t.diag.list.filter fun x => x ≠ p, mapDirty := true } }
  (u.cond (cause = 3) fun v => v.stuckChange p false).blockUpdate (blockOfPixel p)

/-- The bit cannot be written: its bank group is off, or the word is POISON (Table 6.6). (DESIGN CHOICE: assumption log 35.) -/
def State.mapBlocked (s : State) (p : Nat) : Bool :=
  !s.groupReady 0 || s.poisoned ((s.regionBase 2 + p / 8) / 8 * 8) 8

/-- The locked sequence on a pixel's bit that is not written: its read, where the bank group is ready (R169). -/
def State.mapProbe (s : State) (p : Nat) : State := s.cond (s.groupReady 0) fun t => t.eccRead (t.regionBase 2 + p / 8) 1

/-- One measurement of a pixel for one cause (R293). -/
def State.measured (s : State) (p cause : Nat) (fail : Bool) : State :=
  let key := 8 * p + cause
  if fail then
    let n := min 2 (s.diag.fails.get 0 key + 1)
    let t : State := { s with diag := { s.diag with
      fails := s.diag.fails.set 0 key n
      passes := if s.diag.cause.get 0 p = cause then s.diag.passes.drop p else s.diag.passes } }
    if n < 2 || t.mapped p then t else if t.mapBlocked p then t.mapProbe p else t.enterMap p cause
  else
    let t : State := { s with diag := { s.diag with fails := s.diag.fails.drop key } }
    if t.diag.cause.get 0 p ≠ cause then t
    else
      let n := min 8 (t.diag.passes.get 0 p + 1)
      let u : State := { t with diag := { t.diag with passes := t.diag.passes.set 0 p n } }
      if n < 8 then u else if u.mapBlocked p then u.mapProbe p else u.leaveMap p cause

/-! ### Readback compare (R277-R280) -/

/-- The frame a record belongs to, from its FRAME8. -/
def State.recFrame (s : State) (x : SegRec) : BitVec 16 :=
  if BitVec.ofNat 8 s.grid.frame.toNat = x.frame8 then s.grid.frame else s.grid.frame - 1

/-- The SP's request follows its fault bits (R278). -/
def State.judgeFaults (s : State) : State :=
  let on := !s.rb.fault.isEmpty
  s.cond (on ≠ s.safety.spCauses.getLsbD cReadback) fun t => t.setCause false cReadback on

/-- A readback is judged in its frame (R295). -/
def State.counted (s : State) (f : BitVec 16) : State :=
  { s with rb := { s.rb with checked := sat16 (s.rb.checked + 1), frame := if s.rb.checked = 0 then f else s.rb.frame } }

/-- A good readback counts toward an open stall deadline (R312). -/
def State.stallGood (s : State) (f : BitVec 16) (key : Nat) : State :=
  match s.zones.stall with
  | some x =>
    if (f - x.frame).toNat < 32768 then { s with zones := { s.zones with stall := some { x with good := x.good ++ [key] } } } else s
  | none => s

/-- judge() of R278 for a good readback. -/
def State.judgeGood (s : State) (x : SegRec) : State :=
  let key := 128 * x.tile + x.row
  let n := s.rb.goodRun.get 0 key + 1
  let fault := s.rb.fault.get false key
  let ends := fault && decide (16 ≤ n)
  let t := s.counted (s.recFrame x)
  let u : State := { t with rb := { t.rb with
    miss := t.rb.miss.drop key
    fault := if ends then t.rb.fault.drop key else t.rb.fault
    goodRun := if !fault then t.rb.goodRun else if ends then t.rb.goodRun.drop key else t.rb.goodRun.set 0 key n
    sigs := t.rb.sigs ++ [(64 * x.row + x.tile, x.crc)] } }
  (u.stallGood (s.recFrame x) key).judgeFaults

/-- judge() of R278 for a mismatch: the first asks for a re-read, the second is a fault. -/
def State.judgeBad (s : State) (x : SegRec) (reason : Nat) (sig : BitVec 16) : State :=
  let key := 128 * x.tile + x.row
  let second := s.rb.miss.get false key
  let t := s.counted (s.recFrame x)
  let u : State := { t with rb := { t.rb with
    goodRun := t.rb.goodRun.drop key, miss := t.rb.miss.set false key true
    fault := if second then t.rb.fault.set false key true else t.rb.fault
    reread := t.rb.reread ++ [(key, s.grid.frame)]
    bad := t.rb.bad ++ [{ tile := x.tile, row := x.row, fault := second, reason := reason, sig := sig }]
    mismatches := sat32 (t.rb.mismatches + 1) } }
  let v := if second then (u.setFlag fIntegrity).raise 0x0707 [(1, x.tile), (1, reason), (2, x.row)]
           else u.raiseRated 0x0706 0 [(1, x.tile), (1, reason), (2, x.row)]
  v.judgeFaults

/-- A readback with PARITY 1 is followed by a parity scan of its row, after the re-read (R280). -/
def State.scanAfter (s : State) (x : SegRec) (parity : Bool) : State :=
  s.cond parity fun t => { t with rb := { t.rb with scanDue := t.rb.scanDue ++ [128 * x.tile + x.row] } }

/-- HCRC of a readback word passes. -/
def rbCrcOk (w : Nat) : Bool := w % 256 = crcMsbBits 8 0x07 40 (w / 256) 0

/-- Take the oldest record of a tile. (DEDUCED: assumption log 36.) -/
def takeRec (t : Nat) : List SegRec → Option SegRec × List SegRec
  | [] => (none, [])
  | x :: l => if x.tile = t then (some x, l) else let r := takeRec t l; (r.1, x :: r.2)

/-- The reason of a readback against its record, none when good (R277): 1 for one of another segment, then CRC_FAIL,
PARITY, SIG. -/
def rbReason (x : SegRec) (w : Nat) : Option Nat :=
  if bitsOf w 37 7 ≠ x.row || bitsOf w 24 8 ≠ x.frame8.toNat || bitOf w 36 ≠ x.keep then some 1
  else if bitOf w 35 then some 2 else if bitOf w 34 then some 3
  else if bitsOf w 8 16 ≠ x.crc.toNat then some 0 else none

/-- READBACK: a word arrives on a tile's readback lane; one whose HCRC fails is ignored; a row readback is judged against
the oldest record of its tile (R277, R278). -/
def execReadback (t : Fin 64) (w : BitVec 48) (s : State) : Host.Outcome State Fault Refusal :=
  let v := w.toNat
  if !rbCrcOk v || bitsOf v 44 4 ≠ 1 || !s.sp.running then .next s
  else match takeRec t.val s.rb.expect with
    | (none, _) => .next s
    | (some x, rest) =>
      let u : State := { s with rb := { s.rb with expect := rest } }
      .next (match rbReason x v with
        | none => u.judgeGood x
        | some r => (u.judgeBad x r (BitVec.ofNat 16 (bitsOf v 8 16))).scanAfter x (bitOf v 34))

/-- READBACK_TIMEOUT: 10 us have passed since the oldest record's release without its readback (R277). None is expected of
a quadrant powered down since (R264). -/
def execReadbackTimeout (s : State) : Host.Outcome State Fault Refusal :=
  match s.rb.expect with
  | [] => .next s
  | x :: rest =>
    let u : State := { s with rb := { s.rb with expect := rest } }
    .next (if s.sp.running && s.tileOn x.tile then u.judgeBad x 1 0 else u)

/-- The engine asks a tile for a parity scan of a row (R280). -/
def State.sendScan (s : State) (key : Nat) : State :=
  s.sendCtl (key / 128) 272 (0x44 * 2 ^ 88 + key % 128 * 2 ^ 81)

/-- Send a segment again from the buffer of the most recent full frame, KEEPALIVE 1 (R279). -/
def State.resend (s : State) (key : Nat) : State :=
  let t := key / 128
  let y := tileY t + key % 128
  let b := s.grid.lastFull
  let s := s.eccRead (s.bufAddr b y + 192 * (t % 16)) 192
  if s.isHeld t || !s.quadReady (quadOfTile t) || s.segPoison b y t then s
  else s.sendRow (s.segRec t (key % 128) true (segCodes (s.bufRow b y) t)) (segCodes (s.bufRow b y) t)

/-- REREAD: the segments mismatched in earlier frames. In a full frame its own segments are the re-reads; in a keep-alive
frame, in its hold interval, and in an idle frame they are sent again; never in a transition frame. Parity scans follow
(R279, R280). -/
def execReread (s : State) : Host.Outcome State Fault Refusal :=
  if s.grid.kind = .transition || s.grid.step ≠ 128 then .next s
  else
    let due := ((s.rb.reread.filter fun x => x.2 ≠ s.grid.frame).map Prod.fst).eraseDups
    let t : State := { s with rb := { s.rb with
      reread := s.rb.reread.filter fun x => x.2 = s.grid.frame
      scanDue := s.rb.scanDue.filter fun k => !due.contains k } }
    let u := if s.grid.kind = .full then t else t.forEach due State.resend
    .next (u.forEach ((s.rb.scanDue.filter fun k => due.contains k).eraseDups) State.sendScan)

/-- A SIG joins those in order of its key, after its equals: one entry for each good readback. -/
def putSig (x : Nat × BitVec 16) : List (Nat × BitVec 16) → List (Nat × BitVec 16)
  | [] => [x]
  | y :: l => if x.1 < y.1 then x :: y :: l else y :: putSig x l

/-- The bytes FRAME_SIG is taken over (R295). -/
def sigBytes (l : List (Nat × BitVec 16)) : List Byte :=
  (l.foldl (fun m x => putSig x m) []).flatMap fun x => leBytes 2 x.2.toNat

/-- FRAME_SIG (R295). -/
def frameSig (l : List (Nat × BitVec 16)) : Nat := crc32c (sigBytes l)

/-- An entry of a READBACK packet (Table 10.11). -/
def Mismatch.word (m : Mismatch) : Nat :=
  m.tile * 2 ^ 26 + m.row * 2 ^ 19 + b2n m.fault * 2 ^ 18 + m.reason % 4 * 2 ^ 16 + m.sig.toNat

/-- READBACK payload (Table 10.11). -/
def State.readbackBytes (s : State) : List Byte :=
  let r := s.rb
  let now := decide (r.frame = s.grid.frame)
  let keep := if now then decide (s.grid.kind = .keepAlive) else r.prevKeep
  leBytes 2 r.frame.toNat ++ [0, 0] ++ leBytes 2 r.checked ++ leBytes 2 (sat16 r.bad.length) ++ leBytes 4 (frameSig r.sigs)
    ++ leBytes 2 (if now then s.out.frameLines.length else r.prevLines)
    ++ leBytes 1 (b2n keep + 2 * b2n (s.ev.flags.getLsbD fIntegrity) + 4 * b2n (1020 < r.bad.length)) ++ [0]
    ++ (r.bad.take 1020).flatMap fun m => leBytes 4 m.word

/-- GAP of a READBACK payload (Table 10.11). (DEDUCED: assumption log 36.) -/
def markGap (p : TxPkt) : TxPkt := { p with payload := p.payload.modify 14 fun b => b ||| 8 }

/-- Of three unsent READBACK packets the oldest is dropped and the next one says so (R295). (DEDUCED: assumption log 36.) -/
def dropReadback (l : List TxPkt) : List TxPkt :=
  if (l.filter fun p => p.type = 0x32).length ≤ 2 then l
  else
    let m := l.eraseP fun p => p.type = 0x32
    match m.findIdx? fun p => p.type = 0x32 with
    | some i => m.modify i markGap
    | none => m

/-- The READBACK packets not yet sent, those that wait for room among them (R132, R295). -/
def State.readbacks (s : State) : List TxPkt := s.link.tqs.get [] 2 ++ s.link.blocked.get [] 2

/-- TQ2 takes of the unsent packets as many as it has room for; the others wait (R132, R295). -/
def State.setReadbacks (s : State) (l : List TxPkt) : State :=
  let r := fitting (queueDepth 2) l
  { s with link := { s.link with tqs := s.link.tqs.set [] 2 r.1, blocked := s.link.blocked.set [] 2 r.2 } }

/-- READBACK_PACKET: the frame's last readback has been judged; context 40 forms FRAME_SIG (R295). -/
def execReadbackPacket (s : State) : Host.Outcome State Fault Refusal :=
  if s.rb.checked = 0 || !s.sp.running then .next s
  else
    let t := (s.setReadbacks (dropReadback (s.readbacks ++ [s.upPkt 2 0x32 0 s.readbackBytes]))).setContext 40 (sigBytes s.rb.sigs)
    .next { t with rb := { t.rb with sigs := [], bad := [], checked := 0 } }

/-- Next segment of the rotation that has a reported LINE_CRC (R281). (DEDUCED: assumption log 36.) -/
def nextReported (rot : Nat) (l : List (Nat × BitVec 16)) : Option (Nat × BitVec 16) :=
  l.foldl (fun (best : Option (Nat × BitVec 16)) x =>
    let d (k : Nat) : Nat := (k + 8192 - rot) % 8192
    match best with
    | some b => if d x.1 < d b.1 then some x else some b
    | none => some x) none

/-- CRC_GEN_CHECK: in a frame with a scan window, the SP recomputes one segment's LINE_CRC from the buffer, in context 41 (R281,
Table 10.4; of its contexts 40 to 43, 41: DESIGN CHOICE, assumption log 52). Every difference is a CRC generator fault. -/
def execCrcGenCheck (s : State) : Host.Outcome State Fault Refusal :=
  if !(s.grid.kind = .full || s.grid.kind = .keepAlive) || s.grid.step ≠ 128 || !s.sp.running then .next s
  else match nextReported s.rb.rot s.rb.reported with
    | none => .next s
    | some x =>
      let t := x.1 / 128
      let y := tileY t + x.1 % 128
      let b := s.grid.lastFull
      let codes := segCodes (s.bufRow b y) t
      let read := s.eccRead (s.bufAddr b y + 192 * (t % 16)) 192
      let u : State := { read with
        rb := { s.rb with rot := (x.1 + 1) % 8192 }
        cvu := read.cvu.modify {} 41 fun c => { c with value := BitVec.ofNat 32 (lineCrc codes).toNat } }
      if s.segPoison b y t then .next (u.judgeBad (s.segRec t (x.1 % 128) (s.grid.kind = .keepAlive) codes) 1 0)
      else if lineCrc codes = x.2 then .next u
      else
        let v := ({ u with rb := { u.rb with crcGen := true } }.setFlag fIntegrity).raise 0x0708 []
        .next (v.setCause false cCrcGen true)

/-! ### Diagnosis control words at a tile (R287) -/

/-- Columns of a row for which `f` holds of the latched code. -/
def State.codeMask (s : State) (t row : Nat) (f : Nat → Nat → Bool) : BitVec 128 :=
  (List.range 128).foldl (fun m c => if f c (latchCode (s.latch t row c)).toNat then setBit m c true else m) 0

/-- MEAS: the row of the tile's next period; every tamp permission and the kept results end (Table 10.6). -/
def execMeas (t : Fin 64) (w : BitVec 96) (s : State) : Host.Outcome State Fault Refusal :=
  let row := bitsOf w.toNat 81 7
  .next (s.onWord t 256 0x40 w (some row) row 0 fun x =>
    { x with
      measNext := some { row := row, cmin := bitsOf w.toNat 69 12, cgap := bitsOf w.toNat 57 12 }
      tamp := 0, resOpen := 0, resShort := 0, resStuck := 0, resParity := 0, resLit := 0, resDark := 0 })

/-- TAMP_ALLOW: ignored unless it names the ROW of a MEAS earlier in the segment (Table 10.6). -/
def execTampAllow (t : Fin 64) (w : BitVec 96) (s : State) : Host.Outcome State Fault Refusal :=
  let row := bitsOf w.toNat 81 7
  let q := bitsOf w.toNat 79 2
  let seg := (s.tile t).segRow
  let m : BitVec 128 := BitVec.ofNat 128 (bitsOf w.toNat 47 32 * 2 ^ (32 * q))
  .next (s.onWord t (260 + q) 0x41 w seg (seg.getD 0) 0 fun x => if seg = some row then { x with tamp := x.tamp ||| m } else x)

/-- TILE cycles of 1.5 us and 4 us. -/
def cyc1500 : Nat := 600
def cyc4000 : Nat := 1600

/-- The placement of a switch off-pulse in the tile's period (R291). -/
def gapPlaced (off period : Nat) : Bool := cyc4000 ≤ off && (off + cyc4000 + cyc1500) * 256 ≤ period

/-- SWITCH_GAP: scheduled, or ignored where it breaks the placement, a pulse already scheduled keeping its place; its RESULT then
answers PASS 0 and COLLAPSE 0 (R291). -/
def execSwitchGap (t : Fin 64) (w : BitVec 96) (s : State) : Host.Outcome State Fault Refusal :=
  let off := bitsOf w.toNat 64 24
  .next (s.onCtl t 0x42 w fun x =>
    if gapPlaced off x.periodUsed then { x with gap := some off }
    else { x with gapPass := false, gapLoad := false, gapTime := 0 })

/-- Failing columns of the kept results for a cause. -/
def Tile.failing (x : Tile) (cause : Nat) : BitVec 128 :=
  if cause = 0 then x.resOpen else if cause = 1 then x.resShort else if cause = 2 then x.resStuck
  else if cause = 3 then x.resParity else 0

/-- Lowest set column at or above `start`. -/
def lowestFrom (m : BitVec 128) (start : Nat) : Option Nat := (List.range 128).find? fun c => start ≤ c && m.getLsbD c

/-- RESULT answer (Table 10.7). -/
def Tile.resultSig (x : Tile) (cause start : Nat) : Nat :=
  if cause ≤ 3 then
    let m := x.failing cause
    let f := lowestFrom m start
    popCount 128 m.toNat * 256 + b2n f.isSome * 128 + f.getD 0
  else if cause = 4 then b2n x.gapPass * 32768 + b2n x.gapLoad * 16384 + min 255 x.gapTime
  else 0

/-- The engine asks a tile for its results (R287). -/
def State.sendResult (s : State) (t cause start : Nat) : State :=
  s.sendCtl t 268 (0x43 * 2 ^ 88 + cause * 2 ^ 85 + start % 128 * 2 ^ 78)

/-- The columns that an answer decides, from START to the column found or to the end, are judged where they were checked
(R293); the engine goes on with the next RESULT. -/
def State.takeResult (s : State) (t cause start : Nat) : State :=
  let x := s.tile t
  let f := lowestFrom (x.failing cause) start
  let last := f.getD 127
  let chk := if cause = 2 then x.resDark else x.resLit
  let cols := (List.range 128).filter fun c => start ≤ c && c ≤ last && chk.getLsbD c
  let u := s.forEach cols fun v c => v.measured (tilePixel t x.resRow c) (cause + 1) (f = some c)
  match f with
  | some c => if c < 127 then u.sendResult t cause (c + 1) else u.cond (cause < 2) fun v => v.sendResult t (cause + 1) 0
  | none => u.cond (cause < 2) fun v => v.sendResult t (cause + 1) 0

/-- RESULT: the tile's answer, and what the engine makes of it (R287, R293). -/
def execResult (t : Fin 64) (w : BitVec 96) (s : State) : Host.Outcome State Fault Refusal :=
  let cause := bitsOf w.toNat 85 3
  let start := bitsOf w.toNat 78 7
  let u := s.onWord t 268 0x43 w none 0 ((s.tile t).resultSig cause start) id
  .next (if s.tileOn t && ctlOp w = 0x43 && cause ≤ 2 then u.takeResult t cause start else u)

/-- PARITY_SCAN: the odd-parity columns of a row, each a measurement for cause PARITY (R280, R293). -/
def execParityScan (t : Fin 64) (w : BitVec 96) (s : State) : Host.Outcome State Fault Refusal :=
  let row := bitsOf w.toNat 81 7
  let odd : BitVec 128 := (List.range 128).foldl (fun m c => if latchOk (s.latch t row c) then m else setBit m c true) 0
  let u := s.onWord t 272 0x44 w none row 0 fun x =>
    { x with resParity := odd, resOpen := 0, resShort := 0, resStuck := 0, resLit := 0, resDark := 0 }
  .next (if s.tileOn t && ctlOp w = 0x44 then
      u.forEach (List.range 128) fun v c => v.measured (tilePixel t row c) 4 (odd.getLsbD c)
    else u)

/-- THRESH (Table 10.6). -/
def execThresh (t : Fin 64) (w : BitVec 96) (s : State) : Host.Outcome State Fault Refusal :=
  .next (s.onCtl t 0x45 w fun x => { x with openMv := bitsOf w.toNat 78 10, shortMv := bitsOf w.toNat 66 12 })

/-! ### Measured periods, sweeps, gap tests -/

/-- A row has been measured: the sweep moves on (R290). (DESIGN CHOICE: assumption log 35.) -/
def State.rowMeasured (s : State) (t : Nat) : State :=
  if (s.tile t).sweepRow < 127 then s.modTile t fun x => { x with sweepRow := x.sweepRow + 1 }
  else
    let u := s.modTile t fun x => { x with sweepRow := 0, overdue := false }
    { u with diag := { u.diag with sweeps := sat32 (u.diag.sweeps + 1) } }

/-- MEAS_PERIOD_END: the comparators' outputs for the row, kept for the pixels checked (Table 10.5); a period in which a
latch of the row was written, or VLED was low, is discarded (R288, R420). The engine then reads the results. -/
def execMeasPeriodEnd (t : Fin 64) (opens shorts stuck : BitVec 128) (s : State) : Host.Outcome State Fault Refusal :=
  match (s.tile t).meas with
  | none => .next s
  | some m =>
    if m.dirty then .next (s.modTile t fun x => { x with meas := none })
    else
      let tamp := (s.tile t).tamp
      let lit := s.codeMask t m.row fun c v => m.cmin ≤ v || (tamp.getLsbD c && 0 < v)
      let dark := s.codeMask t m.row fun _ v => v ≤ 4096 - m.cmin || m.cgap ≤ v
      let u := s.modTile t fun x =>
        { x with
          meas := none, resRow := m.row, resLit := lit, resDark := dark
          resOpen := opens &&& lit, resShort := shorts &&& lit, resStuck := stuck &&& dark }
      .next ((u.cond (m.row = (s.tile t).sweepRow) fun v => v.rowMeasured t).sendResult t 0 0)

/-- CMIN or CGAP for an on-time of `ns` (R286). -/
def State.minCode (s : State) (ns : Nat) : Nat := ceilDiv (ns * 4096 * s.modeNow.rate * s.drive.pwmDiv) 1000000000

/-- A pixel lies in no zone of the active set and of the pending set (R289). -/
def State.outsideZones (s : State) (x y : Nat) : Bool :=
  let out (c : ClampSet) : Bool := !(c.zones.any fun z => z.2.covers x y)
  out s.zones.active && (match s.zones.pending with
    | some c => out c
    | none => true)

/-- Columns of one quarter of a tile's row that TAMP_ALLOW permits (R289). -/
def State.tampMask (s : State) (t row q cmin : Nat) : Nat :=
  let codes := segCodes (s.bufRow s.grid.lastFull (tileY t + row)) t
  ((List.range 32).foldl (fun (m : BitVec 32) i =>
    let c := codes.getD (32 * q + i) 0
    if 0 < c && c < cmin && s.outsideZones (tileX t + 32 * q + i) (tileY t + row) then setBit m i true else m) 0).toNat

/-- From now to a tile's next period boundary, in TILE cycles / 256 (R246, R247, R252). -/
def State.toBoundary (s : State) (t : Nat) : Nat :=
  let x := s.tile t
  if x.localSrc then localPeriod - (256 * s.tileNow - x.start) % localPeriod
  else 256 * s.alignDelay s.grid.lastL s.pwmPeriod t

/-- From now to the next latch point, in the same unit. -/
def State.toLatch (s : State) : Nat := (s.grid.nextL * nsUnit - s.clk.tb2) * 512 / (5 * nsUnit)

/-- The tile's next boundary plus Tp falls at or before the next latch point (R288). -/
def State.slotFits (s : State) (t : Nat) : Bool := decide (s.toBoundary t + (s.tile t).periodUsed ≤ s.toLatch)

/-- DIAG_ROW_SLOT: the slot of the tile's next row, at a boundary that R288 permits: MEAS, and a TAMP_ALLOW for each
quarter with a permitted column (R289, R290). -/
def execDiagRowSlot (t : Fin 64) (s : State) : Host.Outcome State Fault Refusal :=
  if !s.quadReady (quadOfTile t) || s.grid.step ≠ 128 || !s.power.pd3 || !s.slotFits t then .next s
  else
    let row := (s.tile t).sweepRow
    let cmin := s.minCode 1500
    let u := s.sendCtl t 256 (0x40 * 2 ^ 88 + row * 2 ^ 81 + cmin % 4096 * 2 ^ 69 + s.minCode 4000 % 4096 * 2 ^ 57)
    .next (u.forEach [0, 1, 2, 3] fun v q =>
      let m := s.tampMask t row q cmin
      v.cond (m ≠ 0) fun x => x.sendCtl t (260 + q) (0x41 * 2 ^ 88 + row * 2 ^ 81 + q * 2 ^ 79 + m * 2 ^ 47))

/-- A gap test of a tile is under way. -/
def State.gapBusy (s : State) (t : Nat) : Bool := (s.tile t).gap.isSome || (s.tile t).ctl.any fun c => c.1 = 264

/-- The engine sends SWITCH_GAP at the earliest placement (R291). (DESIGN CHOICE: assumption log 35.) -/
def State.sendGap (s : State) (t : Nat) : State := s.sendCtl t 264 (0x42 * 2 ^ 88 + cyc4000 * 2 ^ 64)

/-- GAP_TEST_DUE: at most one tile of a quadrant is pulsed at a time; another waits (R291). -/
def execGapTestDue (t : Fin 64) (s : State) : Host.Outcome State Fault Refusal :=
  let q := quadOfTile t
  if !s.quadReady q || !s.power.pd3 then .next s
  else if (tilesOfQuad q).any s.gapBusy then
    .next { s with diag := { s.diag with gapOrder := if s.diag.gapOrder.contains t.val then s.diag.gapOrder else s.diag.gapOrder ++ [t.val] } }
  else .next (s.sendGap t)

/-- The next waiting gap test of a quadrant. -/
def State.nextGap (s : State) (q : Nat) : State :=
  match s.diag.gapOrder.find? fun t => quadOfTile t = q with
  | some t => { s with diag := { s.diag with gapOrder := s.diag.gapOrder.filter fun x => x ≠ t } }.sendGap t
  | none => s

/-- A switch fault: event 0x0703, and the Rind's reaction (R291, R327, Table 11.6). -/
def State.switchFault (s : State) (t : Nat) (closed : Bool) : State :=
  let u : State := { s with safety := { s.safety with
    switchFault := setBit s.safety.switchFault t true
    switchClosed := if closed then setBit s.safety.switchClosed t true else s.safety.switchClosed } }
  ((u.raise 0x0703 [(1, t)]).setCause true cSwitch true).checkInh

/-- GAP_PULSE_END: the current collapsed in time, and returned in time unless the cut holds the switch open (R291, R292);
a second failing test running is a switch fault. -/
def execGapPulseEnd (t : Fin 64) (falls returns load : Bool) (collapse : Nat) (s : State) : Host.Outcome State Fault Refusal :=
  if (s.tile t).gap.isNone then .next s
  else
    let pass := falls && (returns || s.isCut t)
    let n := if pass then 0 else min 2 ((s.tile t).gapFails + 1)
    let u := s.modTile t fun x => { x with gap := none, gapPass := pass, gapLoad := load, gapTime := min 255 collapse, gapFails := n }
    let v := u.cond (n = 2 && !s.safety.switchFault.getLsbD t) fun w => w.switchFault t (!falls)
    .next ((v.nextGap (quadOfTile t)).sendResult t 4 0)

/-- SWEEP_OVERDUE: the tile's sweep has taken longer than 2 s (R290). -/
def execSweepOverdue (t : Fin 64) (s : State) : Host.Outcome State Fault Refusal :=
  if (s.tile t).overdue then .next s
  else .next ((s.modTile t fun x => { x with overdue := true }).raise 0x070A [(1, t.val)])

/-! ### Fault map reports (R294) -/

/-- An entry (Table 10.10). -/
def mapEntry (p cause : Nat) (clear : Bool) : List Byte := leBytes 4 (cause * 2 ^ 28 + b2n clear * 2 ^ 27 + p)

/-- Cause of a mapped pixel as the fault list records it. -/
def State.listedCause (s : State) (p : Nat) : Nat := if s.diag.list.contains p then s.diag.cause.get 0 p else 0

/-- Entries in groups of at most 1 022, in order; at least one group. -/
def mapPages : Nat → List (List Byte) → List (List (List Byte))
  | 0, l => [l]
  | k + 1, l => if l.length ≤ 1022 then [l] else l.take 1022 :: mapPages k (l.drop 1022)

/-- DIAG_MAP packets of a report. -/
def State.mapPackets (s : State) (full : Bool) (entries : List (List Byte)) : List TxPkt :=
  let pages := mapPages entries.length entries
  pages.mapIdx fun i l =>
    s.upPkt 4 0x51 0 (leBytes 2 s.diag.reportSeq.toNat ++ leBytes 2 l.length
      ++ leBytes 1 (b2n full + 2 * b2n (i + 1 = pages.length) + 4 * b2n s.diag.lost) ++ [0, 0, 0] ++ l.flatten)

/-- DIAG_MAP_REPORT: a full report of every set bit after a link-up, or when entries were lost, then behind a delta packet with
OVERFLOW; otherwise the entries and departures since the last report. A delta for which TQ4 has no room is lost (R294).
(DESIGN CHOICE: assumption log 35.) -/
def execDiagMapReport (s : State) : Host.Outcome State Fault Refusal :=
  if !s.linkUp || s.isLegacy then .next s
  else
    let sent (t : State) (ps : List TxPkt) : State :=
      let u := ps.foldl (fun v p => v.enqueue 4 p) t
      { u with diag := { u.diag with reportSeq := u.diag.reportSeq + 1, delta := [], fullDue := false, lost := false } }
    if s.diag.fullDue then
      .next (if !s.groupReady 0 then s
        else
          let t := s.cond s.diag.lost fun u => sent u (u.mapPackets false [])
          sent t (t.mapPackets true (((List.range 1048576).filter s.mapped).map fun p => mapEntry p (s.listedCause p) false)))
    else if s.diag.delta.isEmpty then .next s
    else
      let ps := s.mapPackets false (s.diag.delta.map fun x => mapEntry x.1 x.2.1 x.2.2)
      if queueDepth 4 < s.queued 4 + (ps.map TxPkt.size).foldl (· + ·) 0 then
        .next { s with diag := { s.diag with delta := [], lost := true, fullDue := true } }
      else .next (sent s ps)

/-- DIAG_CTRL_WRITE: a field outside its range stays as it is (Table 10.9). -/
def execDiagCtrlWrite (v : BitVec 32) (s : State) : Host.Outcome State Fault Refusal :=
  let m := bitsOf v.toNat 16 11
  let g := bitsOf v.toNat 8 8
  .next { s with diag := { s.diag with
    sweepMs := if 100 ≤ m && m ≤ 1500 then m else s.diag.sweepMs
    gapMs := if 16 ≤ g && g ≤ 250 then g else s.diag.gapMs } }

end Sys2Proof.Machine
end

