-- ==== Sys2Proof/Machine/Link.lean ====
section
/-!
DEFINITION. What the link commands share: usable generations and framings (R90), widths (R97), the moves between
training states (Table 3.3), link-up with the personality latch (R76, R77), link down (R99-R101), and the same for
port B (R113, R139, R140).
-/
namespace Sys2Proof.Machine

/-- A generation is usable (R81, R90; in the service-only state every one, R68). -/
def State.genUsable (s : State) (g : Nat) : Bool :=
  if s.start.state = .serviceOnly then decide (1 ≤ g ∧ g ≤ 3)
  else if s.start.pers = .legacy || (s.start.pers = .unlatched && s.img.policy = 2) then g = 1
  else decide (1 ≤ g) && s.img.link.gen.getLsbD (g - 1)

/-- Native framing is usable (R90, R68). -/
def State.nativeUsable (s : State) : Bool :=
  s.start.state = .serviceOnly ||
    !(s.start.pers = .legacy || (s.start.pers = .unlatched && s.img.policy = 2))

/-- T512 framing is usable, at G1 (R90, R68). -/
def State.t512Usable (s : State) : Bool :=
  s.start.state ≠ .serviceOnly &&
    (s.start.pers = .legacy || (s.start.pers = .unlatched && (s.img.policy = 0 || s.img.policy = 2)))

/-- Next usable generation at or below `g` in the order G3, G2, G1; 0 when none is left (Table 3.3, SWEEP). -/
def State.usableFrom (s : State) (g : Nat) : Nat :=
  if 3 ≤ g && s.genUsable 3 then 3 else if 2 ≤ g && s.genUsable 2 then 2
  else if 1 ≤ g && s.genUsable 1 then 1 else 0

/-- Widths of a generation (Table 3.1). -/
def genWidth (g : Nat) : Nat := if g = 3 then 4 else if g = 2 then 2 else if g = 1 then 1 else 0

/-- LINK.WIDTH_ALLOW permits the width (in the service-only state every one, R68). -/
def State.widthOk (s : State) (w : Nat) : Bool :=
  s.start.state = .serviceOnly || s.img.link.width.getLsbD (w - 1)

/-- Largest permitted width at a generation with `n` working lanes, searched downward from `k` (R97). -/
def State.bestWidth (s : State) (g n : Nat) : Nat → Nat
  | 0 => 0
  | k + 1 => if k + 1 ≤ genWidth g && k + 1 ≤ n && s.widthOk (k + 1) then k + 1 else s.bestWidth g n k

/-- The `w` lowest set bits of `m`. -/
def lowestBits (m : BitVec 4) (w : Nat) : BitVec 4 :=
  (List.range 4).foldl (fun acc i =>
    if m.getLsbD i && decide (popCount 4 acc.toNat < w) then setBit acc i true else acc) 0

/-- USE_MASK for a WORK_MASK at a generation (R97). -/
def State.useOf (s : State) (g : Nat) (work : BitVec 4) : BitVec 4 :=
  lowestBits work (s.bestWidth g (popCount 4 work.toNat) 4)

/-- Number of lanes in use. -/
def Port.width (p : Port) : Nat := popCount 4 p.useMask.toNat

/-- The lane is locked at the port's generation: comma-aligned at G1, block-locked at G2 and G3. -/
def Lane.locked (l : Lane) (g : Nat) : Bool := l.bitLock && (if g = 1 then l.comma else l.block)

/-- The lane after losing bit lock (R95). -/
def Lane.lost (l : Lane) : Lane := { l with bitLock := false, comma := false, block := false, deskewed := false, ended := false }

/-- Receive lanes of a port: four on port A, the back lane of the next module on port B. -/
def rxLanes : PortId → List Nat
  | .a => [0, 1, 2, 3]
  | .b => [0]

/-- Physical lane numbers. -/
def laneList : List Nat := [0, 1, 2, 3]

/-- Mask of the LANE_IDs for which `f` holds of the lane that carries them. -/
def Port.idMask (p : Port) (f : Lane → Bool) : BitVec 4 :=
  laneList.foldl (fun m i => let l := p.lanes.get {} i; if l.laneId < 4 && f l then setBit m l.laneId true else m) 0

/-- Every LANE_ID of USE_MASK is carried by a lane for which `f` holds. -/
def Port.allUse (p : Port) (f : Lane → Bool) : Bool := p.useMask ≠ 0 && (p.useMask &&& ~~~p.idMask f) = 0

def Port.modLane (p : Port) (i : Nat) (f : Lane → Lane) : Port := { p with lanes := p.lanes.modify {} i f }
def Port.modLanes (p : Port) (f : Lane → Lane) : Port := laneList.foldl (fun q i => q.modLane i f) p

/-- A training attempt has ended: what it found is gone, the squelch state of each lane kept (Table 3.3, R95). -/
def Port.fresh (p : Port) : Port :=
  { p.modLanes fun l => { squelch := l.squelch } with
    gen := 0, sweepGen := 3, sweepRound := 0, framing := 0, workMask := 0, useMask := 0, txBlock := 0, alignAt := none,
    loopback := 0, absentRun := 0, shortedRun := 0, backIdle := false, rxIdle := false, txDet := [], txDone := 0 }

/-- A port returns to DETECT: a new training attempt; each port B lane is disabled until detected again (R84). -/
def Port.toDetect (p : Port) : Port := { p.fresh with st := .detect }

/-- A port enters BACKOFF: nothing transmitted (Table 3.3). -/
def Port.toBackoff (p : Port) : Port := { p.fresh with st := .backoff }

/-- A port is held down or unpowered. -/
def Port.toOff (p : Port) : Port := { p.toDetect with st := .off }

/-! ### Port B -/

/-- Port B may be trained (R113, R137, R68). -/
def State.portBAllowed (s : State) : Bool :=
  s.img.link.portB && s.start.pers = .native && s.portA.linked && s.power.pd2 && s.link.hop < 7
    && s.start.state ≠ .serviceOnly

/-- Free the port A credits of forwarded packets, but those that a broadcast's own consumption here still has to free
(R130). -/
def State.freeForwarded (s : State) (ps : List FwdPkt) : State :=
  ps.foldl (fun t p => if p.here then t else t.freeCredits p.vc p.credits p.payload.length) s

/-- Port B goes down: forwarded packets not yet acknowledged there are discarded and their credits freed (R140). -/
def State.dropForwarded (s : State) : State :=
  let t := { s with linkB := { s.linkB with
    wait := [], sent := [], left := [], txSeq := 0, expSeq := 0, rev := 0, replayCount := 0, nakCount := 0
    unacked := 0, nakFor := none, failRun := 0, lcbs := [], replayNext := none, granted := [], credits := [] } }
  t.freeForwarded (s.linkB.sent ++ s.linkB.wait)

/-- Link down of port B by itself, with its cause (R99): retraining begins at once. -/
def State.portBDown (s : State) (cause : Nat) : State :=
  let t := { s.dropForwarded with portB := s.portB.toDetect }
  t.raise 0x0102 [(1, 1), (1, cause)]

/-- Port A link down holds port B down, in electrical idle (R100, R113). (DESIGN CHOICE: assumption log 41.) -/
def State.holdPortB (s : State) : State :=
  { s.dropForwarded with portB := s.portB.toOff }

/-- Port B starts training when it may (R113). -/
def State.startPortB (s : State) : State :=
  if s.portBAllowed && s.portB.st = .off then { s with portB := s.portB.toDetect } else s

/-- A role conflict is reported: once per start on port B (R139); on port A once until the next link down, a rate R88 does
not give. (DESIGN CHOICE: assumption log 52.) -/
def State.roleConflict (s : State) (p : PortId) : State :=
  if (s.port p).roleReported then s
  else (s.modPort p fun q => { q with roleReported := true }).raise 0x0104 [(1, portNum p)]

/-- From ALIGN to DESKEW at G2 and G3: 100 us of TB1 after the first block lock, or once no receive lane remains to be
waited for (Table 3.3). (DESIGN CHOICE: assumption log 41.) -/
def State.toDeskew (s : State) (p : PortId) : State :=
  let q := s.port p
  let done := match q.alignAt with
    | some t => decide (t + 100000 ≤ s.now1) || (rxLanes p).all fun i => (q.lanes.get {} i).block
    | none => false
  if q.st = .align && done then s.modPort p fun r => { r with st := .deskew, framing := 1, alignAt := none } else s

/-- MSG of a TIME payload (Table 4.14). -/
def timeMsg (payload : List Byte) : Nat := fieldAt payload 0 1 % 16

/-! ### Capability packets -/

/-- REV_SEL bit of a revision (Table 4.5). -/
def revBit (rev : Nat) : Nat := if rev = 0x20 then 1 else if rev = 0x21 then 2 else if rev = 0x30 then 4 else 0
/-- Revision of a REV_SEL value. -/
def revOf (sel : Nat) : Nat := if sel = 1 then 0x20 else if sel = 2 then 0x21 else if sel = 4 then 0x30 else 0

/-- CAP payload (Table 4.5). (DESIGN CHOICE: assumption log 42.) -/
def capBytes (part msg mask sel b7 hop addr fmt telem serial : Nat) (credits : Nat → Nat) : List Byte :=
  leBytes 4 part ++ leBytes 1 msg ++ leBytes 1 mask ++ leBytes 1 sel ++ leBytes 1 b7 ++ leBytes 1 hop
    ++ leBytes 1 addr ++ leBytes 1 fmt ++ leBytes 1 telem ++ leBytes 8 serial ++ List.replicate 12 0
    ++ (List.range 32).flatMap fun v => leBytes 2 (credits v)

/-- A CAP packet: VC0, SEQ 0xFFF (R125). (DESIGN CHOICE: assumption log 42.) -/
def capPkt (addr : BitVec 4) (payload : List Byte) : TxPkt :=
  { vc := 0, type := 1, addr := addr, payload := payload, seq := 0xFFF }

/-- Upstream credits granted on port B: the free space of TQ6 in 256-byte units, at most 16 per VC (R139). -/
def State.tq6Credits (s : State) : Nat := min 16 ((queueDepth 6 - s.queued 6) / 256)

/-- The CAP_OFFER of port B: ROLE 1, HOP + 1, REV_MASK holding port A's revision (R139). -/
def State.portBOffer (s : State) : TxPkt :=
  capPkt 0xF (capBytes 0 0 (revBit s.link.rev) 0 0x80 (s.link.hop + 1) 0 0 0 0
    fun v => if v ≤ 5 then s.tq6Credits else 0)

/-- The CONFIRM of port B, echoing REV_SEL (R135, R139). -/
def State.portBConfirm (s : State) (sel : Nat) : TxPkt :=
  capPkt 0xF (capBytes 0 2 (revBit s.link.rev) sel 0x80 (s.link.hop + 1) 0 0 0 0
    fun v => if v ≤ 5 then s.tq6Credits else 0)

/-! ### Service session and TB0 at link changes -/

/-- A session ends: LOCKED, event 0x0C06 (R372). Its perturbations end by PERTURB_OFF (R375).
(DESIGN CHOICE: assumption log 32.) -/
def State.endSession (s : State) : State :=
  if s.svc.state = .unlocked then
    let t := s.raise 0x0C06 [(1, 0), (1, s.svc.path)]
    { t with svc := { t.svc with state := .locked, path := 0, nonce := none } }
  else s

/-- Number of a TB0 state in reports. -/
def tbNum : TbState → Nat
  | .free => 0
  | .acquire => 1
  | .locked => 2
  | .holdover => 3

/-- TB0 changes state, with event 0x0201 (R154). -/
def State.tbGo (s : State) (n : TbState) : State :=
  if s.sync.state = n then s
  else { s with sync := { s.sync with state := n, okRun := 0 } }.raise 0x0201 [(1, tbNum n), (1, tbNum s.sync.state)]

/-- HOLDOVER: f frozen, s = 0 (Table 5.4). -/
def State.tbHold (s : State) : State :=
  if s.sync.state = .acquire || s.sync.state = .locked then
    { s with clk := { s.clk with slew := 0, slewLeft := 0 } }.tbGo .holdover
  else s

/-- A link down splits the pair in progress and an outstanding DELAY_REQ from its answer: each is discarded with event
0x0205 cause 5 (R151). -/
def State.splitPair (s : State) : State :=
  let t := { s with sync := { s.sync with sync := none, req := none, postponed := false } }
  (t.cond s.sync.sync.isSome fun u => u.raise 0x0205 [(1, 5)]).cond s.sync.req.isSome fun u => u.raise 0x0205 [(1, 5)]

/-! ### Link-up and link down of port A -/

/-- The personality latches from the framing of the link, where none has latched yet (R77, R91). -/
def State.latchByFraming (s : State) : State :=
  if s.start.pers = .unlatched && s.portA.linked then
    let legacy := s.portA.framing = 2
    let p : Personality := if legacy then .legacy else .native
    { s with start := { s.start with pers := p } }.raise 0x0B07 [(1, if legacy then 2 else 1)]
  else s

/-- The first link-up at READY latches the personality (R77). -/
def State.latchPersonality (s : State) : State := if s.isReady then s.latchByFraming else s

/-- Link-up of port A (R76): state UP, back-off reset (R98), numbering and credits restarted (R125, R129), the hold ended
(R101), the personality latched (R77), port B released to train (R113). -/
def State.linkUpNow (s : State) : State :=
  let t : State := { s with
    portA := { s.portA with st := .up, backoff := 0, linkUps := sat32 (s.portA.linkUps + 1), txBlock := 5 }
    link := { s.link with
      expSeq := 0, unacked := 0, nakFor := none, failRun := 0, txSeq := 0, replay := [], replayCount := 0,
      nakCount := 0, replayNext := none,
      credits := [], txTotal := [], lcbs := [], starved := [], holdRun := false,
      waiting := s.link.waiting.map fun w => { w with credits := 0, bytes := 0, shared := none } }
    sync := { s.sync with delays := [], firstDue := true, paired := 0, postponed := false,
                          sync := none, req := none }
    leg := { s.leg with lastSeq := none, lastReply := none, badRun := 0, hsRx := 0 }
    diag := { s.diag with fullDue := true, lost := false }
    layers := s.layers.map fun l => { l with run := none, chk := none }
    start := { s.start with mismatch := false } }
  (t.raise 0x0101 [(1, 0), (1, t.portA.gen), (1, t.portA.width), (1, t.link.rev)]).latchPersonality.startPortB

/-- What every link down of port A does (R100, R101): the replay buffer is emptied, port B held down, the Rind's hold
runs, TB0 goes to HOLDOVER, a VC4 session ends. Packets that passed, and packets still waiting for transmission, are
kept. (DEDUCED: assumption log 38.) -/
def State.linkLost (s : State) : State :=
  let t := { s with
    link := { s.link with replay := [], replayCount := 0, nakCount := 0, lcbs := [], unacked := 0, nakFor := none,
                          rev := 0, offered := 0, holdRun := true, starved := [], replayNext := none } }
  (t.holdPortB.tbHold.splitPair).cond (s.svc.state = .unlocked && s.svc.path = 1) fun u => u.endSession

/-- Link down of port A with its cause, to DETECT at once (R99, R100). -/
def State.linkDown (s : State) (cause : Nat) : State :=
  let t := s.linkLost
  { t with portA := { t.portA.toDetect with roleReported := false } }.raise 0x0102 [(1, 0), (1, cause)]

/-! ### Lane faults and repair -/

/-- A lane repair starts or starts again with the surviving lanes (R104, R105): a NAK for E, REPAIR blocks with the new
masks, the NAK and every waiting LCB leaving before them; without a surviving lane it is link down with `cause`. -/
def State.startRepair (s : State) (surviving : BitVec 4) (cause : Nat) : State :=
  let use := s.useOf s.portA.gen surviving
  if s.portA.gen = 1 || use = 0 then s.linkDown cause
  else
    let t := { s with portA := { (s.portA.modLanes fun l => { l with deskewed := false, ended := false }) with
      st := .repair, workMask := surviving, useMask := use, txBlock := 4 } }
    ({ t with link := { t.link with nakFor := none } } : State).sendNak.flushLcbs

/-- The LANE_IDs a repair may still use: those of the old USE_MASK, in a repair those of the surviving set (R104, R105). -/
def Port.candidates (p : Port) : BitVec 4 := if p.st = .repair then p.workMask else p.useMask

/-- Those of them that keep their lock. -/
def Port.surviving (p : Port) : BitVec 4 := p.candidates &&& p.idMask fun l => l.squelch && l.locked p.gen

/-- A lane of a port has lost lock or squelch: a lane fault of R102 where it is in use. -/
def State.laneLost (s : State) (lane : Nat) (squelchLost : Bool) : State :=
  let old := s.portA.lanes.get {} lane
  let t := { s with portA := s.portA.modLane lane fun l =>
    if squelchLost then { l.lost with squelch := false } else l.lost }
  let inUse := decide (old.laneId < 4) && s.portA.candidates.getLsbD old.laneId
  if !inUse then t
  else if s.portA.st = .up || s.portA.st = .repair then
    let allClosed := laneList.all fun i => !(t.portA.lanes.get {} i).squelch
    let cause := if squelchLost && allClosed then 1 else if s.portA.st = .repair then 2 else 0
    t.startRepair t.portA.surviving cause
  else t

/-! ### The receive path of port A -/

/-- A packet fails the link stage for its CRC or framing: discarded, with a NAK; the fifth consecutive failure of one SEQ is
link down (R120, R126, R128). -/
def State.linkFailed (s : State) (why : LinkFail) (seq : BitVec 12) : State :=
  let run := if s.link.failRun ≠ 0 && s.link.failSeq = seq then s.link.failRun + 1 else 1
  let t : State := { s with
    link := { s.link with failSeq := seq, failRun := run,
                          nakFor := if seq = s.link.expSeq then none else s.link.nakFor }
    portA := { s.portA with crcFails := if why = .crc then sat32 (s.portA.crcFails + 1) else s.portA.crcFails } }
  if 5 ≤ run then t.linkDown 4 else t.sendNak

/-- A packet arrives on port A and passes its CRC: the link stage on its LENGTH, its SEQ and its staging room, then the
content stage (R120, R125, R129). Without a native link nothing arrives (assumption log 8). -/
def State.receive (s : State) (i : Instr) (p : Rx) (consume : State → State) : State :=
  if !s.linkUp then s
  else if 4096 < p.len then (s.linkFailed .framing p.h.seq).restoreFor p.vc p.type
  else if seqClass s.link.expSeq p.h.seq ≠ 0 then (s.linkOther p.h.seq).restoreFor p.vc p.type
  else if s.noStaging p.vc p.len then (s.linkFailed .framing p.h.seq).restoreFor p.vc p.type
  else s.linkPass.content i p consume

/-- A waiting broadcast has been consumed here: its credits are freed once the downstream module has acknowledged it too,
which it has when the forwarded copy is gone (R130). -/
def State.freeShared (s : State) (w : Wait) : State :=
  match w.shared with
  | none => s.freeCredits w.vc w.credits w.bytes
  | some q =>
    let mine (p : FwdPkt) : Bool := p.here && p.vc = w.vc && p.aSeq = q
    if s.linkB.wait.any mine || s.linkB.sent.any mine then
      let done (p : FwdPkt) : FwdPkt := if mine p then { p with here := false } else p
      { s with linkB := { s.linkB with wait := s.linkB.wait.map done, sent := s.linkB.sent.map done } }
    else s.freeCredits w.vc w.credits w.bytes

/-! ### The sequence and the LCBs of port B (R125-R128, R139) -/

/-- Queue a link control block for port B's lanes. -/
def State.lcbB (s : State) (kind vc value : Nat) : State :=
  { s with linkB := { s.linkB with lcbs := s.linkB.lcbs ++ [{ kind := kind, vc := vc, value := value }] } }

def State.sendAckB (s : State) : State :=
  let t := s.lcbB 1 0 (s.linkB.expSeq - 1).toNat
  { t with linkB := { t.linkB with unacked := 0 } }

def State.sendNakB (s : State) : State :=
  if s.linkB.nakFor = some s.linkB.expSeq && decide (s.now1 < s.linkB.nakAt + 20000) then s
  else
    let t := s.lcbB 2 0 s.linkB.expSeq.toNat
    { t with
      linkB := { t.linkB with nakFor := some t.linkB.expSeq, nakAt := t.now1, unacked := 0 }
      portB := { t.portB with naksSent := sat32 (t.portB.naksSent + 1) } }

/-- An upstream packet with the expected SEQ passes port B's link stage. -/
def State.linkPassB (s : State) : State :=
  let t := { s with linkB := { s.linkB with
    expSeq := s.linkB.expSeq + 1, unacked := s.linkB.unacked + 1, nakFor := none, failRun := 0 } }
  if 8 ≤ t.linkB.unacked then t.sendAckB else t

def State.linkOtherB (s : State) (q : BitVec 12) : State :=
  if seqClass s.linkB.expSeq q = 1 then s.sendAckB else s.sendNakB

/-- A packet fails port B's link stage for its CRC or framing; the fifth of one SEQ takes port B down (R128). -/
def State.linkFailedB (s : State) (why : LinkFail) (seq : BitVec 12) : State :=
  let run := if s.linkB.failRun ≠ 0 && s.linkB.failSeq = seq then s.linkB.failRun + 1 else 1
  let t : State := { s with
    linkB := { s.linkB with failSeq := seq, failRun := run,
                            nakFor := if seq = s.linkB.expSeq then none else s.linkB.nakFor }
    portB := { s.portB with crcFails := if why = .crc then sat32 (s.portB.crcFails + 1) else s.portB.crcFails } }
  if 5 ≤ run then t.portBDown 4 else t.sendNakB

/-- Send a CREDIT for an upstream VC of port B. -/
def State.sendCreditB (s : State) (vc : Nat) : State :=
  let t := s.lcbB 3 vc (s.linkB.credits.get {} vc).total
  { t with linkB := { t.linkB with credits := t.linkB.credits.modify {} vc fun c => { c with freed := 0 } } }

/-- Charge an upstream packet of port B to its VC. -/
def State.chargeB (s : State) (vc n : Nat) : State :=
  { s with linkB := { s.linkB with credits := s.linkB.credits.modify {} vc fun c => { c with held := c.held + n } } }

/-- Its credits are returned as TQ6 drains (R139). -/
def State.freeCreditsB (s : State) (vc n : Nat) : State :=
  let t := { s with linkB := { s.linkB with credits := s.linkB.credits.modify {} vc fun c =>
    { c with held := c.held - n, total := (c.total + n) % 2048, freed := c.freed + n } } }
  if 16 ≤ (t.linkB.credits.get {} vc).freed then t.sendCreditB vc else t

end Sys2Proof.Machine
end

