-- ==== Sys2Proof/Machine/Schedule.lean ====
section
/-!
DEFINITION. Binding to latch points (R158, R227, R228): the cutoff rule, scheduled times, and what a step of TB0 or a
change of timing mode does to what is already bound.
-/
namespace Sys2Proof.Machine

/-- Guard of the mode in force at the next latch point, in ns (R227). -/
def State.guardNs (s : State) : Nat := 1000 * s.modeNow.guardUs

/-- Cutoff of a latch point with grid instant `g` (R227). -/
def State.cutoffOf (s : State) (g : Nat) : Nat := g - s.guardNs

/-- The first latch point, from the next on, whose cutoff is later than `t`: its grid instant (R159, R227). -/
def State.boundFrom (s : State) (t : Int) : Nat :=
  if t < s.cutoffOf s.grid.nextG then s.grid.nextG
  else max (gridAtLeast s.modeNow.rate (s.grid.nextG + 1)) (gridAtLeast s.modeNow.rate (t.toNat + s.guardNs + 1))

/-- The latch point an arrival is bound to; one of an earlier epoch lies before every cutoff and is bound as of now (R149,
R227). -/
def State.boundFor (s : State) (a : Stamp) : Nat :=
  s.boundFrom (if a.epoch = s.clk.epoch then a.tb0 else s.now0)

/-- An arrival lies at or after the cutoff of the latch point that follows it (R227). -/
def State.inGuard (s : State) (a : Stamp) : Bool :=
  if s.grid.lastL ≤ a.tb2 then !a.before s.clk.epoch (s.cutoffOf s.grid.nextG)
  else a.epoch = s.clk.epoch && decide (s.cutoffOf (gridAtLeast s.modeNow.rate (a.tb0.toNat + 1)) ≤ a.tb0)

/-- next_latch() of R228. -/
def State.nextLatch (s : State) : Nat := s.boundFrom s.now0

/-- A scheduled action is late: SCHED_LATE with event 0x0204 (R158). -/
def State.schedLate (s : State) (w : Int) : State :=
  (s.setFlag fSchedLate).raise 0x0204 [(1, s.clk.epoch.toNat), (4, toField 32 w)]

/-- The latch point of bind_to_latch(t) before the test of lateness: the first whose grid instant is at or after `t`. -/
def State.latchFor (s : State) (t : Int) : Nat := max s.grid.nextG (gridAtLeast s.modeNow.rate t.toNat)

/-- Bind a scheduled full time: late when it is before now or its latch point's cutoff has passed (R158, R228). -/
def State.bindTime (s : State) (w : Int) : State × Nat :=
  if w < s.now0 || s.cutoffOf (s.latchFor w) ≤ s.now0 then (s.schedLate w, s.nextLatch) else (s, s.latchFor w)

/-- An item bound by its arrival keeps its place, counted in latch points, when the grid instants are renamed. -/
def rebindAt (oldG newG rate due : Nat) : Nat := if due ≤ oldG then newG else gridAtLeast rate (newG + 1)

/-- Number the commits of one POUR bind together: give them the latch point `g`. -/
def setDue (group g : Nat) (l : List Commit) : List Commit := l.map fun c => if c.group = group then { c with due := g } else c

/-- Re-bind every pending scheduled action, once for each POUR that has released commits, by its held time (R158). -/
def State.rebindPours (s : State) : State :=
  (s.comp.pending.map fun c => (c.group, c.held)).eraseDups.foldl (fun t p =>
    if p.1 = 0 then t
    else
      let r := t.bindTime p.2
      { r.1 with comp := { r.1.comp with pending := setDue p.1 r.2 r.1.comp.pending } }) s

/-- Rename the grid instants of everything bound by arrival when the next latch point's grid instant changes from
`oldG` to the present one. -/
def State.rebindArrivals (s : State) (oldG : Nat) : State :=
  let f := rebindAt oldG s.grid.nextG s.modeNow.rate
  let c (x : Commit) : Commit := if x.await || x.group ≠ 0 then x else { x with due := f x.due }
  let b (x : Bound) : Bound := { x with due := f x.due }
  { s with
    comp := { s.comp with pending := s.comp.pending.map c, bound := s.comp.bound.map b }
    leg := { s.leg with slot0 := s.leg.slot0.map f, slot1 := s.leg.slot1.map f,
                        light := s.leg.light.map fun x => (f x.1, x.2) } }

/-- The next latch point as TB2 will generate it, in whole ns of TB0. -/
def State.predictedG (s : State) : Nat :=
  ((s.clk.tb0 : Int) + ((s.grid.nextL * nsUnit : Nat) - (s.clk.tb2 : Int))).toNat / nsUnit

/-- The grid instant nearest to `t` (R156: e lies within half a period). -/
def gridNearest (rate t : Nat) : Nat :=
  let up := gridAtLeast rate t
  let down := gridAtLeast rate (t - periodNs rate)
  if t - down < up - t then down else up

/-- After a step of TB0: the next latch point takes the nearest grid instant, and every pending action is bound again
(R155, R156, R158, R228). -/
def State.afterStep (s : State) : State :=
  let oldG := s.grid.nextG
  let t := if s.grid.started then
      { s with grid := { s.grid with nextG := gridNearest s.modeNow.rate s.predictedG } }.rebindArrivals oldG
    else s
  t.rebindPours.regrid

/-- The span by which a full time of TB0 below 0 is held later: a multiple of 2^32 ns and of every whole second, so that
its 32-bit value and its place on the grid are its own (R145). (DEDUCED: assumption log 24.) -/
def foldSpan : Nat := 4294967296 * 1000000000

/-- Every held full time of a pending commit, `n` ns later. -/
def State.shiftHeld (s : State) (n : Nat) : State :=
  { s with comp := { s.comp with pending := s.comp.pending.map fun c => { c with held := c.held + n } } }

/-- TB0 steps by minus `off` ns: forward, or backward with the epoch incremented (R153, R155). -/
def State.stepTb0 (s : State) (off : Int) : State :=
  let n : Int := (s.clk.tb0 : Int) - off * nsUnit
  let t : State := { s with clk := { s.clk with
    tb0 := if n < 0 then (n + foldSpan * nsUnit).toNat else n.toNat
    epoch := if 0 < off then s.clk.epoch + 1 else s.clk.epoch } }
  let t := t.cond (n < 0) fun v => v.shiftHeld foldSpan
  let u : State := { t with sync := { t.sync with steps := sat16 (t.sync.steps + 1) } }
  if off = 0 then s
  else (u.raise (if 0 < off then 0x0203 else 0x0202) [(1, u.clk.epoch.toNat), (4, toField 32 (-off))]).afterStep

/-- Bind a request by the stamp of its arrival (R227). -/
def State.bindKind (s : State) (k : BoundKind) (arrival : Stamp) : State :=
  { s with comp := { s.comp with bound := s.comp.bound ++ [{ due := s.boundFor arrival, kind := k }] } }

/-- The bound items of the next latch point, and the rest. -/
def State.dueNow (s : State) : List Bound := s.comp.bound.filter fun b => b.due ≤ s.grid.nextG

end Sys2Proof.Machine
end

