-- ==== Sys2Proof/Machine/Latch.lean ====
section
/-!
DEFINITION. The latch point (08): the order of Table 8.5, commits and POURs (07 R209-R211, 08 R231), fades, the clamp-set
swap (11 R312), the handover (11 R320), the kind of the frame (08 R235, R236), transitions (08 R234) and LAMPSYNC
(08 R237, R238).
-/
namespace Sys2Proof.Machine

/-! ### Reaching an instant -/

/-- Cycles until a base that reads `after n` after `n` cycles, and gains at most `rate` in one, reaches `target`: searched from
below, so that it is not passed by more than a cycle; `k` bounds the search. -/
def reach (after : Nat → Int) (target : Int) (rate : Nat) : Nat → Nat → Nat
  | 0, n => n
  | k + 1, n => if target ≤ after n then n else reach after target rate k (n + max 1 ((target - after n).toNat / max 1 rate))

/-- TB2 after `n` TIME cycles, steered as R156 has it. -/
def State.tb2After (s : State) (n : Nat) : Int := s.clk.tb2 + 4 * (nsUnit + s.clk.f) * n + s.steerSum n

/-- TB0 after `n` TIME cycles (R152). -/
def State.tb0After (s : State) (n : Nat) : Int := s.clk.tb0 + 4 * (nsUnit + s.clk.f) * n + 4 * s.clk.slew * slewCycles s.clk n

/-- TIME cycles until TB2 reaches `t` ns. (DESIGN CHOICE: assumption log 5.) -/
def State.cyclesTo2 (s : State) (t : Nat) : Nat :=
  reach s.tb2After (t * nsUnit : Nat) (addI (4 * nsUnit + 4 * 4294968) (4 * s.clk.f)) 16 0

/-- TIME cycles until TB0 reaches `t` ns. (DESIGN CHOICE: assumption log 5.) -/
def State.cyclesTo0 (s : State) (t : Nat) : Nat :=
  reach s.tb0After (t * nsUnit : Nat) (addI (4 * nsUnit) (4 * (s.clk.f + max 0 s.clk.slew))) 16 0

/-- The grid runs. -/
def State.gridRuns (s : State) : Bool := s.clk.crystal && s.clk.gridOn && s.grid.started

/-! ### Commits (R209-R213, R231) -/

/-- A descriptor is ready on its layer (R197). -/
def Layer.ready (l : Layer) (d : Desc) : Bool :=
  !d.visible || l.spans.any fun x => decide (x.lo ≤ (descSpan d).1) && decide ((descSpan d).2 ≤ x.hi)

/-- Layers of a commit that are not ready. -/
def State.notReady (s : State) (c : Commit) : List Nat :=
  (c.copies.filter fun x => !(s.layer x.1).ready x.2).map fun x => x.1

/-- The mask of a list of layers. -/
def layerMask (l : List Nat) : Nat := (l.foldl (fun m n => setBit m n true) (0 : BitVec 12)).toNat

/-- A latch point brings a change (R235). -/
def State.markChange (s : State) : State := { s with grid := { s.grid with change := true } }

/-- End value of a descriptor's opacity fade (R199). -/
def descOpacity (d : Desc) : Nat := if d.visible then alpha8 d.alpha.toNat else 0

/-- A descriptor becomes active on its layer (R211, R213). -/
def Layer.activate (l : Layer) (d : Desc) (tb2 : Nat) : Layer :=
  { l with
    active := d, kept := if d.visible then d else l.kept, stale := false
    fade := l.fade.retarget (descOpacity d) d.fadeMs.toNat d.curve tb2 }

/-- A commit is applied whole (R209, R210, R211). -/
def State.applyCommit (s : State) (c : Commit) : State :=
  let t := c.copies.foldl (fun u x =>
    let was := (u.layer x.1).stale
    (u.modLayer x.1 fun l => l.activate x.2 u.grid.lastL).cond was fun v => v.raise 0x0405 [(1, x.1)]) s
  let u : State := { t with comp := { t.comp with lastSeq := c.seq } }
  (u.raise 0x0401 [(2, c.seq.toNat), (2, u.grid.frame.toNat)]).markChange

/-- A layer becomes stale (R210). One that is stale already and reaches its threshold again changes nothing and raises nothing:
the rule raises 0x0404 for a layer marked, Table 7.8 for one that becomes stale. (DESIGN CHOICE: assumption log 52.) -/
def State.markStale (s : State) (n : Nat) : State :=
  if (s.layer n).stale then s
  else ((s.modLayer n fun l => { l with stale := true }).setFlag fLayerStale).raise 0x0404 [(1, n)]

/-- One pass over the pending commits: the state, the commits that stay pending, whether one was applied, and a POUR
whose commits cannot all apply. -/
structure Pass where
  s       : State
  kept    : List Commit := []
  applied : Bool := false
  miss    : Option Nat := none

/-- One commit at the latch point with grid instant `g` (R209, R210, R214). The mask of event 0x0403, which Table 15.7 does not
say more of, is the commit's LAYER_MASK. (DESIGN CHOICE: assumption log 52.) -/
def Pass.one (g : Nat) (p : Pass) (c : Commit) : Pass :=
  if p.miss.isSome then p
  else if c.await || decide (g < c.due) then { p with kept := p.kept ++ [c] }
  else if p.kept.any fun x => x.mask &&& c.mask ≠ 0 then
    if c.group ≠ 0 then { p with miss := some c.group }
    else { p with kept := p.kept ++ [{ c with due := p.s.grid.nextG }] }
  else
    let nr := p.s.notReady c
    if nr.isEmpty then { p with s := p.s.applyCommit c, applied := true }
    else if c.group ≠ 0 then { p with miss := some c.group }
    else
      let n := c.defers + 1
      let t := (p.s.setFlag fCommitLate).raise 0x0402 [(2, c.seq.toNat), (2, layerMask nr), (1, n)]
      let old := nr.filter fun i => decide ((t.env i).staleN ≤ n)
      if old.isEmpty then { p with s := t, kept := p.kept ++ [{ c with due := t.grid.nextG, defers := n }] }
      else { p with s := (t.raise 0x0403 [(2, c.seq.toNat), (2, c.mask.toNat)]).forEach old State.markStale }

/-- The pending commits that are not of one of those POURs. -/
def State.without (s : State) (missed : List Nat) : List Commit := s.comp.pending.filter fun c => !missed.contains c.group

/-- The POURs that miss at the latch point: the pending commits are judged again without each one found (R231). -/
def State.missedPours (s : State) (g : Nat) : Nat → List Nat → List Nat
  | 0, missed => missed
  | k + 1, missed =>
    match ((s.without missed).foldl (Pass.one g) { s := s }).miss with
    | some m => s.missedPours g k (missed ++ [m])
    | none => missed

/-- POUR_MISS of one POUR (R231). -/
def State.pourMiss (s : State) (group : Nat) : State :=
  let cs := s.comp.pending.filter fun c => c.group = group
  let nr := (cs.flatMap s.notReady).eraseDups
  (s.setFlag fPourMiss).raise 0x0503 [(1, (cs.getD 0 {}).pourId.toNat), (2, layerMask nr)]

/-- A layer with SAFETY_RELEVANT is stale (R210). -/
def State.safetyStale (s : State) : Bool := (List.range 12).any fun n => (s.layer n).stale && (s.env n).safety

/-- The SP's cause follows the stale layers (Table 11.6). -/
def State.judgeStale (s : State) : State :=
  let now := s.safetyStale
  s.cond (now ≠ s.safety.spCauses.getLsbD cStale) fun v => v.setCause false cStale now

/-- Step 3 of Table 8.5; whether a commit was applied. -/
def State.commitsAt (s : State) (g : Nat) : State × Bool :=
  let missed := s.missedPours g (s.comp.pending.length + 1) []
  let p := (s.without missed).foldl (Pass.one g) { s := s.forEach missed State.pourMiss }
  let poured := (((s.without missed).filter fun c => c.group ≠ 0 && !c.await && decide (c.due ≤ g)).map fun c =>
    (c.group, c.pourId)).eraseDups
  let t : State := { p.s with comp := { p.s.comp with pending := p.kept } }
  ((poured.foldl (fun v x => v.raise 0x0502 [(1, x.2.toNat)]) t).judgeStale, p.applied)

/-! ### Legacy SHOWs and light effects (14 R382-R385) -/

/-- The committed copy of a row becomes its shown copy. -/
def LegRow.show (r : LegRow) (slot1 : Bool) : LegRow :=
  if slot1 then { r with shown := if r.cmt1 ≠ 4 then r.cmt1 else r.shown, cmt1 := 4 }
  else { r with shown := if r.cmt0 ≠ 4 then r.cmt0 else r.shown, cmt0 := 4 }

def State.modLegRows (s : State) (f : LegRow → LegRow) : State :=
  { s with leg := { s.leg with rows := (List.range 128).foldl (fun m v => m.modify {} v f) s.leg.rows } }

/-- The slot's SHOW is applied (R383). -/
def State.showSlot (s : State) (slot1 : Bool) : State :=
  let t := s.modLegRows fun r => r.show slot1
  let q := if slot1 then s.leg.seq1 else s.leg.seq0
  let u : State := { t with leg := { t.leg with
    slot0 := if slot1 then t.leg.slot0 else none, slot1 := if slot1 then none else t.leg.slot1, showCnt := t.leg.showCnt + 1 } }
  ((u.legStatus 3).raise 0x0D02 [(1, q.toNat)]).markChange

/-- A slot is bound to a latch point no later than `g`. -/
def slotDue (g : Nat) (x : Option Nat) : Bool :=
  match x with
  | some d => decide (d ≤ g)
  | none => false

/-- SHOWs bound to the latch point; whether one was applied. -/
def State.showsAt (s : State) (g : Nat) : State × Bool :=
  let a := slotDue g s.leg.slot0
  let b := slotDue g s.leg.slot1
  ((s.cond a fun t => t.showSlot false).cond b fun t => t.showSlot true, a || b)

/-- One light effect. -/
def Legacy.takeLight (l : Legacy) (reg : Nat) (v : Byte) : Legacy :=
  if reg = 4 then { l with enable := bitOf v.toNat 0 }
  else if reg = 5 then { l with dim := v }
  else { l with cur := l.cur.set 0 (reg - 0x40) (v ^^^ 0xA0) }

/-- The master value of the legacy personality (R385). -/
def State.legacyMaster (s : State) : Nat :=
  if s.leg.enable then (alpha8 s.leg.dim.toNat * (2 * s.img.masterDefault) + 0x8000) / 65536 else 0

/-- Every STRIPE_SCALE entry by R387, from the CH_CUR in force on the light. -/
def State.legacyStripes (s : State) : Sparse Nat :=
  (List.range 64).foldl (fun m c => m.set 0x8000 c (stripeScale s.chCur c)) []

/-- The register effects bound to the latch point take place (R384, R388). -/
def State.lightAt (s : State) (g : Nat) : State :=
  let due := s.leg.light.filter fun x => decide (x.1 ≤ g)
  let l := due.foldl (fun m x => m.takeLight x.2.1 x.2.2) s.leg
  let t : State := { s with leg := { l with light := s.leg.light.filter fun x => !decide (x.1 ≤ g) } }
  let u := t.cond (due.any fun x => decide (0x40 ≤ x.2.1)) fun v =>
    { v with out := { v.out with stripeNext := v.legacyStripes, stripeDirty := v.legacyStripes ≠ v.out.stripe } }
  u.cond u.isLegacy fun v =>
    { v with comp := { v.comp with master := { Fade.rest v.legacyMaster with val := v.comp.master.val } } }

/-! ### Profile and master (R206, R258) -/

/-- A profile selection is applied. -/
def State.applyProfile (s : State) (n ms : Nat) (curve : Bool) : State :=
  let c := s.comp
  let w0 : Fade := { v0 := 0, v1 := 65536, ms := ms, curve := curve, start := s.grid.lastL, val := c.w.val }
  let d : Comp :=
    if n = c.pA then c
    else if n = c.pB && decide (c.w.val < 65536) then
      { c with pA := c.pB, pB := c.pA, w := { w0 with v0 := 65536 - c.w.val, val := 65536 - c.w.val } }
    else { c with pB := c.pA, pA := n, w := w0 }
  let t : State := { s with comp := d }
  (t.cond (d ≠ c) State.markChange).raise 0x0408 [(1, d.pA), (1, d.pB)]

/-- Steps 4 and 5 of Table 8.5: of several requests of one kind the last accepted takes effect (R227). -/
def State.requestsAt (s : State) (g : Nat) : State :=
  let due := (s.comp.bound.filter fun b => decide (b.due ≤ g)).reverse
  let t : State := { s with comp := { s.comp with bound := s.comp.bound.filter fun b => !decide (b.due ≤ g) } }
  let prof := due.findSome? fun b => match b.kind with
    | .profile p ms c => some (p, ms, c)
    | _ => none
  let mast := due.findSome? fun b => match b.kind with
    | .master v ms c => some (v, ms, c)
    | _ => none
  let u := match prof with
    | some x => t.applyProfile x.1 x.2.1 x.2.2
    | none => t
  match mast with
  | some x => { u with comp := { u.comp with master := u.comp.master.retarget x.1 x.2.1 x.2.2 u.grid.lastL } }
  | none => u

/-- The mode that the last MODE_SELECT bound to the latch point names (R233). -/
def State.modeAt (s : State) (g : Nat) : Option Nat :=
  (s.comp.bound.filter fun b => decide (b.due ≤ g)).reverse.findSome? fun b => match b.kind with
    | .mode m => some m
    | _ => none

/-- MODE_SELECT requests bound to the latch point are used up. -/
def State.dropModes (s : State) (g : Nat) : State :=
  let isMode (b : Bound) : Bool := match b.kind with
    | .mode _ => decide (b.due ≤ g)
    | _ => false
  { s with comp := { s.comp with bound := s.comp.bound.filter fun b => !isMode b } }

/-! ### Fades (R212) -/

/-- Step 6 of Table 8.5; a value that moves brings a change (R235). -/
def State.fadesAt (s : State) : State :=
  let tb2 := s.grid.lastL
  let ls := s.layers.map fun l => { l with fade := l.fade.eval tb2 }
  let w := s.comp.w.eval tb2
  let m := s.comp.master.eval tb2
  let moved := (ls.map fun l => l.fade.val) ≠ (s.layers.map fun l => l.fade.val) || w.val ≠ s.comp.w.val || m.val ≠ s.comp.master.val
  let t : State := { s with layers := ls, comp := { s.comp with w := w, master := m } }
  t.cond moved State.markChange

/-! ### The clamp-set swap (R29, R312) -/

/-- Step 7 of Table 8.5: the completed pending set becomes active, with compressed steps, and a stall deadline when it
tightens; an equal set is no swap. (DEDUCED: assumption log 37.) -/
def State.swapSet (s : State) : State :=
  match s.zones.pending with
  | none => s
  | some c =>
    if c = s.zones.active then { s with zones := { s.zones with pending := none } }
    else
      let old := s.zones.active
      let opens := tightens old c && s.safety.held ≠ BitVec.allOnes 64
      let st : Stall := { frame := s.grid.frame, rects := tightRects old c, capped := decide (c.cap < old.cap), heldAt := s.safety.held }
      let t : State := { s with
        zones := { s.zones with active := c, pending := none, stall := if opens then some st else s.zones.stall }
        grid := { s.grid with compressed := true } }
      t.markChange

/-! ### The handover (R320) -/

/-- The off class may end: the latch is clear and the vote NORMAL (R72, R320). -/
def State.clearable (s : State) : Bool := s.safety.state.off && !s.safety.offLatch && s.bothNormal

/-- A command to each quadrant that is ready. -/
def State.eachReady (s : State) (f : State → Nat → State) : State :=
  s.forEach [0, 1, 2, 3] fun t q => t.cond (t.quadReady q) fun u => f u q

/-- A prepared handover is withdrawn: back to the local source. -/
def State.withdraw (s : State) : State :=
  let t : State := { s with safety := { s.safety with handover := false } }
  t.eachReady fun u q => u.sendSource q true

/-- The off class passes to NORMAL: the hold under fill and the override end. -/
def State.takeOver (s : State) : State :=
  let t : State := { s with safety := { s.safety with handover := false, held := 0, paint := .none, firstNormal := true } }
  let u := t.eachReady fun v q => v.sendOverride q false 0
  let w := u.forEach [0, 1, 2, 3] fun v q => v.modQuad q fun k => { k with forced := u.zones.blankQuads.getLsbD q }
  w.changeState .normal

/-- The prepared handover at its latch point. -/
def State.handoverAt (s : State) (applied : Bool) : State :=
  if !s.safety.handover then s
  else if applied && s.clearable then s.takeOver
  else s.withdraw

/-! ### PWM timing sent to the tiles (R249, R251) -/

/-- ALIGN for every tile's first boundary after the next latch point under PERIOD `p`, a PWM_SET before it where `set` (R251,
Table 9.1). -/
def State.sendTiming (s : State) (p : Nat) (set : Bool) : State :=
  s.forEach (List.range 64) fun t i =>
    (t.cond set fun u => u.sendCtl i 8 (2 * 2 ^ 88 + p % 2 ^ 28 * 2 ^ 60 + i * 2 ^ 54)).sendCtl i 12
      (3 * 2 ^ 88 + s.alignDelay s.grid.nextL p i % 2 ^ 24 * 2 ^ 64)

/-- PERIOD from the next latch point on: that of the mode bound to it, in the row of the band at the last one (R234, R249). -/
def State.nextPeriod (s : State) : Nat :=
  let m := s.mode ((s.modeAt s.grid.nextG).getD s.grid.mode)
  pwmUnits m.rate (m.pwmDiv.getD s.drive.bandNext 8)

/-- The ALIGN of this frame, once, with PWM_SET where the next latch point brings a new Tp: after its cutoff (R251).
(DESIGN CHOICE: assumption log 35.) -/
def State.timeTiles (s : State) : State :=
  if s.grid.timed then s
  else
    let t : State := { s with grid := { s.grid with timed := true } }
    t.sendTiming s.nextPeriod (s.nextPeriod ≠ s.pwmPeriod)

/-- The PWM row of the band that the module held one latch point ago comes into force: a change of band takes effect at the
first latch point at least a frame after it, with event 0x0607 where it changes PWM_DIV (R249). -/
def State.pwmRow (s : State) : State :=
  let row (h : Nat) : Nat := s.modeNow.pwmDiv.getD h 8
  let h := s.drive.bandNext
  let t : State := { s with drive := { s.drive with pwmDiv := row h, pwmBand := h, bandNext := s.thermal.band } }
  t.cond (row h ≠ row s.drive.pwmBand) fun u => u.raise 0x0607 [(1, h), (1, row h)]

/-! ### Frame kinds (R218, R235, R236) -/

/-- Affinage units of the scan window that opens: the time from the last one's latch point (R351). -/
def Affin.window (a : Affin) (l : Nat) : Affin :=
  match a.prevL with
  | none => { a with prevL := some l, units := 0, rem := 0 }
  | some p =>
    let ns := l - p + a.rem
    { a with prevL := some l, units := min (ns / 1024) 2097151, rem := ns % 1024 }

/-- Step 9 of Table 8.5, with the IDLE_FRAMES and KEEPALIVE of mode `m`. `trans` opens a transition frame, which the old mode
still judges (R234, R236). -/
def State.decideKind (s : State) (m : ModeP) (trans : Bool) : State :=
  let g := s.grid
  let quiet := if g.change then 0 else g.quiet + 1
  let idle := decide (m.idleFrames ≠ 0) && decide (m.idleFrames < quiet)
  let since := g.sinceScan + 1
  let due := idle && (g.keepDue || decide (m.keep.getD s.thermal.band 1 ≤ since))
  let kind : FrameKind := if trans then .transition else if !idle then .full else if due then .keepAlive else .idle
  let scan := kind = .full || kind = .keepAlive
  let run := if trans then g.idleRun && !g.change else idle
  let t : State := { s with
    grid := { g with
      kind := kind, quiet := quiet, change := false, sinceScan := if scan then 0 else since, keepDue := trans && due,
      idleRun := run, step := if scan then 0 else 128, starvedSeen := false }
    out := { s.out with frameLines := [] }
    rb := { s.rb with
      reported := if scan then [] else s.rb.reported
      prevKeep := decide (g.kind = .keepAlive), prevLines := s.out.frameLines.length }
    affin := if scan then s.affin.window g.lastL else s.affin }
  (t.cond (g.change && g.idleRun) fun u => u.raise 0x0508 []).cond (run && !g.idleRun) fun u => u.raise 0x0507 []

/-! ### Transitions (R234) -/

/-- The commit copies of a row's two slots merge, the later-accepted copy kept (R383). -/
def mergeRow (late1 : Bool) (r : LegRow) : LegRow :=
  if late1 then { r with cmt0 := if r.cmt1 ≠ 4 then r.cmt1 else r.cmt0, cmt1 := 4 }
  else { r with cmt0 := if r.cmt0 ≠ 4 then r.cmt0 else r.cmt1, cmt1 := 4 }

/-- Both SHOW slots come to be bound to the latch point `g`. -/
def State.mergeShows (s : State) (g : Nat) : State :=
  match s.leg.slot0, s.leg.slot1 with
  | some a, some b =>
    let t := s.modLegRows (mergeRow (decide (a < b)))
    { t with leg := { t.leg with slot0 := some g, slot1 := none, seq0 := if a < b then t.leg.seq1 else t.leg.seq0 } }
  | a, b => { s with leg := { s.leg with slot0 := a.map fun _ => g, slot1 := b.map fun _ => g } }

/-- Everything bound is carried over to the latch point `g'` that ends the transition frame, or, for a scheduled action
beyond this latch point `g`, bound again. -/
def State.carryOver (s : State) (g g' : Nat) : State :=
  let moved (c : Commit) : Commit :=
    if c.await then c else if c.group ≠ 0 && decide (g < c.due) then c else { c with due := g' }
  let t : State := { s with comp := { s.comp with
    pending := s.comp.pending.map moved, bound := s.comp.bound.map fun b => { b with due := g' } } }
  let later := ((s.comp.pending.filter fun c => c.group ≠ 0 && decide (g < c.due)).map fun c => (c.group, c.held)).eraseDups
  let u := later.foldl (fun v p =>
    let r := v.bindTime p.2
    { r.1 with comp := { r.1.comp with pending := setDue p.1 r.2 r.1.comp.pending } }) t
  let w : State := { u with leg := { u.leg with light := u.leg.light.map fun x => (g', x.2) } }
  w.mergeShows g'

/-- A mode change opens a transition frame: the new mode, in whose PWM period the tiles run from here on, and the latch point
that ends it (R234, R248). -/
def State.beginTransition (s : State) (m g l : Nat) : State :=
  let rate := (s.mode m).rate
  let g' := gridAtLeast rate (g + ceilDiv 1000000000 (max rate 1))
  let t : State := { s with
    grid := { s.grid with mode := m, nextG := g', nextL := l + (g' - g) } }
  (t.carryOver g g').raise 0x0506 [(1, s.grid.mode), (1, m), (4, g' % 4294967296)]

/-- The next latch point, one frame period on: on TB2 by the difference of the whole-ns grid instants, where R216 names the
period, which may be fractional. (DESIGN CHOICE: assumption log 52.) -/
def State.nextGrid (s : State) (g l : Nat) : State :=
  let g' := gridAtLeast s.modeNow.rate (g + 1)
  { s with grid := { s.grid with nextG := g', nextL := l + (g' - g) } }

/-! ### The latch point -/

/-- The LAMPSYNC leader by its straps (R237). -/
def State.lampLeader (s : State) : Bool := !s.start.addr0 && !s.start.addr1

/-- Stripe scales written during the frame before are used from here on (R259, R260). -/
def State.stripesAt (s : State) : State :=
  if s.out.stripeDirty then
    let t : State := { s with out := { s.out with stripe := s.out.stripeNext, stripeDirty := false } }
    t.markChange.raise 0x0606 []
  else s

/-- Wakes complete at the first latch point at which the quadrant is ready (R266). -/
def State.wakesAt (s : State) : State :=
  s.forEach [0, 1, 2, 3] fun t q =>
    if (t.quad q).fresh && (t.quad q).ready then (t.modQuad q fun k => { k with fresh := false }).markChange else t

/-- Waiting spans are added after the readiness evaluation (R197). -/
def State.spansAt (s : State) : State :=
  { s with layers := s.layers.map fun l => { l with
      spans := l.waits.foldl (fun ss x => if 4 ≤ ss.length then ss.drop (ss.length - 3) ++ [x] else ss ++ [x]) l.spans
      waits := [] } }

/-- Steps 3 to 5 of Table 8.5 and the handover. -/
def State.applyAt (s : State) (g : Nat) : State :=
  let c := s.commitsAt g
  let h := c.1.showsAt g
  let t := h.1.handoverAt (c.2 || h.2)
  (t.requestsAt g).lightAt g

/-- The latch strobe, its instant reached (R229). -/
def State.latchNow (s : State) : State :=
  let g := s.grid.nextG
  let l := s.grid.nextL
  let first := !s.grid.firstDone
  let want := s.modeAt g
  let t : State := (s.dropModes g)
  let t : State := { t with grid := { t.grid with
    frame := t.grid.frame + 1, lastL := l, firstDone := true, compressed := false, timed := false
    change := t.grid.change || first
    lampPulse := if t.lampLeader then t.grid.lampPulse + 1 else t.grid.lampPulse
    onLamp := t.grid.onLamp && t.sync.state ≠ .locked } }
  match want with
  | some m =>
    if m ≠ t.grid.mode then
      let u := (t.beginTransition m g l).cond t.safety.handover State.withdraw
      (((u.pwmRow.fadesAt.litAtLatch).stripesAt).wakesAt).spansAt.decideKind s.modeNow true
    else ((((((t.nextGrid g l).applyAt g).stripesAt).pwmRow.fadesAt).litAtLatch).wakesAt).swapSet.spansAt.decideKind s.modeNow false
  | none => ((((((t.nextGrid g l).applyAt g).stripesAt).pwmRow.fadesAt).litAtLatch).wakesAt).swapSet.spansAt.decideKind s.modeNow false

/-- LATCH_POINT: time passes until TB2 reaches L(k), then the order of Table 8.5 (R229); a frame that no CUTOFF has ended sends
its ALIGN here (assumption log 35). -/
def execLatchPoint (s : State) : Host.Outcome State Fault Refusal :=
  .next (if s.gridRuns then (s.elapse (s.cyclesTo2 s.grid.nextL)).timeTiles.latchNow else s)

/-- CUTOFF: time passes until the cutoff of the next latch point; the tiles are sent their timing (R251); a handover is
prepared for it when a commit is bound to it, the latch is clear and the vote is NORMAL (R320). -/
def execCutoff (s : State) : Host.Outcome State Fault Refusal :=
  if !s.gridRuns then .next s
  else
    let c := s.cutoffOf s.grid.nextG
    let t := s.elapse (s.cyclesTo0 c)
    let u := (t.elapse (t.cyclesTo0 c)).timeTiles
    let g := u.grid.nextG
    let bound := (u.comp.pending.any fun x => !x.await && decide (x.due ≤ g)) || slotDue g u.leg.slot0 || slotDue g u.leg.slot1
    if u.clearable && bound && !u.safety.handover then
      let v : State := { u with safety := { u.safety with handover := true } }
      .next (v.eachReady fun w q => w.sendSource q false)
    else .next u

/-- HANDOVER_ALIGN: no earlier than 10 us after the cutoff, PWM_SET and ALIGN for every tile (R320, R251). -/
def execHandoverAlign (s : State) : Host.Outcome State Fault Refusal :=
  .next (if s.safety.handover then s.sendTiming s.nextPeriod true else s)

/-! ### LAMPSYNC (R238) -/

/-- LAMPSYNC_EDGE: a follower whose TB0 is not LOCKED steers TB2 to it; an edge whose spacing from the previous one differs
from P by more than 0.2 % is not used; the first edge, which has no previous one, counts as usable. (DESIGN CHOICE:
assumption log 52.) -/
def execLampsyncEdge (dt : Nat) (s0 : State) : Host.Outcome State Fault Refusal :=
  let s := s0.elapse dt
  if s.lampLeader || !s.gridRuns then .next s
  else
    let p := periodNs s.modeNow.rate
    let now := s.now2
    let good := match s.grid.lampLast with
      | some l => decide (((now - l : Int) - p).natAbs * 500 ≤ p)
      | none => true
    let t : State := { s with grid := { s.grid with lampLast := some now } }
    if !good || s.sync.state = .locked then .next t
    else
      let e := reduceHalf ((s.grid.nextL * nsUnit : Nat) - (s.clk.tb2 : Int)) (periodUnits s.modeNow.rate)
      let u : State := { t with grid := { t.grid with onLamp := true, lampErr := e, lampLost := false } }
      .next (u.regrid.cond s.grid.lampLost fun v => v.raise 0x0509 [(1, 1)])

/-- LAMPSYNC_LOSS: no usable edge for three frame periods (R238). -/
def execLampsyncLoss (s : State) : Host.Outcome State Fault Refusal :=
  if s.grid.onLamp then
    .next ({ s with grid := { s.grid with onLamp := false, lampLost := true } }.regrid.raise 0x0509 [(1, 0)])
  else .next s

end Sys2Proof.Machine
end

