-- ==== Sys2Proof/Machine/LegEnter.lean ====
section
/-!
DEFINITION. Entering the legacy personality (14 R377, 11 R323).
-/
namespace Sys2Proof.Machine

/-- The block table as the diagnosis engine rebuilds it from region 2 (R377, R386). -/
def State.blockTable (s : State) : Sparse Nat :=
  (List.range blockCount).filterMap fun k => let n := s.blockFails k; if n = 0 then none else some (k, n)

/-- What the engine does when the personality latches LEGACY (R377): registers at reset, buffer 0 shown, the legacy LUT,
the block table, the stripes; event 0x0D01. No zone is used from then on (R323). (DEDUCED: assumption log 38.) -/
def State.enterLegacy (s : State) : State :=
  let t : State := { s with
    leg := { temp := s.leg.temp, tempExt := s.leg.tempExt, nfail := s.blockTable }
    out := { s.out with lut := [], lutLegacy := true } }
  let u : State := { t with
    out := { t.out with stripe := t.legacyStripes, stripeNext := t.legacyStripes, stripeDirty := false }
    comp := { t.comp with master := Fade.rest t.legacyMaster } }
  let v : State := { u with zones := { u.zones with
    lim := { u.zones.lim with zones := [] }, spLim := { u.zones.spLim with zones := [] }, cand := none } }
  (v.runLimiter 0).raise 0x0D01 []

/-- The personality latches; a LEGACY one is entered. (DEDUCED: assumption log 38.) -/
def State.latchAndEnter (s : State) : State :=
  let t := s.latchByFraming
  if t.isLegacy && !s.isLegacy then t.enterLegacy else t

/-- In the legacy personality a link-up releases the off latch (R323). -/
def State.legacyRecover (s : State) : State :=
  if s.isLegacy && s.safety.offLatch && decide (1000 ≤ s.safety.rindOkMs) && decide (1000 ≤ s.safety.spOkMs)
      && s.allCauses &&& untilStart = 0 then
    { s with safety := { s.safety with offLatch := false } }
  else s

end Sys2Proof.Machine
end

