-- ==== Sys2Proof/Machine/Surfaces.lean ====
section
/-!
DEFINITION. Surfaces, descriptors, commits and POURs as they are received (04, 07, 08, 10 R272-R273).
-/
namespace Sys2Proof.Machine

/-! ### WRITE -/

/-- Two half-open intervals overlap. -/
def overlaps (a b c d : Nat) : Bool := decide (a < d) && decide (c < b)

/-- The ready spans that a write of [lo, hi) leaves (R197). -/
def keepSpans (lo hi : Nat) (l : List Span) : List Span := l.filter fun x => !overlaps x.lo x.hi lo hi

/-- The snoop run after an accepted WRITE (R196): extended, or started at it. -/
def nextRun (r : Option Run) (off : Nat) (data : List Byte) (bad : Bool) : Run :=
  let base : Run := match r with
    | some x => if off = x.start + x.len then x else { start := off }
    | none => { start := off }
  { base with len := base.len + data.length, crc := BitVec.ofNat 32 (crc32cRun base.crc.toNat data), broken := base.broken || bad }

/-- The WRITE breaks the run in progress (R196). -/
def breaksRun (r : Option Run) (off : Nat) : Bool :=
  match r with
  | some x => off ≠ x.start + x.len
  | none => false

/-- The surface of an active layer with light lies under [lo, hi) (R235). -/
def Layer.touched (l : Layer) (lo hi : Nat) : Bool :=
  l.fade.val ≠ 0 && overlaps (descSpan l.used).1 (descSpan l.used).2 lo hi

/-- Store address ranges in a bank group without power. -/
def State.unpowered (s : State) (lo hi : Nat) : Bool :=
  (decide (lo < 0x800000) && !s.power.pd4) || (decide (0x800000 < hi) && !s.power.pd5)

/-- An uncorrectable staging error in the granule at store address `a` (R272): written so that it reads as POISON. -/
def State.stagingBad (s : State) (vc a : Nat) : State :=
  let t : State := { s with store := { s.store with
    flips := s.store.flips.set 0 (a / 8) 3, stagUnc := sat32 (s.store.stagUnc + 1) } }
  t.raise 0x0709 [(1, vc), (4, a)]

/-- A WRITE that passed both stages (R122, R196, R197, R235, R272, R273). Where its bank group has no power nothing is
stored and the run counts as broken; without PD3 the write engine and its CVU context have none either. Event 0x0106 tells of
both, with the cause of a WRITE's constraints, since Table 15.6 has none for power (01 R40). (DESIGN CHOICE: assumption log 52.) -/
def State.takeWrite (s0 : State) (n : Nat) (off : Nat) (data : List Byte) (corrected : Nat) (bad : List Nat) : State :=
  let base := (s0.env n).base + off
  let fin := off + data.length
  let lost := !s0.power.pd3 || s0.unpowered base (base + data.length)
  let badIn := bad.filter fun g => decide (g < data.length / 8)
  let s := (s0.checkRun n).cond lost fun u => u.raiseRated 0x0106 9 [(1, 9), (1, 8 + n), (1, 0x80)]
  let l := s.layer n
  let run := nextRun l.run off data (lost || !badIn.isEmpty)
  let t := s.cond (breaksRun l.run off) fun u => u.raise 0x0407 [(1, n)]
  let t1 := t.cond (!lost) fun u => u.storeBytes base data
  let t2 : State := { t1 with store := { t1.store with stagCorr := sat32 (t1.store.stagCorr + corrected) } }
  let t3 := t2.cond (!lost) fun u => u.forEach badIn fun v g => v.stagingBad (8 + n) (base + 8 * g)
  let t4 := t3.modLayer n fun x =>
    { x with run := if s0.power.pd3 then some run else none, chk := if s0.power.pd3 then some run else none, spans := keepSpans off fin x.spans, waits := keepSpans off fin x.waits }
  { t4 with grid := { t4.grid with change := t4.grid.change || l.touched off fin } }

def writeRx (s : State) (h : Hdr) (n : Nat) (payload : List Byte) : Rx :=
  let off := fieldAt payload 0 4
  let len := payload.length - 8
  { h := h, vc := 8 + n, type := 0x80, opcode := 0, len := payload.length, payload := payload
    lenOk := decide (16 ≤ payload.length) && decide (payload.length ≤ 4096)
    fieldsOk := (s.env n).enabled && off % 8 = 0 && len % 8 = 0 && decide (8 ≤ len) && decide (len ≤ 4088)
      && decide (off + len ≤ (s.env n).size)
    lo := (s.env n).base + off, hi := (s.env n).base + off + len }

/-- WRITE (R122). `corrected` counts the single-bit staging errors of its granules, `bad` names the granules with an
uncorrectable one. -/
def execWrite (h : Hdr) (layer : Fin 12) (payload : List Byte) (corrected : Nat) (bad : List Nat) (s : State) :
    Host.Outcome State Fault Refusal :=
  .next (s.receive (.write h layer payload corrected bad) (writeRx s h layer.val payload) fun u =>
    u.takeWrite layer.val (fieldAt payload 0 4) (payload.drop 8) corrected bad)

/-! ### SURFACE_COMPLETE -/

/-- Add a ready span; a full list of four drops its oldest (R197). -/
def addSpan (l : List Span) (x : Span) : List Span := if 4 ≤ l.length then l.drop (l.length - 3) ++ [x] else l ++ [x]

/-- The run closes with the signature (R196, R272). -/
def runMatches (r : Option Run) (start size sig : Nat) : Bool :=
  match r with
  | some x => !x.broken && x.start = start && x.len = size && (x.crc.toNat ^^^ 0xFFFFFFFF) = sig
  | none => false

/-- A SURFACE_COMPLETE with arrival `a` that passed both stages (R123, R196, R197). -/
def State.takeComplete (s0 : State) (h : Hdr) (n : Nat) (payload : List Byte) (a : Stamp) : State :=
  let start := fieldAt payload 0 4
  let size := fieldAt payload 4 4
  let s := s0.checkRun n
  let l := s.layer n
  let t := s.modLayer n fun x => { x with run := none, chk := none }
  if start % 8 ≠ 0 || size % 8 ≠ 0 || (s.env n).size < start + size then t.reply h 0x81 0 4 []
  else if !(s.env n).enabled then t.reply h 0x81 0 5 []
  else if !s.power.pd3 then t.reply h 0x81 0 7 []
  else if runMatches l.run start size (fieldAt payload 8 4) then
    let x : Span := { lo := start, hi := start + size }
    let inTime := !s.grid.started || a.before s.clk.epoch (s.cutoffOf s.grid.nextG)
    (t.modLayer n fun y =>
      if inTime then { y with spans := addSpan y.spans x } else { y with waits := y.waits ++ [x] }).reply h 0x81 0 0 []
  else (t.reply h 0x81 0 0x0A []).raise 0x0406 [(1, n)]

def completeRx (h : Hdr) (n : Nat) (payload : List Byte) : Rx :=
  { h := h, vc := 8 + n, type := 0x81, opcode := 0, len := payload.length, payload := payload
    lenOk := payload.length = 16, fieldsOk := true }

/-- SURFACE_COMPLETE (R123, R196, R197). -/
def execSurfaceComplete (dt : Nat) (h : Hdr) (layer : Fin 12) (payload : List Byte) (s : State) :
    Host.Outcome State Fault Refusal :=
  .next ((s.elapse dt).receive (.surfaceComplete dt h layer payload) (completeRx h layer.val payload) fun t =>
    t.takeComplete h layer.val payload (t.capture 0))

/-! ### DESCRIPTOR -/

/-- The 64-byte layer descriptor (Table 7.2). -/
def parseDesc (b : List Byte) : Desc :=
  { surf := BitVec.ofNat 32 (fieldAt b 0 4), stride := BitVec.ofNat 16 (fieldAt b 4 2)
    srcW := BitVec.ofNat 16 (fieldAt b 6 2), srcH := BitVec.ofNat 16 (fieldAt b 8 2)
    dstX := BitVec.ofNat 16 (fieldAt b 0x0C 2), dstY := BitVec.ofNat 16 (fieldAt b 0x0E 2)
    dstW := BitVec.ofNat 16 (fieldAt b 0x10 2), dstH := BitVec.ofNat 16 (fieldAt b 0x12 2)
    stepX := BitVec.ofNat 32 (fieldAt b 0x14 4), stepY := BitVec.ofNat 32 (fieldAt b 0x18 4)
    format := fieldAt b 0x1C 1 % 8, visible := bitOf (fieldAt b 0x1D 1) 0, opq := bitOf (fieldAt b 0x1D 1) 1
    blend := fieldAt b 0x1D 1 / 4 % 4, alpha := BitVec.ofNat 8 (fieldAt b 0x1E 1), z := fieldAt b 0x1F 1 % 16
    fadeMs := BitVec.ofNat 16 (fieldAt b 0x20 2), curve := bitOf (fieldAt b 0x22 1) 0 }

/-- A step in range: video 0x1000 to 0x20000, graphic exactly 0x10000 (Table 7.2). -/
def stepOk (video : Bool) (v : BitVec 32) : Bool :=
  if video then decide (0x1000 ≤ v.toNat) && decide (v.toNat ≤ 0x20000) else v = 0x10000

/-- The range checks of Table 7.2, all of them for VISIBLE 1, the fade's alone for VISIBLE 0 (R193). -/
def descOk (video : Bool) (d : Desc) : Bool :=
  let fade := decide (d.fadeMs.toNat ≤ 4000)
  if !d.visible then fade
  else
    fade && decide (d.format ≤ 4) && d.surf.toNat % 8 = 0 && d.stride.toNat % 8 = 0
      && decide (d.srcW.toNat * pixelBytes d.format ≤ d.stride.toNat) && decide (d.stride.toNat ≤ 8192)
      && decide (1 ≤ d.srcW.toNat) && decide (d.srcW.toNat ≤ 2048)
      && decide (1 ≤ d.srcH.toNat) && decide (d.srcH.toNat ≤ 512)
      && decide (-2048 ≤ d.dstX.toInt) && decide (d.dstX.toInt ≤ 2047)
      && decide (-512 ≤ d.dstY.toInt) && decide (d.dstY.toInt ≤ 511)
      && decide (1 ≤ d.dstW.toNat) && decide (d.dstW.toNat ≤ 2048)
      && decide (1 ≤ d.dstH.toNat) && decide (d.dstH.toNat ≤ 512)
      && (video || (d.dstW = d.srcW && d.dstH = d.srcH))
      && stepOk video d.stepX && stepOk video d.stepY && decide (d.z ≤ 11)

/-- A DESCRIPTOR that passed both stages (R193); BAD_ARG is judged before ENVELOPE (R437). -/
def State.takeDescriptor (s : State) (h : Hdr) (payload : List Byte) : State :=
  let n := fieldAt payload 0 1 % 16
  let d := parseDesc (payload.drop 16)
  if 12 ≤ n || !descOk (n < 4) d then s.reply h 0x20 0 4 []
  else if !(s.env n).enabled then s.reply h 0x20 0 5 []
  else if !s.power.pd3 then s.reply h 0x20 0 7 []
  else (s.modLayer n fun l => { l with shadow := d }).reply h 0x20 0 0 []

def descriptorRx (h : Hdr) (payload : List Byte) : Rx :=
  { h := h, vc := 1, type := 0x20, opcode := 0, len := payload.length, payload := payload
    lenOk := payload.length = 0x50, fieldsOk := true }

/-- DESCRIPTOR (R193). -/
def execDescriptor (h : Hdr) (payload : List Byte) (s : State) : Host.Outcome State Fault Refusal :=
  .next (s.receive (.descriptor h payload) (descriptorRx h payload) fun t => t.takeDescriptor h payload)

/-! ### COMMIT -/

/-- Layers named by a mask. -/
def layersOf (mask : Nat) : List Nat := (List.range 12).filter fun n => bitOf mask n

/-- Line buffer of a video layer in source pixels (Table 7.1, R203). -/
def State.lineBuffer (s : State) (n : Nat) : Nat := if (n = 0 || n = 2) && (s.env n).pair then 2048 else 1024

/-- The envelope check of a named layer's shadow (Table 7.7, check 5). -/
def State.fits (s : State) (n : Nat) (d : Desc) : Bool :=
  !d.visible ||
    ((s.env n).formats.getLsbD d.format && decide (d.srcW.toNat ≤ (s.env n).maxW) && decide (d.srcH.toNat ≤ (s.env n).maxH)
      && (decide (4 ≤ n) || decide (d.srcW.toNat ≤ s.lineBuffer n)) && decide ((descSpan d).2 ≤ (s.env n).size))

/-- The surface of a visible descriptor lies in a bank group without power (Table 7.7, check 6). -/
def State.surfaceOff (s : State) (n : Nat) (d : Desc) : Bool :=
  d.visible && s.unpowered ((s.env n).base + (descSpan d).1) ((s.env n).base + (descSpan d).2)

/-- The reply of Table 7.7: the first check that fails. -/
def State.commitStatus (s : State) (mask : Nat) (await : Bool) : Nat :=
  let ls := layersOf mask
  if !s.isReady then 1
  else if await && !s.revAtLeast 0x21 then 9
  else if mask = 0 then 4
  else if !(ls.all fun n => (s.env n).enabled) then 5
  else if !(ls.all fun n => s.fits n (s.layer n).shadow) then 5
  else if !s.power.pd3 || (ls.any fun n => s.surfaceOff n (s.layer n).shadow) then 7
  else if 8 ≤ s.comp.pending.length then 8
  else 0

/-- A COMMIT with arrival `a` that passed both stages (R207, R208, R227). -/
def State.takeCommit (s : State) (h : Hdr) (payload : List Byte) (a : Stamp) : State :=
  let seq := fieldAt payload 0 2
  let mask := fieldAt payload 2 2 % 4096
  let await := bitOf (fieldAt payload 4 1) 0
  let status := s.commitStatus mask await
  if status ≠ 0 then s.reply h 0x21 0 status []
  else
    let late := !await && s.inGuard a
    let c : Commit :=
      { seq := BitVec.ofNat 16 seq, mask := BitVec.ofNat 12 mask
        copies := (layersOf mask).map fun n => (n, (s.layer n).shadow)
        await := await, pourId := BitVec.ofNat 8 (fieldAt payload 5 1)
        due := if await then 0 else s.boundFor a, at1 := s.now1 }
    let t : State := { s with comp := { s.comp with pending := s.comp.pending ++ [c] } }
    let u := t.litOnAccept.reply h 0x21 0 0 []
    u.cond late fun v => (v.setFlag fCommitLate).raise 0x0501 [(2, seq)]

def commitRx (h : Hdr) (payload : List Byte) : Rx :=
  { h := h, vc := 1, type := 0x21, opcode := 0, len := payload.length, payload := payload
    lenOk := payload.length = 16, fieldsOk := true }

/-- COMMIT (R207, R208, R227). -/
def execCommit (dt : Nat) (h : Hdr) (payload : List Byte) (s : State) : Host.Outcome State Fault Refusal :=
  .next ((s.elapse dt).receive (.commit dt h payload) (commitRx h payload) fun t =>
    t.takeCommit h payload (t.capture 0))

/-! ### POUR -/

/-- Release the matching commits for latch point `due` (R230). -/
def releaseFor (pid : BitVec 8) (group due : Nat) (held : Int) (c : Commit) : Commit :=
  if c.await && c.group = 0 && c.pourId = pid then { c with await := false, group := group, due := due, held := held } else c

/-- A POUR that passed both stages, the content stage at the TB0 full time `now` (R158, R230): it is answered only where it is
rejected (R131). Without a matching commit event 0x0504 stands alone, whatever its EPOCH. (DESIGN CHOICE: assumption log
42, 52.) -/
def State.takePour (s : State) (h : Hdr) (payload : List Byte) (now : Nat) : State :=
  let pid := BitVec.ofNat 8 (fieldAt payload 0 1)
  let ep := fieldAt payload 1 1
  if !s.isReady then s.reply h 0x22 0 1 []
  else if !s.revAtLeast 0x21 then s.reply h 0x22 0 9 []
  else if !isBcast h then s.reply h 0x22 0 4 []
  else if !(s.comp.pending.any fun c => c.await && c.group = 0 && c.pourId = pid) then s.raise 0x0504 [(1, pid.toNat)]
  else
    let t := s.cond (ep ≠ s.clk.epoch.toNat) fun u => u.raise 0x020A [(1, ep), (1, u.clk.epoch.toNat)]
    let w := extend32 (fieldAt payload 4 4) now
    let r := t.bindTime w
    let g := r.1.comp.pours + 1
    { r.1 with comp := { r.1.comp with pours := g, pending := r.1.comp.pending.map (releaseFor pid g r.2 w) } }

def pourRx (h : Hdr) (payload : List Byte) : Rx :=
  { h := h, vc := 1, type := 0x22, opcode := 0, len := payload.length, payload := payload
    lenOk := payload.length = 16, fieldsOk := true }

/-- POUR (R158, R230). -/
def execPour (dt : Nat) (h : Hdr) (payload : List Byte) (s : State) : Host.Outcome State Fault Refusal :=
  .next ((s.elapse dt).receive (.pour dt h payload) (pourRx h payload) fun t => t.takePour h payload t.now0)

/-- AWAIT_EXPIRED: an await-POUR commit is discarded 1 000 ms after its acceptance (R230). (DESIGN CHOICE: assumption log 8.) -/
def execAwaitExpired (seq : BitVec 16) (s : State) : Host.Outcome State Fault Refusal :=
  let hit (c : Commit) : Bool := c.await && c.seq = seq
  if s.comp.pending.any hit then
    .next ({ s with comp := { s.comp with pending := s.comp.pending.eraseP hit } }.raise 0x0505 [(2, seq.toNat)])
  else .next s

end Sys2Proof.Machine
end

