-- ==== Sys2Proof/Machine/Legacy.lean ====
section
/-!
DEFINITION. T512 frames and the legacy register map (14 R378-R384, R389-R392).
-/
namespace Sys2Proof.Machine

/-! ### Registers (Table 14.3) -/

/-- The failed legacy pixels, in ascending block index (R391, R392). -/
def State.failedBlocks (s : State) : List Nat := (s.leg.nfail.filter fun x => decide (s.img.failThreshold ≤ x.2)).map Prod.fst

/-- Writable bits of a legacy register. -/
def legMask (a : Nat) : Byte :=
  if a = 0x04 then 0x03 else if a = 0x05 || a = 0x08 || a = 0x09 || a = 0x0D || a = 0x0E then 0xFF
  else if a = 0x0A then 0x01 else if 0x40 ≤ a && a ≤ 0x7F then 0xBF else 0

/-- The register acts on the light (R384). -/
def legLight (a : Nat) : Bool := a = 0x04 || a = 0x05 || (0x40 ≤ a && a ≤ 0x7F)

/-- FAULT_IDX. -/
def State.faultIdx (s : State) : Nat := (s.legReg 0x0D).toNat + 256 * (s.legReg 0x0E).toNat

/-- FAULT_ENTRY (Table 14.7), from the snapshot (R392). -/
def State.faultEntry (s : State) : Nat :=
  match s.leg.snap[s.faultIdx]? with
  | some k => k % 512 * 128 + k / 512
  | none => 0xFFFF

/-- Put a value into an RW register. -/
def State.legPut (s : State) (a : Nat) (v : Byte) : State :=
  { s with leg := { s.leg with regs := s.leg.regs.set 0 a (v ^^^ legReset a) } }

/-- A register's effect on the light, bound to latch point `due` (R384). -/
def State.lightEffect (s : State) (due a : Nat) (v : Byte) : State :=
  { s with leg := { s.leg with light := s.leg.light ++ [(due, a, v)] } }

/-- CTRL.SOFT_RESET (Table 14.5): every RW register takes its reset value, its light effect bound by R384; event
0x0D07. (DEDUCED: assumption log 19.) -/
def State.softResetNow (s : State) (due : Nat) : State :=
  let t : State := { s with leg := { s.leg with regs := [] } }
  let u := t.forEach ((List.range 128).filter legLight) fun v a => v.lightEffect due a (legReset a)
  u.raise 0x0D07 []

/-- A write of one register (R384, R389, R392). (DEDUCED: assumption log 19.) -/
def State.legWrite (s : State) (due a : Nat) (v : Byte) : State :=
  if a = 0x04 && bitOf v.toNat 7 then s.softResetNow due
  else if legMask a = 0 then s
  else
    let w := v &&& legMask a
    let t := (s.legPut a w).cond (legLight a) fun u => u.lightEffect due a w
    if a = 0x0D || a = 0x0E then { t with leg := { t.leg with snap := t.failedBlocks } } else t

/-- Latch the high byte of a multi-byte register at a read of its low byte (R389). -/
def State.latchHi (s : State) (a v : Nat) : State :=
  { s with leg := { s.leg with hi := s.leg.hi.set 0 a (BitVec.ofNat 8 (v / 256)) } }

/-- FAULT_IDX rises by one, after a read of 0x10. -/
def State.nextFault (s : State) : State :=
  let n := s.faultIdx + 1
  (s.legPut 0x0D (BitVec.ofNat 8 n)).legPut 0x0E (BitVec.ofNat 8 (n / 256))

/-- A read of the low byte of a multi-byte register with value `v`. -/
def State.readLow (s : State) (a v : Nat) : State × Byte := (s.latchHi a v, BitVec.ofNat 8 v)

/-- A read of one register: the state after, and the value (R389, R390, R392). (DEDUCED: assumption log 19.) -/
def State.legRead (s : State) (a : Nat) : State × Byte :=
  if a = 0x01 then (s, 0x02)
  else if a = 0x02 then (s, 0x14)
  else if a = 0x03 then
    let v := setBit (setBit s.leg.status 2 (s.safety.state = .fallback)) 1 (s.safety.state = .degraded)
    ({ s with leg := { s.leg with status := 0 } }, v)
  else if a = 0x06 then (s, s.leg.temp)
  else if a = 0x07 then (s, s.leg.tempExt)
  else if a = 0x0B then s.readLow a (sat16 s.failedBlocks.length)
  else if a = 0x0D then s.readLow a s.faultIdx
  else if a = 0x0F then s.readLow a s.faultEntry
  else if a = 0x0C || a = 0x0E then (s, s.leg.hi.get 0 (a - 1))
  else if a = 0x10 then (s.nextFault, s.leg.hi.get 0 0x0F)
  else if a = 0x11 then (s, s.leg.showCnt)
  else if a = 0x12 then ({ s with leg := { s.leg with errCnt := 0 } }, BitVec.ofNat 8 s.leg.errCnt)
  else if legMask a = 0 then (s, 0)
  else (s, s.legReg a)

/-- Consecutive registers, the first first. -/
def State.legReads (s : State) (first count : Nat) : State × List Byte :=
  (List.range count).foldl (fun p i => let r := p.1.legRead (first + i); (r.1, p.2 ++ [r.2])) (s, [])

/-! ### Replies (R380, R381) -/

/-- Send a reply frame on the back lane, IDLE before it (R378, R379). -/
def State.sendT512 (s : State) (r : T512Reply) : State :=
  ({ s with leg := { s.leg with replies := s.leg.replies ++ [r] } } : State).emit .a []
    (t512Idle ++ t512Chars r.type r.seq r.arg r.payload)

/-- Answer a new frame: the reply is stored for its duplicates (R381). -/
def State.answerT512 (s : State) (r : T512Reply) : State :=
  { s with leg := { s.leg with lastReply := some r } }.sendT512 r

/-- Answer with a status; a rejection raises event 0x0D05 (R380, R396). -/
def State.ackT512 (s : State) (type : Nat) (f : T512Frame) (status : Nat) : State :=
  let t := s.answerT512 { type := 0x81, seq := f.seq, payload := leBytes 1 status }
  t.cond (status ≠ 0) fun u => u.raise 0x0D05 [(1, type), (1, status)]

/-! ### LINES and SHOW (R382, R383) -/

/-- The lowest free row buffer. -/
def LegRow.freeCopy (r : LegRow) : Nat :=
  ([0, 1, 2, 3].find? fun b => b ≠ r.shown && b ≠ r.cmt0 && b ≠ r.cmt1 && b ≠ r.work).getD 0

/-- One row of a LINES frame. -/
def State.linesRow (s : State) (v : Nat) (d : List Byte) : State :=
  let r := s.legRow v
  let b := if r.work = 4 then r.freeCopy else r.work
  let t : State := { s with leg := { s.leg with rows := s.leg.rows.set {} v { r with work := b } } }
  let a := s.regionBase 5 + 0x10000 * b + 512 * v
  t.cond (!t.unpowered a (a + 512)) fun u => u.storeBytes a d

/-- The working copy of a row is committed to a slot. -/
def LegRow.commit (r : LegRow) (slot1 : Bool) : LegRow :=
  if r.work = 4 then r else if slot1 then { r with cmt1 := r.work, work := 4 } else { r with cmt0 := r.work, work := 4 }

/-- A SHOW with arrival `a` is accepted: bound by the cutoff rule; inside the guard COMMIT_LATE and event 0x0D03 (R383). -/
def State.takeShow (s : State) (seq : Byte) (a : Stamp) : State :=
  let due := s.boundFor a
  let late := s.inGuard a
  let one := if s.leg.slot0 = some due then false else s.leg.slot1 = some due || s.leg.slot0.isSome
  let l := if one then { s.leg with slot1 := some due, seq1 := seq } else { s.leg with slot0 := some due, seq0 := seq }
  let t := ({ s with leg := l } : State).modLegRows fun r => r.commit one
  t.cond late fun u => (u.setFlag fCommitLate).raise 0x0D03 [(1, seq.toNat)]

/-! ### Frames -/

/-- REG_WRITE: ascending registers, together (R384, Table 14.2). -/
def State.takeRegWrite (s : State) (f : T512Frame) (arrival : Stamp) : State :=
  let a := f.arg.toNat
  let n := f.payload.length
  if 1 ≤ n && n ≤ 128 && a + n ≤ 0x80 then
    let due := s.boundFor arrival
    ((f.payload.mapIdx fun i v => (a + i, v)).foldl (fun t x => t.legWrite due x.1 x.2) s).ackT512 1 f 0
  else s.ackT512 1 f 2

/-- REG_READ (Table 14.2). -/
def State.takeRegRead (s : State) (f : T512Frame) : State :=
  let a := f.arg.toNat
  let n := fieldAt f.payload 0 1
  if f.payload.length = 1 && 1 ≤ n && n ≤ 128 && a + n ≤ 0x80 then
    let r := s.legReads a n
    r.1.answerT512 { type := 0x82, seq := f.seq, arg := f.arg, payload := r.2 }
  else s.ackT512 2 f 2

/-- LINES, with AUTO_SHOW where it applies (R382, R383). Before READY the SHOW part does not act. (DEDUCED: assumption log 19.) -/
def State.takeLines (s : State) (f : T512Frame) (a : Stamp) : State :=
  let v := f.arg.toNat
  let n := f.payload.length / 512
  if f.payload.length % 512 = 0 && 1 ≤ n && n ≤ 8 && v + n ≤ 128 then
    let t := s.forEach (List.range n) fun u i => u.linesRow (v + i) ((f.payload.drop (512 * i)).take 512)
    (t.cond (s.isReady && v + n = 128 && bitOf (s.legReg 4).toNat 1) fun u => u.takeShow f.seq a).ackT512 3 f 0
  else s.ackT512 3 f 2

/-- SHOW (R383); before READY it is NOT_READY (R380). -/
def State.takeShowFrame (s : State) (f : T512Frame) (a : Stamp) : State :=
  if f.arg ≠ 0 || f.payload ≠ [] then s.ackT512 4 f 2
  else if !s.isReady then s.ackT512 4 f 3
  else (s.takeShow f.seq a).ackT512 4 f 0

/-- ECHO (R380). -/
def State.takeLegEcho (s : State) (f : T512Frame) : State :=
  if f.payload.length ≤ 4096 then s.answerT512 { type := 0x85, seq := f.seq, arg := f.arg, payload := f.payload }
  else s.ackT512 5 f 2

/-- A host frame is executed in arrival order; a duplicate is not, and gets the stored reply again (R380, R381). -/
def State.takeFrame (s : State) (type : Nat) (f : T512Frame) (a : Stamp) : State :=
  if s.leg.lastSeq = some f.seq then
    match s.leg.lastReply with
    | some r => s.sendT512 r
    | none => s
  else
    let t : State := { s with leg := { s.leg with lastSeq := some f.seq } }
    if type = 1 then t.takeRegWrite f a
    else if type = 2 then t.takeRegRead f
    else if type = 3 then t.takeLines f a
    else if type = 4 then t.takeShowFrame f a
    else if type = 5 then t.takeLegEcho f
    else t.ackT512 type f 1

/-- Receive queue of T512 frames, which the MP consumes (R142). -/
def legacyVc : Nat := 5

/-- A T512 frame as it would wait: LINES writes its rows' store bytes, of whichever copy (R172, R382). -/
def State.frameWait (s : State) (type : Nat) (f : T512Frame) : Wait :=
  let a := s.regionBase 5 + 512 * f.arg.toNat
  { vc := legacyVc, who := 1, bytes := f.payload.length
    lo := if type = 3 then a else 0, hi := if type = 3 then a + 0x30000 + f.payload.length else 0 }

/-- Bytes of T512 frames that wait. -/
def State.frameBytes (s : State) : Nat :=
  ((s.link.waiting.filter fun w => w.vc = legacyVc).map fun w => stageBytes w.bytes).foldl (· + ·) 0

/-- A frame is answered NAK: it failed its CRC or framing, or found no room; the fifth failure in a row is link down
(R381). The SEQ of a NAK before any frame was accepted is a free value. (DESIGN CHOICE: assumption log 18, 19.) -/
def State.nakFrame (s : State) (noRoom : Bool) : State :=
  let run := if noRoom then 0 else s.leg.badRun + 1
  let seq := s.leg.lastSeq.getD (BitVec.ofNat 8 (s.freeVal 7))
  let t := s.cond s.leg.lastSeq.isNone State.drawn
  let u := ({ t with leg := { t.leg with badRun := run, errCnt := min 255 (t.leg.errCnt + 1) } } : State).legStatus 4
  let v := (u.sendT512 { type := 0x83, seq := seq }).raiseRated 0x0D04 0 []
  if 5 ≤ run then v.linkDown 4 else v

/-- A frame that passed its CRC arrives: on a T512 link it is executed, or waits for the MP in the 352 KiB of receive
staging (R142, R366, R381). (DESIGN CHOICE: assumption log 53.) -/
def State.frameIn (s : State) (i : Instr) (type : Nat) (f : T512Frame) : State :=
  if !s.legacyUp then s
  else if 360448 < s.frameBytes + stageBytes f.payload.length then s.nakFrame true
  else
    let t : State := { s with leg := { s.leg with badRun := 0 } }
    if t.mustWait (t.frameWait type f) then t.keep { t.frameWait type f with cmd := i }
    else t.takeFrame type f (t.capture 0)

/-- REG_WRITE (R384). -/
def execRegWrite (dt : Nat) (f : T512Frame) (s : State) : Host.Outcome State Fault Refusal :=
  .next ((s.elapse dt).frameIn (.regWrite dt f) 1 f)

/-- SOFT_RESET: a REG_WRITE frame that sets CTRL.SOFT_RESET (R389). -/
def execSoftReset (dt : Nat) (f : T512Frame) (s : State) : Host.Outcome State Fault Refusal :=
  .next ((s.elapse dt).frameIn (.softReset dt f) 1 f)

/-- FAULT_IDX_WRITE: a REG_WRITE frame that covers FAULT_IDX (R392). -/
def execFaultIdxWrite (f : T512Frame) (s : State) : Host.Outcome State Fault Refusal :=
  .next (s.frameIn (.faultIdxWrite f) 1 f)

/-- REG_READ (R389). -/
def execRegRead (f : T512Frame) (s : State) : Host.Outcome State Fault Refusal := .next (s.frameIn (.regRead f) 2 f)

/-- FAULT_ENTRY_READ: a REG_READ frame that covers 0x10 (R392). -/
def execFaultEntryRead (f : T512Frame) (s : State) : Host.Outcome State Fault Refusal :=
  .next (s.frameIn (.faultEntryRead f) 2 f)

/-- LEGACY_STATUS_READ: a REG_READ frame that covers STATUS (R390). -/
def execLegacyStatusRead (f : T512Frame) (s : State) : Host.Outcome State Fault Refusal :=
  .next (s.frameIn (.legacyStatusRead f) 2 f)

/-- LINK_ERR_CNT_READ: a REG_READ frame that covers 0x12 (R389). -/
def execLinkErrCntRead (f : T512Frame) (s : State) : Host.Outcome State Fault Refusal :=
  .next (s.frameIn (.linkErrCntRead f) 2 f)

/-- LOW_BYTE_READ: a REG_READ frame that covers the low byte of a multi-byte register (R389). -/
def execLowByteRead (f : T512Frame) (s : State) : Host.Outcome State Fault Refusal :=
  .next (s.frameIn (.lowByteRead f) 2 f)

/-- LINES (R382). -/
def execLines (dt : Nat) (f : T512Frame) (s : State) : Host.Outcome State Fault Refusal :=
  .next ((s.elapse dt).frameIn (.lines dt f) 3 f)

/-- SHOW (R383). -/
def execShowRows (dt : Nat) (f : T512Frame) (s : State) : Host.Outcome State Fault Refusal :=
  .next ((s.elapse dt).frameIn (.showRows dt f) 4 f)

/-- LEGACY_ECHO (R380). -/
def execLegacyEcho (f : T512Frame) (s : State) : Host.Outcome State Fault Refusal := .next (s.frameIn (.legacyEcho f) 5 f)

/-- FRAME_REJECTED: a TYPE that is not a host type (R380). -/
def execFrameRejected (type : BitVec 8) (f : T512Frame) (s : State) : Host.Outcome State Fault Refusal :=
  .next (s.frameIn (.frameRejected type f) type.toNat f)

/-- FRAME_NAK (R381). -/
def execFrameNak (noRoom : Bool) (s : State) : Host.Outcome State Fault Refusal :=
  .next (if s.legacyUp then s.nakFrame noRoom else s)

/-- HS: 16 sets complete the handshake (R378), with the personality and the off latch as R77 and R323 say; four after
link-up ask for a retrain. (DEDUCED: assumption log 19.) -/
def execHs (sets : Nat) (s : State) : Host.Outcome State Fault Refusal :=
  if s.portA.framing ≠ 2 then .next s
  else if s.portA.st = .exchange then
    let n := s.leg.hsRx + sets
    if n < 16 then .next { s with leg := { s.leg with hsRx := n } }
    else
      let t := s.linkUpNow
      .next ((t.cond (t.isLegacy && !s.isLegacy) State.enterLegacy).legacyRecover)
  else if s.portA.st = .up && 4 ≤ sets then .next (s.linkDown 3)
  else .next s

end Sys2Proof.Machine
end

