-- ==== Sys2Proof/Machine/Channels.lean ====
section
/-!
DEFINITION. The two safety channels (11): zone lists (R301-R304), the limiter's tick (R309), the clamp-set compare (R306),
request words and the vote (R315, R316), stall blankings (R313), the checks of R50, R30 and Table 11.1, LBREQ (R321), the
link hold (03 R101).
-/
namespace Sys2Proof.Machine

/-! ### Zone lists -/

/-- The records of a list have distinct ZONE_IDs. -/
def distinctIds : List ZoneRec → Bool
  | [] => true
  | z :: l => !(l.any fun y => y.id = z.id) && distinctIds l

/-- A zone record (Table 11.3). -/
def parseZone (b : List Byte) : ZoneRec :=
  { x0 := fieldAt b 0 2 % 2048, x1 := fieldAt b 2 2 % 2048, y0 := fieldAt b 4 2 % 512, y1 := fieldAt b 6 2 % 512
    limit := fieldAt b 8 2 % 4096, id := fieldAt b 10 1 % 32 }

/-- REC_CRC of a record matches. -/
def recCrcOk (b : List Byte) : Bool := fieldAt b 12 2 = crc16 (b.take 12)

/-- A plain zone list, none where a check of Table 11.4 fails. -/
def parseZones (b : List Byte) (at3 : Nat) : Option ZoneList :=
  let n := fieldAt b 2 1
  let cut := bitOf (fieldAt b 3 1) 0
  let off := 16 + 64 * b2n cut
  let recs := (List.range n).map fun i => (b.drop (off + 16 * i)).take 16
  let zs := recs.map parseZone
  if b.length = off + 16 * n && n ≤ 32 && fieldAt b 4 1 = 2 && fieldAt b 12 4 = crc32c (b.take 12 ++ b.drop 16)
      && recs.all recCrcOk && (zs.all fun z => z.x0 ≤ z.x1 && z.y0 ≤ z.y1) && distinctIds zs then
    some { seq := BitVec.ofNat 16 (fieldAt b 0 2), zones := zs
           rows := if cut then (List.range 32).map fun i => fieldAt b (16 + 2 * i) 2 % 512 else [], len := b.length, at3 := at3 }
  else none

/-- Event 0x0805 (Table 15.7). -/
def State.zoneRejected (s : State) (seq cause : Nat) : State := s.raise 0x0805 [(2, seq), (1, cause)]

/-- A zone packet on VC2: the Rind decodes the plain record, the SP (`who` 4) the complement (R31, R303). -/
def zoneRx (h : Hdr) (type : Nat) (payload : List Byte) (who : Nat) : Rx :=
  { h := h, vc := 2, type := type, opcode := 0, len := payload.length, payload := payload
    lenOk := 16 ≤ payload.length && payload.length ≤ 4096, fieldsOk := true, who := who }

/-- A candidate is discarded (R303). -/
def State.dropCand (s : State) (cause : Nat) : State :=
  match s.zones.cand with
  | some c => ({ s with zones := { s.zones with cand := none } } : State).zoneRejected c.seq.toNat cause
  | none => s

/-- A candidate older than 1 ms has expired (R303). -/
def State.expireCand (s : State) : State :=
  s.cond (s.zones.cand.any fun c => decide (c.at3 + 1000000 < s.clk.tb3)) fun t => t.dropCand 1

/-- The Rind takes a ZONE_PLAIN: it replaces a candidate, and becomes one when it passes the checks (R303, R304). -/
def State.takePlain (s : State) (h : Hdr) (payload : List Byte) : State :=
  let t := s.expireCand.dropCand 0
  match parseZones payload s.clk.tb3 with
  | some z => { t with zones := { t.zones with cand := some z } }.reply h 0x30 0 0 []
  | none => ({ t with zones := { t.zones with cand := none } }.reply h 0x30 0 4 []).zoneRejected (fieldAt payload 0 2) 2

/-- ZONE_PLAIN (R303, R304). -/
def execZonePlain (h : Hdr) (payload : List Byte) (s : State) : Host.Outcome State Fault Refusal :=
  .next (s.receive (.zonePlain h payload) (zoneRx h 0x30 payload 0) fun t => t.takePlain h payload)

/-- A listed zone in a limiter: new targets, or a new zone at its targets (R304, R310). -/
def Limiter.nameZone (l : Limiter) (z : ZoneRec) : Limiter :=
  let o := l.zones.get {} z.id
  let n : ZoneL :=
    if o.used then { o with removing := false, tx0 := z.x0, tx1 := z.x1, ty0 := z.y0, ty1 := z.y1, tlim := z.limit }
    else { used := true, ex0 := z.x0 * 256, ex1 := z.x1 * 256, ey0 := z.y0 * 256, ey1 := z.y1 * 256, elim := z.limit * 256
           tx0 := z.x0, tx1 := z.x1, ty0 := z.y0, ty1 := z.y1, tlim := z.limit }
  { l with zones := l.zones.put z.id n }

/-- A used zone absent from a confirmed list shrinks to its centre, once (R310). -/
def ZoneL.remove (z : ZoneL) : ZoneL :=
  if !z.used || z.removing then z
  else
    let cx := (floor8 z.ex0 + ceil8 z.ex1) / 2
    let cy := (floor8 z.ey0 + ceil8 z.ey1) / 2
    { z with removing := true, tx0 := cx, tx1 := cx, ty0 := cy, ty1 := cy }

/-- The targets of a confirmed list (R304, R307, R310). -/
def Limiter.confirm (p : SafetyP) (l : Limiter) (z : ZoneList) : Limiter :=
  let gone : Limiter := { l with zones := l.zones.map fun e => if z.zones.any fun r => r.id = e.1 then e else (e.1, e.2.remove) }
  let named := z.zones.foldl Limiter.nameZone gone
  { named with want := (z.rows.mapIdx fun b r => (b, r)).foldl (fun m e => m.set 256 e.1 (boundRow p e.1 e.2 : Nat)) named.want }

/-- A list is confirmed: event 0x0804, bounded rows reported, the limiter run with dt = 0 (R304, R307, R309). -/
def State.confirmList (s : State) (z : ZoneList) : State :=
  let p := s.rindP
  let t : State := { s with zones := { s.zones with
    cand := none, lastSeq := z.seq, lim := s.zones.lim.confirm p z, spLim := s.zones.spLim.confirm s.spP z } }
  let u := (z.rows.mapIdx fun b r => (b, r)).foldl (fun v e =>
    v.cond (boundRow p e.1 e.2 ≠ e.2) fun w => w.raise 0x080B [(1, e.1), (2, e.2)]) (t.raise 0x0804 [(2, z.seq.toNat)])
  u.runLimiter 0

/-- The two decodes agree in every field. -/
def ZoneList.same (a b : ZoneList) : Bool := a.seq = b.seq && a.zones = b.zones && a.rows = b.rows && a.len = b.len

/-- The SP takes a ZONE_COMPL; a candidate older than 1 ms has expired and is none (R303, R304). -/
def State.takeCompl (s : State) (h : Hdr) (payload : List Byte) : State :=
  let plain := payload.map fun b => ~~~b
  let t := s.expireCand
  match t.zones.cand with
  | none => (t.reply h 0x31 0 4 []).zoneRejected (fieldAt plain 0 2) 4
  | some c =>
    match parseZones plain c.at3 with
    | none => (t.reply h 0x31 0 4 []).dropCand 2
    | some z => if z.same c then (t.confirmList z).reply h 0x31 0 0 [] else (t.reply h 0x31 0 4 []).dropCand 3

/-- ZONE_COMPL (R303, R304). -/
def execZoneCompl (h : Hdr) (payload : List Byte) (s : State) : Host.Outcome State Fault Refusal :=
  .next (s.receive (.zoneCompl h payload) (zoneRx h 0x31 payload 4) fun t => t.takeCompl h payload)

/-- CANDIDATE_EXPIRY: a candidate not confirmed within 1 ms is discarded (R303). -/
def execCandidateExpiry (s : State) : Host.Outcome State Fault Refusal :=
  .next (s.dropCand 1)

/-! ### LBREQ, the link hold, the parameters' check, clocks -/

/-- LBREQ: a filtered change of level; it decides between FALLBACK and DARK (R321, Table 11.5). -/
def execLbreq (active : Bool) (s : State) : Host.Outcome State Fault Refusal :=
  if !s.rindRuns || s.safety.lbreq = active then .next s
  else .next ({ s with safety := { s.safety with lbreq := active } }.raise 0x080C [(1, b2n active)]).judge

/-- LINK_HOLD_EXPIRY: the hold ends with the link still down; the cause is cleared at once (R101, Table 11.6).
(DESIGN CHOICE: assumption log 9.) -/
def execLinkHoldExpiry (s : State) : Host.Outcome State Fault Refusal :=
  if s.link.holdRun && s.rindRuns then .next ({ s with link := { s.link with holdRun := false } }.pulseCause cLinkHold)
  else .next s

/-- SAFETY_CRC_CHECK: on a mismatch the Rind uses its ROM parameters, a fallback beam on the array the ROM's pattern, and
requests DEGRADED (R50, R329). -/
def execSafetyCrcCheck (corrupt : Bool) (s : State) : Host.Outcome State Fault Refusal :=
  if corrupt && s.safety.copy.isSome && !s.safety.crcBad && s.rindRuns then
    let t := ({ s with safety := { s.safety with romParams := true, crcBad := true } } : State).setCause true cSafetyCrc true
    .next (t.cond (s.safety.paint = .beam && t.safety.paint = .beam) State.repaint)
  else .next s

/-- CLOCK_FAULT: the FAB or the TILE clock (R30). -/
def execClockFault (tileClock : Bool) (s : State) : Host.Outcome State Fault Refusal :=
  let i := b2n tileClock
  if s.safety.clockFault.getLsbD i || !s.rindRuns then .next s
  else
    let t : State := { s with safety := { s.safety with clockFault := setBit s.safety.clockFault i true } }
    .next ((t.raise 0x080F [(1, i)]).setCause true cClock true)

/-- OSCILLATOR_CHECK: the SP's measurement every 10 ms; beyond 5 % it is an oscillator fault (Table 11.1). -/
def execOscillatorCheck (deviates : Bool) (s : State) : Host.Outcome State Fault Refusal :=
  if deviates && !s.safety.oscFault && s.sp.running then
    .next (({ s with safety := { s.safety with oscFault := true } }.raise 0x080F [(1, 2)]).setCause false cOsc true)
  else .next s

/-- SAFETY_OSCILLATOR_STOP: every cut line falls (R299); TB3 and the Rind stand still. -/
def execSafetyOscillatorStop (s : State) : Host.Outcome State Fault Refusal :=
  .next { s with safety := { s.safety with oscStopped := true } }

/-! ### The millisecond of TB3 -/

/-- Zones in force for the tile cuts: none in the off class (R319). -/
def State.cutZones (s : State) : List ZoneC :=
  if s.safety.state.off then [] else (s.zones.active.zones.map Prod.snd).filter fun z => z.used

/-- The stuck code of a tile (R325): 819.2 over its on-current. -/
def State.stuckCode (s : State) (t : Nat) : Nat := ceilDiv 131072 (10 * (32 + (s.tile t).applied.toNat))

/-- A listed stuck-on pixel of the tile lies in a zone with a limit below the stuck code (R325). -/
def State.stuckCut (s : State) (t : Nat) : Bool :=
  s.safety.stuckOn.any fun p => tileOfPixel p = t
    && s.cutZones.any fun z => z.covers (p % 2048) (p / 2048) && z.lim < s.stuckCode t

/-- A faulted row segment of the tile lies in a zone (R326). -/
def State.segmentCut (s : State) (t : Nat) : Bool :=
  s.rb.fault.any fun f => f.1 / 128 = t
    && s.cutZones.any fun z =>
      z.y0 ≤ tileY t + f.1 % 128 && tileY t + f.1 % 128 ≤ z.y1 && z.x0 ≤ tileX t + 127 && tileX t ≤ z.x1

/-- The tile cuts of R325 and R326 at a tick. -/
def State.tickCuts (s : State) : State :=
  s.forEach (List.range 64) fun u t => (u.setCut t kStuck (s.stuckCut t)).setCut t kSegment (s.segmentCut t)

/-- The SP has found a difference at this tick: twice running asks for DEGRADED, ten times for FALLBACK (R306). -/
def State.foundDiff (s : State) : State :=
  let d := s.zones.diffRun
  let n := if 10 ≤ d then 10 else if s.zones.sameRun = 0 && d ≠ 0 then d else if s.zones.sameRun ≤ 1 then d + 1 else 1
  let t : State := { s with zones := { s.zones with diffRun := n, sameRun := 0 } }
  (t.raiseRated 0x0809 0 []).cond (2 ≤ n) fun u => u.setCause false cSetDiff true

/-- The SP, holding its own copy of the targets since BRING_UP, computes another clamp set than the Rind's (R306). -/
def State.setsDiffer (s : State) : Bool :=
  s.sp.running && (s.start.state = .bringUp || s.start.state = .ready)
    && decide (clampSetOf s.spP s.zones.spLim ≠ s.zones.work)

/-- The compare of a tick: a difference of the two sets, and none until SET_MISMATCH says otherwise; after 1 000 without one the
request ends (R306). -/
def State.compareTick (s : State) : State :=
  let n := min 1001 (s.zones.sameRun + 1)
  let t : State := { s with zones := { s.zones with sameRun := n } }
  if t.setsDiffer then t.foundDiff
  else if n = 1001 && s.zones.diffRun ≠ 0 then { t with zones := { t.zones with diffRun := 0 } }.setCause false cSetDiff false
  else t

/-- LIMITER_TICK: the next whole millisecond of TB3 (R308, R309, R325, R326). (DESIGN CHOICE: assumption log 6.) -/
def execLimiterTick (s : State) : Host.Outcome State Fault Refusal :=
  if !s.rindRuns then .next s
  else
    let t : State := { s with clk := { s.clk with tb3 := (s.clk.tb3 / 1000000 + 1) * 1000000 } }
    .next ((t.runLimiter 1).compareTick).tickCuts

/-- SET_MISMATCH: the SP's compare at this tick finds a difference (R306). (DESIGN CHOICE: assumption log 37.) -/
def execSetMismatch (s : State) : Host.Outcome State Fault Refusal := .next (if s.sp.running then s.foundDiff else s)

/-- The SP's vote, as a state number (R315). -/
def State.spVote (s : State) : Nat :=
  let v := max s.spFull s.rindFull
  if v = 2 || s.safety.offLatch || s.safety.state.off then stateNum s.offState else v

/-- A channel's word of a millisecond, present or missing (R315). (DESIGN CHOICE: assumption log 37.) -/
def State.exchange (s : State) (fromSp fromRind : Bool) : State :=
  { s with safety := { s.safety with
    spSent := if fromSp then s.spOwn else s.safety.spSent
    rindSent := if fromRind then s.rindOwn else s.safety.rindSent
    spMiss := if fromSp then 0 else min 3 (s.safety.spMiss + 1)
    rindMiss := if fromRind then 0 else min 3 (s.safety.rindMiss + 1)
    degMs := if s.degraded then s.safety.degMs + 1 else 0
    rindOkMs := if s.rindOwn = 0 then s.safety.rindOkMs + 1 else 0
    spOkMs := if s.spOwn = 0 then s.safety.spOkMs + 1 else 0 } }

/-- REQUEST_WORD: the exchange of a millisecond and the vote (R315). Without the SP's words for three milliseconds the Rind
requests FALLBACK, until the SP runs and sends them (Table 11.6). Words pass from the SP's start on (Table 2.20). -/
def execRequestWord (fromSp fromRind : Bool) (s : State) : Host.Outcome State Fault Refusal :=
  if !s.rindRuns || !s.clk.crystal then .next s
  else
    let sp := fromSp && s.sp.running
    let t := s.exchange sp fromRind
    let bite := if sp then false else s.safety.rindCauses.getLsbD cSpWatchdog || decide (3 ≤ t.safety.spMiss)
    let u := (t.cond (bite ≠ t.safety.rindCauses.getLsbD cSpWatchdog) fun v => v.setCause true cSpWatchdog bite).judge
    .next { u with
      sp := { u.sp with wordDone := u.sp.running }
      safety := { u.safety with voteBad := u.safety.voteBad && u.spVote ≠ stateNum u.safety.state } }

/-- NORMAL_AGREEMENT: both full requests have been NORMAL for 1 s (R316). (DESIGN CHOICE: assumption log 37.) -/
def execNormalAgreement (s : State) : Host.Outcome State Fault Refusal :=
  .next (if s.degraded && s.bothNormal then s.changeState .normal else s)

/-- DEG_TIMEOUT: DEGRADED has lasted DEG_TIME_S (R317). (DESIGN CHOICE: assumption log 9, 37.) -/
def execDegTimeout (s : State) : Host.Outcome State Fault Refusal :=
  .next (if s.degraded && s.rindRuns then (s.raise 0x080D []).setCause true cDegTime true else s)

/-- CHANNEL_DISAGREE: the full requests have differed for more than 3 s (R315). (DESIGN CHOICE: assumption log 37.) -/
def execChannelDisagree (s : State) : Host.Outcome State Fault Refusal :=
  if s.rindFull = s.spFull || s.safety.disagree then .next s
  else
    let t : State := { s with safety := { s.safety with disagree := true } }
    .next (((t.setFlag fDisagree).raise 0x0803 []).setCause true cDisagree true)

/-- VOTE_MISMATCH: the SP's vote has differed from the Rind's effective state for 100 us (R315). -/
def execVoteMismatch (s : State) : Host.Outcome State Fault Refusal :=
  if !s.sp.running || s.safety.voteBad then .next s
  else .next ({ s with safety := { s.safety with voteBad := true } }.raise 0x0812 [(1, s.spVote), (1, stateNum s.safety.state)])

/-! ### Stall blanking (R312, R313) -/

/-- A rectangle (x0, x1, y0, y1) meets an array rectangle. -/
def rectMeetsTile (r : Nat × Nat × Nat × Nat) (t : Nat) : Bool :=
  r.1 ≤ tileX t + 127 && tileX t ≤ r.2.1 && r.2.2.1 ≤ tileY t + 127 && tileY t ≤ r.2.2.2

/-- The row segments of a rectangle that must be scanned out. -/
def State.rectSegs (s : State) (x : Stall) (r : Nat × Nat × Nat × Nat) : List Nat :=
  ((List.range 64).filter fun t => rectMeetsTile r t && s.tileOn t && !x.heldAt.getLsbD t).flatMap fun t =>
    ((List.range 128).filter fun i => r.2.2.1 ≤ tileY t + i && tileY t + i ≤ r.2.2.2).map fun i => 128 * t + i

/-- Tightened rectangles not scanned out. -/
def State.unscanned (s : State) (x : Stall) : List (Nat × Nat × Nat × Nat) :=
  x.rects.filter fun r => !(s.rectSegs x r).all fun k => x.good.contains k

/-- The Rind blanks rectangles in every powered quadrant, whose power-force line it asserts (R37, R313).
(DESIGN CHOICE: assumption log 37.) -/
def State.blank (s : State) (rs : List (Nat × Nat × Nat × Nat)) : State :=
  s.forEach [0, 1, 2, 3] fun u q =>
    let mine := rs.filter fun r => (tilesOfQuad q).any fun t => rectMeetsTile r t
    if mine.isEmpty || !u.quadReady q then u
    else
      let v := u.modQuad q fun k => { k with forced := true, granted := false }
      let w : State := { v with zones := { v.zones with blankQuads := setBit v.zones.blankQuads q true } }
      mine.foldl (fun x r => x.sendFill q r.1 r.2.1 r.2.2.1 r.2.2.2 0 true) w

/-- STALL_BLANK: the stall deadline of a tightening swap (R313). -/
def execStallBlank (s : State) : Host.Outcome State Fault Refusal :=
  match s.zones.stall with
  | none => .next s
  | some x =>
    let rs := s.unscanned x
    let t : State := { s with zones := { s.zones with stall := none } }
    if rs.isEmpty || !s.rindRuns then .next t
    else if x.capped then .next (t.setCause true cCapStall true)
    else
      let times := (s.zones.stalls.filter fun y => s.clk.tb3 < y + 1000000000) ++ [s.clk.tb3]
      let u := (t.blank rs).raise 0x0806 [(2, x.frame.toNat), (1, rs.length)]
      let v : State := { u with zones := { u.zones with stalls := times } }
      .next (v.cond (3 ≤ times.length) fun w => w.setCause true cStall true)

/-- STALL_REQUEST_EXPIRY: 10 s have passed without a stall blanking (R313). -/
def execStallRequestExpiry (s : State) : Host.Outcome State Fault Refusal :=
  .next (if s.safety.rindCauses.getLsbD cStall then s.setCause true cStall false else s)

/-! ### SAFETY_RECOVER (R322) -/

/-- Recoveries accepted in the past 600 s. -/
def State.recentRecoveries (s : State) : List Nat := s.safety.recover.filter fun t => s.clk.tb3 < t + 600000000000

/-- A channel's confirmation: its own request NORMAL for 1 s, no cause held until the next start, port A up, fewer than 3
recoveries (R322). -/
def State.confirms (s : State) (okMs : Nat) (causes : BitVec 19) : Bool :=
  1000 ≤ okMs && causes &&& untilStart = 0 && s.portA.st = .up && s.recentRecoveries.length < 3

/-- The channel that refuses: the Rind, then the SP. (DEDUCED: assumption log 37.) -/
def State.refuser (s : State) : Option Nat :=
  if !s.confirms s.safety.rindOkMs s.safety.rindCauses then some 1
  else if !s.confirms s.safety.spOkMs s.safety.spCauses || !s.sp.running then some 0 else none

/-- The latch is cleared, or the recovery refused: the status of the reply, and event 0x080A (R322). An acceptance has no
refusing channel; what the event then says of one is a free value. (DESIGN CHOICE: assumption log 4, 34.) -/
def State.recoverNow (s : State) : State × Nat :=
  if !s.safety.offLatch then (s, 0)
  else match s.refuser with
    | some c =>
      let m := if c = 1 then s.safety.rindCauses else s.safety.spCauses
      (s.raise 0x080A [(1, 0), (1, c), (4, m.toNat)], 8)
    | none =>
      let t : State := { s with safety := { s.safety with
        offLatch := false, recover := s.recentRecoveries ++ [s.clk.tb3], recoveries := sat32 (s.safety.recoveries + 1) } }
      (t.drawn.raise 0x080A [(1, 1), (1, s.freeVal 13 % 256), (4, s.freeVal 13 / 256)], 0)

end Sys2Proof.Machine
end

