-- ==== Sys2Proof/Machine/Crypto.lean ====
section
/-!
DEFINITION. The cryptography the image and service rules name: SHA-256 and HMAC-SHA-256 (R47, R373; FIPS 180-4, FIPS
198-1), and ECDSA P-256 verification (R47; FIPS 186-4). The spec names these functions; their definitions are those of
the standards (assumption log 31).
-/
namespace Sys2Proof.Machine

/-! ### SHA-256 -/

/-- 32-bit rotation to the right. -/
def rotr32 (n x : Nat) : Nat := (x >>> n ||| x <<< (32 - n)) % 4294967296

/-- 32-bit sum. -/
def add32 (a b : Nat) : Nat := (a + b) % 4294967296

/-- The greatest `r` with `r ^ k ≤ n`, bit by bit from bit `b - 1` down. -/
def floorRoot (k n : Nat) : Nat → Nat → Nat
  | 0, r => r
  | b + 1, r => floorRoot k n b (if (r + 2 ^ b) ^ k ≤ n then r + 2 ^ b else r)

/-- The first 32 bits of the fractional part of the `k`-th root of `p` (FIPS 180-4, 4.2.2 and 5.3.3). -/
def rootBits (k p : Nat) : Nat := floorRoot k (p * 2 ^ (32 * k)) 40 0 % 4294967296

/-- The primes below 312, the first 64 of them. -/
def shaPrimes : List Nat := (List.range 312).filter fun n => 2 ≤ n && (List.range n).all fun d => d < 2 || n % d ≠ 0

/-- The round constants: from the cube roots of the first 64 primes. -/
def shaK : List Nat := shaPrimes.map (rootBits 3)

/-- The eight working variables. -/
structure ShaReg where
  a : Nat
  b : Nat
  c : Nat
  d : Nat
  e : Nat
  f : Nat
  g : Nat
  h : Nat

/-- The initial hash value: from the square roots of the first 8 primes. -/
def shaInit : ShaReg :=
  { a := rootBits 2 2, b := rootBits 2 3, c := rootBits 2 5, d := rootBits 2 7, e := rootBits 2 11, f := rootBits 2 13
    g := rootBits 2 17, h := rootBits 2 19 }

/-- One round with its message word and constant. -/
def shaRound (r : ShaReg) (wk : Nat) : ShaReg :=
  let s1 := rotr32 6 r.e ^^^ rotr32 11 r.e ^^^ rotr32 25 r.e
  let ch := (r.e &&& r.f) ^^^ ((r.e ^^^ 0xFFFFFFFF) &&& r.g)
  let t1 := r.h + s1 + ch + wk
  let s0 := rotr32 2 r.a ^^^ rotr32 13 r.a ^^^ rotr32 22 r.a
  let maj := (r.a &&& r.b) ^^^ (r.a &&& r.c) ^^^ (r.b &&& r.c)
  { a := add32 t1 (s0 + maj), b := r.a, c := r.b, d := r.c, e := add32 r.d t1, f := r.e, g := r.f, h := r.g }

/-- A big-endian value. -/
def beVal (bs : List Byte) : Nat := bs.foldl (fun v b => 256 * v + b.toNat) 0
/-- `n` big-endian bytes. -/
def beBytes (n v : Nat) : List Byte := (leBytes n v).reverse

/-- Rounds of one block: `w` holds the next 16 message words. -/
def shaRounds : List Nat → List Nat → ShaReg → ShaReg
  | k :: ks, w0 :: ws, r =>
    let w1 := ws.getD 0 0
    let w14 := ws.getD 13 0
    let s0 := rotr32 7 w1 ^^^ rotr32 18 w1 ^^^ w1 >>> 3
    let s1 := rotr32 17 w14 ^^^ rotr32 19 w14 ^^^ w14 >>> 10
    shaRounds ks (ws ++ [(w0 + s0 + ws.getD 8 0 + s1) % 4294967296]) (shaRound r (k + w0))
  | _, _, r => r

/-- One 64-byte block. -/
def shaBlock (r : ShaReg) (b : List Byte) : ShaReg :=
  let w := (List.range 16).map fun i => beVal ((b.drop (4 * i)).take 4)
  let n := shaRounds shaK w r
  { a := add32 r.a n.a, b := add32 r.b n.b, c := add32 r.c n.c, d := add32 r.d n.d
    e := add32 r.e n.e, f := add32 r.f n.f, g := add32 r.g n.g, h := add32 r.h n.h }

/-- `n` blocks. -/
def shaBlocks : Nat → ShaReg → List Byte → ShaReg
  | 0, r, _ => r
  | n + 1, r, m => shaBlocks n (shaBlock r (m.take 64)) (m.drop 64)

/-- SHA-256 of a byte string: 32 bytes. (PRESUMED: assumption log 31.) -/
def sha256 (m : List Byte) : List Byte :=
  let z := (119 - m.length % 64) % 64
  let p := m ++ [0x80] ++ List.replicate z 0 ++ beBytes 8 (8 * m.length)
  let r := shaBlocks (p.length / 64) shaInit p
  [r.a, r.b, r.c, r.d, r.e, r.f, r.g, r.h].flatMap (beBytes 4)

/-- HMAC-SHA-256 with a key of at most 64 bytes. (PRESUMED: assumption log 31.) -/
def hmacSha256 (key m : List Byte) : List Byte :=
  let k := key ++ List.replicate (64 - key.length) 0
  sha256 ((k.map fun b => b ^^^ 0x5C) ++ sha256 ((k.map fun b => b ^^^ 0x36) ++ m))

/-! ### ECDSA on P-256 -/

def p256P : Nat := 0xffffffff00000001000000000000000000000000ffffffffffffffffffffffff
def p256N : Nat := 0xffffffff00000000ffffffffffffffffbce6faada7179e84f3b9cac2fc632551
def p256B : Nat := 0x5ac635d8aa3a93e7b3ebbd55769886bc651d06b0cc53b0f63bce3c3e27d2604b
def p256G : Nat × Nat :=
  (0x6b17d1f2e12c4247f8bce6e563a440f277037d812deb33a0f4a13945d898c296,
   0x4fe342e2fe1a7f9b8ee7eb4a7c0f9e162bce33576b315ececbb6406837bf51f5)

/-- b^e modulo m over the low `n` bits of e, from the top one. -/
def powTop (m b e : Nat) : Nat → Nat → Nat
  | 0, r => r
  | n + 1, r => powTop m b e n (if bitOf e n then r * r % m * b % m else r * r % m)

/-- Inverse modulo a 256-bit prime. -/
def invMod (m b : Nat) : Nat := powTop m b (m - 2) 256 1

/-- The group operation; none is the neutral element. -/
def ecAdd : Option (Nat × Nat) → Option (Nat × Nat) → Option (Nat × Nat)
  | none, q => q
  | p, none => p
  | some (x1, y1), some (x2, y2) =>
    if x1 = x2 && (y1 + y2) % p256P = 0 then none
    else
      let l :=
        if x1 = x2 then (3 * x1 * x1 + p256P - 3) * invMod p256P (2 * y1 % p256P) % p256P
        else (y2 + p256P - y1) * invMod p256P ((x2 + p256P - x1) % p256P) % p256P
      let x3 := (l * l + 2 * p256P - x1 - x2) % p256P
      some (x3, (l * (x1 + p256P - x3) + p256P - y1) % p256P)

/-- k times a point, k below 2^n. -/
def ecMul (k : Nat) (p : Option (Nat × Nat)) : Nat → Option (Nat × Nat) → Option (Nat × Nat)
  | 0, r => r
  | n + 1, r =>
    let d := ecAdd r r
    ecMul k p n (if bitOf k n then ecAdd d p else d)

/-- The public key is a point of the curve. -/
def onCurve (x y : Nat) : Bool :=
  x < p256P && y < p256P && y * y % p256P = (x * x * x + (p256P - 3) * x + p256B) % p256P

/-- ECDSA P-256 verification of a digest: key X‖Y and signature r‖s, big-endian (R43, R47). (PRESUMED: assumption log 31.) -/
def ecdsaVerify (digest key sig : List Byte) : Bool :=
  let x := beVal (key.take 32)
  let y := beVal (key.drop 32)
  let r := beVal (sig.take 32)
  let v := beVal (sig.drop 32)
  onCurve x y && 0 < r && r < p256N && 0 < v && v < p256N &&
    (let w := invMod p256N v
     let u1 := beVal digest * w % p256N
     let u2 := r * w % p256N
     match ecAdd (ecMul u1 (some p256G) 256 none) (ecMul u2 (some (x, y)) 256 none) with
     | some q => q.1 % p256N = r
     | none => false)

end Sys2Proof.Machine
end

