-- ==== Sys2Proof/Machine/Image.lean ====
section
/-!
DEFINITION. Configuration images (02): the checks of Table 2.18 on a slot, and what a valid image holds.
-/
namespace Sys2Proof.Machine

/-! ### Bytes of a slot -/

/-- `n` bytes of a slot. -/
def Slot.bytes (x : Slot) (off n : Nat) : List Byte :=
  let bs := sparseSpan 0xFF off n x.cells
  if x.factory then bs.mapIdx fun i b => if x.gone.get false ((off + i) / 4096) then b else Config.factoryByte (off + i)
  else bs
/-- A little-endian field of a slot. -/
def Slot.field (x : Slot) (off n : Nat) : Nat := leVal (x.bytes off n)
/-- The slot holds the whole factory image and nothing else. (DESIGN CHOICE: assumption log 3.) -/
def Slot.intact (x : Slot) : Bool := x.factory && x.gone.isEmpty && x.cells.isEmpty

/-- An image slot. -/
def State.slot (s : State) : SlotId → Slot
  | .a => s.flash.slotA
  | .b => s.flash.slotB
/-- Number of a slot in events and status words. -/
def slotNum : SlotId → Nat
  | .a => 0
  | .b => 1
/-- First flash address of a slot. -/
def slotBase : SlotId → Nat
  | .a => 0
  | .b => 0xC00000
/-- The slot a byte operand names. -/
def slotOf (n : Nat) : Option SlotId := if n = 0 then some .a else if n = 1 then some .b else none

/-! ### Header stage -/

/-- The key hash reads as blank: zero, or a failed fuse row (R47, R69). (DESIGN CHOICE: assumption log 2.) -/
def State.keyBlank (s : State) : Bool := s.start.fuseBad || s.fuse.keyHash = 0

/-- Checks 0x01 to 0x06 of Table 2.18; 0 where they pass. -/
def State.headerReason (s : State) (x : Slot) : Nat :=
  if x.intact then
    if s.keyBlank then 5 else if s.fuse.rollback ≠ 0 then 6 else 0
  else if x.field 0 4 ≠ 0x494E4C44 then 1
  else if x.field 5 1 ≠ 3 || x.field 6 2 ≠ 256 then 2
  else if x.field 8 4 < 0x100 || 0xC00000 < x.field 8 4 then 3
  else if x.field 0x18 4 ≠ 0x2048 then 4
  else if s.keyBlank || beVal (sha256 (x.bytes 0x40 64)) ≠ s.fuse.keyHash.toNat then 5
  else if x.field 0x10 1 < s.fuse.rollback || 32 < x.field 0x10 1 then 6
  else 0

/-- IMAGE_SEQ of a slot that passed its header stage. -/
def Slot.seq (x : Slot) : Nat := if x.intact then 1 else x.field 0x0C 4

/-! ### Load stage -/

/-- A directory entry (Table 2.3). -/
structure DirEntry where
  id  : Nat
  ver : Nat
  opt : Bool
  off : Nat
  len : Nat
  crc : Nat

/-- The section directory (R44). -/
def Slot.dir (x : Slot) : List DirEntry :=
  (List.range (x.field 0x12 2)).map fun i =>
    let a := x.field 0x14 4 + 16 * i
    { id := x.field a 2, ver := x.field (a + 2) 1 / 16, opt := bitOf (x.field (a + 3) 1) 0, off := x.field (a + 4) 4
      len := x.field (a + 8) 4, crc := x.field (a + 12) 4 }

/-- The sections do not overlap and no SECTION_ID appears twice. -/
def dirDistinct : List DirEntry → Bool
  | [] => true
  | e :: l => (l.all fun d => d.id ≠ e.id && !(0 < e.len && 0 < d.len && e.off < d.off + d.len && d.off < e.off + e.len)) && dirDistinct l

/-- The placement rules of R44. -/
def Slot.placed (x : Slot) : Bool :=
  let n := x.field 8 4
  let count := x.field 0x12 2
  let d0 := x.field 0x14 4
  let d1 := d0 + 16 * count
  let ds := x.dir
  1 ≤ count && count ≤ 32 && d0 % 16 = 0 && 0x100 ≤ d0 && d1 ≤ n
    && (ds.all fun e => e.off % 16 = 0 && d1 ≤ e.off && e.off + e.len ≤ n)
    && dirDistinct ds
    && ((x.bytes 0x100 (n - 0x100)).mapIdx fun i b => (0x100 + i, b)).all fun p =>
      p.2 = 0 || (d0 ≤ p.1 && p.1 < d1) || (ds.any fun e => e.off ≤ p.1 && p.1 < e.off + e.len)

/-- The entry is a section the engine knows (R46). -/
def DirEntry.known (e : DirEntry) : Bool := 1 ≤ e.id && e.id ≤ 13 && e.ver = 1

/-- The known section with an ID. -/
def Slot.section (x : Slot) (id : Nat) : Option DirEntry := x.dir.find? fun e => e.id = id && e.known

/-- Mandatory sections (Table 2.4). -/
def mandatory : List Nat := [1, 2, 3, 4, 5, 6, 8, 10]

/-- Least length of a known section (Table 2.4). -/
def Slot.sectionLen (x : Slot) (e : DirEntry) : Nat :=
  match e.id with
  | 1 => 0x344
  | 3 => 0x10 + 0x20 * x.field e.off 1
  | 4 => 0x4B0
  | 5 => 0x20010
  | 6 => 0x100000
  | 7 => 0x10 + 0x100000 * (x.field e.off 1 % 8)
  | 8 => 0x40
  | 10 => 0x10 + x.field (e.off + 4) 4
  | _ => 0x10

/-- A known section is at least as long as Table 2.4 says. A section too short to hold the field its length is counted
from is too short (R46). -/
def Slot.longEnough (x : Slot) (e : DirEntry) : Bool := !e.known || (0x10 ≤ e.len && x.sectionLen e ≤ e.len)

/-- SHA-256 over the image with its SIGNATURE as zeros (R47). -/
def Slot.digest (x : Slot) : List Byte :=
  sha256 (x.bytes 0 0xC0 ++ List.replicate 64 0 ++ x.bytes 0x100 (x.field 8 4 - 0x100))

/-- Checks 0x07 to 0x0D of Table 2.18, but for 0x0C, the flash read itself (R67). -/
def Slot.loadReason (x : Slot) : Nat :=
  if x.intact then 0
  else if !x.placed then 7
  else if x.dir.any fun e => !e.known && !e.opt then 8
  else if mandatory.any fun i => (x.section i).isNone then 9
  else if !x.dir.all x.longEnough then 0x0A
  else if x.dir.any fun e => crc32c (x.bytes e.off e.len) ≠ e.crc then 0x0B
  else if !ecdsaVerify x.digest (x.bytes 0x40 64) (x.bytes 0xC0 64) then 0x0D
  else 0

/-! ### Contents -/

/-- First byte of a section that is present, 0 otherwise. -/
def Slot.at (x : Slot) (id : Nat) : Nat := match x.section id with
  | some e => e.off
  | none => 0

/-- The firmware section passes its CRC (R365); that of the factory image does. -/
def Slot.fwIntact (x : Slot) : Bool :=
  x.intact || match x.section 10 with
    | some e => crc32c (x.bytes e.off e.len) = e.crc
    | none => false

/-- SAFETY (Table 2.5). -/
def parseSafety (b : List Byte) : SafetyP :=
  let row (off k : Nat) : Nat := fieldAt b (off + 2 * k) 2 % 512
  let rows (off : Nat) : List Nat := (List.range 32).map (row off)
  { rateLimit := fieldAt b 0 2, degMargin := fieldAt b 2 1, degCap := fieldAt b 3 1, degTime := fieldAt b 4 1
    kerbSide := bitOf (fieldAt b 5 1) 7, kerbBand := fieldAt b 5 1 % 32, holdMax := fieldAt b 6 2
    aboveCut := fieldAt b 8 2 % 4096, fbCode := fieldAt b 10 2 % 4096, fbAbove := fieldAt b 12 2 % 4096
    fbCurrent := fieldAt b 14 1, cutMin := rows 0x20, cutMax := rows 0x60, cutDef := rows 0xA0, fbRow := rows 0xE0
    zones := (List.range (min 32 (fieldAt b 0x120 1))).map fun z => parseZone ((b.drop (0x140 + 16 * z)).take 16) }

/-- LINK (Table 2.6). -/
def parseLink (b : List Byte) : LinkP :=
  let f := fieldAt b 3 1
  { gen := BitVec.ofNat 3 (fieldAt b 0 1), width := BitVec.ofNat 4 (fieldAt b 1 1), rev := BitVec.ofNat 3 (fieldAt b 2 1)
    portB := bitOf f 7, idle := bitOf f 6, addrMode := f / 8 % 4, fixedAddr := BitVec.ofNat 3 f, holdMs := fieldAt b 4 2 }

/-- One timing mode (Table 2.7). -/
def parseMode (b : List Byte) : ModeP :=
  { rate := fieldAt b 0 2, stepNs := fieldAt b 2 2, guardUs := fieldAt b 4 2, idleFrames := fieldAt b 6 1
    pwmDiv := (List.range 5).map fun h => fieldAt b (8 + h) 1, keep := (List.range 5).map fun h => fieldAt b (0x10 + h) 1 }

/-- One layer envelope (Table 2.8). -/
def parseEnv (b : List Byte) : EnvP :=
  let f := fieldAt b 5 1
  { maxW := fieldAt b 0 2, maxH := fieldAt b 2 2, formats := BitVec.ofNat 5 (fieldAt b 4 1), pair := bitOf f 2
    safety := bitOf f 1, enabled := bitOf f 0, staleN := fieldAt b 6 1, base := fieldAt b 8 4, size := fieldAt b 12 4
    wr := fieldAt b 0x10 2 % 4096, wg := fieldAt b 0x12 2 % 4096, wb := fieldAt b 0x14 2 % 4096 }

/-- THERMAL (Table 2.12). -/
def parseThermal (b : List Byte) : ThermalP :=
  let t (off : Nat) : Int := signedOf 16 (fieldAt b off 2)
  { kneeJ := t 0, slopeJ := fieldAt b 2 2, kneeS := t 4, slopeS := fieldAt b 6 2, floorPct := fieldAt b 8 1
    devC := fieldAt b 9 1, suspectMs := fieldAt b 10 2, shutC := t 12, retryC := t 14, latchN := fieldAt b 0x10 1
    windowS := fieldAt b 0x12 2, edges := (List.range 4).map fun j => t (0x14 + 2 * j), hyst := fieldAt b 0x1C 1
    slew := (List.range 5).map fun h => fieldAt b (0x20 + h) 1
    openMv := (List.range 5).map fun h => fieldAt b (0x28 + 2 * h) 2
    shortMv := (List.range 5).map fun h => fieldAt b (0x32 + 2 * h) 2 }

/-- AFFINAGE (Table 2.13). -/
def parseAff (b : List Byte) : AffP :=
  { eaMev := fieldAt b 0 2, tRef := signedOf 16 (fieldAt b 2 2), iExp := fieldAt b 4 2, refCode := fieldAt b 6 1
    saveMin := fieldAt b 7 1, l70 := fieldAt b 8 4, headroomPct := fieldAt b 12 1 }

/-- SERVICE (Table 2.17). -/
def parseService (b : List Byte) : ServiceP :=
  { writeEn := bitOf (fieldAt b 0 1) 1, unlockEn := bitOf (fieldAt b 0 1) 0, maxAttempts := fieldAt b 1 1, lockoutS := fieldAt b 2 2 }

/-- What the engine holds of a slot's image (R45, R49-R63). -/
def Slot.params (x : Slot) : Params :=
  if x.intact then {}
  else
    let bs (id n : Nat) : List Byte := x.bytes (x.at id) n
    let has (id : Nat) : Bool := (x.section id).isSome
    let tb := x.at 3
    let lb := x.at 4
    let out := bs 5 16
    let pr := bs 7 16
    let fw := bs 10 16
    let lg := bs 11 16
    { seq := BitVec.ofNat 32 (x.field 0x0C 4), secVer := x.field 0x10 1, advance := bitOf (x.field 0x11 1) 0
      safety := parseSafety (bs 1 0x344), link := parseLink (bs 2 16)
      modes := (List.range (x.field tb 1)).map fun m => parseMode (x.bytes (tb + 0x10 + 0x20 * m) 0x20)
      defaultMode := x.field (tb + 1) 1 % 8
      envs := (List.range 12).map fun n => parseEnv (x.bytes (lb + 0x20 * n) 0x20)
      regions := (List.range 6).map fun r => (x.field (lb + 0x180 + 8 * r) 4, x.field (lb + 0x184 + 8 * r) 4)
      descs := (List.range 12).map fun n => parseDesc (x.bytes (lb + 0x1B0 + 0x40 * n) 0x40)
      mirrorX := bitOf (fieldAt out 0 1) 0, mirrorY := bitOf (fieldAt out 0 1) 1, masterDefault := fieldAt out 2 2
      profileCount := if has 7 then fieldAt pr 0 1 % 8 else 0
      defaultProfile := if has 7 then fieldAt pr 1 1 else 255
      thermal := parseThermal (bs 8 0x40)
      aff := if has 9 then parseAff (bs 9 16) else {}
      fwEntry := fieldAt fw 0 4, fwSize := fieldAt fw 4 4, fwVersion := BitVec.ofNat 32 (fieldAt fw 8 4)
      policy := if has 11 then fieldAt lg 0 1 % 4 else 1
      failThreshold := if has 11 then fieldAt lg 1 1 else 2
      neighbour := if has 11 then bitOf (fieldAt lg 2 1) 0 else true
      perturbEn := has 12 && bitOf (x.field (x.at 12) 1) 0
      service := if has 13 then parseService (bs 13 16) else {} }

/-- 16-bit words with a 12-bit value. -/
def words12 : List Byte → List Nat
  | a :: b :: l => leVal [a, b] % 4096 :: words12 l
  | _ => []

/-- The LUT of a slot's image (Table 2.10). -/
def Slot.lutList (x : Slot) : List Nat :=
  if x.intact then (List.range 65536).map (lutBase false) else words12 (x.bytes (x.at 5 + 0x10) 0x20000)

/-- No value lies below the one before it. -/
def rising : List Nat → Bool
  | a :: b :: l => a ≤ b && rising (b :: l)
  | _ => true

/-! ### Value stage -/

/-- A value lies in a range. -/
def inR (lo hi v : Nat) : Bool := lo ≤ v && v ≤ hi
/-- A signed value lies in a range. -/
def inRI (lo hi v : Int) : Bool := lo ≤ v && v ≤ hi

/-- Field ranges of one timing mode (Table 2.7). -/
def modeRanges (m : ModeP) : Bool :=
  inR 30 240 m.rate && inR 4000 16000 m.stepNs && inR 20 1000 m.guardUs && m.pwmDiv.all (inR 1 32) && m.keep.all (inR 1 255)

/-- Field ranges of one envelope (Table 2.8). -/
def envRanges (n : Nat) (e : EnvP) : Bool :=
  inR 1 512 e.maxH && e.formats ≠ 0 && 1 ≤ e.staleN && e.base % 32 = 0 && (!e.pair || n = 0 || n = 2)

/-- Least SIZE of a region (Table 2.9). -/
def regionMin (r : Nat) : Nat := [0x300000, 0x100000, 0x20000, 0x40000, 0, 0].getD r 0

/-- Check 0x0E: conditions on one field alone (R64). -/
def rangesOk (p : Params) (zoneCount modeCount : Nat) : Bool :=
  let f := p.safety
  let t := p.thermal
  inR 0x40 0x1000 f.rateLimit && f.degMargin ≤ 128 && inR 10 100 f.degCap && inR 1 120 f.degTime && f.holdMax ≤ 500
    && zoneCount ≤ 32
    && p.link.gen ≠ 0 && p.link.width.getLsbD 0 && p.link.rev ≠ 0 && p.link.addrMode ≠ 3
    && inR 1 8 modeCount && p.modes.all modeRanges && (p.envs.mapIdx envRanges).all id
    && ((p.regions.mapIdx fun r e => e.1 % 0x10000 = 0 && e.2 % 0x10000 = 0 && regionMin r ≤ e.2).all id)
    && p.masterDefault ≤ 0x8000 && p.profileCount ≤ 4
    && inRI 1280 2400 t.kneeJ && inRI 960 2000 t.kneeS && t.floorPct ≤ 100 && inR 2 32 t.devC && inR 100 10000 t.suspectMs
    && inRI 1920 2560 t.shutC && inR 1 10 t.latchN && inR 60 3600 t.windowS && inR 16 128 t.hyst
    && t.slew.all (inR 1 255) && t.openMv.all (inR 50 1000) && t.shortMv.all (inR 500 2500)
    && inR 100 1500 p.aff.eaMev && inR 1 60 p.aff.saveMin && 1000 ≤ p.aff.l70 && p.aff.headroomPct ≤ 50
    && p.fwEntry % 4 = 0 && p.fwSize % 4 = 0 && inR 4 0xC0000 p.fwSize
    && p.policy ≠ 3 && inR 1 16 p.failThreshold
    && inR 1 16 p.service.maxAttempts && inR 10 3600 p.service.lockoutS

/-- The conditions of R50 on one band. -/
def bandOk (f : SafetyP) (b : Nat) : Bool :=
  let lo := f.cutMin.getD b 0
  let d := f.cutDef.getD b 0
  let hi := f.cutMax.getD b 0
  lo ≤ d && d ≤ hi && hi ≤ 511 && lo ≤ f.fbRow.getD b 0 && (!offKerb f b || lo = d)

/-- Longest interval between keep-alive scans of a heat band, in ns (R53). -/
def scrubMax (h : Nat) : Nat := [1000000000, 1000000000, 250000000, 64000000, 16000000].getD h 0

/-- The conditions of R53 on one mode, with P = 10^9 / rate. -/
def modeOk (m : ModeP) : Bool :=
  (m.pwmDiv.all fun d => 250000 * d * m.rate ≤ 1000000000 && 1000000000 ≤ 2000000 * d * m.rate)
    && (128 * m.stepNs + 20000 + 1000 * m.guardUs) * m.rate ≤ 1000000000
    && (m.keep.mapIdx fun h k => decide (k * 1000000000 ≤ scrubMax h * m.rate)).all id

/-- Intervals given by base and size do not overlap. -/
def apart : List (Nat × Nat) → Bool
  | [] => true
  | e :: l => (l.all fun d => !(0 < e.2 && 0 < d.2 && e.1 < d.1 + d.2 && d.1 < e.1 + e.2)) && apart l

/-- Bytes per pixel of the widest allowed format. -/
def widest (e : EnvP) : Nat := (((List.range 5).filter fun f => e.formats.getLsbD f).map pixelBytes).foldl max 0

/-- The conditions of R55 on one layer. -/
def layerOk (p : Params) (n : Nat) : Bool :=
  let e := p.envs.getD n {}
  let pair (i : Nat) : Bool := (p.envs.getD i {}).pair
  let wide := if n < 4 then (if (n = 0 || n = 2) && e.pair then 2048 else 1024) else 2048
  let d := p.descs.getD n {}
  let pool := p.regions.getD 5 (0, 0)
  e.maxW ≤ wide && e.maxW * e.maxH * widest e ≤ e.size && e.wr + e.wg + e.wb ≤ 4096 && !((n = 1 || n = 3) && pair (n - 1) && e.enabled)
    && (!e.enabled ||
      (pool.1 ≤ e.base && e.base + e.size ≤ pool.1 + pool.2
        && descOk (n < 4) d
        && (!d.visible || (e.formats.getLsbD d.format && d.srcW.toNat ≤ e.maxW && d.srcH.toNat ≤ e.maxH
          && (descSpan d).2 ≤ e.size && (4 ≤ n || d.srcW.toNat ≤ wide)))))

/-- Check 0x0F but for SAFETY_CRC, the zero zones and the LUT (R50, R53, R55, R62, R64, R377). -/
def crossOk (p : Params) : Bool :=
  let f := p.safety
  let t := p.thermal
  let edge (j : Nat) : Int := t.edges.getD j 0
  f.fbAbove ≤ f.aboveCut && p.link.holdMs ≤ f.holdMax && p.defaultMode < p.modes.length
    && (p.defaultProfile = 255 || p.defaultProfile < p.profileCount)
    && t.retryC ≤ t.shutC - 160 && p.fwEntry < p.fwSize
    && edge 0 + 160 ≤ edge 1 && edge 1 + 160 ≤ edge 2 && edge 2 + 160 ≤ edge 3
    && bands.all (bandOk f) && distinctIds f.zones && (f.zones.all fun z => z.x0 ≤ z.x1 && z.y0 ≤ z.y1)
    && p.modes.all modeOk
    && (p.regions.all fun e => e.1 + e.2 ≤ 0x1000000) && ((p.regions.take 4).all fun e => e.1 + e.2 ≤ 0x800000)
    && apart p.regions && 0x100000 * p.profileCount ≤ (p.regions.getD 4 (0, 0)).2
    && (List.range 12).all (layerOk p) && apart ((p.envs.filter fun e => e.enabled).map fun e => (e.base, e.size))
    && (p.policy ≠ 2 || p.link.gen.getLsbD 0)
    && ((p.policy ≠ 0 && p.policy ≠ 2) || 0x40000 ≤ (p.regions.getD 5 (0, 0)).2)

/-- The value stage; 0 where it passes (Table 2.18). -/
def Slot.valueReason (x : Slot) : Nat :=
  if x.intact then 0
  else
    let p := x.params
    let b := x.bytes (x.at 1) 0x344
    let count := fieldAt b 0x120 1
    if !rangesOk p count (x.field (x.at 3) 1) then 0x0E
    else if !crossOk p || !((b.drop (0x140 + 16 * count)).take (0x200 - 16 * count)).all (fun v => v = 0)
      || crc32c (b.take 0x340) ≠ fieldAt b 0x340 4
      || !rising x.lutList then 0x0F
    else 0

/-- The reason of the load and value stages, 0 where both pass (R65). (PRESUMED: assumption log 31.) -/
def Slot.bodyReason (x : Slot) : Nat := if x.loadReason ≠ 0 then x.loadReason else x.valueReason

/-- The whole check of a slot (R65). -/
def State.slotReason (s : State) (x : Slot) : Nat := if s.headerReason x ≠ 0 then s.headerReason x else x.bodyReason

/-- The order of R66. -/
def State.slotOrder (s : State) : List SlotId :=
  let a := s.headerReason s.flash.slotA = 0
  let b := s.headerReason s.flash.slotB = 0
  if a && b then (if s.flash.slotA.seq < s.flash.slotB.seq then [.b, .a] else [.a, .b])
  else if a then [.a] else if b then [.b] else []

/-- The slot that a start now would load (R66). -/
def State.firstChoice (s : State) : Option SlotId := s.slotOrder.find? fun i => (s.slot i).bodyReason = 0

end Sys2Proof.Machine
end

