-- ==== Sys2Proof/Machine/Lanes.lean ====
section
/-!
DEFINITION. The lane layer's commands (03): receiver detection, squelch, training, repair, idle, loopbacks.
-/
namespace Sys2Proof.Machine

/-- Fields of a training block (Table 3.2). -/
def trPhase (w : BitVec 64) : Nat := bitsOf w.toNat 28 4
def trLane (w : BitVec 64) : Nat := bitsOf w.toNat 24 4
def trRole (w : BitVec 64) : Bool := bitOf w.toNat 23
def trAttempt (w : BitVec 64) : BitVec 8 := BitVec.ofNat 8 (bitsOf w.toNat 48 8)
def trUse (w : BitVec 64) : BitVec 4 := BitVec.ofNat 4 (bitsOf w.toNat 44 4)
def trWork (w : BitVec 64) : BitVec 4 := BitVec.ofNat 4 (bitsOf w.toNat 40 4)
/-- LPBK; 5 to 15 are handled as 0. -/
def trLpbk (w : BitVec 64) : Nat := let l := bitsOf w.toNat 36 4; if l ≤ 4 then l else 0

/-- The block is a training block of that phase that is not ignored: TYPE, CRC8, GEN and LANE_ID (R87, Table 3.2). -/
def trOk (w : BitVec 64) (phase : Nat) : Bool :=
  bitsOf w.toNat 0 8 = 0xE1 && bitsOf w.toNat 56 8 = crc8 (leBytes 7 w.toNat) && bitsOf w.toNat 34 2 ≠ 0
    && decide (trLane w ≤ 3) && trPhase w = phase

/-- SWEEP is entered at the first usable generation; port B sweeps at port A's and begins a host's attempt: TS_A, with
ATTEMPT incremented (Table 3.3, R87, R92, R113). -/
def State.toSweep (s : State) (p : PortId) : State :=
  match p with
  | .a => { s with portA := { s.portA with st := .sweep, sweepGen := s.usableFrom 3, sweepRound := 0 } }
  | .b => { s with portB := { s.portB with
      st := .sweep, sweepGen := s.portA.gen, sweepRound := 0, txBlock := 1, attempt := s.portB.attempt + 1 } }

/-- The lanes a port may drive: each only after its own detection has returned PRESENT (R83, R84). -/
def State.enabledLanes (s : State) : PortId → List Nat
  | .a => if s.portA.backDet = .present then [0] else []
  | .b => laneList.filter fun i => s.portB.txDet.get .absent i = .present

/-- The training block of a phase that a port sends on a lane: device role with its masks on port A, which echoes ATTEMPT;
host role on port B, whose masks are 0 (Table 3.2). -/
def State.trainOut (s : State) (p : PortId) (phase lane : Nat) : BitVec 64 :=
  match p with
  | .a => trainBlock false lane phase s.portA.gen 0 s.portA.workMask s.portA.useMask s.portA.attempt
  | .b => trainBlock true lane phase s.portB.gen 0 0 0 s.portB.attempt

/-- A training, wake or idle-entry block of each phase in turn on every enabled lane: blocks at G2 and G3, native training
sets at G1 (R86, R87). -/
def State.trainLine (s : State) (p : PortId) (phases : List Nat) : Line :=
  let ws := phases.flatMap fun k => (s.enabledLanes p).map fun i => (i, s.trainOut p k i)
  if (s.port p).gen = 1 then { (s.port p).line with blocks := [], chars := ws.flatMap fun x => trainSet x.2 }
  else (s.port p).line.putTrain ws

/-- What stands on a port's transmit lanes: nothing on a lane that is not enabled; while training the block of the phase;
after it the latest transmission; the wake burst of R108; HS characters (14 R378). -/
def State.lineOut (s : State) (p : PortId) : Line :=
  let q := s.port p
  if (s.enabledLanes p).isEmpty then { q.line with blocks := [], chars := [] }
  else if q.txBlock = 1 then s.trainLine p [0]
  else if q.txBlock = 2 then s.trainLine p [1]
  else if q.txBlock = 3 then s.trainLine p [2]
  else if q.txBlock = 4 then s.trainLine p [3]
  else if q.txBlock = 5 then q.line
  else if q.txBlock = 6 then s.trainLine p (List.replicate 127 4 ++ [5])
  else if q.txBlock = 7 then { q.line with blocks := [], chars := t512Hs }
  else { q.line with blocks := [], chars := [] }

/-- A training phase is sent once, as an answer or an entry into idle. -/
def State.sendPhase (s : State) (p : PortId) (phases : List Nat) : State :=
  s.modPort p fun q => { q with line := s.trainLine p phases }

/-- RECEIVER_DETECTION_DONE (R83, R84, Table 3.3). -/
def execReceiverDetectionDone (p : PortId) (lane : Fin 4) (r : Detect) (s : State) : Host.Outcome State Fault Refusal :=
  match p with
  | .a =>
    let old := s.portA.backDet
    let t := { s with portA := { s.portA with backDet := r } }
    if s.portA.st = .detect then
      .next (if r = .present || laneList.any (fun i => (s.portA.lanes.get {} i).squelch) then t.toSweep .a
             else { t with portA := t.portA.toBackoff })
    else if s.portA.st = .backoff && old = .absent && r = .present then
      .next { t with portA := { t.portA.toDetect with backoff := 0 } }
    else .next t
  | .b =>
    let q := s.portB
    let t : State := { s with portB := { q with
      txDet := q.txDet.set .absent lane r, txDone := setBit q.txDone lane true
      shortedMask := if r = .shorted then setBit q.shortedMask lane true else q.shortedMask
      shortedReported := q.shortedReported || decide (r = .shorted) } }
    let u := t.cond (r = .shorted && !q.shortedReported) fun v => v.raise 0x0108 [(1, t.portB.shortedMask.toNat)]
    if q.st = .detect then
      .next (if r = .present then u.toSweep .b
        else if u.portB.txDone = 0xF && !(laneList.any fun i => u.portB.txDet.get .absent i = .present) then
          { u with portB := u.portB.toBackoff }
        else u)
    else .next u

/-- SQUELCH_OPEN: out of DETECT into SWEEP, out of BACKOFF into DETECT with the interval reset (Table 3.3, R98). -/
def execSquelchOpen (p : PortId) (lane : Fin 4) (s : State) : Host.Outcome State Fault Refusal :=
  let wasOpen := ((s.port p).lanes.get {} lane).squelch
  let t := s.modPort p fun q => q.modLane lane fun l => { l with squelch := true }
  if (s.port p).st = .detect then .next (t.toSweep p)
  else if (s.port p).st = .backoff && !wasOpen then .next (t.modPort p fun q => { q.toDetect with backoff := 0 })
  else .next t

/-- SQUELCH_CLOSE (R85): on a lane in use without idle entry it is a lane fault, and link down when every lane's
squelch has closed (R99, R102). -/
def execSquelchClose (p : PortId) (lane : Fin 4) (s : State) : Host.Outcome State Fault Refusal :=
  match p with
  | .a => .next (s.laneLost lane true)
  | .b =>
    let t : State := { s with portB := s.portB.modLane lane fun l => { l.lost with squelch := false } }
    .next (if s.portB.st = .up || s.portB.st = .repair then t.portBDown 1 else t)

/-- SWEEP_DWELL_END: the next usable generation, or BACKOFF after 4 complete rounds (Table 3.3). -/
def execSweepDwellEnd (s : State) : Host.Outcome State Fault Refusal :=
  if s.portA.st = .sweep then
    let g := s.usableFrom (s.portA.sweepGen - 1)
    if g ≠ 0 then .next { s with portA := { s.portA with sweepGen := g } }
    else if 3 ≤ s.portA.sweepRound then .next { s with portA := s.portA.toBackoff }
    else .next { s with portA := { s.portA with sweepGen := s.usableFrom 3, sweepRound := s.portA.sweepRound + 1 } }
  else .next s

/-- BIT_LOCK (R93): from SWEEP to ALIGN at the generation of the dwell; at G1 only lane 0 is used (R82).
(DESIGN CHOICE: assumption log 8.) -/
def execBitLock (p : PortId) (lane : Fin 4) (s : State) : Host.Outcome State Fault Refusal :=
  let q := s.port p
  if !(q.lanes.get {} lane).squelch then .next s
  else
    let g := if q.st = .sweep then q.sweepGen else q.gen
    if g = 1 && lane ≠ 0 then .next s
    else
      let t := s.modPort p fun q => q.modLane lane fun l => { l with bitLock := true }
      if q.st = .sweep then .next (t.modPort p fun q => { q with st := .align, gen := q.sweepGen }) else .next t

/-- A framing that is not usable is not answered; after a latch the mismatch is reported (R78, R90). -/
def State.framingMismatch (s : State) (t512 : Bool) : State :=
  if s.start.pers = .unlatched || s.start.mismatch then s
  else { s with start := { s.start with mismatch := true } }.raise 0x0105 [(1, b2n t512)]

/-- COMMA_ALIGNED (R94, R90): lane 0 at G1, with the framing its second character shows. -/
def execCommaAligned (p : PortId) (lane : Fin 4) (t512 : Bool) (s : State) : Host.Outcome State Fault Refusal :=
  let q := s.port p
  if q.gen = 1 && lane = 0 && (q.lanes.get {} 0).bitLock then
    let t := s.modPort p fun q => q.modLane 0 fun l => { l with comma := true }
    if q.st ≠ .align then .next t
    else match p with
      | .b => .next (if t512 then t else t.modPort .b fun q => { q with st := .deskew, framing := 1, txBlock := 1 })
      | .a =>
        if t512 then
          if s.t512Usable then
            .next { t with portA := { (t.portA.modLane 0 fun l => { l with laneId := 0 }) with
                             st := .exchange, framing := 2, txBlock := 7, workMask := 1, useMask := 1 }
                           leg := { t.leg with hsRx := 0 } }
          else .next (t.framingMismatch true)
        else if s.nativeUsable then
          .next { t with portA := { t.portA with st := .deskew, framing := 1, txBlock := 1 } }
        else .next (t.framingMismatch false)
  else .next s

/-- BLOCK_LOCK (R95): the port sends TS_A from the first aligned lane onwards, and goes from ALIGN to DESKEW 100 us later,
or once every receive lane is locked (Table 3.3). (DESIGN CHOICE: assumption log 41.) -/
def execBlockLock (p : PortId) (lane : Fin 4) (s : State) : Host.Outcome State Fault Refusal :=
  let q := s.port p
  if 2 ≤ q.gen && (q.lanes.get {} lane).bitLock then
    let t := s.modPort p fun q => q.modLane lane fun l => { l with block := true }
    if q.st = .align && (p = .b || s.nativeUsable) then
      .next ((t.modPort p fun q => { q with txBlock := 1, alignAt := q.alignAt.or (some s.now1) }).toDeskew p)
    else .next t
  else .next s

/-- LANE_FAULT (R102, R103, R105). -/
def execLaneFault (p : PortId) (lane : Fin 4) (s : State) : Host.Outcome State Fault Refusal :=
  match p with
  | .a => .next (s.laneLost lane false)
  | .b =>
    let t : State := { s with portB := s.portB.modLane lane Lane.lost }
    .next (if s.portB.st = .up || s.portB.st = .repair then t.portBDown 0 else t)

/-- A state from SWEEP to EXCHANGE (R89). -/
def LState.training (st : LState) : Bool := st = .sweep || st = .align || st = .deskew || st = .exchange

/-- TRAINING_TIMEOUT: the attempt ends in BACKOFF (R89). (DESIGN CHOICE: assumption log 9.) -/
def execTrainingTimeout (p : PortId) (s : State) : Host.Outcome State Fault Refusal :=
  .next (if (s.port p).st.training then s.modPort p Port.toBackoff else s)

/-- BACKOFF_ELAPSED: to DETECT, the next interval longer (R98). (DESIGN CHOICE: assumption log 9.) -/
def execBackoffElapsed (p : PortId) (s : State) : Host.Outcome State Fault Refusal :=
  .next (if (s.port p).st = .backoff then
      s.modPort p fun q => { q.toDetect with backoff := min 7 (q.backoff + 1) }
    else s)

/-- Loopback kinds in event 0x010A: the rows of Table 3.6 from 0 (assumption log 20). -/
def State.loopEvent (s : State) (kind : Nat) (started : Bool) : State := s.raise 0x010A [(1, kind - 1), (1, b2n started)]

/-- Port A leaves packet service for a loopback: the hold of R101 runs from now; a near-end loopback holds the back lane in
electrical idle, the far-end one retransmits on it (R110, Table 3.6). (DESIGN CHOICE: assumption log 20.) -/
def State.startLoopback (s : State) (kind lane : Nat) : State :=
  let t := s.linkLost
  { t with portA := { t.portA with
      st := .loopback, loopback := kind, loopLane := lane, txBlock := if kind = 3 then 8 else 0 } }.loopEvent kind true

/-- A block as the lane's receiver delivers it: complemented on a lane it inverts (R95). (DESIGN CHOICE: assumption log 41.) -/
def Port.recv (q : Port) (lane : Nat) (w : BitVec 64) : BitVec 64 := if (q.lanes.get {} lane).inverted then ~~~w else w

/-- While training at G2 or G3, a block whose complement is a training block makes the receiver invert the lane, until the
next attempt (R95). (DESIGN CHOICE: assumption log 41.) -/
def Port.findInverted (q : Port) (lane : Nat) (w : BitVec 64) (phase : Nat) : Port :=
  if q.st.training && 2 ≤ q.gen && trOk (~~~(q.recv lane w)) phase then q.modLane lane fun l => { l with inverted := !l.inverted }
  else q

/-- Every lane of a list of blocks that arrives complemented is inverted (R95). -/
def Port.findAll (q : Port) (phase : Nat) (blocks : List (Nat × BitVec 64)) : Port :=
  blocks.foldl (fun r b => r.findInverted b.1 b.2 phase) q

/-- A port B partner that sends ROLE 1 is ignored: port B returns to electrical idle until the next back-off interval, the
conflict reported once per start (R88, R139). -/
def State.conflictB (s : State) : State := (s.modPort .b Port.toBackoff).roleConflict .b

/-- TS_A (R88, R92, R95, R99, R111). -/
def execTsA (p : PortId) (lane : Fin 4) (w0 : BitVec 64) (s0 : State) : Host.Outcome State Fault Refusal :=
  let s := s0.toDeskew p
  let w := (s.port p).recv lane w0
  if !trOk w 0 then .next (s.modPort p fun q => q.findInverted lane w0 0)
  else match p with
    | .b =>
      if s.portB.st = .deskew || s.portB.st = .align then
        if trRole w then .next s.conflictB
        else .next { s with portB := { s.portB.modLane lane (fun l => { l with laneId := trLane w }) with
                                       st := .deskew, txBlock := 2 } }
      else .next s
    | .a =>
      if s.portA.st = .off || s.portA.st = .loopback then .next s
      else if !trRole w then .next (s.roleConflict .a)
      else if s.portA.linked then .next (s.linkDown 3)
      else
        let lp := trLpbk w
        let old := s.portA.lanes.get {} lane
        let t : State := { s with portA := { s.portA.modLane lane (fun l => { l with laneId := trLane w, lpbk := lp }) with
                                             attempt := trAttempt w } }
        if (s.portA.st = .align || s.portA.st = .deskew) && lp ≠ 0 && old.lpbk = lp && trLane w + 1 = lp && old.bitLock then
          .next (t.startLoopback 3 lane)
        else .next t

/-- FAR_END_LOOPBACK_END: back to DETECT (R111). -/
def execFarEndLoopbackEnd (s : State) : Host.Outcome State Fault Refusal :=
  .next (if s.portA.st = .loopback && s.portA.loopback = 3 then
      { s with portA := s.portA.toDetect }.loopEvent 3 false
    else s)

/-- TS_B blocks with their skew in UI from the earliest lane's: deskew, WORK_MASK and USE_MASK (R96, R97); in a repair
the masks are those of the surviving lanes (R104). On port B the downstream module's masks are taken (R113). -/
def execTsB (p : PortId) (blocks : List (Fin 4 × Nat × BitVec 64)) (s0 : State) : Host.Outcome State Fault Refusal :=
  let s := s0.toDeskew p
  let good := (blocks.map fun b => (b.1, b.2.1, (s.port p).recv b.1 b.2.2)).filter fun b => trOk b.2.2 1
  let t := s.modPort p fun q => q.findAll 1 (blocks.map fun b => (b.1.val, b.2.2))
  match p with
  | .b =>
    match good with
    | [] => .next t
    | b :: _ =>
      if s.portB.st ≠ .deskew then .next t
      else if trRole b.2.2 then .next t.conflictB
      else .next { t with portB := { t.portB with workMask := trWork b.2.2, useMask := trUse b.2.2, txBlock := 3 } }
  | .a =>
    let host := good.filter fun b => trRole b.2.2
    if good.isEmpty then .next t
    else if host.isEmpty then .next (t.roleConflict .a)
    else if s.portA.st = .deskew || s.portA.st = .repair then
      let mark (q : Port) (b : Fin 4 × Nat × BitVec 64) : Port :=
        q.modLane b.1 fun l => { l with laneId := trLane b.2.2, deskewed := decide (b.2.1 ≤ 64) }
      let q := host.foldl mark t.portA
      let reach := q.idMask fun l => l.deskewed && l.locked q.gen
      let work := if s.portA.st = .repair then s.portA.workMask &&& reach else reach
      .next { t with portA := { q with workMask := work, useMask := s.useOf q.gen work,
                                        txBlock := if s.portA.st = .repair then 4 else 2 } }
    else .next t

/-- TS_END: the engine answers it and enters EXCHANGE, or resumes packets after a repair (R89, R104); the numbering of
blocks for the striping starts with the block that follows (R86). -/
def execTsEnd (p : PortId) (blocks : List (Fin 4 × BitVec 64)) (s : State) : Host.Outcome State Fault Refusal :=
  let good := (blocks.map fun b => (b.1, (s.port p).recv b.1 b.2)).filter fun b => trOk b.2 2
  let mark (q : Port) (b : Fin 4 × BitVec 64) : Port := q.modLane b.1 fun l => { l with ended := l.deskewed }
  let t := s.modPort p fun q => q.findAll 2 (blocks.map fun b => (b.1.val, b.2))
  match p with
  | .b =>
    match good with
    | [] => .next t
    | b :: _ =>
      if s.portB.st = .deskew && trRole b.2 then .next t.conflictB
      else if trRole b.2 then .next t
      else if s.portB.st = .deskew && s.portB.useMask ≠ 0 then
        .next { t with portB := { t.portB with st := .exchange, txBlock := 5, line := { t.portB.line with count := 0 } }
                       linkB := { t.linkB with capTx := some s.portBOffer } }
      else if s.portB.st = .repair then
        .next { t with portB := { t.portB with
          st := .up, txBlock := 5, repairs := sat32 (s.portB.repairs + 1), line := { t.portB.line with count := 0 } } }
      else .next t
  | .a =>
    let q := (good.filter fun b => trRole b.2).foldl mark t.portA
    let t : State := { t with portA := q }
    if (s.portA.st = .deskew || s.portA.st = .repair) && q.allUse (fun l => l.ended) then
      let r : Port := { q with line := { q.line with count := 0 } }
      if s.portA.st = .deskew then .next { t with portA := { r with st := .exchange, txBlock := 3 } }
      else
        let u : State := { t with portA := { r with st := .up, txBlock := 5, repairs := sat32 (q.repairs + 1) } }
        .next ((u.sendPhase .a [2]).raise 0x0103 [(1, q.workMask.toNat), (1, q.useMask.toNat), (2, sat16 u.portA.repairs)])
    else .next t

/-- REPAIR from the downstream module: port B answers as a host on the new lanes (R104, R113). -/
def execRepair (w : BitVec 64) (s : State) : Host.Outcome State Fault Refusal :=
  .next (if trOk w 3 && !trRole w && (s.portB.st = .up || s.portB.st = .repair) then
      { s with portB := { s.portB with st := .repair, workMask := trWork w, useMask := trUse w, txBlock := 2 } }
    else s)

/-- REPAIR_TIMEOUT: the repair becomes link down (R105). -/
def execRepairTimeout (s : State) : Host.Outcome State Fault Refusal :=
  .next (if s.portA.st = .repair then s.linkDown 2 else s)

/-- Electrical idle is permitted: offered in the capability exchange, at G2 and G3 (R107, R136). -/
def State.idleOffered (s : State) : Bool :=
  s.img.link.idle && decide (2 ≤ s.portA.gen) && s.revAtLeast 0x21

/-- IDLE_ENTER (R107); port B idles with no forwarded packet waiting or unacknowledged there (R140). -/
def execIdleEnter (s : State) : Host.Outcome State Fault Refusal :=
  if s.linkUp && s.idleOffered then
    let t : State := { s with portA := { s.portA with st := .idle, rxIdle := true } }
    .next (if t.portB.st = .up && t.linkB.wait.isEmpty && t.linkB.sent.isEmpty then
        let u := t.sendPhase .b (List.replicate 8 6)
        { u with portB := { u.portB with st := .idle, txBlock := 0 } }
      else t)
  else .next s

/-- WAKE: the first WAKE block of the host's burst; an idle port B starts its own (R108, R140). -/
def execWake (s : State) : Host.Outcome State Fault Refusal :=
  if s.portA.st = .idle then
    let t : State := { s with portA := { s.portA with st := .wake } }
    .next (if t.portB.st = .idle then { t with portB := { t.portB with st := .wake, txBlock := 6 } } else t)
  else .next s

/-- WAKE_END: the lanes that locked return to UP; an unlocked one is a lane fault, and none locked is link down
(R108). `locked` is a mask of LANE_IDs. -/
def execWakeEnd (locked : BitVec 4) (s : State) : Host.Outcome State Fault Refusal :=
  if s.portA.st = .wake then
    let use := s.portA.useMask
    let keep (l : Lane) : Lane :=
      if l.laneId < 4 && locked.getLsbD l.laneId then { l with squelch := true, bitLock := true, block := true }
      else { l.lost with squelch := false }
    let t : State := { s with
      portA := { s.portA.modLanes keep with st := .up, rxIdle := false }
      portB := if s.portB.st = .wake then { s.portB with st := .up, txBlock := 5 } else s.portB }
    .next (if (use &&& locked) = 0 then t.linkDown 0
           else if (use &&& locked) = use then t
           else t.startRepair (use &&& locked) 0)
  else .next s

/-- Every transmit queue is empty (R109). -/
def State.tqsEmpty (s : State) : Bool :=
  s.link.tqs.all (fun q => q.2.isEmpty) && s.ev.ring.isEmpty

/-- BACK_LANE_IDLE_ENTRY: the back lane sends IDLE_ENTER and stops driving when its three conditions hold (R107, R109). -/
def execBackLaneIdleEntry (s : State) : Host.Outcome State Fault Refusal :=
  .next (if s.portA.rxIdle && s.tqsEmpty && s.link.replay.isEmpty then
      let t := s.sendPhase .a (List.replicate 8 6)
      { t with portA := { t.portA with backIdle := true, txBlock := 0, absentRun := 0, shortedRun := 0 } }
    else s)

/-- BACK_LANE_WAKE: a transmit queue holds a packet, so the engine sends its own wake burst; packets follow it (R109). -/
def execBackLaneWake (s : State) : Host.Outcome State Fault Refusal :=
  .next (if s.portA.backIdle && !s.tqsEmpty then
      { s with portA := { s.portA with backIdle := false, txBlock := 6 } }
    else s)

/-- BACK_LANE_DETECT: two consecutive ABSENT or two consecutive SHORTED results on the idle back lane are link down
(R109). -/
def execBackLaneDetect (r : Detect) (s : State) : Host.Outcome State Fault Refusal :=
  if s.portA.backIdle then
    let a := if r = .absent then s.portA.absentRun + 1 else 0
    let h := if r = .shorted then s.portA.shortedRun + 1 else 0
    let t : State := { s with portA := { s.portA with backDet := r, absentRun := a, shortedRun := h } }
    .next (if 2 ≤ a || 2 ≤ h then t.linkDown 5 else t)
  else .next s

/-- SELFTEST_END: counters and lock flags are kept, port A returns to DETECT (R112). -/
def execSelftestEnd (errors : List (Fin 4 × Nat)) (locks : BitVec 4) (s : State) : Host.Outcome State Fault Refusal :=
  if s.portA.st = .loopback && s.selfTest.running then
    let add (m : Sparse Nat) (e : Fin 4 × Nat) : Sparse Nat :=
      if s.selfTest.lanes.getLsbD e.1 then m.set 0 e.1 (sat32 e.2) else m
    .next ({ s with
      selfTest := { s.selfTest with running := false, errors := errors.foldl add [], locks := locks &&& s.selfTest.lanes }
      portA := s.portA.toDetect }.loopEvent s.portA.loopback false)
  else .next s

end Sys2Proof.Machine
end

