-- ==== Sys2Proof/Machine/TimeSync.lean ====
section
/-!
DEFINITION. Time synchronisation (05): SYNC, FOLLOW_UP and DELAY_RESP, the discipline of TB0, holdover, and the TSEVT
capture. Offsets and delays are held in units of 2^-16 ns, the fraction of CORRECTION.
-/
namespace Sys2Proof.Machine

/-- The receive record of a TIME packet: LENGTH 0x20 and MSG below 4 are content checks (Tables 4.4, 4.14). -/
def timeRx (h : Hdr) (payload : List Byte) : Rx :=
  { h := h, vc := 3, type := 0x40, opcode := 0, len := payload.length, payload := payload,
    lenOk := payload.length = 0x20, fieldsOk := decide (timeMsg payload ≤ 3) }

/-- CORRECTION of a TIME payload, S32.16 (Table 4.14). -/
def timeCorr (payload : List Byte) : Int := signedOf 48 (fieldAt payload 8 6)
/-- CORRECTION has saturated (R141). -/
def corrSat (c : Int) : Bool := decide (140737488355327 ≤ c) || decide (c ≤ -140737488355328)
def timeEpoch (payload : List Byte) : BitVec 8 := BitVec.ofNat 8 (fieldAt payload 1 1)
def timeSeqid (payload : List Byte) : BitVec 16 := BitVec.ofNat 16 (fieldAt payload 2 2)
def timeStamp (payload : List Byte) : Nat := fieldAt payload 4 4

/-- A discarded sample or delay (R151). -/
def State.syncDiscard (s : State) (cause : Nat) : State := s.raise 0x0205 [(1, cause)]

/-- SYNC (R150, R151), received with a stamp: t2. One whose CORRECTION has saturated is discarded; another replaces an
unpaired older one, which is discarded. -/
def State.takeSync (s : State) (payload : List Byte) (rx : Stamp) : State :=
  let c := timeCorr payload
  if corrSat c then s.syncDiscard 3
  else
    let t := s.cond s.sync.sync.isSome fun u => u.syncDiscard 1
    let y : SyncRx := { seqid := timeSeqid payload, rx := rx, cs := c, slewed := t.clk.slewed }
    { t with sync := { t.sync with sync := some y } }

def execSync (dt : Nat) (h : Hdr) (payload : List Byte) (s : State) : Host.Outcome State Fault Refusal :=
  .next ((s.elapse dt).receive (.sync dt h payload) (timeRx h payload) fun t => t.takeSync payload (t.capture 0))

/-- Mean of the accepted path delays, D (R151). -/
def State.pathDelay (s : State) : Int :=
  if s.sync.delays.isEmpty then 0 else rdiv (s.sync.delays.foldl (· + ·) 0) s.sync.delays.length

/-- Send the DELAY_REQ of a triggering pair (R150, R151): MSG 2, own address, the engine's epoch. Its stamp t3 is taken
when it leaves. -/
def State.sendDelayReq (s : State) (t1 t2 cs : Int) : State :=
  let q := s.sync.reqSeq
  let body := [2, s.clk.epoch] ++ leBytes 2 q.toNat ++ List.replicate 28 0
  let t := s.enqueue 3 (s.upPkt 3 0x40 0 body)
  { t with sync := { t.sync with
    req := some { seqid := q, t1 := t1, t2 := t2, cs := cs, tx := t.capture 1 }
    reqSeq := q + 1, lastReq := some t.now1, postponed := false } }

/-- A DELAY_REQ that falls due after a paired FOLLOW_UP: sent, or postponed to the first pair at least 100 ms of TB1
after the previous one (R151). -/
def State.delayDue (s : State) (t1 t2 cs : Int) : State :=
  let n := s.sync.paired + 1
  let due := s.sync.firstDue || s.sync.postponed || decide (4 ≤ n)
  let free := match s.sync.lastReq with
    | some l => decide (l + 100000000 ≤ s.now1)
    | none => true
  let t : State := { s with sync := { s.sync with paired := if s.sync.firstDue then 0 else n % 4, firstDue := false } }
  if !due then t else if free then t.sendDelayReq t1 t2 cs
  else { t with sync := { t.sync with postponed := true } }

/-- Frequency term after an accepted sample: one eighth of the error that a change of the offset by `change` over `dtNs`
implies, limited to 200 ppm (R152; assumption log 24). -/
def freqAfter (f change : Int) (dtNs : Nat) : Int :=
  if dtNs = 0 then f else clampInt (-858993) 858993 (f - rdiv (change * 65536) (dtNs * 8))

/-- Slew term for an offset: -offset / 50 ms, limited to 500 ppm, in 2^-32 (R152). (DESIGN CHOICE: assumption log 24.) -/
def slewFor (off : Int) : Int := clampInt (-2147483) 2147483 (rdiv (-off * 65536) 50000000)

/-- The change of the offset since the last accepted sample, from t2 to t2, without what a step or the slew term has
made of it (R152). (DESIGN CHOICE: assumption log 24.) -/
def State.offsetChange (s : State) (off : Int) (y : SyncRx) : Int :=
  off - s.sync.resid - rdiv (y.slewed - s.sync.offSlewed) 65536

/-- An accepted sample below the step threshold is slewed (R152). After 0x0209 the count of samples with f at its limit
starts again: the event repeats every 10 samples while f stays there, as the rule states no end for it. (DESIGN CHOICE:
assumption log 52.) -/
def State.slewSample (s : State) (off : Int) (y : SyncRx) : State :=
  let f := if s.sync.haveOff then freqAfter s.clk.f (s.offsetChange off y) (y.rx.tb1 - s.sync.offTb1) else s.clk.f
  let run := if f.natAbs = 858993 then s.sync.freqRun + 1 else 0
  let sl := slewFor off
  let t : State := { s with
    clk := { s.clk with f := f, slew := sl, slewLeft := if sl = 0 then 0 else -off * 65536 }
    sync := { s.sync with freqRun := if run = 10 then 0 else run } }
  t.cond (run = 10) fun u => u.raise 0x0209 [(1, b2n (decide (f < 0)))]

/-- The state of TB0 after an accepted sample (Table 5.4). -/
def State.afterAccept (s : State) (off : Int) (epochStep : Bool) : State :=
  let ns := off.natAbs
  match s.sync.state with
  | .free => s.tbGo .acquire
  | .holdover => s.tbGo .acquire
  | .acquire =>
    let n := if ns < 250 * 65536 then s.sync.okRun + 1 else 0
    if 4 ≤ n then s.tbGo .locked else { s with sync := { s.sync with okRun := n } }
  | .locked => if 1000 * 65536 ≤ ns && !epochStep then s.tbGo .acquire else s

/-- Record an accepted sample, of whose offset `resid` is left. -/
def State.accepted (s : State) (off resid : Int) (y : SyncRx) (ep : BitVec 8) : State :=
  { s with sync := { s.sync with
    offset := off, haveOff := true, offTb1 := y.rx.tb1, resid := resid, offSlewed := y.slewed, masterEpoch := some ep,
    cand := none } }

/-- A sample that is stepped by its whole offset, in ns. -/
def State.stepSample (s : State) (off : Int) (y : SyncRx) (ep : BitVec 8) (epochStep : Bool) : State :=
  let n := rdiv off 65536
  ((s.stepTb0 n).accepted off (off - n * 65536) y ep).afterAccept off epochStep

/-- A valid sample (R152, R153): slewed below 10 us, stepped when confirmed, when TB0 is FREE, or when its master epoch
is new; otherwise kept as the candidate. A candidate exactly 10 us from the later offset lies "within 10 us" of it: the
bound is taken as inclusive. (DESIGN CHOICE: assumption log 52.) -/
def State.sample (s : State) (off : Int) (y : SyncRx) (ep : BitVec 8) : State :=
  let large := decide (655360000 ≤ off.natAbs)
  let newEp := match s.sync.masterEpoch with
    | some e => decide (e ≠ ep)
    | none => false
  let confirmed := match s.sync.cand with
    | some c => decide (0 < c * off) && decide ((c - off).natAbs ≤ 655360000)
    | none => false
  let t := s.cond newEp fun u => u.raise 0x0206 [(1, ep.toNat)]
  if s.sync.state = .free then t.stepSample off y ep false
  else if large then
    if newEp || confirmed then t.stepSample off y ep (newEp && !confirmed)
    else { t with sync := { t.sync with cand := some off } }.syncDiscard 4
  else ((t.slewSample off y).accepted off off y ep).afterAccept off false

/-- FOLLOW_UP (R150, R151, R153), received with a stamp: it pairs with the SYNC of its SEQID received within the 10 ms of
TB1 before it, a half-open window (R159). -/
def State.takeFollowUp (s : State) (payload : List Byte) (rx : Stamp) : State :=
  match s.sync.sync with
  | none => s
  | some y =>
    if y.seqid ≠ timeSeqid payload || decide (10000000 ≤ rx.tb1 - y.rx.tb1) then s
    else
      let t : State := { s with sync := { s.sync with sync := none } }
      let t1 := extend32 (timeStamp payload) y.rx.tb0
      let off := (y.rx.tb0 - t1) * 65536 - y.cs - t.pathDelay
      let u := if t.sync.delays.isEmpty then t else t.sample off y (timeEpoch payload)
      u.delayDue t1 y.rx.tb0 y.cs

def execFollowUp (dt : Nat) (h : Hdr) (payload : List Byte) (s : State) : Host.Outcome State Fault Refusal :=
  .next ((s.elapse dt).receive (.followUp dt h payload) (timeRx h payload) fun t => t.takeFollowUp payload (t.capture 0))

/-- DELAY_RESP (R150, R151), received with a stamp: d from the triggering pair and the request, when it came within 10 ms
of t3; kept among the last 8 when in range. -/
def State.takeDelayResp (s : State) (payload : List Byte) (rx : Stamp) : State :=
  match s.sync.req with
  | none => s
  | some r =>
    if r.seqid ≠ timeSeqid payload then s
    else
      let t : State := { s with sync := { s.sync with req := none } }
      let cd := timeCorr payload
      if 10000000 ≤ rx.tb1 - r.tx.tb1 then t.syncDiscard 2
      else if corrSat cd then t.syncDiscard 3
      else
        let t4 := extend32 (timeStamp payload) r.tx.tb0
        let d := rdiv ((r.t2 - r.t1) * 65536 - r.cs + ((t4 - r.tx.tb0) * 65536 - cd)) 2
        if d < 0 || 6553600000 < d then t.syncDiscard 0
        else { t with sync := { t.sync with delays := (d :: t.sync.delays).take 8 } }

def execDelayResp (dt : Nat) (h : Hdr) (payload : List Byte) (s : State) : Host.Outcome State Fault Refusal :=
  .next ((s.elapse dt).receive (.delayResp dt h payload) (timeRx h payload) fun t => t.takeDelayResp payload (t.capture 0))

/-- SYNC_PAIR_TIMEOUT: a SYNC without its FOLLOW_UP (unpaired), or a DELAY_REQ without its DELAY_RESP (timed out), is
discarded after 10 ms (R151). -/
def execSyncPairTimeout (delay : Bool) (s : State) : Host.Outcome State Fault Refusal :=
  if delay then
    if s.sync.req.isSome then .next ({ s with sync := { s.sync with req := none } }.syncDiscard 2) else .next s
  else if s.sync.sync.isSome then .next ({ s with sync := { s.sync with sync := none } }.syncDiscard 1)
  else .next s

/-- TB0_HOLDOVER: 3 s of TB1 without an accepted sample (R154). -/
def execTb0Holdover (s : State) : Host.Outcome State Fault Refusal := .next s.tbHold

/-- TSEVT_CAPTURE (R161): stamped with the record of Table 5.5, or counted as an overrun within 1 us of the previous
stamped edge. Before the first latch point of a start SINCE_LATCH counts from the start of TB2: the spec names no latch
point for it. (DESIGN CHOICE: assumption log 52.) -/
def execTsevtCapture (dt : Nat) (s0 : State) : Host.Outcome State Fault Refusal :=
  let s := s0.elapse dt
  if !s.clk.crystal then .next s
  else
    let close := match s.sync.tsLast with
      | some l => decide (s.now1 < l + 1000)
      | none => false
    if close then
      .next ({ s with sync := { s.sync with tsOver := sat16 (s.sync.tsOver + 1) } }.raiseRated 0x0208 0 [])
    else
      let c := s.capture 2
      .next ({ s with sync := { s.sync with tsLast := some c.tb1 } }.raise 0x0207
        [(4, toField 32 c.tb0), (1, c.epoch.toNat), (1, tbNum s.sync.state), (2, s.grid.frame.toNat),
         (4, c.tb1 % 4294967296), (4, (c.tb2 - s.grid.lastL) % 4294967296)])

end Sys2Proof.Machine
end

