-- ==== Sys2Proof/Machine/Status.lean ====
section
/-!
DEFINITION. The status words of Table 15.4 (15 R398-R401), and the register words they copy: the drive page of Table 9.8,
ARB_STAT, DIAG_CTRL.
-/
namespace Sys2Proof.Machine

/-- Number of a start-up state (Table 2.19 in row order). -/
def startNum : StartState → Nat
  | .powerOn => 0
  | .fuseRead => 1
  | .select => 2
  | .load => 3
  | .bringUp => 4
  | .ready => 5
  | .serviceOnly => 6
  | .resetHeld => 7

/-- Number of a personality (Table 15.2). -/
def persNum : Personality → Nat
  | .unlatched => 0
  | .native => 1
  | .legacy => 2

/-- Number of a training state (Table 15.4). -/
def lstateNum : LState → Nat
  | .off => 0
  | .detect => 1
  | .sweep => 2
  | .align => 3
  | .deskew => 4
  | .exchange => 5
  | .up => 6
  | .repair => 7
  | .idle => 8
  | .wake => 9
  | .loopback => 10
  | .backoff => 11

/-- Number of a frame kind. -/
def kindNum : FrameKind → Nat
  | .full => 0
  | .keepAlive => 1
  | .idle => 2
  | .transition => 3

/-- Number of a session state (Table 13.5 in row order). -/
def svcNum : SvcState → Nat
  | .locked => 0
  | .challenged => 1
  | .unlocked => 2
  | .lockout => 3

/-- A mask of the numbers below `n` for which `f` holds. -/
def maskOf (n : Nat) (f : Nat → Bool) : Nat := (List.range n).foldl (fun m i => m + (if f i then 2 ^ i else 0)) 0

/-- Low or high word of a 64-bit value, by the parity of an index. -/
def wordOf (v : Nat) (high : Bool) : Nat := if high then v / 2 ^ 32 % 2 ^ 32 else v % 2 ^ 32

/-- A temperature, S12.4 sign-extended; 0xFFFF8000 for a source without one (R400). (DESIGN CHOICE: assumption log 39.) -/
def tempWord (ok : Bool) (v : Int) : Nat := if ok then toField 32 v else 0xFFFF8000

/-- ENGINE_STATE (Table 15.2). -/
def State.engineState (s : State) : Nat :=
  let slot := match s.start.active with
    | some .a => 0
    | some .b => 1
    | none => 3
  startNum s.start.state * 2 ^ 12 + b2n s.faultN * 2 ^ 11 + b2n s.safety.lbreq * 2 ^ 10 + stateNum s.safety.state * 2 ^ 8
    + persNum s.start.pers * 2 ^ 4 + b2n (s.start.state = .serviceOnly) * 2 ^ 3 + slot

/-- ARB_STAT (Table 6.5b). -/
def State.arbStat (s : State) (b : Nat) : Nat :=
  let k := s.bank b
  k.ptr * 2 ^ 16 + k.owner.getD 15 * 2 ^ 12 + b2n k.owner.isSome * 2 ^ 11 + b2n (k.freeze && k.owner.isNone) * 2 ^ 10
    + b2n k.swap * 2 ^ 9 + b2n k.busyBit * 2 ^ 8 + b2n k.broken * 2 ^ 7 + b2n k.wdog * 2 ^ 6 + b2n k.access * 2 ^ 5

/-- DRV_TILE (Table 9.9). -/
def State.drvTile (s : State) (t : Nat) : Nat :=
  s.tileBand t * 2 ^ 24 + (s.tile t).applied.toNat * 2 ^ 16 + s.ceilOf t * 2 ^ 8 + (s.tile t).req.toNat

/-- DRV_QPWR (Table 9.10). -/
def State.drvQpwr (s : State) : Nat :=
  maskOf 4 (fun q => (s.quad q).lit) * 2 ^ 12 + maskOf 4 (fun q => (s.quad q).forced) * 2 ^ 8 + maskOf 4 (fun q => (s.quad q).on) * 2 ^ 4
    + maskOf 4 fun q => (s.quad q).offReq

/-- DRV_MODLIM (Table 9.11). -/
def State.drvModlim (s : State) : Nat := b2n s.drive.limActive * 2 ^ 24 + s.drive.cl * 2 ^ 16 + s.drive.iLim

/-- DIAG_CTRL (Table 10.9). -/
def State.diagCtrl (s : State) : Nat := s.diag.sweepMs * 2 ^ 16 + s.diag.gapMs * 2 ^ 8

/-- Pixels in the fault map: the set bits of region 2. -/
def State.faultPixels (s : State) : Nat :=
  ((s.readBytes (s.regionBase 2) 0x20000).map fun b => popCount 8 b.toNat).foldl (· + ·) 0

/-- Pixels whose recorded cause is `c`. (DESIGN CHOICE: assumption log 39.) -/
def State.faultByCause (s : State) (c : Nat) : Nat := (s.diag.list.filter fun p => s.diag.cause.get 0 p = c).length

/-- Words of one port, from its base index. -/
def State.portWord (s : State) (p : PortId) (k : Nat) : Nat :=
  let q := s.port p
  if k = 0 then lstateNum q.st
  else if k = 1 then q.gen
  else if k = 2 then q.width
  else if k = 3 then (match p with | .a => s.link.rev | .b => s.linkB.rev)
  else if k = 4 then q.workMask.toNat
  else if k = 5 then q.useMask.toNat
  else if k = 6 then q.repairs
  else if k = 7 then q.linkUps
  else if k = 8 then q.naksSent
  else if k = 9 then q.replays
  else if k = 10 then q.crcFails
  else if k = 11 then q.contentDiscards
  else if k = 12 then (match p with | .a => s.link.addr.toNat | .b => s.linkB.downAddr.toNat)
  else (match p with | .a => s.link.hop | .b => s.linkB.downHop)

/-- Area 0x00. -/
def State.word00 (s : State) (i : Nat) : Option Nat :=
  let act := s.start.active.isSome
  if i = 0 then some 0x2048
  else if i = 1 then some s.engineState
  else if i = 2 || i = 3 then some (wordOf s.fuse.serial.toNat (i = 3))
  else if i = 4 then some (if act then s.img.seq.toNat else 0)
  else if i = 5 then some (if act then s.img.fwVersion.toNat else 0)
  else if i = 6 then some s.fuse.rollback
  else if i = 7 then some (if act then s.img.secVer else 0)
  else if i = 8 then some s.start.reasonA
  else if i = 9 then some s.start.reasonB
  else if i = 0x10 then some s.ev.flags.toNat
  else if 0x11 ≤ i && i ≤ 0x1B then some (s.ev.counts.get 0 (i - 0x11))
  else if i = 0x20 then some s.ev.next.toNat
  else if i = 0x21 then some s.ev.lost
  else if i = 0x22 then some s.start.startCount
  else none

/-- Area 0x01. -/
def State.word01 (s : State) (i : Nat) : Option Nat :=
  if 0x100 ≤ i && i ≤ 0x10D then some (s.portWord .a (i - 0x100))
  else if 0x110 ≤ i && i ≤ 0x11D then some (s.portWord .b (i - 0x110))
  else if 0x120 ≤ i && i ≤ 0x123 then some (s.selfTest.errors.get 0 (i - 0x120))
  else if i = 0x124 then some s.selfTest.locks.toNat
  else if i = 0x125 then some s.portB.shortedMask.toNat
  else none

/-- Area 0x02. -/
def State.word02 (s : State) (i : Nat) : Option Nat :=
  if i = 0x200 then some (tbNum s.sync.state)
  else if i = 0x201 then some (s.now0 % 2 ^ 32)
  else if i = 0x202 then some s.clk.epoch.toNat
  else if i = 0x203 then some (s.now1 % 2 ^ 32)
  else if i = 0x204 then some (s.now2 % 2 ^ 32)
  else if i = 0x205 then some (s.clk.tb3 % 2 ^ 32)
  else if i = 0x206 then some (toField 32 (rdiv s.sync.offset 65536))
  else if i = 0x207 then some (toField 32 (rdiv (s.clk.f * 1000000000) nsUnit))
  else if i = 0x208 then some (toField 32 (rdiv s.pathDelay 65536))
  else if i = 0x209 then some (b2n s.sync.locked)
  else if i = 0x20A then some (toField 32 s.sync.gridErr)
  else if i = 0x20B then some s.sync.tsOver
  else if i = 0x20C then some s.sync.steps
  else none

/-- Area 0x03. -/
def State.word03 (s : State) (i : Nat) : Option Nat :=
  if 0x300 ≤ i && i ≤ 0x30F then some (s.arbStat (i - 0x300))
  else if 0x310 ≤ i && i ≤ 0x31F then some (s.bank (i - 0x310)).corrected
  else if i = 0x320 then some s.store.stagCorr
  else if i = 0x321 then some s.store.stagUnc
  else if 0x330 ≤ i && i ≤ 0x33F then some (s.store.log.getD (i - 0x330) 0x80000000)
  else none

/-- Deferral count of the oldest pending commit that names a layer. -/
def State.deferralsOf (s : State) (n : Nat) : Nat :=
  match s.comp.pending.find? fun c => c.mask.getLsbD n with
  | some c => c.defers
  | none => 0

/-- Area 0x04. -/
def State.word04 (s : State) (i : Nat) : Option Nat :=
  if 0x400 ≤ i && i ≤ 0x40B then some (s.layer (i - 0x400)).fade.val
  else if 0x410 ≤ i && i ≤ 0x41B then some (s.deferralsOf (i - 0x410))
  else if i = 0x420 then some (maskOf 12 fun n => (s.layer n).stale)
  else if i = 0x421 then some s.comp.pending.length
  else if i = 0x422 then some s.comp.pA
  else if i = 0x423 then some s.comp.pB
  else if i = 0x424 then some s.comp.w.val
  else if i = 0x425 then some s.comp.lastSeq.toNat
  else none

/-- Area 0x05. -/
def State.word05 (s : State) (i : Nat) : Option Nat :=
  if i = 0x500 then some s.grid.mode
  else if i = 0x501 then some s.grid.frame.toNat
  else if i = 0x502 then some (kindNum s.grid.kind)
  else if i = 0x503 then some s.modeNow.guardUs
  else if i = 0x504 then some (if s.lampLeader then 0 else if s.grid.onLamp then 2 else 1)
  else none

/-- Area 0x06. -/
def State.word06 (s : State) (i : Nat) : Option Nat :=
  if 0x600 ≤ i && i ≤ 0x63F then some (s.drvTile (i - 0x600))
  else if i = 0x640 then some s.drvQpwr
  else if i = 0x641 then some s.drvModlim
  else if i = 0x642 then some s.comp.master.val
  else if i = 0x643 then some s.drive.vledMv
  else if i = 0x644 then some s.drive.vledMa
  else if 0x645 ≤ i && i ≤ 0x648 then some (s.drive.branchMa.get 0 (i - 0x645))
  else if i = 0x649 then some (b2n s.drive.present + 2 * b2n s.drive.low)
  else if 0x680 ≤ i && i ≤ 0x6BF then some (s.out.stripe.get 0x8000 (i - 0x680))
  else none

/-- Area 0x07. -/
def State.word07 (s : State) (i : Nat) : Option Nat :=
  if i = 0x700 then some s.faultPixels
  else if 0x701 ≤ i && i ≤ 0x704 then some (s.faultByCause (i - 0x700))
  else if i = 0x705 then some s.diagCtrl
  else if i = 0x706 then some s.diag.sweeps
  else if i = 0x707 then some s.out.suppressed
  else if i = 0x708 then some s.rb.mismatches
  else if i = 0x709 then some s.rb.fault.length
  else if i = 0x70A || i = 0x70B then some (wordOf s.safety.switchFault.toNat (i = 0x70B))
  else none

/-- Area 0x08. -/
def State.word08 (s : State) (i : Nat) : Option Nat :=
  let sf := s.safety
  if i = 0x800 then some (stateNum sf.state)
  else if i = 0x801 then some (reqNumber s.spOwn sf.spCauses sf.lbreq)
  else if i = 0x802 then some sf.spCauses.toNat
  else if i = 0x803 then some (reqNumber s.rindOwn sf.rindCauses sf.lbreq)
  else if i = 0x804 then some sf.rindCauses.toNat
  else if i = 0x805 then some (b2n sf.offLatch)
  else if i = 0x806 || i = 0x807 then some (wordOf (maskOf 64 s.isCut) (i = 0x807))
  else if i = 0x808 then some (b2n s.vledInh)
  else if i = 0x809 then some s.zones.lastSeq.toNat
  else if i = 0x80A then some (s.zones.lim.zones.filter fun z => z.2.used).length
  else if i = 0x80B then some sf.degMs
  else if i = 0x80C then some sf.recoveries
  else if i = 0x80D then some sf.stuckOn.length
  else none

/-- Area 0x09. -/
def State.word09 (s : State) (i : Nat) : Option Nat :=
  if 0x900 ≤ i && i ≤ 0x93F then some (tempWord (s.usable (i - 0x900)) (s.tRead (i - 0x900)))
  else if 0x940 ≤ i && i ≤ 0x97F then some (tempWord true (toS124 (s.tileEst (i - 0x940))))
  else if 0x980 ≤ i && i ≤ 0x9BF then some (trustNum (s.tsensor (i - 0x980)).state)
  else if 0x9C0 ≤ i && i ≤ 0x9C3 then some (tempWord (!(s.qsensor (i - 0x9C0)).failed) (s.qRead (i - 0x9C0)))
  else if i = 0x9C4 then some (tempWord true s.dieRead)
  else if i = 0x9C5 then some (tempWord (!s.thermal.ntcFailed) s.ntcRead)
  else if 0x9C8 ≤ i && i ≤ 0x9CB then some (tempWord true (toS124 (s.cq (i - 0x9C8))))
  else if i = 0x9CC then some s.thermal.band
  else if i = 0x9CD then some (rdivNat s.policy.fp 281474976710656)
  else if i = 0x9D0 || i = 0x9D1 then some (wordOf (maskOf 64 fun t => (s.heat t).shut) (i = 0x9D1))
  else if i = 0x9D2 || i = 0x9D3 then
    some (wordOf (maskOf 64 fun t => (s.heat t).shutLatch || (s.heat t).cutLatch) (i = 0x9D3))
  else none

/-- Areas 0x0A to 0x0C. -/
def State.word0A (s : State) (i : Nat) : Option Nat :=
  if i = 0xA00 then some s.affin.opS
  else if i = 0xA01 then some s.affin.remainH
  else if i = 0xA02 then some s.affin.minBlock
  else if i = 0xA03 then some (toField 32 s.affin.headroom)
  else if i = 0xA04 then some s.affin.saveSeq.toNat
  else if i = 0xA05 then some s.affin.saveSlot
  else if i = 0xB00 then some (s.start.readyMs.getD 0xFFFFFFFF)
  else if i = 0xB01 then some s.flash.retries
  else if i = 0xB02 then some s.start.imgErases
  else if i = 0xC00 then some s.mp.restarts
  else if i = 0xC01 then some s.nvmRefill.nvm.prog
  else if i = 0xC02 then some s.nvmRefill.nvm.erase
  else if i = 0xC03 then some (svcNum s.svc.state)
  else if i = 0xC04 then some s.svc.path
  else if i = 0xC05 then some s.svc.fails
  else none

/-- The status word at an index; 0xFFFFFFFF where Table 15.4 allocates none (R399). (DESIGN CHOICE: assumption log 39.) -/
def State.statusWord (s : State) (i : Nat) : Nat :=
  let a := i / 0x100
  let w := if a = 0 then s.word00 i else if a = 1 then s.word01 i else if a = 2 then s.word02 i else if a = 3 then s.word03 i
    else if a = 4 then s.word04 i else if a = 5 then s.word05 i else if a = 6 then s.word06 i else if a = 7 then s.word07 i
    else if a = 8 then s.word08 i else if a = 9 then s.word09 i else s.word0A i
  w.getD 0xFFFFFFFF

/-- The block that holds an allocated word of the store area, the composition area or port B has no power (R399). The staging
counters lie in the receive staging, PD3; the poison log is read whatever the power of the banks.
(DESIGN CHOICE: assumption log 39.) -/
def State.wordOff (s : State) (i : Nat) : Bool :=
  let b := (i - 0x300) % 16
  if 0x110 ≤ i && i ≤ 0x11D || i = 0x125 then !s.power.pd2
  else if 0x300 ≤ i && i ≤ 0x31F then (if b < 8 then !s.power.pd4 else !s.power.pd5)
  else if i = 0x320 || i = 0x321 || (s.word04 i).isSome then !s.power.pd3
  else false

/-- The data of a STATUS_READ, none where a word lies in a block without power (R398, R399).
(DESIGN CHOICE: assumption log 39.) -/
def State.statusData (s : State) (index count : Nat) : Option (List Byte) :=
  let is := (List.range count).map fun i => index + i
  if is.any s.wordOff then none else some (is.flatMap fun i => leBytes 4 (s.statusWord i))

end Sys2Proof.Machine
end

