-- ==== Sys2Proof/Machine/Requests.lean ====
section
/-!
DEFINITION. The requests of Table 4.11 (04, 07 R206, 08 R233, 09 R258, 11 R322, 15 R398).
-/
namespace Sys2Proof.Machine

/-- A REQUEST packet on VC0, which the MP consumes (R31). `args` holds the payload after OPCODE: ARG_LEN and ARGS.
(DEDUCED: assumption log 11.) -/
def requestRx (h : Hdr) (opcode : Nat) (args : List Byte) : Rx :=
  { h := h, vc := 0, type := 0x10, opcode := opcode, len := 2 + args.length, payload := leBytes 2 opcode ++ args
    lenOk := decide (2 ≤ args.length) && decide (args.length ≤ 4094), fieldsOk := true, who := 1 }

/-- ARG_LEN is LENGTH - 4 (R437, check 2). (DEDUCED: assumption log 11.) -/
def argLenOk (args : List Byte) : Bool := fieldAt args 0 2 + 2 = args.length

/-- ARGS. (DEDUCED: assumption log 11.) -/
def argsOf (args : List Byte) : List Byte := args.drop 2

/-- ARGS of the length an opcode fixes. (DEDUCED: assumption log 11.) -/
def argsFixed (args : List Byte) (n : Nat) : Bool := argLenOk args && args.length = n + 2

/-- Answer a request. -/
def State.answerReq (s : State) (h : Hdr) (opcode status : Nat) (data : List Byte) : State := s.reply h 0x10 opcode status data

/-- STATUS_READ (R398, R399, R402). -/
def State.takeStatusRead (s : State) (h : Hdr) (args : List Byte) : State :=
  let a := argsOf args
  let w := fieldAt a 0 2
  let index := w % 4096
  let count := fieldAt a 2 2
  if !argsFixed args 4 || count = 0 || 1022 < count || 0x1000 < index + count then s.answerReq h 1 4 []
  else match s.statusData index count with
    | none => s.answerReq h 1 7 []
    | some d =>
      let t := s.answerReq h 1 0 d
      t.cond (bitOf w 15 && index ≤ 0x10 && 0x10 < index + count) State.clearFlags

/-- MODE_SELECT with its arrival (R233). -/
def State.takeModeSelect (s : State) (h : Hdr) (args : List Byte) (arrival : Stamp) : State :=
  let m := fieldAt (argsOf args) 0 1 % 8
  if !argsFixed args 4 then s.answerReq h 2 4 []
  else if !s.isReady then s.answerReq h 2 1 []
  else if s.img.modes.length ≤ m then s.answerReq h 2 4 []
  else (s.bindKind (.mode m) arrival).answerReq h 2 0 []

/-- A profile's bytes lie in a bank group without power (R206, R40). -/
def State.profileOff (s : State) (p : Nat) : Bool :=
  p ≠ 255 && s.unpowered (s.regionBase 4 + 0x100000 * p) (s.regionBase 4 + 0x100000 * (p + 1))

/-- PROFILE_SELECT with its arrival (R206). -/
def State.takeProfileSelect (s : State) (h : Hdr) (args : List Byte) (arrival : Stamp) : State :=
  let a := argsOf args
  let p := fieldAt a 0 1
  let ms := fieldAt a 2 2
  if !argsFixed args 4 then s.answerReq h 3 4 []
  else if !s.isReady then s.answerReq h 3 1 []
  else if 4000 < ms || (p ≠ 255 && s.img.profileCount ≤ p) then s.answerReq h 3 4 []
  else if s.profileOff p then s.answerReq h 3 7 []
  else (s.bindKind (.profile p ms (bitOf (fieldAt a 1 1) 0)) arrival).litOnAccept.answerReq h 3 0 []

/-- MASTER_DIMMER with its arrival (R258). -/
def State.takeMasterDimmer (s : State) (h : Hdr) (args : List Byte) (arrival : Stamp) : State :=
  let a := argsOf args
  let v := fieldAt a 0 2
  let ms := fieldAt a 2 2
  if !argsFixed args 6 then s.answerReq h 4 4 []
  else if !s.isReady then s.answerReq h 4 1 []
  else if 4000 < ms || 0x8000 < v then s.answerReq h 4 4 []
  else (s.bindKind (.master (2 * v) ms (bitOf (fieldAt a 4 1) 0)) arrival).litOnAccept.answerReq h 4 0 []

/-- The OK to an ADDR_SET, which its module sends to a broadcast as well (R138). (DESIGN CHOICE: assumption log 42.) -/
def State.addrReply (s : State) (h : Hdr) : State :=
  let p := s.upPkt 0 0x11 h.tag (replyBytes 0 0x10 5 [])
  if s.mp.ready then s.enqueue 0 p else { s with link := { s.link with aonReplies := s.link.aonReplies ++ [p] } }

/-- ADDR_SET (R138). -/
def State.takeAddrSet (s : State) (h : Hdr) (args : List Byte) : State :=
  let a := argsOf args
  let hit := fieldAt a 0 8 = s.fuse.serial.toNat
  if !argsFixed args 12 then s.answerReq h 5 4 []
  else if !s.revAtLeast 0x30 then s.answerReq h 5 9 []
  else if !hit && isBcast h then s
  else if !hit || s.img.link.addrMode ≠ 2 then s.answerReq h 5 4 []
  else
    let t := s.addrReply h
    { t with link := { t.link with addr := BitVec.ofNat 3 (fieldAt a 8 1), addrKnown := true } }

/-- SAFETY_RECOVER (R322). -/
def State.takeRecover (s : State) (h : Hdr) (args : List Byte) : State :=
  if !argsFixed args 4 then s.answerReq h 6 4 []
  else if !s.isReady then s.answerReq h 6 1 []
  else if fieldAt (argsOf args) 0 1 ≠ 0 then s.answerReq h 6 4 []
  else
    let r := s.recoverNow
    r.1.answerReq h 6 r.2 []

/-- ECHO (Table 4.11). -/
def State.takeEcho (s : State) (h : Hdr) (args : List Byte) : State :=
  if !argLenOk args || 4088 < (argsOf args).length then s.answerReq h 7 4 [] else s.answerReq h 7 0 (argsOf args)

/-- A REQUEST with an unknown opcode (R437). -/
def State.takeUnknown (s : State) (h : Hdr) (opcode : Nat) : State := s.answerReq h opcode 3 []

/-- STATUS_READ (R398). -/
def execStatusRead (h : Hdr) (args : List Byte) (s : State) : Host.Outcome State Fault Refusal :=
  .next (s.receive (.statusRead h args) (requestRx h 1 args) fun t => t.takeStatusRead h args)

/-- MODE_SELECT (R233). -/
def execModeSelect (dt : Nat) (h : Hdr) (args : List Byte) (s : State) : Host.Outcome State Fault Refusal :=
  .next ((s.elapse dt).receive (.modeSelect dt h args) (requestRx h 2 args) fun t =>
    t.takeModeSelect h args (t.capture 0))

/-- PROFILE_SELECT (R206). -/
def execProfileSelect (dt : Nat) (h : Hdr) (args : List Byte) (s : State) : Host.Outcome State Fault Refusal :=
  .next ((s.elapse dt).receive (.profileSelect dt h args) (requestRx h 3 args) fun t =>
    t.takeProfileSelect h args (t.capture 0))

/-- MASTER_DIMMER (R258). -/
def execMasterDimmer (dt : Nat) (h : Hdr) (args : List Byte) (s : State) : Host.Outcome State Fault Refusal :=
  .next ((s.elapse dt).receive (.masterDimmer dt h args) (requestRx h 4 args) fun t =>
    t.takeMasterDimmer h args (t.capture 0))

/-- ADDR_SET (R138). -/
def execAddrSet (h : Hdr) (args : List Byte) (s : State) : Host.Outcome State Fault Refusal :=
  .next (s.receive (.addrSet h args) (requestRx h 5 args) fun t => t.takeAddrSet h args)

/-- SAFETY_RECOVER (R322). -/
def execSafetyRecover (h : Hdr) (args : List Byte) (s : State) : Host.Outcome State Fault Refusal :=
  .next (s.receive (.safetyRecover h args) (requestRx h 6 args) fun t => t.takeRecover h args)

/-- ECHO (R124). -/
def execEcho (h : Hdr) (args : List Byte) (s : State) : Host.Outcome State Fault Refusal :=
  .next (s.receive (.echo h args) (requestRx h 7 args) fun t => t.takeEcho h args)

end Sys2Proof.Machine
end

