-- ==== Sys2Proof/Machine/Service.lean ====
section
/-!
DEFINITION. The service session, its operations and the perturbation controls (13 R371-R375, 02 R79, R80, 03 R112), and
packets or frames with an unknown opcode (04 R437).
-/
namespace Sys2Proof.Machine

/-! ### Arrival and replies -/

/-- Number of a path (ST 0x0C04). -/
def pathNum : SvcSrc → Nat
  | .vc4 _ => 1
  | .uart => 2

/-- Answer a service operation on its path. -/
def State.answerSvc (s : State) (q : SvcSrc) (opcode status : Nat) (data : List Byte) : State :=
  match q with
  | .vc4 h => s.reply h 0x50 opcode status data
  | .uart => { s with svc := { s.svc with uartTx := s.svc.uartTx ++ [uartFrame (replyBytes status 0x50 opcode data)] } }

/-- A SERVICE packet on VC4 with its consumer: the SP takes the unlock's operations, the MP the others while a session is
unlocked (R31). -/
def serviceRx (h : Hdr) (opcode : Nat) (args : List Byte) (who : Nat) : Rx :=
  { h := h, vc := 4, type := 0x50, opcode := opcode, len := 2 + args.length, payload := leBytes 2 opcode ++ args
    lenOk := decide (2 ≤ args.length) && decide (args.length ≤ 4094), fieldsOk := true, who := who }

/-- Receive queue number of UART operations that wait for the MP. -/
def uartVc : Nat := 32

/-- A service operation arrives (R366, R371). The UART serves from the time the SP first runs.
(DESIGN CHOICE: assumption log 32.) -/
def State.service (s : State) (i : Instr) (q : SvcSrc) (opcode : Nat) (args : List Byte) (who : Nat) (consume : State → State) :
    State :=
  match q with
  | .vc4 h => s.receive i (serviceRx h opcode args who) consume
  | .uart =>
    if !s.clk.crystal || args.length < 2 || 4094 < args.length then s
    else if s.mustWait { vc := uartVc, who := who } then s.keep { cmd := i, vc := uartVc, who := who }
    else consume s

/-- The consumer of an operation on the perturbation controls: on the UART with TEST_EN high it needs no session (R374). -/
def perturbWho : SvcSrc → Nat
  | .vc4 _ => 2
  | .uart => 3

/-- A session open on the other path (R371). -/
def State.otherPath (s : State) (q : SvcSrc) : Bool := s.svc.path ≠ 0 && s.svc.path ≠ pathNum q

/-- TEST_EN is high and the operation came on the UART (R374). -/
def State.testPath (s : State) (q : SvcSrc) : Bool := q = .uart && s.start.testEn

/-- Status of an operation that needs an unlocked session, 0 where it is met (Table 13.5, R437 check 5). -/
def State.needSession (s : State) (q : SvcSrc) : Nat := if s.otherPath q then 8 else if s.svc.state ≠ .unlocked then 6 else 0

/-! ### Sessions (R372, R373) -/

/-- The service key reads as all zeros. (DESIGN CHOICE: assumption log 2.) -/
def State.keyless (s : State) : Bool := s.start.fuseBad || s.fuse.svcKey = 0

/-- UNLOCK_REQ. (DESIGN CHOICE: assumption log 32.) -/
def State.takeUnlockReq (s : State) (q : SvcSrc) (args : List Byte) : State :=
  if !argsFixed args 0 then s.answerSvc q 0x101 4 []
  else if s.otherPath q || s.svc.state = .unlocked || s.svc.state = .lockout then s.answerSvc q 0x101 8 []
  else if s.svc.state = .locked && (!s.img.service.unlockEn || s.keyless) then s.answerSvc q 0x101 6 []
  else
    let n := Config.nonce s.free
    let t := s.drawn
    ({ t with svc := { t.svc with state := .challenged, path := pathNum q, nonce := some n } } : State).answerSvc q 0x101 0
      (bvBytes n 16)

/-- The RESPONSE of R373; K and NONCE in byte order as stored, the first byte least significant. (PRESUMED: assumption log 31.) -/
def State.response (s : State) (nonce : BitVec 128) : List Byte :=
  hmacSha256 (bvBytes s.fuse.svcKey 32) ([0x44, 0x4C, 0x4E, 0x53] ++ bvBytes s.fuse.serial 8 ++ bvBytes nonce 16)

/-- An unlock fails: counted in the safety records, and a lockout from MAX_ATTEMPTS on; event 0x0C07.
(DESIGN CHOICE: assumption log 32.) -/
def State.unlockFailed (s : State) : State :=
  let n := s.svc.fails + 1
  let out := decide (s.img.service.maxAttempts ≤ n)
  ({ s with svc := { s.svc with state := if out then .lockout else .locked, path := 0, nonce := none, fails := n
                                lockRec := s.svc.lockRec || out } } : State).raise 0x0C07 [(1, min 255 n), (1, b2n out)]

/-- UNLOCK_RESP. -/
def State.takeUnlockResp (s : State) (q : SvcSrc) (args : List Byte) : State :=
  if !argsFixed args 32 then s.answerSvc q 0x102 4 []
  else if s.otherPath q || s.svc.state = .unlocked || s.svc.state = .lockout then s.answerSvc q 0x102 8 []
  else match s.svc.nonce with
    | none => s.answerSvc q 0x102 6 []
    | some n =>
      if s.svc.state ≠ .challenged then s.answerSvc q 0x102 6 []
      else if argsOf args = s.response n then
        ((({ s with svc := { s.svc with state := .unlocked, nonce := none, fails := 0 } } : State).raise 0x0C06
          [(1, 1), (1, pathNum q)])).answerSvc q 0x102 0 []
      else s.unlockFailed.answerSvc q 0x102 6 []

/-- A session ends by SESSION_END: from CHALLENGED without counting a failure. -/
def State.sessionEnds (s : State) : State :=
  if s.svc.state = .challenged then { s with svc := { s.svc with state := .locked, path := 0, nonce := none } } else s.endSession

/-- SESSION_END: accepted in any state, on the session's own path. -/
def State.takeSessionEnd (s : State) (q : SvcSrc) (args : List Byte) : State :=
  if !argsFixed args 0 then s.answerSvc q 0x103 4 []
  else if s.otherPath q then s.answerSvc q 0x103 8 []
  else s.sessionEnds.answerSvc q 0x103 0 []

/-! ### Image operations (R79, R80) and records -/

/-- IMAGE_ERASE: SLOT (1 byte). Accepted, it is queued, sector by sector (R80). (DESIGN CHOICE: assumption log 21.) -/
def State.takeImageErase (s : State) (q : SvcSrc) (args : List Byte) : State :=
  let st := s.needSession q
  if !argsFixed args 1 then s.answerSvc q 0x110 4 []
  else if st ≠ 0 then s.answerSvc q 0x110 st []
  else if !s.img.service.writeEn then s.answerSvc q 0x110 6 []
  else match slotOf (fieldAt (argsOf args) 0 1) with
    | none => s.answerSvc q 0x110 4 []
    | some i =>
      if s.start.active = some i || 4 ≤ s.start.imgErases then s.answerSvc q 0x110 8 []
      else
        let t := s.flashQueue { cmd := { writer := 2, erase := true, addr := slotBase i, data := [] }, more := 3071, op := 0x110 }
        ({ t with start := { t.start with imgErases := t.start.imgErases + 1 } } : State).answerSvc q 0x110 0 []

/-- The bytes of a slot are erased: nothing but 0xFF since the last IMAGE_ERASE. -/
def Slot.blank (x : Slot) (off n : Nat) : Bool :=
  (List.range n).all fun i => (!x.factory || x.gone.get false ((off + i) / 4096)) && x.cells.get 0xFF (off + i) = 0xFF

/-- IMAGE_WRITE: SLOT (1 byte), OFFSET (4), the bytes. Accepted, it is queued (R80). (DESIGN CHOICE: assumption log 21.) -/
def State.takeImageWrite (s : State) (q : SvcSrc) (args : List Byte) : State :=
  let st := s.needSession q
  let a := argsOf args
  let off := fieldAt a 1 4
  let data := a.drop 5
  if !argLenOk args || a.length < 5 then s.answerSvc q 0x111 4 []
  else if st ≠ 0 then s.answerSvc q 0x111 st []
  else if !s.img.service.writeEn then s.answerSvc q 0x111 6 []
  else match slotOf (fieldAt a 0 1) with
    | none => s.answerSvc q 0x111 4 []
    | some i =>
      if 4096 < data.length || 0xC00000 < off + data.length || !(s.settled.slot i).blank off data.length then s.answerSvc q 0x111 4 []
      else if s.start.active = some i then s.answerSvc q 0x111 8 []
      else
        (s.flashQueue { cmd := { writer := 2, erase := false, addr := slotBase i + off, data := data }, op := 0x111 }).answerSvc
          q 0x111 0 []

/-- IMAGE_CHECK: SLOT (1 byte), judged behind the image operations that are queued; the reply holds the reason code, 0 for
pass, and whether the slot would be chosen first. (DESIGN CHOICE: assumption log 21.) -/
def State.takeImageCheck (s : State) (q : SvcSrc) (args : List Byte) : State :=
  let st := s.needSession q
  if !argsFixed args 1 then s.answerSvc q 0x112 4 []
  else if st ≠ 0 then s.answerSvc q 0x112 st []
  else match slotOf (fieldAt (argsOf args) 0 1) with
    | none => s.answerSvc q 0x112 4 []
    | some i =>
      let r := s.settled.slotReason (s.settled.slot i)
      (s.imageOp 0x112 (slotNum i) r).answerSvc q 0x112 0 (leBytes 1 r ++ leBytes 1 (b2n (s.settled.firstChoice = some i)))

/-- Most bytes a REPLY can carry (R437, Table 4.12). -/
def maxRead : Nat := 4088

/-- IMAGE_READ: SLOT (1 byte), OFFSET (4), LENGTH (2). (DESIGN CHOICE: assumption log 21.) -/
def State.takeImageRead (s : State) (q : SvcSrc) (args : List Byte) : State :=
  let st := s.needSession q
  let a := argsOf args
  let off := fieldAt a 1 4
  let n := fieldAt a 5 2
  if !argsFixed args 7 then s.answerSvc q 0x113 4 []
  else if st ≠ 0 then s.answerSvc q 0x113 st []
  else match slotOf (fieldAt a 0 1) with
    | none => s.answerSvc q 0x113 4 []
    | some i =>
      if maxRead < n || 0xC00000 < off + n then s.answerSvc q 0x113 4 []
      else s.answerSvc q 0x113 0 ((s.settled.slot i).bytes off n)

/-- Base and size of a region of RECORD_READ (Table 13.6, Table 2.1). -/
def recordRegion (r : Nat) : Option (Nat × Nat) :=
  if r = 0 then some (0x1C00000, 0x40000) else if r = 1 then some (0x1C40000, 0x40000)
  else if r = 2 then some (0x1C80000, 0x380000) else if r = 3 then some (0x1800000, 0x400000) else none

/-- RECORD_READ: REGION (1 byte), OFFSET (4), LENGTH (2). -/
def State.takeRecordRead (s : State) (q : SvcSrc) (args : List Byte) : State :=
  let st := s.needSession q
  let a := argsOf args
  let off := fieldAt a 1 4
  let n := fieldAt a 5 2
  if !argsFixed args 7 then s.answerSvc q 0x120 4 []
  else if st ≠ 0 then s.answerSvc q 0x120 st []
  else match recordRegion (fieldAt a 0 1) with
    | none => s.answerSvc q 0x120 4 []
    | some r =>
      if n = 0 || maxRead < n || r.2 < off + n then s.answerSvc q 0x120 4 []
      else s.answerSvc q 0x120 0 (s.flash.bytes (r.1 + off) n)

/-! ### LINK_SELFTEST (R112) -/

/-- Safety state and lines allow a self-test. -/
def State.selftestAllowed (s : State) : Bool :=
  s.start.state = .serviceOnly || (s.safety.state = .dark && !s.safety.lbreq)

/-- LINK_SELFTEST: LOOPBACK (1 byte: 0 near-end serial, 1 near-end parallel), lane mask (1), generation (1), 0,
duration in ms (2). (DESIGN CHOICE: assumption log 21.) -/
def State.takeSelftest (s : State) (q : SvcSrc) (args : List Byte) : State :=
  let st := s.needSession q
  let a := argsOf args
  let kind := fieldAt a 0 1
  let lanes := fieldAt a 1 1
  let gen := fieldAt a 2 1
  let ms := fieldAt a 4 2
  if !argsFixed args 6 then s.answerSvc q 0x130 4 []
  else if st ≠ 0 then s.answerSvc q 0x130 st []
  else if 1 < kind || lanes = 0 || 15 < lanes || gen = 0 || 3 < gen || ms = 0 || 1000 < ms then s.answerSvc q 0x130 4 []
  else if !s.selftestAllowed then s.answerSvc q 0x130 8 []
  else
    let t := (s.answerSvc q 0x130 0 []).endSession
    let u := t.startLoopback (kind + 1) 0
    { u with
      portA := { u.portA with gen := gen }
      selfTest := { running := true, gen := gen, ms := ms, lanes := BitVec.ofNat 4 lanes, errors := [], locks := 0 } }

/-! ### Perturbation controls (R374, R375) -/

/-- Ranges of Table 13.8. -/
def perturbOk (c t : Nat) (v : BitVec 32) : Bool :=
  let n := v.toNat
  if c = 1 then t ≤ 31 && n = 1
  else if c = 2 then t % 16 ≤ 10 && t / 256 = 0 && 1 ≤ n && n ≤ 255
  else if c = 3 then t ≤ 63 && 1 ≤ n && n ≤ 65535
  else if c = 4 then t ≤ 2 && -1000000 ≤ v.toInt && v.toInt ≤ 1000000
  else if c = 5 then t / 256 ≤ 71 && (t % 4 = 1 || t % 4 = 2) && n % 8 = 0 && n < 0x1000000
  else if c = 6 then t = 0 || (t ≤ 2 && n ≤ 63)
  else if c = 7 then t ≤ 47
  else if c = 8 then t ≤ 511 && 1 ≤ n && n ≤ 255
  else if c = 9 then t ≤ 69
  else if c = 10 then t = 0 && 1 ≤ n && n ≤ 65535
  else false

/-- A CVU context's VALUE is written (R284): contexts 0-11 and 12-23 are the layers' running and checkpoint contexts. -/
def State.writeCvu (s : State) (n : Nat) (v : BitVec 32) : State :=
  if n < 12 then s.modLayer n fun l => { l with run := l.run.map fun r => { r with crc := v } }
  else if n < 24 then s.modLayer (n - 12) fun l => { l with chk := l.chk.map fun r => { r with crc := v } }
  else
    let w := if (s.cvu.get {} n).alg = 1 then v &&& 0xFFFF else v
    { s with cvu := s.cvu.modify {} n fun c => { c with value := w } }

/-- Insert a control in ascending order. -/
def putControl (p : Perturb) : List Perturb → List Perturb
  | [] => [p]
  | x :: l => if p.control < x.control then p :: x :: l else if x.control = p.control then p :: l else x :: putControl p l

/-- A control takes effect; CVU_WRITE acts at once and is then inactive. -/
def State.perturbOn (s : State) (p : Perturb) : State :=
  let t := if p.control = 7 then s.writeCvu p.target p.value
    else { s with svc := { s.svc with perturb := putControl p s.svc.perturb } }
  t.raise 0x0C0A [(1, p.control), (2, p.target), (4, p.value.toNat)]

/-- The second condition of R374 for a perturbation from a session. (DESIGN CHOICE: assumption log 46.) -/
def State.perturbCondition (s : State) : Bool :=
  s.svc.state = .unlocked && !s.safety.lbreq && s.safety.state = .dark

/-- PERTURB_SET (Table 13.7). (DESIGN CHOICE: assumption log 46.) -/
def State.takePerturbSet (s : State) (q : SvcSrc) (args : List Byte) : State :=
  let a := argsOf args
  let c := fieldAt a 0 1
  let t := fieldAt a 2 2
  let v : BitVec 32 := BitVec.ofNat 32 (fieldAt a 4 4)
  let st := if s.testPath q then 0 else if s.needSession q ≠ 0 then s.needSession q
    else if s.img.perturbEn && s.perturbCondition then 0 else 6
  if !argsFixed args 12 then s.answerSvc q 0x140 4 []
  else if st ≠ 0 then s.answerSvc q 0x140 st []
  else if !perturbOk c t v then s.answerSvc q 0x140 4 []
  else (s.perturbOn { control := c, target := t, value := v, uart := s.testPath q, left := v.toNat }).answerSvc q 0x140 0 []

/-- PERTURB_CLEAR: CONTROL (1 byte), 0xFF for all. -/
def State.takePerturbClear (s : State) (q : SvcSrc) (args : List Byte) : State :=
  let c := fieldAt (argsOf args) 0 1
  let st := if s.testPath q then 0 else s.needSession q
  let hit (p : Perturb) : Bool := c = 0xFF || p.control = c
  if !argsFixed args 1 then s.answerSvc q 0x141 4 []
  else if st ≠ 0 then s.answerSvc q 0x141 st []
  else if c ≠ 0xFF && (c = 0 || 10 < c) then s.answerSvc q 0x141 4 []
  else
    let t := s.cond (s.svc.perturb.any hit) fun u =>
      ({ u with svc := { u.svc with perturb := u.svc.perturb.filter fun p => !hit p } } : State).raise 0x0C0B [(1, c)]
    t.answerSvc q 0x141 0 []

/-- The 16 bytes of one control in PERTURB_STATUS: its arguments of Table 13.7, and zeros. -/
def Perturb.bytes (p : Perturb) : List Byte :=
  leBytes 2 p.control ++ leBytes 2 p.target ++ leBytes 4 p.value.toNat ++ List.replicate 8 0

/-- PERTURB_STATUS. -/
def State.takePerturbStatus (s : State) (q : SvcSrc) (args : List Byte) : State :=
  let st := if s.testPath q then 0 else s.needSession q
  if !argsFixed args 0 then s.answerSvc q 0x142 4 []
  else if st ≠ 0 then s.answerSvc q 0x142 st []
  else s.answerSvc q 0x142 0 (s.svc.perturb.flatMap Perturb.bytes)

/-- The condition of an active control has ended (R375). (DESIGN CHOICE: assumption log 46.) -/
def State.perturbEnded (s : State) (p : Perturb) : Bool :=
  if p.uart then !s.start.testEn else !s.perturbCondition

/-- Controls whose condition has ended are cleared, each with event 0x0C0B, all at once with 0xFF. -/
def State.clearEnded (s : State) : State :=
  let gone := s.svc.perturb.filter s.perturbEnded
  let t : State := { s with svc := { s.svc with perturb := s.svc.perturb.filter fun p => !s.perturbEnded p } }
  if gone.isEmpty then s
  else if t.svc.perturb.isEmpty && 1 < gone.length then t.raise 0x0C0B [(1, 0xFF)]
  else gone.foldl (fun u p => u.raise 0x0C0B [(1, p.control)]) t

/-- A restart of the MP ends every perturbation (R365). -/
def State.clearControls (s : State) : State :=
  if s.svc.perturb.isEmpty then s
  else ({ s with svc := { s.svc with perturb := [] } } : State).raise 0x0C0B [(1, 0xFF)]

/-- TEST_EN falls: the test access port returns to test-logic reset (R430), and a near-end loopback that TEST_EN started
ends (R110). (DESIGN CHOICE: assumption log 20.) -/
def State.testEnLow (s : State) : State :=
  let t : State := { s with start := { s.start with testEn := false }, tap := {} }
  if s.portA.st = .loopback && s.portA.loopback = 1 && !s.selfTest.running then
    ((t.loopEvent 1 false).loopEvent 2 false).modPort .a Port.toDetect
  else t

/-- PERTURB_OFF (R375). -/
def execPerturbOff (testEnFell : Bool) (s : State) : Host.Outcome State Fault Refusal :=
  .next ((s.cond (testEnFell && s.start.testEn) State.testEnLow).clearEnded)

/-! ### The commands -/

/-- UNLOCK_REQ (R373). -/
def execUnlockReq (q : SvcSrc) (args : List Byte) (s : State) : Host.Outcome State Fault Refusal :=
  .next (s.service (.unlockReq q args) q 0x101 args 4 fun t => t.takeUnlockReq q args)
/-- UNLOCK_RESP (R373). -/
def execUnlockResp (q : SvcSrc) (args : List Byte) (s : State) : Host.Outcome State Fault Refusal :=
  .next (s.service (.unlockResp q args) q 0x102 args 4 fun t => t.takeUnlockResp q args)
/-- SESSION_END (R372). -/
def execSessionEnd (q : SvcSrc) (args : List Byte) (s : State) : Host.Outcome State Fault Refusal :=
  .next (s.service (.sessionEnd q args) q 0x103 args 4 fun t => t.takeSessionEnd q args)
/-- IMAGE_ERASE (R79). -/
def execImageErase (q : SvcSrc) (args : List Byte) (s : State) : Host.Outcome State Fault Refusal :=
  .next (s.service (.imageErase q args) q 0x110 args 2 fun t => t.takeImageErase q args)
/-- IMAGE_WRITE (R79). -/
def execImageWrite (q : SvcSrc) (args : List Byte) (s : State) : Host.Outcome State Fault Refusal :=
  .next (s.service (.imageWrite q args) q 0x111 args 2 fun t => t.takeImageWrite q args)
/-- IMAGE_CHECK (R79). -/
def execImageCheck (q : SvcSrc) (args : List Byte) (s : State) : Host.Outcome State Fault Refusal :=
  .next (s.service (.imageCheck q args) q 0x112 args 2 fun t => t.takeImageCheck q args)
/-- IMAGE_READ (R79). -/
def execImageRead (q : SvcSrc) (args : List Byte) (s : State) : Host.Outcome State Fault Refusal :=
  .next (s.service (.imageRead q args) q 0x113 args 2 fun t => t.takeImageRead q args)
/-- RECORD_READ (Table 13.6). -/
def execRecordRead (q : SvcSrc) (args : List Byte) (s : State) : Host.Outcome State Fault Refusal :=
  .next (s.service (.recordRead q args) q 0x120 args 2 fun t => t.takeRecordRead q args)
/-- LINK_SELFTEST (R112). -/
def execLinkSelftest (q : SvcSrc) (args : List Byte) (s : State) : Host.Outcome State Fault Refusal :=
  .next (s.service (.linkSelftest q args) q 0x130 args 2 fun t => t.takeSelftest q args)
/-- PERTURB_SET (R374). -/
def execPerturbSet (q : SvcSrc) (args : List Byte) (s : State) : Host.Outcome State Fault Refusal :=
  .next (s.service (.perturbSet q args) q 0x140 args (perturbWho q) fun t => t.takePerturbSet q args)
/-- PERTURB_CLEAR (R374). -/
def execPerturbClear (q : SvcSrc) (args : List Byte) (s : State) : Host.Outcome State Fault Refusal :=
  .next (s.service (.perturbClear q args) q 0x141 args (perturbWho q) fun t => t.takePerturbClear q args)
/-- PERTURB_STATUS (R374). -/
def execPerturbStatus (q : SvcSrc) (args : List Byte) (s : State) : Host.Outcome State Fault Refusal :=
  .next (s.service (.perturbStatus q args) q 0x142 args (perturbWho q) fun t => t.takePerturbStatus q args)

/-- UNKNOWN_OPCODE (R437): BAD_OPCODE, whatever else is wrong. -/
def execUnknownOpcode (src : OpSrc) (opcode : BitVec 16) (args : List Byte) (s : State) : Host.Outcome State Fault Refusal :=
  match src with
  | .request h =>
    .next (s.receive (.unknownOpcode src opcode args) (requestRx h opcode.toNat args) fun t => t.takeUnknown h opcode.toNat)
  | .service q =>
    .next (s.service (.unknownOpcode src opcode args) q opcode.toNat args 2 fun t => t.answerSvc q opcode.toNat 3 [])

/-- UART_GAP_TIMEOUT: the bytes of the frame so far are dropped (R371). (DESIGN CHOICE: assumption log 32.) -/
def execUartGapTimeout (s : State) : Host.Outcome State Fault Refusal := .next { s with svc := { s.svc with uartRx := [] } }

/-- CHALLENGE_TIMEOUT: 10 s without a RESPONSE count a failure (R372). (DESIGN CHOICE: assumption log 9.) -/
def execChallengeTimeout (s : State) : Host.Outcome State Fault Refusal :=
  .next (if s.svc.state = .challenged then s.unlockFailed else s)

/-- LOCKOUT_END: LOCKOUT_S has elapsed; the end is written to the safety records (R372). -/
def execLockoutEnd (s : State) : Host.Outcome State Fault Refusal :=
  .next (if s.svc.state = .lockout then { s with svc := { s.svc with state := .locked, lockRec := false } } else s)

end Sys2Proof.Machine
end

