-- ==== Sys2Proof/Machine/Resume.lean ====
section
/-!
DEFINITION. Operations that waited, for the MP or for a bank, are served in order once they may be (13 R366, 01 R31, 06
R172): judged as they are served, bound by their own arrival (assumption log 10).
-/
namespace Sys2Proof.Machine

/-- A T512 frame that waited, with its arrival. -/
def State.consumeFrame (s : State) (a : Stamp) : Instr → State
  | .regWrite _ f => s.takeFrame 1 f a
  | .softReset _ f => s.takeFrame 1 f a
  | .faultIdxWrite f => s.takeFrame 1 f a
  | .regRead f => s.takeFrame 2 f a
  | .faultEntryRead f => s.takeFrame 2 f a
  | .legacyStatusRead f => s.takeFrame 2 f a
  | .linkErrCntRead f => s.takeFrame 2 f a
  | .lowByteRead f => s.takeFrame 2 f a
  | .lines _ f => s.takeFrame 3 f a
  | .showRows _ f => s.takeFrame 4 f a
  | .legacyEcho f => s.takeFrame 5 f a
  | .frameRejected t f => s.takeFrame t.toNat f a
  | _ => s

/-- A service operation that waited. -/
def State.consumeService (s : State) (a : Stamp) : Instr → State
  | .linkSelftest q args => s.takeSelftest q args
  | .unlockReq q args => s.takeUnlockReq q args
  | .unlockResp q args => s.takeUnlockResp q args
  | .sessionEnd q args => s.takeSessionEnd q args
  | .imageErase q args => s.takeImageErase q args
  | .imageWrite q args => s.takeImageWrite q args
  | .imageCheck q args => s.takeImageCheck q args
  | .imageRead q args => s.takeImageRead q args
  | .recordRead q args => s.takeRecordRead q args
  | .perturbSet q args => s.takePerturbSet q args
  | .perturbClear q args => s.takePerturbClear q args
  | .perturbStatus q args => s.takePerturbStatus q args
  | .unknownOpcode (.service q) op _ => s.answerSvc q op.toNat 3 []
  | i => s.consumeFrame a i

/-- A waiting operation is consumed. -/
def State.consumeLater (s : State) (w : Wait) : State :=
  match w.cmd with
  | .write _ n payload corrected bad => s.takeWrite n.val (fieldAt payload 0 4) (payload.drop 8) corrected bad
  | .surfaceComplete _ h n payload => s.takeComplete h n.val payload w.stamp
  | .descriptor h payload => s.takeDescriptor h payload
  | .commit _ h payload => s.takeCommit h payload w.stamp
  | .pour _ h payload => s.takePour h payload w.content0
  | .zonePlain h payload => s.takePlain h payload
  | .zoneCompl h payload => s.takeCompl h payload
  | .sync _ _ payload => s.takeSync payload w.stamp
  | .followUp _ _ payload => s.takeFollowUp payload w.stamp
  | .delayResp _ _ payload => s.takeDelayResp payload w.stamp
  | .statusRead h args => s.takeStatusRead h args
  | .modeSelect _ h args => s.takeModeSelect h args w.stamp
  | .profileSelect _ h args => s.takeProfileSelect h args w.stamp
  | .masterDimmer _ h args => s.takeMasterDimmer h args w.stamp
  | .addrSet h args => s.takeAddrSet h args
  | .safetyRecover h args => s.takeRecover h args
  | .echo h args => s.takeEcho h args
  | .unknownOpcode (.request h) op _ => s.takeUnknown h op.toNat
  | i => s.consumeService w.stamp i

/-- One waiting operation is consumed, its credits freed; or it stays, with those behind it in its queue. -/
def State.serveOne (s : State) (w : Wait) : State :=
  if s.mustWait w then { s with link := { s.link with waiting := s.link.waiting ++ [w] } }
  else (s.consumeLater w).freeShared w

/-- The waiting operations whose consumer takes them now, oldest first (R31, R366). (DESIGN CHOICE: assumption log 10.) -/
def State.serveWaiting (s : State) : State :=
  s.link.waiting.foldl State.serveOne { s with link := { s.link with waiting := [] } }

/-- The MP is ready: the waiting events and replies pass to their queues (R366). (DESIGN CHOICE: assumption log 10.) -/
def State.mpIsReady (s : State) : State := ({ s with mp := { s.mp with ready := true } } : State).flushAon.flushReplies

/-- SESSION_IDLE_TIMEOUT: 300 s without an operation (R372); operations that waited for the MP are the SP's from now on (R31). -/
def execSessionIdleTimeout (s : State) : Host.Outcome State Fault Refusal := .next s.endSession.serveWaiting

end Sys2Proof.Machine
end

