-- ==== Sys2Proof/Machine/Banks.lean ====
section
/-!
DEFINITION. The commands of the bank arbiters after which a bank may serve again (06): a decision, FREEZE, a broken lock, the
arbiter watchdog. Engine accesses that waited for the bank follow at once (assumption log 10).
-/
namespace Sys2Proof.Machine

/-- ARBITER_DECISION: the requests present join the ports; one decision follows, unless the bank waits for its power or
initialisation (R172). -/
def execArbiterDecision (b : Fin 16) (reqs : List StoreReq) (s : State) : Host.Outcome State Fault Refusal :=
  let t := s.arrive b.val reqs
  .next (if t.groupReady (b.val / 8) then t.arbitrate b.val else t).serveWaiting

/-- FREEZE (R186). -/
def execFreeze (b : Fin 16) (on : Bool) (s : State) : Host.Outcome State Fault Refusal :=
  .next (s.modBank b.val fun k => { k with freeze := on }).serveWaiting

/-- LOCK_BROKEN: the owner is reset or signals a fault (R183). Table 15.7 gives the pointer beside bank and owner. -/
def execLockBroken (b : Fin 16) (s : State) : Host.Outcome State Fault Refusal :=
  let k := s.bank b.val
  match k.owner with
  | none => .next s
  | some o => .next ((s.breakLock b.val o (seqOf o k.reqs) (dropSeq o k.reqs)).raise 0x0303 [(1, b.val), (1, o), (1, k.ptr)]).serveWaiting

/-- ARB_WATCHDOG: the lock is still held after WDOG_US (R184). Every request of the owner on the bank is discarded, each with
an abort. -/
def execArbWatchdog (b : Fin 16) (s : State) : Host.Outcome State Fault Refusal :=
  let k := s.bank b.val
  match k.owner with
  | none => .next s
  | some o =>
    let t := s.breakLock b.val o (k.reqs.filter fun r => r.who = o) (k.reqs.filter fun r => r.who ≠ o)
    .next ((t.modBank b.val fun x => { x with wdog := true }).raise 0x0304 [(1, b.val), (1, o), (1, k.ptr)]).serveWaiting

end Sys2Proof.Machine
end

