-- ==== Sys2Proof/Machine/Quads.lean ====
section
/-!
DEFINITION. A quadrant going off and becoming ready (09 R264-R266). WAKE_CATCHUP stands with the scan-out, in Scan.
-/
namespace Sys2Proof.Machine

/-- What a tile without power keeps: what the engine holds for it. -/
def Tile.unpowered (x : Tile) : Tile :=
  { req := x.req, gapFails := x.gapFails, sweepRow := x.sweepRow, overdue := x.overdue
    ceilSeen := x.ceilSeen, ignored := x.ignored }

/-- A tile sensor without supply is UNAVAILABLE, unless it is FAILED (Table 12.2). (DESIGN CHOICE: assumption log 43.) -/
def TSensor.unpowered (x : TSensor) : TSensor :=
  if x.state = .failed then x
  else { x with state := .unavailable, before := if x.state = .unavailable then x.before else x.state, inr := 0, oor := 0 }

/-- The latches of a quadrant read code 0. -/
def State.clearLatches (s : State) (q : Nat) : State :=
  { s with latches := s.latches.filter fun x => quadOfTile (tileOfPixel x.1) ≠ q }

/-- A quadrant's domain switch opens (R264). -/
def State.dropQuad (s : State) (q : Nat) : State :=
  let t := s.modQuad q fun k =>
    { k with powered := false, ready := false, on := false, granted := false, waking := false, fresh := false, heldSegs := [], answers := [] }
  (t.clearLatches q).forEach (tilesOfQuad q) fun u x =>
    (u.modTile x Tile.unpowered).setTsensor x (u.tsensor x).unpowered

/-- QUAD_OFF: the first period boundary of a tile after the grant (R264). -/
def execQuadOff (q : Fin 4) (s : State) : Host.Outcome State Fault Refusal :=
  let k := s.quad q
  if k.granted && k.powered && !k.lit && !k.forced then .next ((s.dropQuad q).raise 0x0603 [(1, q.val)])
  else .next s

/-- What a tile holds at the end of a wake (Table 9.5): ceiling, PWM_SET and ALIGN, CUR_SET, thresholds. -/
def State.wakeTile (s : State) (t : Nat) : State :=
  let b := s.tileBand t
  let c := min (s.fusedCeil t) s.drive.cl
  let p := s.pwmPeriod
  s.modTile t fun x =>
    { x with
      ceil := some (BitVec.ofNat 8 c), tgt := x.req, slew := max 1 (s.slewOf t)
      period := BitVec.ofNat 28 p, periodNew := none, phase := none, start := 256 * s.tileNow
      align := some (s.alignAt s.grid.lastL p t)
      openMv := s.img.thermal.openMv.getD b 150, shortMv := s.img.thermal.shortMv.getD b 1800 }

/-- QUAD_READY: the quadrant takes commands and segments; the Rind paints it where it paints (R265, R319). Completion
follows at the next latch point (R266). -/
def execQuadReady (q : Fin 4) (s : State) : Host.Outcome State Fault Refusal :=
  let k := s.quad q
  if k.waking && k.powered then
    let t := s.modQuad q fun x => { x with ready := true, on := true, waking := false, fresh := true }
    .next ((t.forEach (tilesOfQuad q) State.wakeTile).paintQuad q)
  else .next s

end Sys2Proof.Machine
end

