-- ==== Sys2Proof/Machine/Registers.lean ====
section
/-!
DEFINITION. The MP's register bridge (13 R362, Table 13.1): a write to a register that has a command of its own acts as that
command; the others, the W1C bits among them, here; and what a read of each register answers.
-/
namespace Sys2Proof.Machine

/-- The MP runs: PD10 is on and it is not held off. -/
def State.mpRuns (s : State) : Bool := s.power.pd10 && !s.mp.heldOff

/-- An MP access that ends in a bus error (R362). -/
def State.badAccess (s : State) (addr : Nat) : State := s.raise 0x0C05 [(1, 0), (4, addr)]

/-- The state an outcome leaves; the meanings called here always answer one. -/
def landed (s : State) (o : Host.Outcome State Fault Refusal) : State :=
  match o with
  | .next t => t
  | _ => s

/-- ARB_CTRL (Table 6.5a). -/
def State.writeArbCtrl (s : State) (b : Fin 16) (v : BitVec 32) : State :=
  let t := landed s (execFreeze b (v.getLsbD 0) s)
  t.cond (v.getLsbD 1) fun u => landed u (execSwap b u)

/-- ARB_STAT: writing 1 clears SHADOW_BUSY, LOCK_BROKEN, WDOG_BIT, ACCESS_ERR (Table 6.5b). -/
def State.writeArbStat (s : State) (b : Fin 16) (v : BitVec 32) : State :=
  s.modBank b.val fun k =>
    { k with busyBit := k.busyBit && !v.getLsbD 8, broken := k.broken && !v.getLsbD 7, wdog := k.wdog && !v.getLsbD 6
             access := k.access && !v.getLsbD 5 }

/-- STORE_WDOG (Table 6.5e). -/
def State.writeWdog (s : State) (v : BitVec 32) : State :=
  let n := v.toNat % 128
  if s.store.wlock || n = 0 || 100 < n then s else { s with store := { s.store with wdogUs := n } }

/-- The store page (Table 6.4). -/
def State.writeStorePage (s : State) (addr : Nat) (v : BitVec 32) : State :=
  let off := addr % 0x100
  if addr = 0x1000 then s.writeWdog v
  else if h : addr / 0x100 < 16 then
    let b : Fin 16 := ⟨addr / 0x100, h⟩
    if off = 0 then s.writeArbCtrl b v
    else if off = 4 then if s.wordOff (0x300 + b.val) then s.badAccess addr else s.writeArbStat b v
    else if 0x30 ≤ off && off < 0x50 && off % 4 = 0 then
      landed s (execSlotShadowWrite b ⟨(off - 0x30) / 4 % 8, Nat.mod_lt _ (by decide)⟩ v s)
    else if (0x10 ≤ off && off < 0x30 && off % 4 = 0) || off = 0x50 || off = 0x54 then s
    else s.badAccess addr
  else s.badAccess addr

/-- DRV_QPWR: a bit written 1 requests its quadrant off, one that falls wakes it (R263, Table 9.10). -/
def State.writeQpwr (s : State) (v : BitVec 32) : State :=
  [(0 : Fin 4), 1, 2, 3].foldl (fun t q =>
    if v.getLsbD q.val then landed t (execOffReq q t)
    else if (t.quad q.val).offReq then landed t (execWakeReq q t) else t) s

/-- DRV_QDARK (Table 9.11). -/
def State.writeQdark (s : State) (v : BitVec 32) : State :=
  let n := v.toNat % 65536
  if s.drive.qlock || n < 100 || 60000 < n then s else { s with drive := { s.drive with qdarkMs := n } }

/-- The drive page (Table 9.8). -/
def State.writeDrivePage (s : State) (off addr : Nat) (v : BitVec 32) : State :=
  let k : Fin 64 := ⟨off / 4 % 64, Nat.mod_lt _ (by decide)⟩
  if off % 4 ≠ 0 then s.badAccess addr
  else if off < 0x100 then landed s (execDrvTileWrite k v s)
  else if off = 0x100 then s.writeQpwr v
  else if off = 0x104 then s.writeQdark v
  else if off = 0x108 || off = 0x10C then s
  else if 0x200 ≤ off && off < 0x300 then landed s (execDrvStripeWrite k v s)
  else s.badAccess addr

/-- The CVU page (Table 10.5a): contexts 36-39 and 44-47 are written; PAR_ERR of any context is W1C. Without PD3 the
access is refused (R40). -/
def State.writeCvuPage (s : State) (off addr : Nat) (v : BitVec 32) : State :=
  let n := off / 8
  let own := (36 ≤ n && n ≤ 39) || (44 ≤ n && n ≤ 47)
  if 48 ≤ n || off % 4 ≠ 0 || !s.power.pd3 then s.badAccess addr
  else if off % 8 = 0 then
    if own then { s with cvu := s.cvu.modify {} n fun c => { c with value := if c.alg = 1 then v &&& 0xFFFF else v } } else s
  else
    { s with cvu := s.cvu.modify {} n fun c =>
      { c with parErr := c.parErr && !v.getLsbD 4, alg := if own then v.toNat % 8 else c.alg } }

/-- AFF_W (Table 12.4). -/
def State.writeAffW (s : State) (off addr : Nat) (v : BitVec 32) : State :=
  if off % 4 ≠ 0 || 0x100 ≤ off then s.badAccess addr
  else { s with affin := { s.affin with weights := s.affin.weights.set 0 (off / 4) (v.toNat % 0x2000000) } }

/-- The NVM page (Table 13.4): RESERVE is written, the rest is read-only. -/
def State.writeNvmPage (s : State) (off addr : Nat) (v : BitVec 32) : State :=
  if off = 8 then s.doReserve (v.toNat % 0x800000) else if off = 0 || off = 4 || off = 12 then s else s.badAccess addr

/-- A write at a bridge address. (DEDUCED: assumption log 47.) -/
def State.bridgeWrite (s : State) (addr : Nat) (v : BitVec 32) : State :=
  let off := addr % 0x2000
  match addr / 0x2000 with
  | 0 => s.writeStorePage addr v
  | 1 => s.writeDrivePage off addr v
  | 2 => if off = 0 then landed s (execDiagCtrlWrite v s) else s.badAccess addr
  | 3 => s.writeCvuPage off addr v
  | 4 => s.writeAffW off addr v
  | 5 => s.writeNvmPage off addr v
  | 6 => s
  | _ => s.badAccess addr

/-! ### Reads -/

/-- A word of the active or the shadow table (Table 6.5c). -/
def slotWord (m : Sparse (BitVec 4)) (j : Nat) : Nat :=
  (List.range 8).foldl (fun n i => n + (slotEntry m (8 * j + i)).toNat * 16 ^ i) 0

/-- Turn hints of requesters `lo` to `lo + n - 1` (Table 6.5d). -/
def Bank.turnWord (k : Bank) (lo n : Nat) : Nat := (List.range n).foldl (fun v i => v + k.turnHint (lo + i) * 16 ^ i) 0

/-- A read of the store page (Tables 6.4 to 6.5e); none at an unlisted offset. -/
def State.readStorePage (s : State) (addr : Nat) : Option Nat :=
  let k := s.bank (addr / 0x100)
  let off := addr % 0x100
  if addr = 0x1000 then some (b2n s.store.wlock * 2 ^ 31 + s.store.wdogUs)
  else if 16 ≤ addr / 0x100 || off % 4 ≠ 0 then none
  else if off = 0 then some (b2n k.freeze)
  else if off = 4 then if s.wordOff (0x300 + addr / 0x100) then none else some (s.arbStat (addr / 0x100))
  else if 0x10 ≤ off && off < 0x30 then some (slotWord k.active ((off - 0x10) / 4))
  else if 0x30 ≤ off && off < 0x50 then some (slotWord k.shadow ((off - 0x30) / 4))
  else if off = 0x50 then some (k.turnWord 0 8)
  else if off = 0x54 then some (k.turnWord 8 3)
  else none

/-- DRV_QDARK (Table 9.11). -/
def State.drvQdark (s : State) : Nat := b2n s.drive.qlock * 2 ^ 31 + s.drive.qdarkMs

/-- A read of the drive page (Table 9.8). -/
def State.readDrivePage (s : State) (off : Nat) : Option Nat :=
  if off % 4 ≠ 0 then none
  else if off < 0x100 then some (s.drvTile (off / 4))
  else if off = 0x100 then some s.drvQpwr
  else if off = 0x104 then some s.drvQdark
  else if off = 0x108 then some s.drvModlim
  else if off = 0x10C then some s.comp.master.val
  else if 0x200 ≤ off && off < 0x300 then some (s.out.stripeNext.get 0x8000 ((off - 0x200) / 4))
  else none

/-- VALUE of a CVU context: 0 to 11 and 12 to 23 are the layers' running and checkpoint contexts (Table 10.4). -/
def State.cvuValue (s : State) (n : Nat) : BitVec 32 :=
  let of (r : Option Run) : BitVec 32 := (r.map fun x => x.crc).getD 0xFFFFFFFF
  if n < 12 then of (s.layer n).run else if n < 24 then of (s.layer (n - 12)).chk else (s.cvu.get {} n).value

/-- A read of the CVU page (Table 10.5a). -/
def State.readCvuPage (s : State) (off : Nat) : Option Nat :=
  let n := off / 8
  let c := s.cvu.get {} n
  let broken := n < 12 && ((s.layer n).run.any fun r => r.broken)
  if 48 ≤ n || off % 4 ≠ 0 || !s.power.pd3 then none
  else if off % 8 = 0 then some (s.cvuValue n).toNat
  else some (b2n c.parErr * 16 + b2n broken * 8 + c.alg % 8)

/-- A read of the NVM page (Table 13.4). -/
def State.readNvmPage (s : State) (off : Nat) : Option Nat :=
  let v := s.nvmRefill.nvm
  if off = 0 then some v.prog else if off = 4 then some (v.erase * 2 ^ 16 + v.refused) else if off = 8 then some 0
  else if off = 12 then some (b2n v.reserveOk) else none

/-- What the MP reads at a bridge address; none where the access is a bad one. The thermal page's offsets, which no table gives,
are taken as the words of status area 0x09 in order. (DEDUCED: assumption log 47.) -/
def State.bridgeRead (s : State) (addr : Nat) : Option Nat :=
  let off := addr % 0x2000
  match addr / 0x2000 with
  | 0 => s.readStorePage addr
  | 1 => s.readDrivePage off
  | 2 => if off = 0 then some (s.diag.sweepMs * 2 ^ 16 + s.diag.gapMs * 2 ^ 8) else none
  | 3 => s.readCvuPage off
  | 4 => if off % 4 ≠ 0 || 0x100 ≤ off then none else some (s.affin.weights.get 0 (off / 4))
  | 5 => s.readNvmPage off
  | 6 => if off % 4 ≠ 0 then none else s.word09 (0x900 + off / 4)
  | _ => none

/-- An MP read: its word, and the state after it: the read of REFUSED clears it (R18, Table 13.4), a bad access raises event
0x0C05. The table has no command for it. (DEDUCED: assumption log 47.) -/
def State.mpRead (s : State) (addr : Nat) : State × BitVec 32 :=
  match s.bridgeRead addr with
  | none => (s.badAccess addr, 0)
  | some w =>
    (if addr = 0xA004 then s.nvmRefill.setNvm { s.nvmRefill.nvm with refused := 0 } else s, BitVec.ofNat 32 w)

/-- REGISTER_WRITE (R18, R362). (DEDUCED: assumption log 47.) -/
def execRegisterWrite (addr : BitVec 20) (v : BitVec 32) (s : State) : Host.Outcome State Fault Refusal :=
  .next (if s.mpRuns then s.bridgeWrite addr.toNat v else s)

/-- MP_BAD_ACCESS: a bus error and event 0x0C05 (R362). (DEDUCED: assumption log 47.) -/
def execMpBadAccess (addr : BitVec 32) (s : State) : Host.Outcome State Fault Refusal :=
  .next (if s.mpRuns then s.badAccess addr.toNat else s)

end Sys2Proof.Machine
end

