-- ==== Sys2Proof/Machine/Telemetry.lean ====
section
/-!
DEFINITION. EVENT packets and rate windows (15 R405, R406), the MP's records in flash (R411, R412).
-/
namespace Sys2Proof.Machine

/-! ### EVENT packets -/

/-- Records that fit a payload of `room` bytes, in order, marked with packet number `k`. -/
def markEvents (k : Nat) : Nat → List Event → List Event
  | _, [] => []
  | room, e :: l =>
    if e.pkt ≠ 0 then e :: markEvents k room l
    else if e.size ≤ room then { e with pkt := k } :: markEvents k (room - e.size) l
    else e :: l

/-- EVENT_PACKET: the waiting records, as many as a packet holds, are formed into one (R406); none in the legacy
personality (R407). (DESIGN CHOICE: assumption log 34.) -/
def execEventPacket (s : State) : Host.Outcome State Fault Refusal :=
  if s.start.pers = .legacy || s.ev.ring.all (fun e => e.pkt ≠ 0) then .next s
  else
    let k := s.ev.formed + 1
    .next { s with ev := { s.ev with formed := k, ring := markEvents k 4088 s.ev.ring } }

/-- EVENT_RATE_WINDOW: the second of a rated event ends: raised again with its count, or the window closes (R405). -/
def execEventRateWindow (code : BitVec 16) (key : Nat) (s : State) : Host.Outcome State Fault Refusal :=
  let hit (w : Window) : Bool := w.code = code && w.key = key
  match s.ev.windows.find? hit with
  | none => .next s
  | some w =>
    if w.count = 0 then .next { s with ev := { s.ev with windows := s.ev.windows.filter fun x => !hit x } }
    else
      let t := s.raise code.toNat (ratedData code.toNat w.count w.data)
      .next { t with ev := { t.ev with windows := t.ev.windows.map fun x => if hit x then { x with count := 0 } else x } }

/-! ### Start log (R411) -/

def startMagic : Nat := 0x4C4E4C44
def startLogBase : Nat := 0x1C40000

/-- A valid start log entry by its MAGIC. -/
def isStartEntry (e : List Byte) : Bool := fieldAt e 0 4 = startMagic
/-- START_COUNT of an entry. -/
def entryCount (e : List Byte) : Nat := fieldAt e 12 2

/-- The entry with the highest START_COUNT, and its place. -/
def State.lastStart (s : State) : Option (Nat × Nat) := s.ringLast startLogBase 4096 isStartEntry entryCount

/-- START_COUNT of this start. -/
def State.nextStartCount (s : State) : Nat := match s.lastStart with
  | some p => (p.1 + 1) % 65536
  | none => 0

/-- The entry (Table 15.8). -/
def State.startEntry (s : State) : List Byte :=
  let used := s.start.active.isSome
  let slot := match s.start.active with
    | some .a => 0
    | some .b => 1
    | none => 255
  withCrc (leBytes 4 startMagic ++ List.replicate 8 0 ++ leBytes 2 s.start.startCount ++ [0, 0] ++ leBytes 4 s.affin.opS
    ++ List.replicate 8 0 ++ leBytes 1 s.start.cause ++ leBytes 1 slot ++ leBytes 1 s.fuse.rollback
    ++ leBytes 1 (s.start.outcome.getD 0) ++ leBytes 1 s.start.reasonA ++ leBytes 1 s.start.reasonB ++ [0, 0]
    ++ leBytes 4 (if used then s.img.fwVersion.toNat else 0) ++ leBytes 4 (if used then s.img.seq.toNat else 0)
    ++ leBytes 4 (s.start.readyMs.getD 0xFFFFFFFF) ++ List.replicate 12 0)

/-- START_LOG_WRITE: once per start, after its outcome (R411). -/
def execStartLogWrite (s : State) : Host.Outcome State Fault Refusal :=
  if s.start.outcome.isNone || s.start.logged then .next s
  else
    let i := match s.lastStart with
      | some p => (p.2 + 1) % 4096
      | none => 0
    let t := s.mpWrite (startLogBase + 64 * i) s.startEntry (i % 64 = 0)
    .next { t with start := { t.start with logged := true } }

/-! ### Fault-map save (R412) -/

def mapMagic : Nat := 0x464E4C44
def mapCopies : List Nat := [0x1C80000, 0x1CC0000]

/-- Bytes of the fault map. -/
def mapBytes : Nat := 0x20000

/-- The fault map and the fault list. -/
def State.mapBody (s : State) : List Byte :=
  let es := s.diag.list.flatMap fun p => mapEntry p (s.diag.cause.get 0 p) false
  s.readBytes (s.regionBase 2) mapBytes ++ es ++ List.replicate (4 * listDepth - es.length) 0xFF

/-- The MP's budgets allow `n` erases and `bytes` programmed. -/
def State.budgetAllows (s : State) (n bytes : Nat) : Bool :=
  s.eraseFits n && (s.payErase n).progFits bytes

/-- FAULT_MAP_SAVE: the map and the list, alternately in two copies (R412). -/
def execFaultMapSave (s : State) : Host.Outcome State Fault Refusal :=
  if !s.mp.ready || !s.diag.mapDirty || !s.groupReady 0 then .next s
  else
    let body := s.mapBody
    let ok := s.budgetAllows (1 + ceilDiv body.length 4096) (body.length + 64)
    let t := s.saveCopy mapMagic mapCopies body
    .next { t with diag := { t.diag with mapDirty := !ok } }

/-- The list entries of a saved map, up to the first unused one (Table 10.10). -/
def savedList : Nat → List Byte → List (Nat × Nat)
  | 0, _ => []
  | n + 1, bs =>
    let w := fieldAt bs 0 4
    if w = 0xFFFFFFFF then [] else (w % 0x100000, w / 2 ^ 28) :: savedList n (bs.drop 4)

/-- The fault list comes from the latest saved copy (R412). -/
def State.restoreList (s : State) : State :=
  match s.latestCopy mapMagic (mapBytes + 4 * listDepth) mapCopies with
  | some a =>
    let es := savedList listDepth (s.flash.bytes (a + 0x1000 + mapBytes) (4 * listDepth))
    { s with diag := { s.diag with list := es.map Prod.fst, cause := es.foldl (fun m e => m.set 0 e.1 e.2) [] } }
  | none => { s with diag := { s.diag with list := [], cause := [] } }

/-- Region 2 and the fault list come from the latest saved copy, zeros without one (R412, 02 R69). -/
def State.restoreMap (s : State) : State :=
  let bits := match s.latestCopy mapMagic (mapBytes + 4 * listDepth) mapCopies with
    | some a => s.flash.bytes (a + 0x1000) mapBytes
    | none => List.replicate mapBytes 0
  (s.loadBytes (s.regionBase 2) bits).restoreList

/-! ### Telemetry history (R412) -/

def histMagic : Nat := 0x484E4C44
def histBase : Nat := 0x1D20000
def histSectors : Nat := 736

/-- An entry: operating time, start, status words, highest estimate. -/
def State.histEntry (s : State) : List Byte :=
  withCrc (leBytes 4 s.affin.opS ++ leBytes 4 s.start.startCount
    ++ ([0x0001, 0x0010, 0x0643, 0x0644, 0x0800, 0x09C5, 0x09CC, 0x0A01].flatMap fun i => leBytes 4 (s.statusWord i))
    ++ leBytes 4 (toField 32 (toS124 s.hottest)) ++ List.replicate 16 0)

/-- The header of a sector is valid. -/
def State.histHeader (s : State) (k : Nat) : Option Nat :=
  let h := s.flash.bytes (histBase + 4096 * k) 64
  if fieldAt h 0 4 = histMagic && fieldAt h 4 1 = 1 && fieldAt h 16 8 = s.fuse.serial.toNat && crcMatches h then some (fieldAt h 8 4)
  else none

/-- The newest sector and its SAVE_SEQ. -/
def State.histLast (s : State) : Option (Nat × Nat) :=
  (List.range histSectors).foldl (fun best k =>
    match s.histHeader k, best with
    | some q, some b => if b.2 < q then some (k, q) else some b
    | some q, none => some (k, q)
    | none, b => b) none

/-- The first erased entry of a sector. -/
def State.histFree (s : State) (k : Nat) : Option Nat :=
  ((List.range 63).map fun j => histBase + 4096 * k + 64 * (j + 1)).find? fun a => (s.flash.bytes a 64).all fun b => b = 0xFF

/-- A new sector of the ring: erased, its header, its first entry. -/
def State.histSector (s : State) (k q : Nat) : State :=
  s.mpWrite (histBase + 4096 * k) (saveHeader histMagic q 0 s.fuse.serial.toNat 0 0 ++ s.histEntry) true

/-- TELEMETRY_HISTORY: once per operating minute (R412). -/
def execTelemetryHistory (s : State) : Host.Outcome State Fault Refusal :=
  if !s.mp.ready then .next s
  else match s.histLast with
    | none => .next (s.histSector 0 1)
    | some p => match s.histFree p.1 with
      | some a => .next (s.mpWrite a s.histEntry false)
      | none => .next (s.histSector ((p.1 + 1) % histSectors) (p.2 + 1))

end Sys2Proof.Machine
end

