-- ==== Sys2Proof/Machine/Domains.lean ====
section
/-!
DEFINITION. The switched power domains (01 R36, 06 R172, R188): what a switch-off loses, and what a bank group holds once it
is powered and initialised. The quadrant domains stand in Tiles and Quads.
-/
namespace Sys2Proof.Machine

/-! ### The bank groups -/

/-- First address of a bank group, and its end. -/
def groupLo (g : Nat) : Nat := g * 0x800000
def groupHi (g : Nat) : Nat := g * 0x800000 + 0x800000

/-- The part of a block at `a` that lies in a bank group is put in place. -/
def State.loadPart (s : State) (g a : Nat) (bs : List Byte) : State :=
  let lo := max a (groupLo g)
  let hi := min (a + bs.length) (groupHi g)
  if lo < hi then s.loadBytes lo ((bs.drop (lo - a)).take (hi - lo)) else s

/-- The loader copies CORRECTION and PROFILES to regions 1 and 4 (R57, R58, R69). (DESIGN CHOICE: assumption log 28.) -/
def State.loadImage (s : State) (g : Nat) : State :=
  match s.start.active with
  | none => s
  | some i =>
    let x := s.slot i
    if x.intact then
      if g = 0 then { s with store := s.store.fill (s.regionBase 1) (s.regionBase 1 + 0x100000) 0x80 } else s
    else
      let t := s.loadPart g (s.regionBase 1) (x.bytes (x.at 6) 0x100000)
      t.loadPart g (s.regionBase 4) (x.bytes (x.at 7 + 0x10) (0x100000 * s.img.profileCount))

/-- The restores of a start in bank group 0, before the MP reports ready (R355, R412). (DESIGN CHOICE: assumption log 28.) -/
def State.startRestore (s : State) : State := s.restoreMap.affRestore.restoreErases

/-- The bank group is initialised. -/
def State.groupInit (s : State) (g : Nat) : Bool := if g = 0 then s.store.init0 else s.store.init1

/-- The bank group is powered. -/
def State.groupPower (s : State) (g : Nat) : Bool := if g = 0 then s.power.pd4 else s.power.pd5

/-- What a started module puts into an initialised group: at start the image and the restored records; on a later wake of
group 0 the image, the MP's copy `map` of region 2 and the counters of the last save; of group 1 nothing (R188).
(DESIGN CHOICE: assumption log 28.) -/
def State.fillGroup (s : State) (g : Nat) (map : List Byte) : State :=
  if s.start.state = .bringUp then (s.loadImage g).cond (g = 0) State.startRestore
  else if s.start.state = .ready && g = 0 then ((s.loadImage 0).loadBytes (s.regionBase 2) map).restoreCounters
  else s

/-- A bank after its initialisation: registers at reset, the tables from the shadow copies, FREEZE clear (R188).
(DEDUCED: assumption log 27.) -/
def Bank.woken (k : Bank) : Bank := { active := k.shadow, shadow := k.shadow, corrected := k.corrected, reqs := k.reqs }

/-- Banks of a group. -/
def groupBanks (g : Nat) : List Nat := (List.range 8).map fun i => 8 * g + i

/-- BANK_INIT_DONE: every word of the group is zero with valid check bits (R172). (DEDUCED: assumption log 27.) -/
def execBankInitDone (group : Fin 2) (s : State) : Host.Outcome State Fault Refusal :=
  let g := group.val
  if !s.groupPower g || s.groupInit g then .next s
  else
    let map := s.store.bytes (s.regionBase 2) mapBytes
    let z := s.store.clearGroup g
    let t : State := { s with store := if g = 0 then { z with init0 := true } else { z with init1 := true } }
    .next ((t.forEach (groupBanks g) fun u b => u.modBank b Bank.woken).fillGroup g map).serveWaiting

/-! ### Switching -/

/-- Address of the MP's switch request for a domain, which the spec does not give: a free value.
(DESIGN CHOICE: assumption log 33.) -/
def switchAddr (pd : Nat) : Nat := Config.freeNat 10 pd

/-- Every bank of a group is drained (R186, R188). -/
def State.groupDrained (s : State) (g : Nat) : Bool := (groupBanks g).all fun b => (s.bank b).freeze && (s.bank b).owner.isNone

/-- An address range reaches bank group 1. -/
def inGroup1 (hi : Nat) : Bool := decide (0x800000 < hi)

/-- A descriptor's surface reaches bank group 1. -/
def State.descIn1 (s : State) (n : Nat) (d : Desc) : Bool := inGroup1 ((s.env n).base + (descSpan d).2)
/-- A profile reaches bank group 1. -/
def State.profileIn1 (s : State) (p : Nat) : Bool := p ≠ 255 && inGroup1 (s.regionBase 4 + 0x100000 * (p + 1))

/-- A committed layer, a profile, a pending commit, or the legacy row buffers address bank group 1 (Table 1.8).
(DEDUCED: assumption log 26.) -/
def State.group1Used (s : State) : Bool :=
  ((List.range 12).any fun n =>
      ((s.layer n).active.visible || (s.layer n).fade.val ≠ 0) && s.descIn1 n (s.layer n).used)
    || s.profileIn1 s.comp.pA || s.profileIn1 s.comp.pB
    || (s.comp.pending.any fun c => c.copies.any fun x => x.2.visible && s.descIn1 x.1 x.2)
    || (s.comp.bound.any fun b => match b.kind with
          | .profile p _ _ => s.profileIn1 p
          | _ => false)
    || (s.start.pers = .legacy && inGroup1 (s.regionBase 5 + s.regionSize 5))

/-- A domain may be switched off (Table 1.8, R188). (DEDUCED: assumption log 26.) -/
def State.mayDrop (s : State) (pd : Nat) : Bool :=
  match pd with
  | 2 => true
  | 3 => s.start.state = .serviceOnly || (s.safety.state = .dark && !s.safety.lbreq)
  | 4 => !s.power.pd3 && s.groupDrained 0
  | 5 => !s.group1Used && s.groupDrained 1
  | _ => false

/-- What PD3's diagnosis engine loses; the fault list, its reports and its counts are the MP's. (DEDUCED: assumption log 27.) -/
def Diag.unpowered (d : Diag) : Diag := { d with sweepMs := 1000, gapMs := 250, fails := [], passes := [], gapOrder := [] }

/-- PD3 goes off: the CVU contexts are lost, those of the layers' runs among them, the LUT memory, the diagnosis engine's
contexts, and what stands in the receive and transmit queues, whose credits return (R36, Table 1.8).
(DEDUCED: assumption log 27.) -/
def State.dropPd3 (s : State) : State :=
  let t : State := { s with
    power := { s.power with pd3 := false }, cvu := []
    layers := s.layers.map fun l => { l with run := none, chk := none }
    out := { s.out with lut := [], lutGone := some s.free }
    diag := s.diag.unpowered
    link := { s.link with tqs := [], blocked := [], starved := [], waiting := [] }
    linkB := { s.linkB with wait := [] } }
  ((s.link.waiting.foldl State.freeShared t).freeForwarded s.linkB.wait).drawn

/-- PD4 goes off, after a save of the counters (R353). (DEDUCED: assumption log 27.) -/
def State.dropPd4 (s : State) : State :=
  let t := s.cond (s.mp.ready && s.groupReady 0) State.affSave
  { t with power := { t.power with pd4 := false }, store := { t.store with init0 := false } }

def State.dropPd5 (s : State) : State :=
  { s with power := { s.power with pd5 := false }, store := { s.store with init1 := false } }

/-- PD2 goes off: port B is held down. -/
def State.dropPd2 (s : State) : State := ({ s with power := { s.power with pd2 := false } } : State).holdPortB

/-- A permitted switch-off. -/
def State.dropDomain (s : State) (pd : Nat) : State :=
  match pd with
  | 2 => s.cond s.power.pd2 State.dropPd2
  | 3 => s.cond s.power.pd3 State.dropPd3
  | 4 => s.cond s.power.pd4 State.dropPd4
  | 5 => s.cond s.power.pd5 State.dropPd5
  | _ => s

/-- A switch-on. -/
def State.raiseDomain (s : State) (pd : Nat) : State :=
  match pd with
  | 2 => ({ s with power := { s.power with pd2 := true } } : State).startPortB
  | 3 => { s with power := { s.power with pd3 := true } }
  | 4 => { s with power := { s.power with pd4 := true } }
  | 5 => { s with power := { s.power with pd5 := true } }
  | _ => s

/-- The quadrant of domains PD6 to PD9. -/
def quadDomain (pd : Nat) : Fin 4 := ⟨(pd + 2) % 4, Nat.mod_lt _ (by decide)⟩

/-- POWER_DOMAIN_REQUEST: the MP's request, acted on, or refused with event 0x0C05 (R36, R188). A quadrant domain is
switched as OFF_REQ switches it. (DEDUCED: assumption log 26.) -/
def execPowerDomainRequest (pd : Fin 11) (on : Bool) (s : State) : Host.Outcome State Fault Refusal :=
  let n := pd.val
  if !s.mpRuns then .next s
  else if 2 ≤ n && n ≤ 5 then
    if on then .next (s.raiseDomain n)
    else if s.mayDrop n then .next (s.dropDomain n) else .next (s.badSwitch (switchAddr n))
  else if 6 ≤ n && n ≤ 9 then (if on then execWakeReq (quadDomain n) s else execOffReq (quadDomain n) s)
  else .next (s.badSwitch (switchAddr n))

end Sys2Proof.Machine
end

