-- ==== Sys2Proof/Machine/Protocol.lean ====
section
/-!
DEFINITION. The packet layer's commands (04): the capability exchange, link-stage and content-stage failures,
acknowledgement, replay, credits, the transmit queues, and forwarding through port B.
-/
namespace Sys2Proof.Machine

/-! ### Capability exchange -/

/-- REV_SEL for an offer: the highest revision in both masks (R135); every revision in the service-only state. -/
def State.revSelect (s : State) (mask : Nat) : Nat :=
  let m := mask &&& (if s.start.state = .serviceOnly then 7 else s.img.link.rev.toNat)
  if bitOf m 2 then 4 else if bitOf m 1 then 2 else if bitOf m 0 then 1 else 0

/-- The module address of R137, from the HOP of the offer. -/
def State.addrFrom (s : State) (hop : Nat) : BitVec 3 :=
  if s.start.state = .serviceOnly || s.img.link.addrMode = 0 then
    BitVec.ofNat 3 (2 * b2n s.start.addr1 + b2n s.start.addr0)
  else if s.img.link.addrMode = 1 then s.img.link.fixedAddr
  else BitVec.ofNat 3 hop

/-- CAP_ANSWER with a REV_SEL (Table 4.5, Table 4.16). -/
def State.capAnswer (s : State) (sel : Nat) : TxPkt :=
  let idle := s.img.link.idle && decide (2 ≤ s.portA.gen) && decide (2 ≤ sel)
  let mask := if s.start.state = .serviceOnly then 7 else s.img.link.rev.toNat
  capPkt (BitVec.setWidth 4 s.link.addr)
    (capBytes 0x2048 1 mask sel (64 * b2n idle) 0 s.link.addr.toNat 2 3 s.fuse.serial.toNat fun v => s.grant v)

/-- CAP_OFFER (R135): answered with REV_SEL, or with REV_SEL 0 and event 0x0107. -/
def execCapOffer (payload : List Byte) (s : State) : Host.Outcome State Fault Refusal :=
  if s.portA.st = .exchange && s.portA.framing = 1 && payload.length = 0x60 && fieldAt payload 4 1 = 0 then
    if !bitOf (fieldAt payload 7 1) 7 then .next (s.roleConflict .a)
    else
      let hop := fieldAt payload 8 1
      let sel := s.revSelect (fieldAt payload 5 1 % 8)
      let cred (v : Nat) : Nat := fieldAt payload (0x20 + 2 * v) 2
      let poor := (List.range 6).any fun v => decide (cred v < 16)
      let bad := sel = 0 || poor || decide (7 < hop)
      let sel' := if bad then 0 else sel
      let addr := if s.link.addrKnown || bad then s.link.addr else s.addrFrom hop
      let left := (List.range 6).foldl (fun m v => Sparse.set 0 m v (cred v)) []
      let free := (List.range 6).foldl (fun m v => setBit m v (cred v = 0xFFFF)) (0 : BitVec 32)
      let t : State := { s with link := { s.link with
        offered := sel', addr := addr, addrKnown := s.link.addrKnown || !bad,
        hop := if bad then s.link.hop else hop, txLeft := left, txFree := free } }
      let u : State := { t with link := { t.link with capTx := some (t.capAnswer sel') } }
      .next (if bad then u.raise 0x0107 [(1, if sel = 0 then 0 else if poor then 1 else 2)] else u)
  else .next s

/-- CAP_CONFIRM echoing REV_SEL: link-up (R135). -/
def execCapConfirm (payload : List Byte) (s : State) : Host.Outcome State Fault Refusal :=
  if s.portA.st = .exchange && s.portA.framing = 1 && payload.length = 0x60 && fieldAt payload 4 1 = 2
      && fieldAt payload 6 1 % 8 = s.link.offered && s.link.offered ≠ 0 then
    let t := ({ s with link := { s.link with rev := revOf s.link.offered } } : State).linkUpNow
    .next t.reportAtLinkUp
  else .next s

/-- CAP_ANSWER on port B: confirmed, the downstream address checked, port B up (R138, R139). A CAP of any MSG with ROLE 1 is
a role conflict. -/
def execCapAnswer (payload : List Byte) (s : State) : Host.Outcome State Fault Refusal :=
  if s.portB.st = .exchange && payload.length = 0x60 then
    if bitOf (fieldAt payload 7 1) 7 then .next s.conflictB
    else if fieldAt payload 4 1 ≠ 1 then .next s
    else
      let sel := fieldAt payload 6 1 % 8
      if sel = 0 || revOf sel ≠ s.link.rev then .next s
      else
        let cred (v : Nat) : Nat := fieldAt payload (0x20 + 2 * v) 2
        let down := BitVec.ofNat 3 (fieldAt payload 9 1)
        let t : State := { s with
          linkB := { s.linkB with
            rev := revOf sel, capTx := some (s.portBConfirm sel), downAddr := down, downHop := s.link.hop + 1,
            txSeq := 0, expSeq := 0, wait := [], sent := [], total := [], replayCount := 0, nakCount := 0, unacked := 0,
            nakFor := none, failRun := 0, lcbs := [], replayNext := none, credits := [],
            granted := (List.range 6).foldl (fun m v => Sparse.set 0 m v s.tq6Credits) [],
            left := (List.range 32).foldl (fun m v => Sparse.set 0 m v (cred v)) [],
            free := (List.range 32).foldl (fun m v => setBit m v (cred v = 0xFFFF)) 0 }
          portB := { s.portB with st := .up, backoff := 0, linkUps := sat32 (s.portB.linkUps + 1), txBlock := 5 } }
        let u := t.raise 0x0101 [(1, 1), (1, t.portB.gen), (1, t.portB.width), (1, revOf sel)]
        .next (if down = s.link.addr then u.raise 0x0109 [(1, down.toNat)] else u)
  else .next s

/-! ### Packets that fail -/

/-- PACKET_LINK_FAIL: discarded; a NAK for E, or an ACK for a duplicate; the fifth consecutive CRC or framing failure of
one SEQ is link down (R120, R125, R126, R128). -/
def execPacketLinkFail (p : PortId) (why : LinkFail) (seq : BitVec 12) (s : State) : Host.Outcome State Fault Refusal :=
  match p with
  | .a =>
    .next (if !s.linkUp then s
      else if why = .order then (if seq = s.link.expSeq then s else s.linkOther seq)
      else s.linkFailed why seq)
  | .b =>
    .next (if !s.portB.linked then s
      else if why = .order then (if seq = s.linkB.expSeq then s else s.linkOtherB seq)
      else s.linkFailedB why seq)

/-- Downstream types allowed on a VC (Table 4.4). -/
def typesOn (vc : Nat) : List Nat :=
  if vc = 0 then [0x10] else if vc = 1 then [0x20, 0x21, 0x22] else if vc = 2 then [0x30, 0x31]
  else if vc = 3 then [0x40] else if vc = 4 then [0x50] else if 8 ≤ vc && vc ≤ 19 then [0x80, 0x81] else []

/-- LENGTH lies in the range of a downstream TYPE (Table 4.4). -/
def lenOf (type len : Nat) : Bool :=
  if type = 0x10 || type = 0x50 then decide (4 ≤ len ∧ len ≤ 4096)
  else if type = 0x20 then len = 0x50
  else if type = 0x21 || type = 0x22 || type = 0x81 then len = 0x10
  else if type = 0x30 || type = 0x31 || type = 0x80 then decide (16 ≤ len ∧ len ≤ 4096)
  else if type = 0x40 then len = 0x20
  else false

/-- The first content check that a header fails: status and cause (R120, checks 1 to 5 and 7). -/
def State.headFails (s : State) (h : Hdr) (up : Bool) (vc type len : Nat) : Option (Nat × Nat) :=
  if 8 ≤ h.addr.toNat && h.addr ≠ 0xF then some (4, 0)
  else if up then some (2, 1)
  else if (typesOn vc).isEmpty then some (2, 4)
  else if !(typesOn vc).contains type then some (2, 2)
  else if !lenOf type len then some (4, 3)
  else if s.grant vc < (s.link.credits.get {} vc).held + creditCost len then some (8, 5)
  else none

/-- PACKET_DISCARD: the packet passes the link stage and fails the content stage (R120, R121). -/
def execPacketDiscard (h : Hdr) (up : Bool) (vc : Fin 32) (type : BitVec 8) (len : Nat) (s : State) :
    Host.Outcome State Fault Refusal :=
  if !s.linkUp then .next s
  else if 4096 < len then .next ((s.linkFailed .framing h.seq).restoreFor vc type.toNat)
  else if seqClass s.link.expSeq h.seq ≠ 0 then .next ((s.linkOther h.seq).restoreFor vc type.toNat)
  else if s.noStaging vc len then .next ((s.linkFailed .framing h.seq).restoreFor vc type.toNat)
  else if s.start.state = .serviceOnly && vc.val ≠ 4 then
    let t := s.linkPass
    .next ({ t with portA := { t.portA with contentDiscards := sat32 (t.portA.contentDiscards + 1) } }.raiseRated
      0x0106 7 [(1, 7), (1, vc.val), (1, type.toNat)])
  else match s.headFails h up vc.val type.toNat len with
    | some (status, cause) => .next (s.linkPass.contentFail h vc.val type.toNat 0 status cause len)
    | none => .next s

/-! ### Acknowledgement and replay -/

/-- Drop the sent packets acknowledged by `q`: all up to and including it. -/
def ackUpTo {α : Type} (seq : α → BitVec 12) (q : BitVec 12) (l : List α) : List α :=
  if l.any fun x => seq x = q then (l.dropWhile fun x => seq x ≠ q).drop 1 else l

/-- Packets that `ackUpTo` drops. -/
def ackedBy {α : Type} (seq : α → BitVec 12) (q : BitVec 12) (l : List α) : List α :=
  l.take (l.length - (ackUpTo seq q l).length)

/-- Where a replay in progress goes on once `q` is acknowledged: at the packet it had come to, or, when that has been
acknowledged, at the oldest left (R127). -/
def replayFrom {α : Type} (seq : α → BitVec 12) (next : Option (BitVec 12)) (l : List α) : Option (BitVec 12) :=
  match next with
  | none => none
  | some n => if l.any fun x => seq x = n then some n else l.head?.map seq

/-- An acknowledgement of upstream packets; one that advances resets the counts of R128. -/
def State.ackA (s : State) (q : BitVec 12) : State :=
  let l := ackUpTo TxPkt.seq q s.link.replay
  if l.length < s.link.replay.length then
    { s with link := { s.link with
      replay := l, replayCount := 0, nakCount := 0, replayNext := replayFrom TxPkt.seq s.link.replayNext l } }
  else s

/-- An acknowledgement on port B frees the port A credits of what it acknowledges (R130). -/
def State.ackB (s : State) (q : BitVec 12) : State :=
  let gone := ackedBy FwdPkt.seq q s.linkB.sent
  if gone.isEmpty then s
  else
    let l := ackUpTo FwdPkt.seq q s.linkB.sent
    let t : State := { s with linkB := { s.linkB with
      sent := l, replayCount := 0, nakCount := 0, replayNext := replayFrom FwdPkt.seq s.linkB.replayNext l } }
    t.freeForwarded gone

/-- ACK (R126). -/
def execAck (p : PortId) (seq : BitVec 12) (s : State) : Host.Outcome State Fault Refusal :=
  match p with
  | .a => .next (if s.linkUp then s.ackA seq else s)
  | .b => .next (if s.portB.linked then s.ackB seq else s)

/-- Port A replays from SEQ `n` on (R127). -/
def State.replayA (s : State) (n : BitVec 12) : State :=
  { s with link := { s.link with replayNext := some n }, portA := { s.portA with replays := sat32 (s.portA.replays + 1) } }

/-- Port B replays from SEQ `n` on (R127). -/
def State.replayB (s : State) (n : BitVec 12) : State :=
  { s with linkB := { s.linkB with replayNext := some n }, portB := { s.portB with replays := sat32 (s.portB.replays + 1) } }

/-- NAK: it acknowledges what comes before it and makes the engine replay from it; the fifth naming the oldest packet is
link down (R127, R128). -/
def execNak (p : PortId) (seq : BitVec 12) (s : State) : Host.Outcome State Fault Refusal :=
  match p with
  | .a =>
    if !s.linkUp then .next s
    else
      let t := s.ackA (seq - 1)
      if !(t.link.replay.any fun x => x.seq = seq) then .next t
      else if (t.link.replay.getD 0 {}).seq ≠ seq then .next (t.replayA seq)
      else if 5 ≤ t.link.nakCount + 1 then .next (t.linkDown 4)
      else .next (({ t with link := { t.link with
        nakCount := t.link.nakCount + 1, replayCount := min 4 (t.link.replayCount + 1) } } : State).replayA seq)
  | .b =>
    if !s.portB.linked then .next s
    else
      let t := s.ackB (seq - 1)
      if !(t.linkB.sent.any fun x => x.seq = seq) then .next t
      else if (t.linkB.sent.getD 0 {}).seq ≠ seq then .next (t.replayB seq)
      else if 5 ≤ t.linkB.nakCount + 1 then .next (t.portBDown 4)
      else .next (({ t with linkB := { t.linkB with
        nakCount := t.linkB.nakCount + 1, replayCount := min 4 (t.linkB.replayCount + 1) } } : State).replayB seq)

/-- CREDIT: TOTAL is cumulative modulo 2048 (R117, R129). -/
def execCredit (p : PortId) (vc : Fin 32) (total : BitVec 11) (s : State) : Host.Outcome State Fault Refusal :=
  match p with
  | .a =>
    if s.linkUp then
      let d := (total.toNat + 2048 - s.link.txTotal.get 0 vc) % 2048
      .next { s with link := { s.link with txTotal := s.link.txTotal.set 0 vc total.toNat
                                           txLeft := s.link.txLeft.modify 0 vc fun n => n + d } }
    else .next s
  | .b =>
    if s.portBUp then
      let d := (total.toNat + 2048 - s.linkB.total.get 0 vc) % 2048
      .next { s with linkB := { s.linkB with total := s.linkB.total.set 0 vc total.toNat
                                             left := s.linkB.left.modify 0 vc fun n => n + d } }
    else .next s

/-- The end of a timer that each port has: the command names no port, so where both run (`due`) which one ends is a free
value of kind 20. (DESIGN CHOICE: assumption log 4, 52.) -/
def State.onTimer (s : State) (due : PortId → Bool) (f : PortId → State → State) : State :=
  if due .a && due .b then f (if s.freeVal 20 % 2 = 0 then .a else .b) s.drawn
  else if due .a then f .a s else if due .b then f .b s else s

/-- A port's ACK timer runs: an accepted packet is unacknowledged (R126). -/
def State.ackDue (s : State) : PortId → Bool
  | .a => s.backUp && decide (0 < s.link.unacked)
  | .b => s.portB.linked && decide (0 < s.linkB.unacked)

/-- ACK_TIMER: 2 us after an unacknowledged packet (R126). -/
def execAckTimer (s : State) : Host.Outcome State Fault Refusal :=
  .next (s.onTimer s.ackDue fun p t => match p with
    | .a => t.sendAck
    | .b => t.sendAckB)

/-- A port's credit timers run: its link is up (R129, R139). -/
def State.creditDue (s : State) : PortId → Bool
  | .a => s.backUp
  | .b => s.portB.linked

/-- The VCs for which a port's credit timer sends a CREDIT: those with credits freed since the last, or at the 50 us resend
every one with a grant (R129, R139). -/
def State.creditVcs (s : State) (resend : Bool) : PortId → List Nat
  | .a => (List.range 32).filter fun v => if resend then decide (0 < s.grant v) else decide (0 < (s.link.credits.get {} v).freed)
  | .b => (List.range 32).filter fun v =>
      if resend then decide (0 < s.linkB.granted.get 0 v) else decide (0 < (s.linkB.credits.get {} v).freed)

/-- CREDIT_RETURN_TIMER: the 2 us timer, or the 50 us resend (R129, R139). -/
def execCreditReturnTimer (resend : Bool) (s : State) : Host.Outcome State Fault Refusal :=
  .next (s.onTimer s.creditDue fun p t => t.forEach (t.creditVcs resend p) fun u v => match p with
    | .a => u.sendCredit v
    | .b => u.sendCreditB v)

/-- A port's replay timer runs: a packet is unacknowledged; during a repair it is stopped (R105, R127). -/
def State.replayDue (s : State) : PortId → Bool
  | .a => s.backUp && !s.link.replay.isEmpty
  | .b => s.portBUp && !s.linkB.sent.isEmpty

/-- Port A's replay timer ends: replay from the oldest unacknowledged packet; after 4 replays, link down (R127, R128). -/
def State.replayEndA (s : State) : State :=
  match s.link.replay with
  | [] => s
  | x :: _ =>
    if 4 ≤ s.link.replayCount then s.linkDown 4
    else ({ s with link := { s.link with replayCount := s.link.replayCount + 1 } } : State).replayA x.seq

/-- Port B's replay timer ends. -/
def State.replayEndB (s : State) : State :=
  match s.linkB.sent with
  | [] => s
  | x :: _ =>
    if 4 ≤ s.linkB.replayCount then s.portBDown 4
    else ({ s with linkB := { s.linkB with replayCount := s.linkB.replayCount + 1 } } : State).replayB x.seq

/-- REPLAY_TIMER (R127, R128). -/
def execReplayTimer (s : State) : Host.Outcome State Fault Refusal :=
  .next (s.onTimer s.replayDue fun p t => match p with
    | .a => t.replayEndA
    | .b => t.replayEndB)

/-! ### Transmit queues -/

/-- Records of the oldest formed EVENT packet (R406). -/
def Events.headPacket (v : Events) : List Event :=
  match v.ring.find? fun e => e.pkt ≠ 0 with
  | some e => v.ring.filter fun x => x.pkt = e.pkt
  | none => []

/-- EVENT payload of those records (Table 15.6a). -/
def Events.packetBytes (v : Events) : List Byte :=
  let es := v.headPacket
  leBytes 2 (es.getD 0 {}).seq.toNat ++ leBytes 2 v.lostNext ++ leBytes 2 es.length ++ [0, 0] ++ es.flatMap Event.bytes

/-- The packet at the head of a transmit queue. -/
def State.tqHead (s : State) (q : Nat) : Option TxPkt :=
  if q = 1 then (if s.ev.headPacket.isEmpty then none else some (s.upPkt 1 0x23 0 s.ev.packetBytes))
  else (s.link.tqs.get [] q).head?

/-- Remove the head of a transmit queue; an EVENT packet takes its records and the LOST count with it. Waiting producers
follow; what leaves TQ6 returns its credits on port B (R132, R139). -/
def State.tqPop (s : State) (q : Nat) : State :=
  if q = 1 then
    let k := (s.ev.headPacket.getD 0 {}).pkt
    { s with ev := { s.ev with ring := s.ev.ring.filter fun e => e.pkt ≠ k, lostNext := 0 } }
  else
    let t := ({ s with link := { s.link with tqs := s.link.tqs.modify [] q fun l => l.drop 1 } } : State).refill q
    if q = 6 then t.freeCreditsB ((s.link.tqs.get [] 6).headD {}).vc (creditCost ((s.link.tqs.get [] 6).headD {}).payload.length)
    else t

/-- Upstream credits suffice for a packet (R132, R133). -/
def State.txCredit (s : State) (p : TxPkt) : Bool :=
  s.link.txFree.getLsbD p.vc || decide (creditCost p.payload.length ≤ s.link.txLeft.get 0 p.vc)

/-- The replay buffer of 32 KiB has room for a packet, and fewer than 2047 await acknowledgement (R125, R127). -/
def State.replayRoom (s : State) (p : TxPkt) : Bool :=
  decide ((s.link.replay.map TxPkt.size).foldl (· + ·) 0 + p.size ≤ 32768) && decide (s.link.replay.length < 2047)

/-- The queue served next: the starved ones first, then by priority, of those whose head has credits (R132). -/
def State.tqChoice (s : State) : Option Nat :=
  let ok (q : Nat) : Bool := match s.tqHead q with
    | some p => s.txCredit p && s.replayRoom p
    | none => false
  (s.link.starved ++ [3, 2, 1, 0, 6, 4, 5]).find? ok

/-- CORRECTION (48 bits at offset 8 of a TIME payload) with a residence in 0.5 ns added, saturating (R141). -/
def addResidence (payload : List Byte) (half : Nat) : List Byte :=
  let c := signedOf 48 (fieldAt payload 8 6) + (half * 32768 : Nat)
  payload.take 8 ++ leBytes 6 (toField 48 (clampInt (-140737488355328) 140737488355327 c)) ++ payload.drop 14

/-- The header of an upstream packet: DIR 1 (Table 4.3). -/
def TxPkt.hdr (p : TxPkt) : WireHdr :=
  { seq := p.seq, addr := p.addr, vc := p.vc, dir := true, type := p.type, len := p.payload.length, tag := p.tag }

/-- The packet is a DELAY_REQ. -/
def TxPkt.isReq (p : TxPkt) : Bool := p.type = 0x40 && timeMsg p.payload = 2

/-- A packet is put on the back lane with its SEQ: a forwarded DELAY_REQ gains the residence of this transmission (R141),
the engine's own is stamped t3 (R150); a CRC_INJECT of target 0 corrupts the CRC and is used up (Table 13.8). The packet
kept for replay is the unchanged one. -/
def State.sendUp (s : State) (p : TxPkt) : State :=
  let out : TxPkt := if p.isReq && p.fwd then { p with payload := addResidence p.payload (s.halfNow1 - p.entry) } else p
  let bad := s.perturbed 6 0
  let flip (bs : List Blk) : List Blk := if bad then bs.dropLast ++ [eopBlk (packetCrc out.hdr out.payload ^^^ 1)] else bs
  let cflip (cs : List (BitVec 9)) : List (BitVec 9) := if bad then cs.dropLast ++ [cs.getLastD 0 ^^^ 1] else cs
  let t := s.emit .a (flip (packetBlks out.hdr out.payload)) (cflip (packetChars out.hdr out.payload))
  let u : State := { t with
    portA := { t.portA with txBlock := 5 }
    svc := { t.svc with perturb := t.svc.perturb.filter fun c => !(c.control = 6 && c.target = 0) } }
  if p.isReq && !p.fwd then { u with sync := { u.sync with req := u.sync.req.map fun r => { r with tx := u.capture 1 } } } else u

/-- The packet a replay in progress sends next is sent again, unchanged but for its CORRECTION (R127, R141). -/
def State.resendUp (s : State) (n : BitVec 12) : State :=
  match s.link.replay.dropWhile fun x => x.seq ≠ n with
  | [] => { s with link := { s.link with replayNext := none } }
  | p :: rest => ({ s with link := { s.link with replayNext := rest.head?.map TxPkt.seq } } : State).sendUp p

/-- The head of a transmit queue is sent with the next SEQ and kept for replay (R125, R127, R132); its queue's CVU context
appends the CRC (10 R283). -/
def State.sendNew (s : State) (q : Nat) (p : TxPkt) : State :=
  let sent : TxPkt := { p with seq := s.link.txSeq, fwd := decide (q = 6) }
  let u := s.tqPop q
  let v : State := { u with link := { u.link with
    txSeq := u.link.txSeq + 1, replay := u.link.replay ++ [sent], starved := u.link.starved.filter fun x => x ≠ q
    txLeft := if u.link.txFree.getLsbD p.vc then u.link.txLeft
              else u.link.txLeft.modify 0 p.vc fun c => c - creditCost p.payload.length } }
  (v.setContext (24 + q) (sent.hdr.bytes ++ sent.payload)).sendUp sent

/-- TQ_TRANSMIT: waiting LCBs leave first; then the next packet of a replay in progress, or the head of the chosen queue
(R127, R132). The back lane drives only after its detection has returned PRESENT (R83). -/
def execTqTransmit (s : State) : Host.Outcome State Fault Refusal :=
  if !s.backUp || s.portA.backIdle || s.portA.backDet ≠ .present then .next s
  else
    let t := s.flushLcbs
    match t.link.replayNext with
    | some n => .next (t.resendUp n)
    | none =>
      match t.tqChoice with
      | none => .next t
      | some q =>
        match t.tqHead q with
        | none => .next t
        | some p => .next (t.sendNew q p)

/-- TQ_STARVATION: a head that has waited 500 us is served next (R132). -/
def execTqStarvation (q : Fin 7) (s : State) : Host.Outcome State Fault Refusal :=
  .next (if (s.tqHead q).isSome && !s.link.starved.contains q.val then
      { s with link := { s.link with starved := s.link.starved ++ [q.val] } }
    else s)

/-! ### Port B -/

/-- The next packet for port B: the first, in port A SEQ order, of a VC whose first waiting packet has credits there
(R140). -/
def State.fwdChoice (s : State) : Option Nat :=
  (List.range s.linkB.wait.length).find? fun i =>
    let p := s.linkB.wait.getD i {}
    !((s.linkB.wait.take i).any fun x => x.vc = p.vc)
      && (s.linkB.free.getLsbD p.vc || decide (creditCost p.payload.length ≤ s.linkB.left.get 0 p.vc))

/-- The header of a forwarded packet: DIR 0, the port B SEQ (R140). -/
def FwdPkt.hdr (p : FwdPkt) : WireHdr :=
  { seq := p.seq, addr := p.addr, vc := p.vc, dir := false, type := p.type, len := p.payload.length, tag := p.tag }

/-- A forwarded packet is put on port B's lanes with a new CRC, the residence of this transmission added to the CORRECTION
of a SYNC (R140, R141). -/
def State.sendDown (s : State) (p : FwdPkt) : State :=
  let body := if p.type = 0x40 && timeMsg p.payload = 0 then addResidence p.payload (s.halfNow1 - p.entry) else p.payload
  (s.setContext 31 (p.hdr.bytes ++ body)).emit .b (packetBlks p.hdr body) (packetChars p.hdr body)

/-- The waiting LCBs of port B leave, ahead of every packet. -/
def State.flushLcbsB (s : State) : State :=
  if s.linkB.lcbs.isEmpty then s
  else ({ s with linkB := { s.linkB with lcbs := [] } } : State).emit .b (s.linkB.lcbs.map Lcb.blk) (s.linkB.lcbs.flatMap Lcb.chars)

/-- Port B drives its lanes: up, each lane of USE_MASK enabled by its own detection (R84). -/
def State.portBDrives (s : State) : Bool :=
  s.portBUp && (s.txLanes .b).all fun i => (s.enabledLanes .b).contains i

/-- The packet a replay in progress on port B sends next is sent again. -/
def State.resendB (s : State) (n : BitVec 12) : State :=
  match s.linkB.sent.dropWhile fun x => x.seq ≠ n with
  | [] => { s with linkB := { s.linkB with replayNext := none } }
  | p :: rest => ({ s with linkB := { s.linkB with replayNext := rest.head?.map FwdPkt.seq } } : State).sendDown p

/-- The waiting packet at index `i` leaves with the next port B SEQ and is kept for replay. -/
def State.sendForward (s : State) (i : Nat) : State :=
  let p : FwdPkt := { s.linkB.wait.getD i {} with seq := s.linkB.txSeq }
  let t : State := { s with linkB := { s.linkB with
    wait := s.linkB.wait.eraseIdx i, sent := s.linkB.sent ++ [p], txSeq := s.linkB.txSeq + 1,
    left := if s.linkB.free.getLsbD p.vc then s.linkB.left
            else s.linkB.left.modify 0 p.vc fun c => c - creditCost p.payload.length } }
  t.sendDown p

/-- FORWARD_PORT_B: waiting LCBs, then the next packet of a replay in progress, or the next packet that may go (R127, R140,
R141); never more than 2047 unacknowledged (R125). -/
def execForwardPortB (dt : Nat) (s0 : State) : Host.Outcome State Fault Refusal :=
  let s := s0.elapse dt
  if !s.portBDrives then .next s
  else
    let t := s.flushLcbsB
    match t.linkB.replayNext with
    | some n => .next (t.resendB n)
    | none =>
      match t.fwdChoice with
      | none => .next t
      | some i => .next (if t.linkB.sent.length < 2047 then t.sendForward i else t)

/-- PORT_B_UPSTREAM: an upstream packet that passes the link stage goes into TQ6 with its header fields unchanged but SEQ;
one with DIR 0, or beyond the credits granted, fails the content stage (R120, R139, R140). -/
def execPortBUpstream (h : UpHdr) (vc : Fin 32) (type : BitVec 8) (payload : List Byte) (s : State) :
    Host.Outcome State Fault Refusal :=
  let n := creditCost payload.length
  let drop (t : State) (cause : Nat) : State :=
    { t with portB := { t.portB with contentDiscards := sat32 (t.portB.contentDiscards + 1) } }.raiseRated 0x0106 cause
      [(1, cause), (1, vc.val), (1, type.toNat)]
  if !s.portB.linked then .next s
  else if 4096 < payload.length then .next (s.linkFailedB .framing h.h.seq)
  else if seqClass s.linkB.expSeq h.h.seq ≠ 0 then .next (s.linkOtherB h.h.seq)
  else
    let t := s.linkPassB
    let beyond := decide (t.linkB.granted.get 0 vc < (t.linkB.credits.get {} vc).held + n)
    if !h.up then .next (drop (if beyond then t else (t.chargeB vc n).freeCreditsB vc n) 1)
    else if beyond then .next (drop t 5)
    else .next ((t.chargeB vc n).enqueue 6
      { vc := vc.val, type := type.toNat, tag := h.h.tag, addr := h.h.addr, payload := payload, entry := t.halfNow1 })

end Sys2Proof.Machine
end

