-- ==== Sys2Proof/Machine/Supervision.lean ====
section
/-!
DEFINITION. The supervision chain (13 R364-R367): the windowed watchdogs of the MP and the SP, their bites and restarts, the
Rind's heartbeat.
-/
namespace Sys2Proof.Machine

/-- A service `gap` ns after the previous one lies in the window [lo, hi) ms (Table 13.3). -/
def inWindow (lo hi gap : Nat) : Bool := lo * 1000000 ≤ gap && gap < hi * 1000000

/-- Bites of the last 600 s, with one now. -/
def recentBites (l : List Nat) (now : Nat) : List Nat := (l.filter fun t => now < t + 600000000000) ++ [now]

/-! ### The MP -/

/-- What a cycle of PD10 does beside the restart: the flash command in progress completes, those that wait are lost with the
NVM controller's state, and so are the reservation and MP SRAM, whose firmware is reloaded; perturbations end; the map of a
group 0 without power comes from flash (R36, R188, R368, R370). (DEDUCED: assumption log 27.) -/
def State.cyclePd10 (s : State) : State :=
  let t := s.finishFlash.clearControls
  let u : State := { t with
    mp := { t.mp with ready := false, lastServ := t.now1, code := none, entry := none }, nvm := { t.nvm with reserve := 0 }
    policy := t.policy.restarted }
  u.cond (!u.power.pd4 && u.start.state = .ready) State.restoreMap

/-- The NVM loader's reload of the firmware from the active slot, checked against its section CRC (R365); a section that fails
it is not started. The service-only state has no image, and runs the ROM (02 R68). -/
def State.reloadFw (s : State) : State :=
  match s.start.active with
  | none => s
  | some i => s.cond ((s.slot i).fwIntact) fun t => { t with mp := { t.mp with code := some i, entry := some t.img.fwEntry } }

/-- Firmware stands in MP SRAM, or the ROM monitor runs. -/
def State.mpLoaded (s : State) : Bool := s.start.active.isNone || s.mp.code.isSome

/-- The MP is restarted: PD10 off for 1 ms and on again, the firmware reloaded (R365). -/
def State.restartMp (s : State) : State :=
  let t := s.cyclePd10.reloadFw
  { t with mp := { t.mp with restarts := sat32 (t.mp.restarts + 1) } }

/-- The MP watchdog bites (R365): event 0x0C01 and DEGRADED requested; the third bite within 600 s leaves PD10 off. -/
def State.mpBite (s : State) : State :=
  let times := recentBites s.mp.bites s.now1
  let t := (s.raise 0x0C01 []).setCause false cMpBite true
  let u : State := { t with mp := { t.mp with bites := times } }
  if 3 ≤ times.length then
    let v := u.cyclePd10
    ({ v with mp := { v.mp with heldOff := true }, power := { v.power with pd10 := false } } : State).raise 0x0C03 []
  else u.restartMp

/-- The SP supervises the MP: both run. -/
def State.mpWatched (s : State) : Bool := s.mpRuns && s.sp.running

/-- MP_WATCHDOG_SERVICE: it starts the next window; outside its window it is a bite (R364). Before the MP is ready there is
no window to miss. (DEDUCED: assumption log 29.) -/
def execMpWatchdogService (dt : Nat) (s : State) : Host.Outcome State Fault Refusal :=
  let t := s.elapse dt
  let served : State := { t with mp := { t.mp with lastServ := t.now1 } }
  if !t.mpWatched then .next t
  else if !t.mp.ready || inWindow 25 100 (t.now1 - t.mp.lastServ) then .next served
  else .next t.mpBite

/-- MP_WATCHDOG: the window closes without a service, or MP SRAM fails (R365). -/
def execMpWatchdog (s : State) : Host.Outcome State Fault Refusal := .next (if s.mpWatched then s.mpBite else s)

/-- What a restarted MP reads back from its records (R412), where an image runs, with the compensation of the counters it finds
(12 R357). (DESIGN CHOICE: assumption log 27.) -/
def State.mpReload (s : State) : State :=
  s.cond (s.start.state = .ready) fun t =>
    let u := t.restoreErases.restoreList
    u.cond (u.groupReady 0) fun v => v.healAll.predict v.healAll.predictions

/-- MP_RESTART_READY: the request is withdrawn, event 0x0C02, what waited is served (R365, R366). (DEDUCED: assumption log 29.) -/
def execMpRestartReady (s : State) : Host.Outcome State Fault Refusal :=
  if !s.mpWatched || s.mp.ready || !s.mpLoaded || !(s.start.state = .ready || s.start.state = .serviceOnly) then .next s
  else
    let t := (s.mpReload.mpIsReady.setCause false cMpBite false).raise 0x0C02 [(1, min 255 s.mp.restarts)]
    let u : State := { t with mp := { t.mp with lastServ := t.now1 } }
    .next (u.serveWaiting.cond (u.linkUp && u.start.state = .ready) State.reportAtLinkUp)

/-! ### The SP -/

/-- The Rind's targets return to the SAFETY defaults (R367). -/
def State.defaultTargets (s : State) : State :=
  let p := s.rindP
  let z : ZoneList := { zones := p.zones, rows := p.cutDef }
  ({ s with zones := { s.zones with lim := s.zones.lim.confirm p z } } : State).runLimiter 0

/-- The Rind's SP watchdog bites (R367): FALLBACK requested, the targets reset, the SP restarted; the third bite within 600 s
keeps it in reset. (DEDUCED: assumption log 29.) -/
def State.spBite (s : State) : State :=
  let times := recentBites s.sp.bites s.clk.tb3
  let t : State := { s with sp := { s.sp with
    running := false, wordDone := false, bites := times, heldOff := decide (3 ≤ times.length) } }
  (t.setCause true cSpWatchdog true).defaultTargets

/-- SP_WATCHDOG_SERVICE: the next value of the sequence, after the millisecond's vote, word and compare (R364); outside its
window it is a bite. Any other write is no service. (DEDUCED: assumption log 29.) -/
def execSpWatchdogService (v : BitVec 8) (s : State) : Host.Outcome State Fault Refusal :=
  if !s.sp.running || !s.sp.wordDone || !s.rindRuns || v ≠ s.sp.wdSeq then .next s
  else if inWindow 5 20 (s.clk.tb3 - s.sp.lastServ) then
    .next { s with sp := { s.sp with wdSeq := v + 1, lastServ := s.clk.tb3, wordDone := false } }
  else .next s.spBite

/-- SP_WATCHDOG: the window closes without a service (R367). -/
def execSpWatchdog (s : State) : Host.Outcome State Fault Refusal :=
  .next (if s.sp.running && s.rindRuns then s.spBite else s)

/-- SP_RESTARTED: the SP runs again, from ROM: event 0x0C08 (R367). Its limiter starts from the Rind's quantities.
(DEDUCED: assumption log 29.) -/
def execSpRestarted (s : State) : Host.Outcome State Fault Refusal :=
  if s.sp.running || s.sp.heldOff || s.sp.bites.isEmpty then .next s
  else
    let t : State := { s with
      sp := { s.sp with running := true, wdSeq := 0, lastServ := s.clk.tb3, wordDone := false, stalled := 0 }
      zones := { s.zones with spLim := s.zones.lim, cand := none } }
    .next (t.raise 0x0C08 []).serveWaiting

/-- RIND_HEARTBEAT: the SP's read of the counter (R367): three without an advance are a fault, event 0x0C09. -/
def execRindHeartbeat (count : Nat) (s : State) : Host.Outcome State Fault Refusal :=
  if !s.sp.running then .next s
  else
    let n := if count = s.sp.beat then min 3 (s.sp.stalled + 1) else 0
    let t : State := { s with sp := { s.sp with beat := count, stalled := n } }
    if 3 ≤ n && !s.sp.beatFault then
      .next ((({ t with sp := { t.sp with beatFault := true } } : State).raise 0x0C09 []).setCause false cHeartbeat true)
    else .next t

end Sys2Proof.Machine
end

