-- ==== Sys2Proof/Machine/Startup.lean ====
section
/-!
DEFINITION. Start-up (02 R65-R78, 16 R419): the states of Table 2.19 from VLOG to READY or SERVICE_ONLY, NRESET, the
rollback advance (R48).
-/
namespace Sys2Proof.Machine

/-! ### Power-on -/

/-- VLOG_VALID: POWER_ON (R419). -/
def execVlogValid (s : State) : Host.Outcome State Fault Refusal :=
  .next (if s.start.vlog then s else { s with start := { s.start with vlog := true, state := .powerOn } })

/-- Bytes of unknown value. (DESIGN CHOICE: assumption log 40.) -/
def tornBytes (draw n : Nat) : List Byte := (List.range n).map fun i => BitVec.ofNat 8 (Config.freeNat 9 (draw * 4096 + i))

/-- The flash command in progress is cut off: the bytes of its program, or of its sector, are unknown.
(DESIGN CHOICE: assumption log 40.) -/
def State.tearFlash (s : State) : State :=
  match s.flash.cur with
  | none => s
  | some j =>
    let c := j.cmd
    let a := c.addr / 4096 * 4096
    let t := if c.erase then s.flashErase a else s
    let bs := tornBytes s.free (if c.erase then 4096 else c.data.length)
    ({ t with flash := t.flash.put (if c.erase then a else c.addr) bs } : State).drawn

/-- Only what stands in flash lasts: the queue of commands and the RAM of the controller do not. (DEDUCED: assumption log 22.) -/
def Flash.kept (f : Flash) : Flash := { slotA := f.slotA, slotB := f.slotB, recs := f.recs }

/-- F after a loss of power: a step in progress reads blown or unblown (R48). (DESIGN CHOICE: assumption log 40.) -/
def State.fuseAfterLoss (s : State) : Nat :=
  if s.start.rolling then s.fuse.rollback + s.freeVal 8 % 2 else s.fuse.rollback

/-- LOSS_OF_VLOG: every block is reset, AON included (R419); flash, fuses, the levels of the straps and of TEST_EN and the
records of the service lockout stay. (DESIGN CHOICE: assumption log 40.) -/
def execLossOfVlog (s : State) : Host.Outcome State Fault Refusal :=
  let t := s.tearFlash
  let z : State := {}
  .next (({ z with
    pending := s.pending, free := t.free, flash := t.flash.kept
    fuse := { s.fuse with rollback := s.fuseAfterLoss }
    start := { addr0 := s.start.addr0, addr1 := s.start.addr1, testEn := s.start.testEn }
    svc := { fails := s.svc.fails, lockRec := s.svc.lockRec } } : State).cond s.start.rolling State.drawn)

/-- Both channels' limiters at their targets, and the clamp set of them (R305, R309). -/
def State.initLimiters (s : State) (p : SafetyP) (zs : List ZoneRec) : State :=
  let l := limiterStart p zs
  let c := clampSetOf p l
  { s with zones := { s.zones with lim := l, spLim := l, work := c, pending := some c } }

/-- SAFE_PLL_LOCKED: FUSE_READ; the Rind runs on its ROM defaults, DARK until LBREQ says otherwise; TB3 starts at 0 (R69,
Table 2.20). (DEDUCED: assumption log 45.) -/
def execSafePllLocked (s : State) : Host.Outcome State Fault Refusal :=
  if !s.start.vlog || s.start.state ≠ .powerOn || s.safety.oscStopped then .next s
  else
    let t := s.initLimiters romSafety []
    let u : State := { t with
      start := { t.start with state := .fuseRead, at3 := 0 }
      clk := { t.clk with safe := true, tb3 := 0 }
      zones := { t.zones with active := t.zones.work, pending := none }
      safety := { t.safety with held := BitVec.allOnes 64, paint := .dark } }
    .next (u.forEach (List.range 64) fun v i => v.setCut i kDark true)

/-- PD3, PD4, PD5 and PD10 are powered, and the engine is in SELECT (Table 2.19). -/
def State.toSelect (s : State) : State :=
  { s with
    start := { s.start with state := .select }
    power := { s.power with pd3 := true, pd4 := true, pd5 := true, pd10 := true } }

/-- FUSE_READ_DONE: a row that fails its check makes the key hash blank, event 0x0B08 (R69). A read that a reset overtook
completes too, and the start goes on from NRESET_HIGH. -/
def execFuseReadDone (rowFailed : Bool) (s : State) : Host.Outcome State Fault Refusal :=
  let t : State := { s with start := { s.start with fuseBad := rowFailed } }
  let u := t.cond rowFailed fun v => v.raise 0x0B08 []
  if s.start.state = .fuseRead then .next u.toSelect
  else if s.start.state = .resetHeld then .next u
  else .next s

/-- CRYSTAL_PLL_LOCKED: the clocks of Table 1.5 run, TB0 and TB1 start at 0, the SP starts from ROM (Table 2.20, R144, R327);
a lockout that was not ended begins again (R372). -/
def execCrystalPllLocked (s : State) : Host.Outcome State Fault Refusal :=
  if s.start.state ≠ .select || s.clk.crystal then .next s
  else
    let t : State := { s with
      clk := { s.clk with crystal := true, tb0 := 0, tb1 := 0, epoch := 0 }
      sp := { s.sp with running := true, lastServ := s.clk.tb3 }
      svc := { s.svc with state := if s.svc.lockRec then .lockout else .locked } }
    let u : State := { t with start := { t.start with inhTold := true } }
    .next (u.cond (!s.start.inhTold) fun v => v.raise 0x0808 [(1, 2)])

/-! ### Slots -/

/-- A slot's reason code (Table 2.18). -/
def State.setReason (s : State) (i : SlotId) (r : Nat) : State :=
  match i with
  | .a => { s with start := { s.start with reasonA := r } }
  | .b => { s with start := { s.start with reasonB := r } }

/-- A slot is rejected: event 0x0B01. -/
def State.reject (s : State) (i : SlotId) (r : Nat) : State := (s.setReason i r).raise 0x0B01 [(1, slotNum i), (1, r)]

/-- Reason code of a slot's header stage: 0x0C where its header could not be read (R67). -/
def State.headerOf (s : State) (i : SlotId) : Nat := if s.start.noHeader.contains i then 0x0C else s.headerReason (s.slot i)

/-- The slot's header stage: rejected, or still to be loaded. -/
def State.checkHeader (s : State) (i : SlotId) : State :=
  let r := s.headerOf i
  s.cond (r ≠ 0) fun t => t.reject i r

/-- Port A is powered and trains; under TEST_EN the near-end loopbacks run (R110). (DESIGN CHOICE: assumption log 20.) -/
def State.startPortA (s : State) : State :=
  let t : State := { s with portA := s.portA.toDetect, power := { s.power with pd1 := true } }
  t.cond t.start.testEn fun u => (u.startLoopback 1 0).loopEvent 2 true

/-- Quadrants that no beam needs go off as OFF_REQ switches them (R68, R264). -/
def State.releaseQuads (s : State) : State :=
  if s.safety.paint = .beam then s
  else s.forEach [0, 1, 2, 3] fun t q => t.modQuad q fun k => { k with granted := k.granted || (k.powered && !k.forced) }

/-- SERVICE_ONLY (R68). -/
def State.enterServiceOnly (s : State) : State :=
  let t : State := { s with
    start := { s.start with state := .serviceOnly, loading := none, order := [], outcome := some 1 }
    img := {}, cvu := []
    safety := { s.safety with romParams := true, copy := none }
    power := { s.power with pd2 := false, pd3 := false, pd4 := false, pd5 := false, pd10 := true }
    store := { s.store with init0 := false, init1 := false }
    mp := { s.mp with lastServ := s.now1 } }
  let u := (t.initLimiters romSafety []).mpIsReady.raise 0x0B03 []
  let v : State := { u with link := { u.link with addr := u.addrFrom 0 } }
  v.startPortA.paintAnew.releaseQuads

/-- The next slot of the order is loaded, or none remains (R66). -/
def State.tryNext (s : State) (order : List SlotId) : State :=
  match order with
  | [] => s.enterServiceOnly
  | i :: l => { s with start := { s.start with state := .load, loading := some i, order := l, retried := false } }

/-- HEADERS_CHECKED: both header stages, the order of R66. -/
def execHeadersChecked (s : State) : Host.Outcome State Fault Refusal :=
  if s.start.state ≠ .select || !s.clk.crystal then .next s
  else
    let t := (s.checkHeader .a).checkHeader .b
    let u : State := { t with start := { t.start with startCount := t.nextStartCount } }
    .next (u.tryNext (u.slotOrder.filter fun i => !u.start.noHeader.contains i))

/-- A failing flash read is retried (R67). -/
def State.retryRead (s : State) : State :=
  { s with start := { s.start with retried := true }, flash := { s.flash with retries := sat32 (s.flash.retries + 1) } }

/-- FLASH_READ_FAIL: a read is retried once; its second failure ends the slot's load with reason 0x0C, or leaves its header
unread (R67). Whether a further failure is the same read's, and whose header it is, the command does not say: free values.
(DESIGN CHOICE: assumption log 52.) -/
def execFlashReadFail (s : State) : Host.Outcome State Fault Refusal :=
  let same := decide (s.freeVal 17 % 2 = 1)
  match s.start.state with
  | .load =>
    match s.start.loading with
    | none => .next s
    | some i =>
      if !s.start.retried then .next s.retryRead
      else if same then .next ((s.drawn.reject i 0x0C).tryNext s.start.order)
      else .next s.drawn.retryRead
  | .select =>
    if !s.clk.crystal then .next s
    else if !s.start.retried then .next s.retryRead
    else if same then
      let i : SlotId := if s.freeVal 18 % 2 = 0 then .a else .b
      .next { s.drawn with start := { s.start with retried := false, noHeader := s.start.noHeader ++ [i] } }
    else .next s.drawn.retryRead
  | _ => .next s

/-! ### BRING_UP -/

/-- The default zones a channel accepts, in order, and whether it skipped one (R305). -/
def validZones (zs : List ZoneRec) : List ZoneRec × Bool :=
  zs.foldl (fun acc z =>
    if z.x0 ≤ z.x1 && z.x1 ≤ 2047 && z.y0 ≤ z.y1 && z.y1 ≤ 511 && !(acc.1.any fun y => y.id = z.id) then (acc.1 ++ [z], acc.2)
    else (acc.1, true)) ([], false)

/-- A layer at BRING_UP: its default descriptor, shadow and active, its opacity at rest (R191). -/
def defaultLayer (d : Desc) : Layer :=
  { shadow := d, active := d, kept := d, fade := Fade.rest (if d.visible then alpha8 d.alpha.toNat else 0) }

/-- The layers at BRING_UP; one that is not enabled cannot be used, and keeps the default of its reset (R190). -/
def startLayers (p : Params) : List Layer :=
  p.descs.mapIdx fun n d => if (p.envs.getD n {}).enabled then defaultLayer d else {}

/-- Quadrants in which a profile of the image holds a non-zero byte (R262). -/
def State.profileQuads (s : State) (bs : List Byte) : BitVec 4 :=
  (bs.mapIdx fun k b => (k, b)).foldl (fun m e =>
    if e.2 = 0 then m
    else setBit m (2 * (s.contentY (e.1 / 2048 % 512) / 256) + s.contentX (e.1 % 2048) / 1024) true) 0

/-- Those of every profile of the active slot. -/
def State.profilesLit (s : State) (x : Slot) : Sparse (BitVec 4) :=
  (List.range s.img.profileCount).foldl (fun m p =>
    m.set 0 p (s.profileQuads (x.bytes (x.at 7 + 0x10 + 0x100000 * p) 0x100000))) []

/-- The LUT memory of the image, as its difference from the base curve. -/
def lutDiff (l : List Nat) : Sparse Nat :=
  (l.mapIdx fun i v => (i, v ^^^ lutBase false i)).filter fun e => e.2 ≠ 0

/-- Composition, output stage and layers as BRING_UP leaves them (R191, R205, R258). -/
def State.loadComposer (s : State) (x : Slot) : State :=
  let p := s.img
  { s with
    layers := startLayers p
    comp := { pA := p.defaultProfile, w := Fade.rest 65536, master := Fade.rest (2 * p.masterDefault)
              nonzero := s.profilesLit x }
    out := { lut := if x.intact then [] else lutDiff x.lutList, lutGone := none } }

/-- The latch-point grid starts in DEFAULT_MODE with TB2 at 0 (R216). (DEDUCED: assumption log 45.) -/
def State.startGrid (s : State) : State :=
  let m := s.mode s.img.defaultMode
  let g := gridAtLeast m.rate (s.now0 + 1000000)
  let t : State := { s with
    clk := { s.clk with gridOn := true, tb2 := 0 }
    grid := { started := true, mode := s.img.defaultMode, nextG := g, nextL := g - s.now0 }
    drive := { s.drive with pwmDiv := m.pwmDiv.getD s.thermal.band 8, pwmBand := s.thermal.band, bandNext := s.thermal.band } }
  t.regrid

/-- The Rind and the SP take SAFETY: the image parameters, the valid default zones, every quantity at its target (R305, R309,
R329). -/
def State.takeSafety (s : State) (p : SafetyP) : State :=
  let z := validZones p.zones
  let t : State := { s with safety := { s.safety with copy := some p, romParams := false, crcBad := false } }
  (t.initLimiters p z.1).cond z.2 fun u => u.setCause true cBadZone true

/-- The Rind keeps C = min(CF, CL) in the tiles that were reset with their quadrants on (R256). -/
def State.keepCeils (s : State) : State :=
  s.forEach ((List.range 64).filter fun t => s.quadReady (quadOfTile t)) fun u t => u.sendCeil t (min (u.fusedCeil t) u.drive.cl)

/-- Such tiles take the thresholds of the image (R290). -/
def State.sendThreshs (s : State) : State :=
  s.forEach ((List.range 64).filter fun t => s.quadReady (quadOfTile t)) State.sendThresh

/-- Every quadrant is powered (Table 2.19). (DEDUCED: assumption log 45.) -/
def State.powerQuads (s : State) : State := s.forEach [0, 1, 2, 3] fun t q => t.cond (!(t.quad q).powered) fun u => u.closeSwitch q

/-- The image of a slot is in force, and the MP starts (Table 2.19). (DESIGN CHOICE: assumption log 28.) -/
def State.adopt (s : State) (i : SlotId) : State :=
  { s with
    start := { s.start with state := .bringUp, active := some i, loading := none, order := [], attempts := 0 }
    img := (s.slot i).params
    power := { s.power with pd2 := (s.slot i).params.link.portB, pd10 := true }
    mp := { s.mp with ready := false, lastServ := s.now1, code := some i, entry := some (s.slot i).params.fwEntry } }

/-- The event of a loaded slot, whose reason is 0. -/
def State.told (s : State) (i : SlotId) : State := (s.setReason i 0).raise 0x0B02 [(1, slotNum i), (4, s.img.seq.toNat)]

/-- The bank groups that are powered and initialised take what the start puts there. -/
def State.fillReady (s : State) : State :=
  s.forEach ([0, 1].filter fun g => s.groupPower g && s.groupInit g) fun w g => w.fillGroup g []

/-- The slot passes every check: BRING_UP with its contents (Table 2.19). (DESIGN CHOICE: assumption log 28.) -/
def State.bringUp (s : State) (i : SlotId) : State :=
  (((s.adopt i).told i).takeSafety (s.slot i).params.safety).loadComposer (s.slot i)
    |>.powerQuads |>.startGrid |>.startPortA |>.repaint |>.keepCeils |>.sendThreshs |>.fillReady

/-- The CVU contexts 32 to 35 after the loader streamed a slot's sections, which take them in turn; of the factory image, whose
bytes are unknown, free values (10 R283). A slot whose directory fails has none to stream. (DESIGN CHOICE: assumption log 52.) -/
def State.stripped (s : State) (x : Slot) : State :=
  if x.intact then
    s.forEach [32, 33, 34, 35] fun t n =>
      { t with cvu := t.cvu.modify {} n fun c => { c with value := BitVec.ofNat 32 (Config.freeNat 19 n) } }
  else if [7, 8, 9, 0x0A].contains x.loadReason then s
  else ((x.dir.mapIdx fun k e => (k, e)).foldl (fun t p => t.setContext (32 + p.1 % 4) (x.bytes p.2.off p.2.len)) s)

/-- SLOT_CHECKS_DONE: the load and value stages of the slot (R65). -/
def execSlotChecksDone (s : State) : Host.Outcome State Fault Refusal :=
  match s.start.loading with
  | none => .next s
  | some i =>
    if s.start.state ≠ .load then .next s
    else
      let r := (s.slot i).bodyReason
      let t := s.stripped (s.slot i)
      if r = 0 then .next (t.bringUp i) else .next ((t.reject i r).tryNext s.start.order)

/-- READY_MS: TB1 plus the time from VLOG, or from the release of NRESET, to the start of TB1, which is at most 3 ms and not
known (R70, Table 2.20). (DESIGN CHOICE: assumption log 13.) -/
def State.readyTime (s : State) : Nat := (s.now1 + s.freeVal 11 % 3000001) / 1000000

/-- READY (Table 2.19): event 0x0B04, the registers locked, FAULT_N of a stuck reset released (R75), a rollback advance
begun (R48). -/
def State.enterReady (s : State) : State :=
  let ms := s.readyTime
  let t : State := { s with
    start := { s.start with
      state := .ready, readyMs := some ms, outcome := some 0
      rolling := s.img.advance && decide (s.fuse.rollback < s.img.secVer) }
    store := { s.store with wlock := true }
    drive := { s.drive with qlock := true }
    safety := { s.safety with stuckReset := false }
    mp := { s.mp with lastServ := s.now1 } }
  t.drawn.raise 0x0B04 [(4, ms)]

/-- MP_READY: the personality latches from a link that is up, what waited is served, and the engine is READY (R69, R71,
R77). (DESIGN CHOICE: assumption log 8.) -/
def execMpReady (s : State) : Host.Outcome State Fault Refusal :=
  if s.start.state ≠ .bringUp || 2 ≤ s.start.attempts || !s.mpLoaded then .next s
  else
    let r := s.cond (s.start.attempts ≠ 0 && s.groupReady 0) fun v => v.healAll.predict v.healAll.predictions
    let t := r.latchAndEnter.cond s.legacyUp State.legacyRecover
    let u := t.mpIsReady.serveWaiting.enterReady
    .next (u.startPortB.cond u.linkUp State.reportAtLinkUp)

/-- BRINGUP_TIMEOUT: the first restarts the MP, the second leaves the engine in BRING_UP (R69). -/
def execBringupTimeout (s : State) : Host.Outcome State Fault Refusal :=
  if s.start.state ≠ .bringUp || 2 ≤ s.start.attempts then .next s
  else
    let n := s.start.attempts + 1
    let t := ({ s with start := { s.start with attempts := n } } : State).raise 0x0B06 [(1, n)]
    .next (if n = 1 then t.restartMp else { t with start := { t.start with outcome := some 2 } })

/-- ROLLBACK: a step is blown (R48). -/
def execRollback (s : State) : Host.Outcome State Fault Refusal :=
  if !s.start.rolling then .next s
  else
    let f := s.fuse.rollback + 1
    let t : State := { s with
      fuse := { s.fuse with rollback := f }, start := { s.start with rolling := decide (f < s.img.secVer) } }
    .next (t.raise 0x0B05 [(1, f)])

/-! ### NRESET -/

/-- The states in which the Rind samples NRESET for a reset (R69). -/
def StartState.resettable : StartState → Bool
  | .powerOn => false
  | .resetHeld => false
  | _ => true

/-- A quadrant keeps its power, its readiness and its power-force line through a reset. (DEDUCED: assumption log 22.) -/
def Quad.atReset (k : Quad) : Quad := { powered := k.powered, ready := k.ready, forced := k.forced, waking := k.waking }

/-- What is not reset by NRESET: the Rind with its parameters, sets, causes and lines, TB3, the thermal unit, the fuse block
(R73), the supply monitor, the records, the test access port. (DEDUCED: assumption log 22.) -/
def State.resetCore (s : State) : State :=
  let z : State := {}
  { z with
    pending := s.pending, free := s.free, fuse := s.fuse, flash := s.flash.kept, tap := s.tap
    selfTest := { s.selfTest with running := false }
    start := { state := .resetHeld, vlog := s.start.vlog, addr0 := s.start.addr0, addr1 := s.start.addr1
               testEn := s.start.testEn, cause := 1, at3 := s.clk.tb3, inhTold := s.start.inhTold, fuseBad := s.start.fuseBad }
    clk := { safe := s.clk.safe, tb3 := s.clk.tb3 }
    quads := (s.quads.map fun e => (e.1, e.2.atReset)).filter fun e => e.2 ≠ {}
    drive := { cl := s.drive.cl, limActive := s.drive.limActive, iLim := s.drive.iLim, vledMv := s.drive.vledMv
               vledMa := s.drive.vledMa, branchMa := s.drive.branchMa, present := s.drive.present, low := s.drive.low
               overcurrent := s.drive.overcurrent }
    zones := { s.zones with spLim := {}, diffRun := 0, sameRun := 0 }
    safety := { s.safety with spCauses := 0, spSent := 0, spMiss := 0, rindMiss := 0, spOkMs := 0, handover := false }
    thermal := s.thermal
    policy := { cuts := s.policy.cuts
                tiles := (s.policy.tiles.map fun e => (e.1, ({ cutLatch := e.2.cutLatch, cutTimes := e.2.cutTimes } : Heat))).filter
                  fun e => e.2 ≠ {} }
    svc := { fails := s.svc.fails, lockRec := s.svc.lockRec }
    ev := { flags := s.ev.startFlags.flags, counts := s.ev.startFlags.counts } }

/-- NRESET_LOW: RESET_HELD (R73). The flash command in progress completes; an unlocked session ends (Table 13.5); the Rind
paints what LBREQ asks for. (DEDUCED: assumption log 22.) -/
def execNresetLow (s : State) : Host.Outcome State Fault Refusal :=
  if !s.start.state.resettable || !s.rindRuns then .next s
  else
    let t := s.finishFlash
    let u := t.resetCore.cond (s.svc.state = .unlocked) fun v => v.raise 0x0C06 [(1, 0), (1, s.svc.path)]
    let w := u.keepCeils
    .next (if w.safety.state = w.offState then w.repaint else w.changeState w.offState)

/-- What a start clears in the Rind: the off latch (R72, R330), the causes, cuts and faults held until the next start
(Tables 11.6 and 11.7, R327, R347, R401). (DEDUCED: assumption log 23.) -/
def State.clearHeld (s : State) : State :=
  let t : State := { s with
    safety := { s.safety with
      offLatch := false, firstNormal := false, rindCauses := s.safety.rindCauses &&& ~~~untilStart, crcBad := false
      voteBad := false, disagree := false, clockFault := 0, oscFault := false, recoveries := 0, switchFault := 0
      switchClosed := 0 }
    drive := { s.drive with overcurrent := false }
    policy := { s.policy with tiles := [] } }
  let u := t.forEach (List.range 64) fun v i => (v.setCut i kFill false).setCut i kHeat (v.heatHeld i)
  u.checkInh

/-- NRESET_HIGH: the start from SELECT (R75). (DEDUCED: assumption log 23.) -/
def execNresetHigh (s : State) : Host.Outcome State Fault Refusal :=
  if s.start.state ≠ .resetHeld then .next s
  else
    let t : State := { s with
      start := { s.start with cause := if s.start.stuck then 2 else 1, at3 := s.clk.tb3, stuck := false } }
    .next t.clearHeld.toSelect

/-- STUCK_RESET: NRESET low for more than 2.0 s of TB3 (R74, R330). -/
def execStuckReset (s : State) : Host.Outcome State Fault Refusal :=
  if s.start.state ≠ .resetHeld || s.start.stuck then .next s
  else
    let t : State := { s with
      start := { s.start with stuck := true }, safety := { s.safety with stuckReset := true } }
    .next ((t.setFlag fStuckReset).raise 0x080E [])

end Sys2Proof.Machine
end

