-- ==== Sys2Proof/Machine/TestPort.lean ====
section
/-!
DEFINITION. TEST_EN and the test access port (03 R110, 16 R430; the port's states are those of IEEE 1149.1, which the spec
names).
-/
namespace Sys2Proof.Machine

/-- TEST_EN_HIGH: the near-end loopbacks start where port A is powered (R110), the test access port leaves test-logic reset
(R430). (DESIGN CHOICE: assumption log 20.) -/
def execTestEnHigh (s : State) : Host.Outcome State Fault Refusal :=
  if s.start.testEn then .next s
  else
    let t : State := { s with start := { s.start with testEn := true }, tap := {} }
    .next (t.cond (t.portA.st ≠ .off) fun u => (u.startLoopback 1 0).loopEvent 2 true)

/-- The states of IEEE 1149.1: 0 Test-Logic-Reset, 1 Run-Test/Idle, 2-8 Select-, Capture-, Shift-, Exit1-, Pause-, Exit2-,
Update-DR, 9-15 the same for IR. The state after a rising edge with TMS 0 and with TMS 1. (PRESUMED: assumption log 12.) -/
def tapNext : List (Nat × Nat) :=
  [(1, 0), (1, 2), (3, 9), (4, 5), (4, 5), (6, 8), (6, 7), (4, 8), (1, 2),
   (10, 0), (11, 12), (11, 12), (13, 15), (13, 14), (11, 15), (1, 2)]

/-- The instruction selects the boundary chain: EXTEST and SAMPLE/PRELOAD; every other code selects BYPASS (R430). -/
def Tap.boundary (p : Tap) : Bool := p.ir = 0 || p.ir = 1

/-- EXTEST drives the output lands from the update stage. -/
def Tap.extest (p : Tap) : Bool := p.ir = 0

/-- The rising edge of TCK in the present state: capture or shift. The two upper bits that the instruction stage captures
are free; IEEE 1149.1 fixes 01 below them. (PRESUMED: assumption log 12.) -/
def Tap.rise (p : Tap) (tdi : Bool) (lands : BitVec 12) (upper : Nat) : Tap :=
  match p.st with
  | 3 => if p.boundary then { p with cells := lands } else { p with bypass := false }
  | 4 => if p.boundary then { p with cells := BitVec.ofNat 12 (p.cells.toNat / 2 + 2048 * b2n tdi) } else { p with bypass := tdi }
  | 10 => { p with irShift := BitVec.ofNat 4 (1 + 4 * (upper % 4)) }
  | 11 => { p with irShift := BitVec.ofNat 4 (p.irShift.toNat / 2 + 8 * b2n tdi) }
  | _ => p

/-- The falling edge that follows, in the new state: updates, and TDO, which is driven while shifting alone.
(PRESUMED: assumption log 12.) -/
def Tap.fall (p : Tap) : Tap :=
  match p.st with
  | 0 => { p with ir := 15, tdo := none }
  | 4 => { p with tdo := some (if p.boundary then p.cells.getLsbD 0 else p.bypass) }
  | 8 => { p with outs := if p.boundary then p.cells else p.outs, tdo := none }
  | 11 => { p with tdo := some (p.irShift.getLsbD 0) }
  | 15 => { p with ir := p.irShift, tdo := none }
  | _ => { p with tdo := none }

/-- One cycle of TCK. (PRESUMED: assumption log 12.) -/
def Tap.clock (p : Tap) (tms tdi : Bool) (lands : BitVec 12) (upper : Nat) : Tap :=
  let q := p.rise tdi lands upper
  let n := tapNext.getD p.st (1, 0)
  ({ q with st := if tms then n.2 else n.1 } : Tap).fall

/-- TEST_ACCESS_PORT: a cycle of TCK with TMS, TDI and the levels of the control lands; held in test-logic reset while TEST_EN
is low (R430). (PRESUMED: assumption log 12.) -/
def execTestAccessPort (tms tdi : Bool) (lands : BitVec 12) (s : State) : Host.Outcome State Fault Refusal :=
  if !s.start.testEn || !s.start.vlog then .next s
  else
    let t : State := { s with tap := s.tap.clock tms tdi lands (s.freeVal 12) }
    .next (t.cond (s.tap.st = 10) State.drawn)

end Sys2Proof.Machine
end

