-- ==== Sys2Proof/Machine/Dispatch.lean ====
section
/-!
DEFINITION. One arm per command: a direct call of its meaning.
-/
namespace Sys2Proof.Machine

def exec (i : Instr) (s : State) : Host.Outcome State Fault Refusal :=
  match i with
  | .vlogValid => Sys2Proof.Machine.execVlogValid s
  | .lossOfVlog => Sys2Proof.Machine.execLossOfVlog s
  | .safePllLocked => Sys2Proof.Machine.execSafePllLocked s
  | .fuseReadDone rowFailed => Sys2Proof.Machine.execFuseReadDone rowFailed s
  | .headersChecked => Sys2Proof.Machine.execHeadersChecked s
  | .flashReadFail => Sys2Proof.Machine.execFlashReadFail s
  | .slotChecksDone => Sys2Proof.Machine.execSlotChecksDone s
  | .mpReady => Sys2Proof.Machine.execMpReady s
  | .bringupTimeout => Sys2Proof.Machine.execBringupTimeout s
  | .rollback => Sys2Proof.Machine.execRollback s
  | .nresetLow => Sys2Proof.Machine.execNresetLow s
  | .nresetHigh => Sys2Proof.Machine.execNresetHigh s
  | .stuckReset => Sys2Proof.Machine.execStuckReset s
  | .startLogWrite => Sys2Proof.Machine.execStartLogWrite s
  | .receiverDetectionDone p lane r => Sys2Proof.Machine.execReceiverDetectionDone p lane r s
  | .squelchOpen p lane => Sys2Proof.Machine.execSquelchOpen p lane s
  | .squelchClose p lane => Sys2Proof.Machine.execSquelchClose p lane s
  | .sweepDwellEnd => Sys2Proof.Machine.execSweepDwellEnd s
  | .bitLock p lane => Sys2Proof.Machine.execBitLock p lane s
  | .commaAligned p lane t512 => Sys2Proof.Machine.execCommaAligned p lane t512 s
  | .blockLock p lane => Sys2Proof.Machine.execBlockLock p lane s
  | .laneFault p lane => Sys2Proof.Machine.execLaneFault p lane s
  | .trainingTimeout p => Sys2Proof.Machine.execTrainingTimeout p s
  | .backoffElapsed p => Sys2Proof.Machine.execBackoffElapsed p s
  | .tsA p lane w => Sys2Proof.Machine.execTsA p lane w s
  | .farEndLoopbackEnd => Sys2Proof.Machine.execFarEndLoopbackEnd s
  | .tsB p blocks => Sys2Proof.Machine.execTsB p blocks s
  | .tsEnd p blocks => Sys2Proof.Machine.execTsEnd p blocks s
  | .repair w => Sys2Proof.Machine.execRepair w s
  | .repairTimeout => Sys2Proof.Machine.execRepairTimeout s
  | .idleEnter => Sys2Proof.Machine.execIdleEnter s
  | .wake => Sys2Proof.Machine.execWake s
  | .wakeEnd locked => Sys2Proof.Machine.execWakeEnd locked s
  | .backLaneIdleEntry => Sys2Proof.Machine.execBackLaneIdleEntry s
  | .backLaneWake => Sys2Proof.Machine.execBackLaneWake s
  | .backLaneDetect r => Sys2Proof.Machine.execBackLaneDetect r s
  | .linkSelftest q args => Sys2Proof.Machine.execLinkSelftest q args s
  | .selftestEnd errors locks => Sys2Proof.Machine.execSelftestEnd errors locks s
  | .capOffer payload => Sys2Proof.Machine.execCapOffer payload s
  | .capConfirm payload => Sys2Proof.Machine.execCapConfirm payload s
  | .capAnswer payload => Sys2Proof.Machine.execCapAnswer payload s
  | .packetLinkFail p why seq => Sys2Proof.Machine.execPacketLinkFail p why seq s
  | .packetDiscard h up vc type len => Sys2Proof.Machine.execPacketDiscard h up vc type len s
  | .ack p seq => Sys2Proof.Machine.execAck p seq s
  | .nak p seq => Sys2Proof.Machine.execNak p seq s
  | .credit p vc total => Sys2Proof.Machine.execCredit p vc total s
  | .ackTimer => Sys2Proof.Machine.execAckTimer s
  | .creditReturnTimer resend => Sys2Proof.Machine.execCreditReturnTimer resend s
  | .replayTimer => Sys2Proof.Machine.execReplayTimer s
  | .tqTransmit => Sys2Proof.Machine.execTqTransmit s
  | .tqStarvation q => Sys2Proof.Machine.execTqStarvation q s
  | .forwardPortB dt => Sys2Proof.Machine.execForwardPortB dt s
  | .portBUpstream h vc type payload => Sys2Proof.Machine.execPortBUpstream h vc type payload s
  | .write h layer payload corrected bad => Sys2Proof.Machine.execWrite h layer payload corrected bad s
  | .surfaceComplete dt h layer payload => Sys2Proof.Machine.execSurfaceComplete dt h layer payload s
  | .descriptor h payload => Sys2Proof.Machine.execDescriptor h payload s
  | .commit dt h payload => Sys2Proof.Machine.execCommit dt h payload s
  | .pour dt h payload => Sys2Proof.Machine.execPour dt h payload s
  | .awaitExpired seq => Sys2Proof.Machine.execAwaitExpired seq s
  | .zonePlain h payload => Sys2Proof.Machine.execZonePlain h payload s
  | .zoneCompl h payload => Sys2Proof.Machine.execZoneCompl h payload s
  | .candidateExpiry => Sys2Proof.Machine.execCandidateExpiry s
  | .sync dt h payload => Sys2Proof.Machine.execSync dt h payload s
  | .followUp dt h payload => Sys2Proof.Machine.execFollowUp dt h payload s
  | .delayResp dt h payload => Sys2Proof.Machine.execDelayResp dt h payload s
  | .syncPairTimeout delay => Sys2Proof.Machine.execSyncPairTimeout delay s
  | .tb0Holdover => Sys2Proof.Machine.execTb0Holdover s
  | .statusRead h args => Sys2Proof.Machine.execStatusRead h args s
  | .modeSelect dt h args => Sys2Proof.Machine.execModeSelect dt h args s
  | .profileSelect dt h args => Sys2Proof.Machine.execProfileSelect dt h args s
  | .masterDimmer dt h args => Sys2Proof.Machine.execMasterDimmer dt h args s
  | .addrSet h args => Sys2Proof.Machine.execAddrSet h args s
  | .safetyRecover h args => Sys2Proof.Machine.execSafetyRecover h args s
  | .echo h args => Sys2Proof.Machine.execEcho h args s
  | .unknownOpcode src opcode args => Sys2Proof.Machine.execUnknownOpcode src opcode args s
  | .unlockReq q args => Sys2Proof.Machine.execUnlockReq q args s
  | .unlockResp q args => Sys2Proof.Machine.execUnlockResp q args s
  | .sessionEnd q args => Sys2Proof.Machine.execSessionEnd q args s
  | .imageErase q args => Sys2Proof.Machine.execImageErase q args s
  | .imageWrite q args => Sys2Proof.Machine.execImageWrite q args s
  | .imageCheck q args => Sys2Proof.Machine.execImageCheck q args s
  | .imageRead q args => Sys2Proof.Machine.execImageRead q args s
  | .recordRead q args => Sys2Proof.Machine.execRecordRead q args s
  | .perturbSet q args => Sys2Proof.Machine.execPerturbSet q args s
  | .perturbClear q args => Sys2Proof.Machine.execPerturbClear q args s
  | .perturbStatus q args => Sys2Proof.Machine.execPerturbStatus q args s
  | .perturbOff testEnFell => Sys2Proof.Machine.execPerturbOff testEnFell s
  | .uartGapTimeout => Sys2Proof.Machine.execUartGapTimeout s
  | .challengeTimeout => Sys2Proof.Machine.execChallengeTimeout s
  | .sessionIdleTimeout => Sys2Proof.Machine.execSessionIdleTimeout s
  | .lockoutEnd => Sys2Proof.Machine.execLockoutEnd s
  | .tsevtCapture dt => Sys2Proof.Machine.execTsevtCapture dt s
  | .lampsyncEdge dt => Sys2Proof.Machine.execLampsyncEdge dt s
  | .lampsyncLoss => Sys2Proof.Machine.execLampsyncLoss s
  | .latchPoint => Sys2Proof.Machine.execLatchPoint s
  | .cutoff => Sys2Proof.Machine.execCutoff s
  | .handoverAlign => Sys2Proof.Machine.execHandoverAlign s
  | .scanStepRelease residueRows => Sys2Proof.Machine.execScanStepRelease residueRows s
  | .scanoutStarved bank => Sys2Proof.Machine.execScanoutStarved bank s
  | .rowSegment t hdr codes crc => Sys2Proof.Machine.execRowSegment t hdr codes crc s
  | .readback t w => Sys2Proof.Machine.execReadback t w s
  | .readbackTimeout => Sys2Proof.Machine.execReadbackTimeout s
  | .reread => Sys2Proof.Machine.execReread s
  | .readbackPacket => Sys2Proof.Machine.execReadbackPacket s
  | .crcGenCheck => Sys2Proof.Machine.execCrcGenCheck s
  | .tilePeriodBoundary t => Sys2Proof.Machine.execTilePeriodBoundary t s
  | .curSet t w => Sys2Proof.Machine.execCurSet t w s
  | .pwmSet t w => Sys2Proof.Machine.execPwmSet t w s
  | .align t w => Sys2Proof.Machine.execAlign t w s
  | .meas t w => Sys2Proof.Machine.execMeas t w s
  | .tampAllow t w => Sys2Proof.Machine.execTampAllow t w s
  | .switchGap t w => Sys2Proof.Machine.execSwitchGap t w s
  | .result t w => Sys2Proof.Machine.execResult t w s
  | .parityScan t w => Sys2Proof.Machine.execParityScan t w s
  | .thresh t w => Sys2Proof.Machine.execThresh t w s
  | .measPeriodEnd t opens shorts stuck => Sys2Proof.Machine.execMeasPeriodEnd t opens shorts stuck s
  | .gapPulseEnd t falls returns load collapse => Sys2Proof.Machine.execGapPulseEnd t falls returns load collapse s
  | .diagRowSlot t => Sys2Proof.Machine.execDiagRowSlot t s
  | .gapTestDue t => Sys2Proof.Machine.execGapTestDue t s
  | .sweepOverdue t => Sys2Proof.Machine.execSweepOverdue t s
  | .diagMapReport => Sys2Proof.Machine.execDiagMapReport s
  | .diagCtrlWrite v => Sys2Proof.Machine.execDiagCtrlWrite v s
  | .drvTileWrite t v => Sys2Proof.Machine.execDrvTileWrite t v s
  | .offReq q => Sys2Proof.Machine.execOffReq q s
  | .wakeReq q => Sys2Proof.Machine.execWakeReq q s
  | .quadOff q => Sys2Proof.Machine.execQuadOff q s
  | .quadReady q => Sys2Proof.Machine.execQuadReady q s
  | .wakeCatchup q => Sys2Proof.Machine.execWakeCatchup q s
  | .drvStripeWrite c v => Sys2Proof.Machine.execDrvStripeWrite c v s
  | .powerDomainRequest pd on => Sys2Proof.Machine.execPowerDomainRequest pd on s
  | .powerForceRelease q => Sys2Proof.Machine.execPowerForceRelease q s
  | .fillRect q w => Sys2Proof.Machine.execFillRect q w s
  | .setCeil q w => Sys2Proof.Machine.execSetCeil q w s
  | .setOverride q w => Sys2Proof.Machine.execSetOverride q w s
  | .setSource q w => Sys2Proof.Machine.execSetSource q w s
  | .quadStatus q w => Sys2Proof.Machine.execQuadStatus q w s
  | .fillSweepDone t => Sys2Proof.Machine.execFillSweepDone t s
  | .commandAnswer q a => Sys2Proof.Machine.execCommandAnswer q a s
  | .commandTimeout q => Sys2Proof.Machine.execCommandTimeout q s
  | .moduleLimitUpdate ma mv => Sys2Proof.Machine.execModuleLimitUpdate ma mv s
  | .overcurrent ma => Sys2Proof.Machine.execOvercurrent ma s
  | .vledLow mv => Sys2Proof.Machine.execVledLow mv s
  | .vledPresent mv => Sys2Proof.Machine.execVledPresent mv s
  | .arbiterDecision b reqs => Sys2Proof.Machine.execArbiterDecision b reqs s
  | .slotShadowWrite b j v => Sys2Proof.Machine.execSlotShadowWrite b j v s
  | .swap b => Sys2Proof.Machine.execSwap b s
  | .freeze b on => Sys2Proof.Machine.execFreeze b on s
  | .arbWatchdog b => Sys2Proof.Machine.execArbWatchdog b s
  | .lockBroken b => Sys2Proof.Machine.execLockBroken b s
  | .bankInitDone group => Sys2Proof.Machine.execBankInitDone group s
  | .scrubOverdue b => Sys2Proof.Machine.execScrubOverdue b s
  | .lbreq active => Sys2Proof.Machine.execLbreq active s
  | .limiterTick => Sys2Proof.Machine.execLimiterTick s
  | .setMismatch => Sys2Proof.Machine.execSetMismatch s
  | .requestWord fromSp fromRind => Sys2Proof.Machine.execRequestWord fromSp fromRind s
  | .normalAgreement => Sys2Proof.Machine.execNormalAgreement s
  | .degTimeout => Sys2Proof.Machine.execDegTimeout s
  | .channelDisagree => Sys2Proof.Machine.execChannelDisagree s
  | .voteMismatch => Sys2Proof.Machine.execVoteMismatch s
  | .stallBlank => Sys2Proof.Machine.execStallBlank s
  | .stallRequestExpiry => Sys2Proof.Machine.execStallRequestExpiry s
  | .linkHoldExpiry => Sys2Proof.Machine.execLinkHoldExpiry s
  | .safetyCrcCheck corrupt => Sys2Proof.Machine.execSafetyCrcCheck corrupt s
  | .clockFault tileClock => Sys2Proof.Machine.execClockFault tileClock s
  | .oscillatorCheck deviates => Sys2Proof.Machine.execOscillatorCheck deviates s
  | .mpWatchdogService dt => Sys2Proof.Machine.execMpWatchdogService dt s
  | .mpWatchdog => Sys2Proof.Machine.execMpWatchdog s
  | .mpRestartReady => Sys2Proof.Machine.execMpRestartReady s
  | .spWatchdogService v => Sys2Proof.Machine.execSpWatchdogService v s
  | .spWatchdog => Sys2Proof.Machine.execSpWatchdog s
  | .spRestarted => Sys2Proof.Machine.execSpRestarted s
  | .rindHeartbeat count => Sys2Proof.Machine.execRindHeartbeat count s
  | .mpBadAccess addr => Sys2Proof.Machine.execMpBadAccess addr s
  | .tileSensorSample t raw => Sys2Proof.Machine.execTileSensorSample t raw s
  | .quadSensorSample q raw => Sys2Proof.Machine.execQuadSensorSample q raw s
  | .dieSensorSample raw => Sys2Proof.Machine.execDieSensorSample raw s
  | .ntcSample ohms => Sys2Proof.Machine.execNtcSample ohms s
  | .mpPolicyTick mv ma branch => Sys2Proof.Machine.execMpPolicyTick mv ma branch s
  | .shutdownRetry t => Sys2Proof.Machine.execShutdownRetry t s
  | .hardCut target => Sys2Proof.Machine.execHardCut target s
  | .hardCutRelease target => Sys2Proof.Machine.execHardCutRelease target s
  | .heatRecordWrite kind target => Sys2Proof.Machine.execHeatRecordWrite kind target s
  | .affWWrite => Sys2Proof.Machine.execAffWWrite s
  | .fillCharge => Sys2Proof.Machine.execFillCharge s
  | .affinageSave => Sys2Proof.Machine.execAffinageSave s
  | .saveDeferred => Sys2Proof.Machine.execSaveDeferred s
  | .reserve n => Sys2Proof.Machine.execReserve n s
  | .flashCommand c => Sys2Proof.Machine.execFlashCommand c s
  | .flashCommandDone => Sys2Proof.Machine.execFlashCommandDone s
  | .faultMapSave => Sys2Proof.Machine.execFaultMapSave s
  | .telemetryHistory => Sys2Proof.Machine.execTelemetryHistory s
  | .eventPacket => Sys2Proof.Machine.execEventPacket s
  | .eventRateWindow code key => Sys2Proof.Machine.execEventRateWindow code key s
  | .registerWrite addr v => Sys2Proof.Machine.execRegisterWrite addr v s
  | .hs sets => Sys2Proof.Machine.execHs sets s
  | .regWrite dt f => Sys2Proof.Machine.execRegWrite dt f s
  | .regRead f => Sys2Proof.Machine.execRegRead f s
  | .lines dt f => Sys2Proof.Machine.execLines dt f s
  | .showRows dt f => Sys2Proof.Machine.execShowRows dt f s
  | .legacyEcho f => Sys2Proof.Machine.execLegacyEcho f s
  | .frameNak noRoom => Sys2Proof.Machine.execFrameNak noRoom s
  | .frameRejected type f => Sys2Proof.Machine.execFrameRejected type f s
  | .softReset dt f => Sys2Proof.Machine.execSoftReset dt f s
  | .faultIdxWrite f => Sys2Proof.Machine.execFaultIdxWrite f s
  | .faultEntryRead f => Sys2Proof.Machine.execFaultEntryRead f s
  | .legacyStatusRead f => Sys2Proof.Machine.execLegacyStatusRead f s
  | .linkErrCntRead f => Sys2Proof.Machine.execLinkErrCntRead f s
  | .lowByteRead f => Sys2Proof.Machine.execLowByteRead f s
  | .crystalPllLocked => Sys2Proof.Machine.execCrystalPllLocked s
  | .testEnHigh => Sys2Proof.Machine.execTestEnHigh s
  | .testAccessPort tms tdi lands => Sys2Proof.Machine.execTestAccessPort tms tdi lands s
  | .safetyOscillatorStop => Sys2Proof.Machine.execSafetyOscillatorStop s

end Sys2Proof.Machine
end

