-- ==== Sys2Proof/Machine/Idle.lean ====
section
/-!
DEFINITION. What passes on an empty queue: 100 ns of every clock that runs (assumption log 7), a port's wait for its lanes in
ALIGN, and operations that waited and may be served (assumption log 10).
-/
namespace Sys2Proof.Machine

/-- 25 TIME cycles, and 100 ns of TB3 while the safety clock runs (R144, R146). Beside these, every timer's end is a
command of the table (assumption log 9). -/
def State.idle (s : State) : State :=
  let t : State := { s with clk := { s.clk with tb3 := if s.clk.safe && !s.safety.oscStopped then s.clk.tb3 + 100 else s.clk.tb3 } }
  (((t.elapse 25).toDeskew .a).toDeskew .b).serveWaiting

end Sys2Proof.Machine
end

