-- ==== Sys2Proof/Safety.lean ====
section
/-!
DEFINITION. What a safe run is, in the terms claims use: light and darkness (11), the off latch (R314), and the bounds the
spec sets on what the machine holds.
-/
namespace Sys2Proof.Machine

/-- No tile emits light: every cut line is low (R26, R299, R324). -/
abbrev State.dark (s : State) : Prop := ∀ t, t < 64 → s.isCut t = true

/-- While the off latch is set the effective state is in the off class (R314). -/
abbrev State.LatchHolds (s : State) : Prop := s.safety.offLatch = true → s.safety.state.off = true

/-- At most eight commits are pending (R208). -/
abbrev State.CommitsBounded (s : State) : Prop := s.comp.pending.length ≤ 8

/-- The pixel store, the two image slots, the flash regions of the records and the latches are in canonical form: addresses
strictly rising, no entry equal to what an unlisted address reads as. (DESIGN CHOICE: assumption log 48.) -/
abbrev State.MemoryWf (s : State) : Prop :=
  Sparse.wf 0 s.store.cells = true ∧ Sparse.wf 0xFF s.flash.recs = true ∧ Sparse.wf 0xFF s.flash.slotA.cells = true
    ∧ Sparse.wf 0xFF s.flash.slotB.cells = true ∧ Sparse.wf 0 s.latches = true

/-- A packet arrives in order on a native link, for this module, passes the link stage and the content stage, and is consumed
at once: its SEQ is the expected one, its ADDR the module's own, or 0xF with port B down, its length, fields and credits are
good, the processors run, the banks it writes serve, and nothing waits before it (R120, R125, R140, R172, R366). -/
abbrev State.accepts (s : State) (p : Rx) : Prop :=
  s.linkUp = true ∧ p.h.seq = s.link.expSeq ∧ s.start.state ≠ .serviceOnly ∧ (p.h.addr = BitVec.setWidth 4 s.link.addr ∨ (p.h.addr = 0xF ∧ s.portB.linked = false)) ∧
    p.len ≤ 4096 ∧ p.lenOk = true ∧ p.fieldsOk = true ∧ (s.link.credits.get {} p.vc).held + creditCost p.len ≤ s.grant p.vc ∧
    s.mp.ready = true ∧ s.sp.running = true ∧ s.storeBlocked p.lo p.hi = false ∧ s.link.waiting = []

/-- The state after both stages, the packet's credits charged. -/
def State.admitted (s : State) (p : Rx) : State := s.linkPass.charge p.vc (creditCost p.len) p.len

/-- The REPLY that `t` has queued on TQ0 beside what `s` had, or left with its producer where TQ0 is full: none to a broadcast
answered OK (R124, R131, R132). -/
def State.replied (s t : State) (h : Hdr) (status type opcode : Nat) (data : List Byte) : Prop :=
  let u := if h.addr = 0xF ∧ status = 0 then s else s.enqueue 0 (s.upPkt 0 0x11 h.tag (replyBytes status type opcode data))
  t.link.tqs = u.link.tqs ∧ t.link.blocked = u.link.blocked

/-- A service operation arrives on its path and is served at once (R366, R371). -/
def State.serves (s : State) (q : SvcSrc) (opcode : Nat) (args : List Byte) : Prop :=
  match q with
  | .vc4 h => s.accepts (serviceRx h opcode args 2)
  | .uart => s.clk.crystal = true ∧ 2 ≤ args.length ∧ args.length ≤ 4094 ∧ s.mp.ready = true ∧ s.sp.running = true ∧
      s.link.waiting = []

/-- The readback word that acknowledges a control segment with zeros, KEEPALIVE and FRAME8 copied from its header (R223, R225). -/
def controlAck (h : BitVec 32) : BitVec 48 := readbackWord 2 0 (bitOf h.toNat 20) false false (bitsOf h.toNat 8 8) 0

/-- The answer to a service operation, on its path: a REPLY packet, or its payload in a frame of the UART (R371). -/
def State.svcReplied (s t : State) (q : SvcSrc) (status opcode : Nat) (data : List Byte) : Prop :=
  match q with
  | .vc4 h => s.replied t h status 0x50 opcode data
  | .uart => t.svc.uartTx = s.svc.uartTx ++ [uartFrame (replyBytes status 0x50 opcode data)]

/-- The session is unlocked on the operation's own path (R371, R372). -/
abbrev State.sessionOn (s : State) (q : SvcSrc) : Prop := s.svc.state = .unlocked ∧ s.svc.path = pathNum q

/-- A T512 frame is executed at once: a T512 link is up, the MP ready, nothing waits, the frame fits into the receive staging and is
no duplicate (R142, R366, R381). -/
abbrev State.takesFrame (s : State) (f : T512Frame) : Prop :=
  s.legacyUp = true ∧ s.mp.ready = true ∧ s.link.waiting = [] ∧ f.payload.length ≤ 360448 ∧ s.leg.lastSeq ≠ some f.seq

/-- A T512 frame is on the back lane, its IDLE before it, and port A is otherwise as it was (R378, R379). -/
def State.sentT512 (s t : State) (r : T512Reply) : Prop :=
  t.portA = { s.portA with line := t.portA.line } ∧
    (s.portA.gen = 1 → t.portA.line.chars = t512Idle ++ t512Chars r.type r.seq r.arg r.payload)

/-- The reply to a T512 frame is sent, and stored for the frame's duplicates (R381). -/
def State.repliedT512 (s t : State) (f : T512Frame) (r : T512Reply) : Prop :=
  t.leg.lastSeq = some f.seq ∧ t.leg.lastReply = some r ∧ t.leg.replies = s.leg.replies ++ [r] ∧ t.leg.badRun = 0 ∧ s.sentT512 t r

/-- A T512 frame is answered with STATUS (R380). -/
def State.ackedT512 (s t : State) (f : T512Frame) (status : Nat) : Prop :=
  s.repliedT512 t f { type := 0x81, seq := f.seq, payload := leBytes 1 status }

end Sys2Proof.Machine
end

