-- ==== Sys2Proof/Laws/Memory.lean ====
section
/-!
SUPPORT. The canonical form of a sparse map and what keeps it; reads after writes; every operation of the pixel store and the flash
keeps `State.MemoryWf`.
-/
namespace Sys2Proof

variable {α : Type}

/-- The canonical form in words: keys rise, no value is the default. -/
theorem Sparse.wf_iff [DecidableEq α] (d : α) (m : Sparse α) :
    Sparse.wf d m = true ↔ m.Pairwise (fun a b => a.1 < b.1) ∧ ∀ e ∈ m, e.2 ≠ d := by
  induction m with
  | nil => simp [Sparse.wf]
  | cons e m ih =>
    obtain ⟨i, v⟩ := e
    cases m with
    | nil => simp [Sparse.wf]
    | cons e' m =>
      obtain ⟨j, w⟩ := e'
      rw [Sparse.wf, Bool.and_eq_true, Bool.and_eq_true, decide_eq_true_eq, decide_eq_true_eq, ih, List.pairwise_cons (a := (i, v))]
      constructor
      · rintro ⟨⟨hv, hij⟩, hp, hd⟩
        refine ⟨⟨fun b hb => ?_, hp⟩, fun x hx => ?_⟩
        · rcases List.mem_cons.mp hb with rfl | hb
          · exact hij
          · exact Nat.lt_trans hij ((List.pairwise_cons.mp hp).1 b hb)
        · rcases List.mem_cons.mp hx with rfl | hx
          · exact hv
          · exact hd x hx
      · rintro ⟨⟨hi, hp⟩, hd⟩
        exact ⟨⟨hd _ (List.mem_cons_self ..), hi _ (List.mem_cons_self ..)⟩, hp, fun x hx => hd x (List.mem_cons_of_mem _ hx)⟩

/-- The empty map is canonical. -/
theorem Sparse.wf_nil [DecidableEq α] (d : α) : Sparse.wf d ([] : Sparse α) = true := rfl

/-- A filtered map is canonical. -/
theorem Sparse.wf_filter [DecidableEq α] (d : α) (m : Sparse α) (p : Nat × α → Bool) (h : Sparse.wf d m = true) :
    Sparse.wf d (m.filter p : Sparse α) = true := by
  rw [Sparse.wf_iff] at h ⊢
  exact ⟨h.1.filter p, fun e he => h.2 e (List.mem_of_mem_filter he)⟩

theorem Sparse.mem_put (m : Sparse α) (k : Nat) (v : α) (e : Nat × α) (h : e ∈ Sparse.put m k v) : e = (k, v) ∨ e ∈ m := by
  induction m with
  | nil => simpa [Sparse.put] using h
  | cons x m ih =>
    obtain ⟨i, w⟩ := x
    rw [Sparse.put] at h
    split at h
    · simpa using h
    · split at h
      · rcases List.mem_cons.mp h with h | h
        · exact .inl h
        · exact .inr (List.mem_cons_of_mem _ h)
      · rcases List.mem_cons.mp h with h | h
        · exact .inr (h ▸ List.mem_cons_self ..)
        · exact (ih h).imp id (List.mem_cons_of_mem _)

theorem Sparse.mem_drop (m : Sparse α) (k : Nat) (e : Nat × α) (h : e ∈ Sparse.drop m k) : e ∈ m := by
  induction m with
  | nil => exact h
  | cons x m ih =>
    obtain ⟨i, w⟩ := x
    rw [Sparse.drop] at h
    split at h
    · exact List.mem_cons_of_mem _ h
    · rcases List.mem_cons.mp h with h | h
      · exact h ▸ List.mem_cons_self ..
      · exact List.mem_cons_of_mem _ (ih h)

/-- Listing a value that is not the default keeps the form. -/
theorem Sparse.wf_put [DecidableEq α] (d : α) (m : Sparse α) (k : Nat) (v : α) (hv : v ≠ d) (h : Sparse.wf d m = true) :
    Sparse.wf d (Sparse.put m k v) = true := by
  rw [Sparse.wf_iff] at h ⊢
  refine ⟨?_, fun e he => ?_⟩
  · have hp := h.1
    clear h
    induction m with
    | nil => simp [Sparse.put]
    | cons x m ih =>
      obtain ⟨i, w⟩ := x
      obtain ⟨h1, h2⟩ := List.pairwise_cons.mp hp
      rw [Sparse.put]
      split
      · rename_i hk
        exact List.pairwise_cons.mpr ⟨fun b hb => by
          rcases List.mem_cons.mp hb with rfl | hb
          · exact hk
          · exact Nat.lt_trans hk (h1 b hb), hp⟩
      · split
        · rename_i hk; subst hk
          exact List.pairwise_cons.mpr ⟨h1, h2⟩
        · rename_i a b
          refine List.pairwise_cons.mpr ⟨fun y hy => ?_, ih h2⟩
          rcases Sparse.mem_put m k v y hy with rfl | hy
          · show i < k; omega
          · exact h1 y hy
  · rcases Sparse.mem_put m k v e he with rfl | he
    · exact hv
    · exact h.2 e he

/-- Removing an entry keeps the form. -/
theorem Sparse.wf_drop [DecidableEq α] (d : α) (m : Sparse α) (k : Nat) (h : Sparse.wf d m = true) : Sparse.wf d (Sparse.drop m k) = true := by
  rw [Sparse.wf_iff] at h ⊢
  refine ⟨?_, fun e he => h.2 e (Sparse.mem_drop m k e he)⟩
  have hp := h.1
  clear h
  induction m with
  | nil => exact hp
  | cons x m ih =>
    obtain ⟨i, w⟩ := x
    obtain ⟨h1, h2⟩ := List.pairwise_cons.mp hp
    rw [Sparse.drop]
    split
    · exact h2
    · exact List.pairwise_cons.mpr ⟨fun b hb => h1 b (Sparse.mem_drop m k b hb), ih h2⟩

/-- A write keeps the form. -/
theorem Sparse.wf_set [DecidableEq α] (d : α) (m : Sparse α) (k : Nat) (v : α) (h : Sparse.wf d m = true) : Sparse.wf d (m.set d k v) = true := by
  rw [Sparse.set]
  split
  · exact Sparse.wf_drop d m k h
  · rename_i hv; exact Sparse.wf_put d m k v hv h

/-- A change in place keeps the form. -/
theorem Sparse.wf_modify [DecidableEq α] (d : α) (m : Sparse α) (k : Nat) (f : α → α) (h : Sparse.wf d m = true) :
    Sparse.wf d (m.modify d k f) = true := Sparse.wf_set d m k _ h

theorem Sparse.get_put (d : α) (m : Sparse α) (k j : Nat) (v : α) :
    (Sparse.put m k v).get d j = if j = k then v else m.get d j := by
  induction m with
  | nil => simp [Sparse.put, Sparse.get, eq_comm]
  | cons x m ih =>
    obtain ⟨i, w⟩ := x
    rw [Sparse.put]
    split
    · simp only [Sparse.get]; split
      · rename_i h; simp [h]
      · rename_i h; rw [if_neg (Ne.symm h)]
    · split
      · rename_i h; subst h
        simp only [Sparse.get]; split
        · rename_i h; simp [h]
        · rename_i h; rw [if_neg (Ne.symm h)]
      · simp only [Sparse.get]; split
        · rename_i h1 h2 h3; subst h3; rw [if_neg (fun h => h2 h.symm)]
        · exact ih

/-- A key below every listed one reads as the default. -/
theorem Sparse.get_lt (d : α) (m : Sparse α) (k : Nat) (h : ∀ e ∈ m, k < e.1) : m.get d k = d := by
  induction m with
  | nil => rfl
  | cons x m ih =>
    obtain ⟨i, w⟩ := x
    have := h (i, w) (List.mem_cons_self ..)
    rw [Sparse.get, if_neg (by simp at this; omega)]
    exact ih fun e he => h e (List.mem_cons_of_mem _ he)

theorem Sparse.get_drop [DecidableEq α] (d : α) (m : Sparse α) (k j : Nat) (h : Sparse.wf d m = true) :
    (Sparse.drop m k).get d j = if j = k then d else m.get d j := by
  have hp := ((Sparse.wf_iff d m).mp h).1
  clear h
  induction m with
  | nil => simp [Sparse.drop, Sparse.get]
  | cons x m ih =>
    obtain ⟨i, w⟩ := x
    obtain ⟨h1, h2⟩ := List.pairwise_cons.mp hp
    rw [Sparse.drop]
    split
    · rename_i hk; subst hk
      split
      · rename_i hj; subst hj; exact Sparse.get_lt d m _ h1
      · rename_i hj; rw [Sparse.get, if_neg (Ne.symm hj)]
    · rename_i hk
      simp only [Sparse.get]
      split
      · rename_i hj; subst hj; rw [if_neg hk]
      · exact ih h2

/-- A read after a write: the value written at its key, as before at every other. -/
theorem Sparse.get_set [DecidableEq α] (d : α) (m : Sparse α) (k j : Nat) (v : α) (h : Sparse.wf d m = true) :
    (m.set d k v).get d j = if j = k then v else m.get d j := by
  rw [Sparse.set]
  split
  · rename_i hv; rw [Sparse.get_drop d m k j h, hv]
  · exact Sparse.get_put d m k j v

/-- Rising keys from `k` on: what is left after the keys below `k`. -/
theorem Sparse.dropWhile_lt (m : Sparse α) (k : Nat) (h : m.Pairwise fun a b => a.1 < b.1) :
    ∀ e ∈ m.dropWhile (fun e => decide (e.1 < k)), k ≤ e.1 := by
  induction m with
  | nil => simp
  | cons x m ih =>
    obtain ⟨h1, h2⟩ := List.pairwise_cons.mp h
    rw [List.dropWhile_cons]
    split
    · exact ih h2
    · rename_i hx
      have hx : k ≤ x.1 := by simpa using hx
      intro e he
      rcases List.mem_cons.mp he with rfl | he
      · exact hx
      · exact Nat.le_trans hx (Nat.le_of_lt (h1 e he))

/-- Rising keys from `k` on, without `k` itself. -/
theorem Sparse.dropWhile_eq (m : Sparse α) (k : Nat) (h : m.Pairwise fun a b => a.1 < b.1) (hk : ∀ e ∈ m, k ≤ e.1) :
    ∀ e ∈ m.dropWhile (fun e => decide (e.1 = k)), k < e.1 := by
  cases m with
  | nil => simp
  | cons x m =>
    obtain ⟨h1, -⟩ := List.pairwise_cons.mp h
    have hx := hk x (List.mem_cons_self ..)
    intro e he
    rw [List.dropWhile_cons] at he
    split at he
    · have := h1 e ((List.dropWhile_sublist _).subset he); omega
    · rename_i hne
      have hne : x.1 ≠ k := by simpa using hne
      rcases List.mem_cons.mp he with rfl | he
      · omega
      · have := h1 e he; omega

/-- The part of a map with keys above `k`, as `Sparse.merge` takes it. -/
def Sparse.above (m : Sparse α) (k : Nat) : Sparse α :=
  (m.dropWhile fun e => decide (e.1 < k)).dropWhile fun e => decide (e.1 = k)

theorem Sparse.above_sublist (m : Sparse α) (k : Nat) : (Sparse.above m k).Sublist m :=
  (List.dropWhile_sublist _).trans (List.dropWhile_sublist _)

theorem Sparse.above_lt (m : Sparse α) (k : Nat) (h : m.Pairwise fun a b => a.1 < b.1) : ∀ e ∈ Sparse.above m k, k < e.1 :=
  Sparse.dropWhile_eq _ k (h.sublist (List.dropWhile_sublist _)) (Sparse.dropWhile_lt m k h)

theorem Sparse.takeWhile_below (m : Sparse α) (k : Nat) : ∀ e ∈ m.takeWhile (fun e => decide (e.1 < k)), e.1 < k := by
  intro e he; simpa using List.mem_takeWhile_imp he

theorem Sparse.merge_cons [DecidableEq α] (d : α) (k : Nat) (v : α) (ws : List (Nat × α)) (m : Sparse α) :
    Sparse.merge d ((k, v) :: ws) m = m.takeWhile (fun e => decide (e.1 < k)) ++
      (if v = d then Sparse.merge d ws (Sparse.above m k) else (k, v) :: Sparse.merge d ws (Sparse.above m k)) := by
  rw [Sparse.merge]; rfl

theorem Sparse.mem_merge [DecidableEq α] (d : α) (ws : List (Nat × α)) (m : Sparse α) (e : Nat × α) (h : e ∈ Sparse.merge d ws m) :
    (e ∈ ws ∧ e.2 ≠ d) ∨ e ∈ m := by
  induction ws generalizing m with
  | nil => exact .inr h
  | cons w ws ih =>
    obtain ⟨k, v⟩ := w
    rw [Sparse.merge_cons] at h
    rcases List.mem_append.mp h with h | h
    · exact .inr ((List.takeWhile_sublist _).subset h)
    · have key : e ∈ Sparse.merge d ws (Sparse.above m k) → (e ∈ (k, v) :: ws ∧ e.2 ≠ d) ∨ e ∈ m := fun hx => by
        rcases ih _ hx with hx | hx
        · exact .inl ⟨List.mem_cons_of_mem _ hx.1, hx.2⟩
        · exact .inr ((Sparse.above_sublist m k).subset hx)
      split at h
      · exact key h
      · rename_i hv
        rcases List.mem_cons.mp h with rfl | h
        · exact .inl ⟨List.mem_cons_self .., hv⟩
        · exact key h

/-- Writing pairs whose keys rise keeps the form. -/
theorem Sparse.wf_merge [DecidableEq α] (d : α) (ws : List (Nat × α)) (m : Sparse α) (hw : ws.Pairwise fun a b => a.1 < b.1)
    (h : Sparse.wf d m = true) : Sparse.wf d (Sparse.merge d ws m) = true := by
  rw [Sparse.wf_iff] at h ⊢
  refine ⟨?_, fun e he => ?_⟩
  · have hp := h.1
    clear h
    induction ws generalizing m with
    | nil => exact hp
    | cons w ws ih =>
      obtain ⟨k, v⟩ := w
      obtain ⟨w1, w2⟩ := List.pairwise_cons.mp hw
      have hi := ih (Sparse.above m k) w2 (hp.sublist (Sparse.above_sublist m k))
      have hk : ∀ e ∈ Sparse.merge d ws (Sparse.above m k), k < e.1 := fun e he => by
        rcases Sparse.mem_merge d ws _ e he with he | he
        · exact w1 e he.1
        · exact Sparse.above_lt m k hp e he
      rw [Sparse.merge_cons]
      refine List.pairwise_append.mpr ⟨hp.sublist (List.takeWhile_sublist _), ?_, fun a ha b hb => ?_⟩
      · split
        · exact hi
        · exact List.pairwise_cons.mpr ⟨hk, hi⟩
      · have ha := Sparse.takeWhile_below m k a ha
        split at hb
        · exact Nat.lt_trans ha (hk b hb)
        · rcases List.mem_cons.mp hb with rfl | hb
          · exact ha
          · exact Nat.lt_trans ha (hk b hb)
  · rcases Sparse.mem_merge d ws m e he with he | he
    · exact he.2
    · exact h.2 e he

theorem Sparse.get_append (d : α) (l m : Sparse α) (j : Nat) (h : ∀ e ∈ l, e.1 ≠ j) : Sparse.get d (l ++ m) j = m.get d j := by
  induction l with
  | nil => rfl
  | cons x l ih =>
    obtain ⟨i, w⟩ := x
    show (if i = j then w else Sparse.get d (l ++ m) j) = m.get d j
    rw [if_neg (h (i, w) (List.mem_cons_self ..)), ih fun e he => h e (List.mem_cons_of_mem _ he)]

/-- A key above those of the first part reads from the second part. -/
theorem Sparse.get_dropWhile (d : α) (m : Sparse α) (k j : Nat) (h : k ≤ j) :
    Sparse.get d (m.dropWhile fun e => decide (e.1 < k)) j = m.get d j := by
  induction m with
  | nil => rfl
  | cons x m ih =>
    obtain ⟨i, w⟩ := x
    rw [List.dropWhile_cons]
    split
    · rename_i hi
      have hi : i < k := by simpa using hi
      rw [ih, Sparse.get, if_neg (by omega)]
    · rfl

theorem Sparse.get_above (d : α) (m : Sparse α) (k j : Nat) (h : k < j) : Sparse.get d (Sparse.above m k) j = m.get d j := by
  rw [← Sparse.get_dropWhile d m k j (Nat.le_of_lt h), Sparse.above]
  generalize (m.dropWhile fun e => decide (e.1 < k)) = n
  induction n with
  | nil => rfl
  | cons x n ih =>
    obtain ⟨i, w⟩ := x
    rw [List.dropWhile_cons]
    split
    · rename_i hi
      have hi : i = k := by simpa using hi
      rw [ih, Sparse.get, if_neg (by omega)]
    · rfl

/-- A key below `k` reads from the part before it. -/
theorem Sparse.get_takeWhile (d : α) (m n : Sparse α) (k j : Nat) (hm : m.Pairwise fun a b => a.1 < b.1) (hn : ∀ e ∈ n, k ≤ e.1) (h : j < k) :
    Sparse.get d (m.takeWhile (fun e => decide (e.1 < k)) ++ n) j = m.get d j := by
  induction m with
  | nil => exact Sparse.get_lt d n j fun e he => Nat.lt_of_lt_of_le h (hn e he)
  | cons x m ih =>
    obtain ⟨i, w⟩ := x
    obtain ⟨h1, h2⟩ := List.pairwise_cons.mp hm
    rw [List.takeWhile_cons]
    split
    · rw [List.cons_append, Sparse.get, Sparse.get, ih h2]
    · rename_i hi
      have hi : k ≤ i := by simpa using hi
      rw [List.nil_append, Sparse.get_lt d n j fun e he => Nat.lt_of_lt_of_le h (hn e he), Sparse.get_lt]
      intro e he
      rcases List.mem_cons.mp he with rfl | he
      · exact Nat.lt_of_lt_of_le h hi
      · exact Nat.lt_trans (Nat.lt_of_lt_of_le h hi) (h1 e he)

/-- A read after a block of writes with rising keys: what the block holds at the key, else as before. -/
theorem Sparse.get_merge [DecidableEq α] (d : α) (ws : List (Nat × α)) (m : Sparse α) (j : Nat)
    (hw : ws.Pairwise fun a b => a.1 < b.1) (h : m.Pairwise fun a b => a.1 < b.1) :
    (Sparse.merge d ws m).get d j = match ws.find? (fun e => e.1 = j) with | some e => e.2 | none => m.get d j := by
  induction ws generalizing m with
  | nil => rfl
  | cons w ws ih =>
    obtain ⟨k, v⟩ := w
    obtain ⟨w1, w2⟩ := List.pairwise_cons.mp hw
    have ha := h.sublist (Sparse.above_sublist m k)
    have hk : ∀ e ∈ Sparse.merge d ws (Sparse.above m k), k < e.1 := fun e he => by
      rcases Sparse.mem_merge d ws _ e he with he | he
      · exact w1 e he.1
      · exact Sparse.above_lt m k h e he
    have hn : ∀ e ∈ (if v = d then Sparse.merge d ws (Sparse.above m k) else (k, v) :: Sparse.merge d ws (Sparse.above m k)), k ≤ e.1 := by
      intro e he
      split at he
      · exact Nat.le_of_lt (hk e he)
      · rcases List.mem_cons.mp he with rfl | he
        · exact Nat.le_refl _
        · exact Nat.le_of_lt (hk e he)
    rw [Sparse.merge_cons]
    rcases Nat.lt_trichotomy j k with hj | hj | hj
    · rw [Sparse.get_takeWhile d m _ k j h hn hj, List.find?_eq_none.mpr]
      intro e he
      rcases List.mem_cons.mp he with rfl | he
      · simp; omega
      · have := w1 e he; simp only [decide_eq_true_eq]; omega
    · subst hj
      rw [Sparse.get_append d _ _ _ fun e he => Nat.ne_of_lt (Sparse.takeWhile_below m _ e he), List.find?_cons_of_pos (by simp)]
      split
      · rename_i hv; rw [Sparse.get_lt d _ _ hk, hv]
      · rw [Sparse.get, if_pos rfl]
    · rw [Sparse.get_append d _ _ _ fun e he => by have := Sparse.takeWhile_below m k e he; omega,
        List.find?_cons_of_neg (by simp; omega)]
      have e1 : Sparse.get d (if v = d then Sparse.merge d ws (Sparse.above m k) else (k, v) :: Sparse.merge d ws (Sparse.above m k)) j
          = (Sparse.merge d ws (Sparse.above m k)).get d j := by
        split
        · rfl
        · rw [Sparse.get, if_neg (by omega)]
      rw [e1, ih (Sparse.above m k) w2 ha]
      split
      · rfl
      · exact Sparse.get_above d m k j hj

end Sys2Proof

namespace Sys2Proof.Machine

/-- Consecutive keys rise. -/
theorem pairwise_mapIdx {α β : Type} (a : Nat) (bs : List α) (f : Nat → α → β) :
    (bs.mapIdx fun i b => (a + i, f i b)).Pairwise fun x y => x.1 < y.1 := by
  induction bs generalizing a f with
  | nil => simp
  | cons b bs ih =>
    rw [List.mapIdx_cons]
    refine List.pairwise_cons.mpr ⟨fun x hx => ?_, ?_⟩
    · obtain ⟨i, hi, rfl⟩ := List.mem_mapIdx.mp hx
      show a + 0 < a + (i + 1); omega
    · have := ih (a + 1) (fun i b => f (i + 1) b)
      refine this.imp_of_mem (fun _ _ h => h) |> fun h => ?_
      have e : (bs.mapIdx fun i b => (a + (i + 1), f (i + 1) b)) = bs.mapIdx fun i b => (a + 1 + i, f (i + 1) b) := by
        congr 1; funext i b; rw [Nat.add_assoc, Nat.add_comm 1 i]
      rw [e]; exact h

/-! ### The pixel store -/

/-- A byte reads as written, every other as before. -/
theorem Store.byte_setByte (m : Store) (a j : Nat) (v : Byte) (h : Sparse.wf 0 m.cells = true) :
    (m.setByte a v).byte j = if j = a then v else m.byte j := by
  show (m.cells.set 0 a (v ^^^ m.base a)).get 0 j ^^^ m.base j = _
  rw [Sparse.get_set 0 m.cells a j _ h]
  split
  · rename_i e; subst e; rw [BitVec.xor_assoc, BitVec.xor_self, BitVec.xor_zero]
  · rfl

theorem Store.wf_setByte (m : Store) (a : Nat) (v : Byte) (h : Sparse.wf 0 m.cells = true) :
    Sparse.wf 0 (m.setByte a v).cells = true := Sparse.wf_set 0 m.cells a _ h

theorem Store.wf_setBytes (m : Store) (a : Nat) (bs : List Byte) (h : Sparse.wf 0 m.cells = true) :
    Sparse.wf 0 (m.setBytes a bs).cells = true := by
  induction bs generalizing m a with
  | nil => exact h
  | cons b bs ih => exact ih _ _ (m.wf_setByte a b h)

/-- A block reads as written, every byte outside it as before. -/
theorem Store.byte_setBytes (m : Store) (a j : Nat) (bs : List Byte) (h : Sparse.wf 0 m.cells = true) :
    (m.setBytes a bs).byte j = if a ≤ j ∧ j < a + bs.length then bs.getD (j - a) 0 else m.byte j := by
  induction bs generalizing m a with
  | nil => rw [Store.setBytes, if_neg (by simp)]
  | cons b bs ih =>
    rw [Store.setBytes, ih _ _ (m.wf_setByte a b h), m.byte_setByte a j b h, List.length_cons]
    by_cases h1 : a + 1 ≤ j ∧ j < a + 1 + bs.length
    · rw [if_pos h1, if_pos (by omega), show j - a = (j - (a + 1)) + 1 by omega, List.getD_cons_succ]
    · rw [if_neg h1]
      by_cases h2 : j = a
      · subst h2; rw [if_pos rfl, if_pos (by omega), Nat.sub_self, List.getD_cons_zero]
      · rw [if_neg h2, if_neg (by omega)]

theorem Store.wf_fill (m : Store) (lo hi : Nat) (v : Byte) (h : Sparse.wf 0 m.cells = true) :
    Sparse.wf 0 (m.fill lo hi v).cells = true := Sparse.wf_filter 0 m.cells _ h

theorem Store.wf_clearGroup (m : Store) (g : Nat) (h : Sparse.wf 0 m.cells = true) :
    Sparse.wf 0 (m.clearGroup g).cells = true := Sparse.wf_filter 0 m.cells _ h

theorem Store.wf_load (m : Store) (a : Nat) (bs : List Byte) (h : Sparse.wf 0 m.cells = true) :
    Sparse.wf 0 (m.load a bs).cells = true :=
  Sparse.wf_merge 0 _ _ (pairwise_mapIdx a bs _) (Sparse.wf_filter 0 m.cells _ h)

/-- A granule's check bits change no data byte. -/
theorem State.granuleWritten_cells (s : State) (g : Nat) :
    s.granuleWritten g = { s with
      store := { s.store with flips := (s.granuleWritten g).store.flips }, svc := (s.granuleWritten g).svc } := by
  rw [State.granuleWritten]; split <;> rfl

theorem State.granulesWritten_cells (s : State) (l : List Nat) :
    s.forEach l State.granuleWritten = { s with
      store := { s.store with flips := (s.forEach l State.granuleWritten).store.flips }
      svc := (s.forEach l State.granuleWritten).svc } := by
  induction l generalizing s with
  | nil => rfl
  | cons g l ih =>
    show (s.granuleWritten g).forEach l _ = _
    have e := ih (s.granuleWritten g)
    have f := s.granuleWritten_cells g
    rw [show s.forEach (g :: l) State.granuleWritten = (s.granuleWritten g).forEach l State.granuleWritten from rfl]
    generalize (s.granuleWritten g).forEach l State.granuleWritten = u at e ⊢
    rw [e, f]

/-- What a write to the store changes: the bytes written, the check bits, and the injected errors that are waiting. -/
theorem State.storeBytes_cells (s : State) (a : Nat) (bs : List Byte) :
    s.storeBytes a bs = { s with
      store := { s.store.setBytes a bs with flips := (s.storeBytes a bs).store.flips }, svc := (s.storeBytes a bs).svc } := by
  rw [State.storeBytes]
  dsimp only []
  split
  · rfl
  · exact State.granulesWritten_cells _ _

/-- What a load of the store changes. -/
theorem State.loadBytes_cells (s : State) (a : Nat) (bs : List Byte) :
    s.loadBytes a bs = { s with
      store := { s.store.load a bs with flips := (s.loadBytes a bs).store.flips }, svc := (s.loadBytes a bs).svc } := by
  rw [State.loadBytes]
  exact State.granulesWritten_cells _ _

/-- A write to the store keeps the canonical form. -/
theorem State.memoryWf_storeBytes (s : State) (a : Nat) (bs : List Byte) (h : s.MemoryWf) : (s.storeBytes a bs).MemoryWf := by
  rw [State.storeBytes_cells]
  exact ⟨s.store.wf_setBytes a bs h.1, h.2⟩

/-- A load of the store keeps the canonical form. -/
theorem State.memoryWf_loadBytes (s : State) (a : Nat) (bs : List Byte) (h : s.MemoryWf) : (s.loadBytes a bs).MemoryWf := by
  rw [State.loadBytes_cells]
  exact ⟨s.store.wf_load a bs h.1, h.2⟩

/-- A write to the store: the bytes written, every other as before. -/
theorem State.byte_storeBytes (s : State) (a j : Nat) (bs : List Byte) (h : s.MemoryWf) :
    (s.storeBytes a bs).store.byte j = if a ≤ j ∧ j < a + bs.length then bs.getD (j - a) 0 else s.store.byte j := by
  rw [← s.store.byte_setBytes a j bs h.1, State.storeBytes_cells]; rfl

/-! ### The flash -/

/-- Storing bytes keeps the form of every part of the flash. -/
theorem Flash.wf_put (f : Flash) (a : Nat) (bs : List Byte)
    (h : Sparse.wf 0xFF f.recs = true ∧ Sparse.wf 0xFF f.slotA.cells = true ∧ Sparse.wf 0xFF f.slotB.cells = true) :
    Sparse.wf 0xFF (f.put a bs).recs = true ∧ Sparse.wf 0xFF (f.put a bs).slotA.cells = true ∧
      Sparse.wf 0xFF (f.put a bs).slotB.cells = true := by
  obtain ⟨h1, h2, h3⟩ := h
  rw [Flash.put]
  dsimp only []
  split
  · exact ⟨h1, Sparse.wf_merge _ _ _ (pairwise_mapIdx a bs fun _ b => b) h2, h3⟩
  · split
    · exact ⟨h1, h2, Sparse.wf_merge _ _ _ (pairwise_mapIdx _ bs fun _ b => b) h3⟩
    · exact ⟨Sparse.wf_merge _ _ _ (pairwise_mapIdx a bs fun _ b => b) h1, h2, h3⟩

/-- Erasing a slot's sector keeps the form. -/
theorem Slot.wf_eraseSector (x : Slot) (k : Nat) (h : Sparse.wf 0xFF x.cells = true) :
    Sparse.wf 0xFF (x.eraseSector k).cells = true := Sparse.wf_filter _ _ _ h

/-- Programming the flash keeps the canonical form. -/
theorem State.memoryWf_flashProgram (s : State) (a : Nat) (bs : List Byte) (h : s.MemoryWf) : (s.flashProgram a bs).MemoryWf := by
  obtain ⟨h1, h2, h3, h4, h5⟩ := h
  rw [State.flashProgram]
  split <;>
  · obtain ⟨a1, a2, a3⟩ := s.flash.wf_put a (((s.flash.bytes a bs.length).zip bs).mapIdx fun i p => programmed s.free i p.1 p.2) ⟨h2, h3, h4⟩
    exact ⟨h1, a1, a2, a3, h5⟩

/-- The canonical form is that of the store, the flash and the latches alone. -/
theorem State.memoryWf_congr (s t : State) (h1 : t.store.cells = s.store.cells) (h2 : t.flash = s.flash) (h3 : t.latches = s.latches)
    (h : s.MemoryWf) : t.MemoryWf := by
  obtain ⟨a1, a2, a3, a4, a5⟩ := h
  exact ⟨h1 ▸ a1, h2 ▸ a2, h2 ▸ a3, h2 ▸ a4, h3 ▸ a5⟩

/-- Raising an event changes the event memory alone. -/
theorem State.raise_frame (s : State) (code : Nat) (data : List (Nat × Nat)) : s.raise code data = { s with ev := (s.raise code data).ev } := rfl

/-- Erasing a sector keeps the canonical form. -/
theorem State.memoryWf_flashErase (s : State) (a : Nat) (h : s.MemoryWf) : (s.flashErase a).MemoryWf := by
  obtain ⟨h1, h2, h3, h4, h5⟩ := h
  have key : ∀ (g : Flash) (t : State), t.store = s.store → t.latches = s.latches →
      t.flash.recs = g.recs → t.flash.slotA = g.slotA → t.flash.slotB = g.slotB →
      (Sparse.wf 0xFF g.recs = true ∧ Sparse.wf 0xFF g.slotA.cells = true ∧ Sparse.wf 0xFF g.slotB.cells = true) → t.MemoryWf := by
    rintro g t e1 e2 e3 e4 e5 ⟨g1, g2, g3⟩
    exact ⟨e1 ▸ h1, e3 ▸ g1, e4 ▸ g2, e5 ▸ g3, e2 ▸ h5⟩
  have g : Sparse.wf 0xFF (if a < 0xC00000 then ({ s.flash with slotA := s.flash.slotA.eraseSector (a / 4096) } : Flash)
      else if a < 0x1800000 then { s.flash with slotB := s.flash.slotB.eraseSector (a / 4096 - 3072) }
      else { s.flash with recs := s.flash.recs.filter fun c => c.1 / 4096 ≠ a / 4096 }).recs = true ∧
      Sparse.wf 0xFF (if a < 0xC00000 then ({ s.flash with slotA := s.flash.slotA.eraseSector (a / 4096) } : Flash)
      else if a < 0x1800000 then { s.flash with slotB := s.flash.slotB.eraseSector (a / 4096 - 3072) }
      else { s.flash with recs := s.flash.recs.filter fun c => c.1 / 4096 ≠ a / 4096 }).slotA.cells = true ∧
      Sparse.wf 0xFF (if a < 0xC00000 then ({ s.flash with slotA := s.flash.slotA.eraseSector (a / 4096) } : Flash)
      else if a < 0x1800000 then { s.flash with slotB := s.flash.slotB.eraseSector (a / 4096 - 3072) }
      else { s.flash with recs := s.flash.recs.filter fun c => c.1 / 4096 ≠ a / 4096 }).slotB.cells = true := by
    split
    · exact ⟨h2, Slot.wf_eraseSector _ _ h3, h4⟩
    · split
      · exact ⟨h2, h3, Slot.wf_eraseSector _ _ h4⟩
      · exact ⟨Sparse.wf_filter _ _ _ h2, h3, h4⟩
  rw [State.flashErase]
  split
  · exact key _ _ rfl rfl rfl rfl rfl g
  · exact key _ _ rfl rfl rfl rfl rfl g

/-- The machine after reset has the canonical form: nothing is listed. -/
theorem State.memoryWf_reset : State.reset.MemoryWf := ⟨rfl, rfl, rfl, rfl, rfl⟩

end Sys2Proof.Machine
end

