-- ==== Sys2Proof/Laws/Receive.lean ====
section
/-!
SUPPORT. The receive path of port A in one lemma per operation: what the link stage, the charging and freeing of credits and a
reply may change, and what a packet or a service operation that is accepted does.
-/
namespace Sys2Proof.Machine

/-- Passing the link stage changes the link alone. -/
theorem State.linkPass_frame (s : State) : s.linkPass = { s with link := s.linkPass.link } := by
  simp only [State.linkPass]; split <;> rfl

/-- The link stage advances the sequence and leaves the address, the waiting operations, the credits, the queues, the
revision and the AON replies. -/
theorem State.linkPass_link (s : State) :
    s.linkPass.link.expSeq = s.link.expSeq + 1 ∧ s.linkPass.link.addr = s.link.addr ∧
      s.linkPass.link.waiting = s.link.waiting ∧ s.linkPass.link.credits = s.link.credits ∧
      s.linkPass.link.tqs = s.link.tqs ∧ s.linkPass.link.rev = s.link.rev ∧
      s.linkPass.link.aonReplies = s.link.aonReplies ∧ s.linkPass.link.addrKnown = s.link.addrKnown := by
  simp only [State.linkPass]; split <;> simp [State.sendAck, State.lcb]

/-- An admitted packet has changed the link alone. -/
theorem State.admitted_frame (s : State) (p : Rx) : s.admitted p = { s with link := (s.admitted p).link } := by
  rw [State.admitted, State.linkPass_frame]; rfl

/-- What the link of an admitted packet keeps. -/
theorem State.admitted_link (s : State) (p : Rx) :
    (s.admitted p).link.expSeq = s.link.expSeq + 1 ∧ (s.admitted p).link.addr = s.link.addr ∧
      (s.admitted p).link.waiting = s.link.waiting ∧ (s.admitted p).link.tqs = s.link.tqs ∧
      (s.admitted p).link.rev = s.link.rev ∧ (s.admitted p).link.aonReplies = s.link.aonReplies ∧
      (s.admitted p).link.addrKnown = s.link.addrKnown := by
  obtain ⟨h1, h2, h3, -, h4, h5, h6, h7⟩ := s.linkPass_link
  exact ⟨h1, h2, h3, h4, h5, h6, h7⟩

/-- Freeing credits changes the link alone, and of it the credits and the link control blocks. -/
theorem State.freeCredits_frame (s : State) (vc n len : Nat) :
    s.freeCredits vc n len = { s with link := { s.link with
      credits := (s.freeCredits vc n len).link.credits, lcbs := (s.freeCredits vc n len).link.lcbs } } := by
  rw [State.freeCredits]
  split
  · rfl
  · dsimp only []
    split
    · rw [State.sendCredit]; split <;> rfl
    · rfl

/-- A reply changes the link alone. -/
theorem State.reply_frame (s : State) (h : Hdr) (type opcode status : Nat) (data : List Byte) :
    s.reply h type opcode status data = { s with link := { s.link with
      tqs := (s.reply h type opcode status data).link.tqs, blocked := (s.reply h type opcode status data).link.blocked
      aonReplies := (s.reply h type opcode status data).link.aonReplies } } := by
  rw [State.reply]
  split
  · rfl
  · dsimp only []
    split
    · rw [State.enqueue]; split <;> rfl
    · rfl

/-- With the MP ready a reply is queued on TQ0, but for a broadcast answered OK (R131). -/
theorem State.reply_queued (s : State) (h : Hdr) (type opcode status : Nat) (data : List Byte) (hm : s.mp.ready = true) :
    s.reply h type opcode status data = if h.addr = 0xF ∧ status = 0 then s
      else s.enqueue 0 (s.upPkt 0 0x11 h.tag (replyBytes status type opcode data)) := by
  by_cases hb : h.addr = 0xF ∧ status = 0
  · rw [if_pos hb, State.reply, if_pos (by simp [isBcast, hb])]
  · rw [if_neg hb, State.reply, if_neg (by simpa [isBcast] using hb)]
    simp [hm]

/-- Queueing a packet puts it on the queue, or with its producer where there is no room (R132). -/
theorem State.enqueue_link (s : State) (q : Nat) (p : TxPkt) :
    s.enqueue q p = { s with link := { s.link with
      tqs := if s.tqRoom q p then s.link.tqs.modify [] q fun l => l ++ [p] else s.link.tqs
      blocked := if s.tqRoom q p then s.link.blocked else s.link.blocked.modify [] q fun l => l ++ [p] } } := by
  rw [State.enqueue]; split <;> rfl

/-- A packet that is accepted is consumed with its credits charged and freed. -/
theorem State.receive_accepts (s : State) (i : Instr) (p : Rx) (f : State → State) (h : s.accepts p) :
    s.receive i p f = (f (s.admitted p)).freeCredits p.vc (creditCost p.len) p.len := by
  obtain ⟨h1, h2, h3, h4, hl, h5, h6, h7, h8, hs', hk, h9⟩ := h
  obtain ⟨-, la, lw, lc, -⟩ := s.linkPass_link
  have lf := s.linkPass_frame
  have e : ∀ {α : Type} (g : State → α), g s.linkPass = g { s with link := s.linkPass.link } := fun g => congrArg g lf
  have hs : s.linkPass.start = s.start := e State.start
  have hp : s.linkPass.portB = s.portB := e State.portB
  have hm : s.linkPass.mp = s.mp := e State.mp
  have hg : s.linkPass.grant p.vc = s.grant p.vc := e fun t => t.grant p.vc
  have ha : ¬ (8 ≤ p.h.addr.toNat ∧ p.h.addr ≠ 0xF) := by
    rcases h4 with h | h
    · rw [h]; simp [BitVec.toNat_setWidth]; omega
    · simp [h.1]
  unfold State.receive
  rw [if_neg (by simp [h1]), if_neg (by omega), if_neg (by simp [h2, seqClass]),
    if_neg (by simp only [State.noStaging, Bool.and_eq_true, decide_eq_true_eq]; omega), State.content, if_neg (by simp [hs, h3]),
    if_neg (by simpa using ha), if_neg (by simp [h5]), if_neg (by simp [h6]), if_neg (by rw [hg, lc]; omega), State.route]
  have cw : (s.linkPass.charge p.vc (creditCost p.len) p.len).link.waiting = [] := lw.trans h9
  have ca : (s.linkPass.charge p.vc (creditCost p.len) p.len).link.addr = s.link.addr := la
  have cp : (s.linkPass.charge p.vc (creditCost p.len) p.len).portB = s.portB := hp
  have cm : (s.linkPass.charge p.vc (creditCost p.len) p.len).mp = s.mp := hm
  have cs : (s.linkPass.charge p.vc (creditCost p.len) p.len).sp = s.sp := e State.sp
  have ck : (s.linkPass.charge p.vc (creditCost p.len) p.len).storeBlocked p.lo p.hi = s.storeBlocked p.lo p.hi :=
    e fun t => t.storeBlocked p.lo p.hi
  have hd : (s.linkPass.charge p.vc (creditCost p.len) p.len).deliver i p (creditCost p.len) f
      = (f (s.admitted p)).freeCredits p.vc (creditCost p.len) p.len := by
    rw [State.deliver, if_neg (by simp [State.mustWait, State.stays, cw, cm, cs, ck, h8, hs', hk, Rx.waiting]), State.admitted]
  rcases h4 with h | ⟨h, hb⟩
  · have hn : isBcast p.h = false := by
      simp only [isBcast, h, decide_eq_false_iff_not]
      intro h'; have := congrArg BitVec.toNat h'; simp [BitVec.toNat_setWidth] at this; omega
    rw [hn, if_neg (by simp), if_pos (by rw [ca]; exact h), hd]
  · have hy : isBcast p.h = true := by simp [isBcast, h]
    rw [hy, if_pos rfl, cp, if_neg (by simp [hb]), hd]

/-- A service operation that is served at once: on VC4 as a packet consumed, on the UART directly. -/
theorem State.service_serves (s : State) (i : Instr) (q : SvcSrc) (opcode : Nat) (args : List Byte) (who : Nat) (f : State → State)
    (h : s.serves q opcode args) :
    s.service i q opcode args who f = match q with
      | .vc4 hd => (f (s.admitted (serviceRx hd opcode args who))).freeCredits 4 (creditCost (2 + args.length)) (2 + args.length)
      | .uart => f s := by
  cases q with
  | vc4 hd => exact s.receive_accepts i (serviceRx hd opcode args who) f h
  | uart =>
    obtain ⟨h1, h2, h3, h4, h5, h6⟩ := h
    show (if !s.clk.crystal || args.length < 2 || 4094 < args.length then s
      else if s.mustWait { vc := uartVc, who := who } then _ else f s) = f s
    have hb : s.storeBlocked 0 0 = false := by
      simp [State.storeBlocked, bankTouched]
    rw [if_neg (by simp [h1]; omega), if_neg (by simp [State.mustWait, State.stays, h4, h5, h6, hb])]

/-- A timer's end acts for one port: the one whose timer runs, and where both run one of the two, a free value drawn. -/
theorem State.onTimer_cases (s : State) (due : PortId → Bool) (f : PortId → State → State) :
    (due .a = true ∧ due .b = true ∧ ∃ p, s.onTimer due f = f p s.drawn) ∨
      (due .a = true ∧ due .b = false ∧ s.onTimer due f = f .a s) ∨
      (due .a = false ∧ due .b = true ∧ s.onTimer due f = f .b s) ∨
      (due .a = false ∧ due .b = false ∧ s.onTimer due f = s) := by
  unfold State.onTimer
  cases due .a <;> cases due .b <;> simp
  exact ⟨_, rfl⟩

end Sys2Proof.Machine
end

