-- ==== Sys2Proof/Laws/State.lean ====
section
/-!
SUPPORT. What the updates of State leave alone: one lemma per update names every other field, and one says the field it
writes. No proof about a command needs to unfold an update.
-/
namespace Sys2Proof.Machine

/-- A reading of a state after a conditional change. -/
theorem State.cond_read {α : Type} (g : State → α) (s : State) (c : Bool) (f : State → State) :
    g (s.cond c f) = if c then g (f s) else g s := by
  cases c <;> rfl

@[simp] theorem State.cond_true (s : State) (f : State → State) : s.cond true f = f s := rfl
@[simp] theorem State.cond_false (s : State) (f : State → State) : s.cond false f = s := rfl
@[simp] theorem State.forEach_nil (s : State) (f : State → Nat → State) : s.forEach [] f = s := rfl
@[simp] theorem State.forEach_cons (s : State) (x : Nat) (xs : List Nat) (f : State → Nat → State) :
    s.forEach (x :: xs) f = (f s x).forEach xs f := rfl

/-- What every step of a loop keeps, the loop keeps. -/
theorem State.forEach_keeps {R : State → State → Prop} (refl : ∀ s, R s s) (trans : ∀ s t u, R s t → R t u → R s u)
    (f : State → Nat → State) (h : ∀ s x, R s (f s x)) (xs : List Nat) (s : State) : R s (s.forEach xs f) := by
  induction xs generalizing s with
  | nil => exact refl s
  | cons x xs ih => exact trans _ _ _ (h s x) (ih (f s x))

/-- A tile's update touches the tiles alone. -/
@[simp] theorem State.modTile_keeps (s : State) (t : Nat) (f : Tile → Tile) :
  (s.modTile t f).pending = s.pending ∧ (s.modTile t f).start = s.start ∧ (s.modTile t f).fuse = s.fuse
    ∧ (s.modTile t f).flash = s.flash ∧ (s.modTile t f).img = s.img ∧ (s.modTile t f).power = s.power
    ∧ (s.modTile t f).portA = s.portA ∧ (s.modTile t f).portB = s.portB ∧ (s.modTile t f).selfTest = s.selfTest
    ∧ (s.modTile t f).link = s.link ∧ (s.modTile t f).linkB = s.linkB ∧ (s.modTile t f).clk = s.clk
    ∧ (s.modTile t f).sync = s.sync ∧ (s.modTile t f).grid = s.grid ∧ (s.modTile t f).store = s.store
    ∧ (s.modTile t f).banks = s.banks ∧ (s.modTile t f).layers = s.layers ∧ (s.modTile t f).comp = s.comp
    ∧ (s.modTile t f).out = s.out ∧ (s.modTile t f).latches = s.latches ∧ (s.modTile t f).quads = s.quads
    ∧ (s.modTile t f).drive = s.drive ∧ (s.modTile t f).diag = s.diag ∧ (s.modTile t f).rb = s.rb
    ∧ (s.modTile t f).cvu = s.cvu ∧ (s.modTile t f).zones = s.zones ∧ (s.modTile t f).safety = s.safety
    ∧ (s.modTile t f).thermal = s.thermal ∧ (s.modTile t f).policy = s.policy ∧ (s.modTile t f).affin = s.affin
    ∧ (s.modTile t f).nvm = s.nvm ∧ (s.modTile t f).mp = s.mp ∧ (s.modTile t f).sp = s.sp ∧ (s.modTile t f).svc = s.svc
    ∧ (s.modTile t f).leg = s.leg ∧ (s.modTile t f).ev = s.ev ∧ (s.modTile t f).tap = s.tap
    ∧ (s.modTile t f).free = s.free :=
  ⟨rfl, rfl, rfl, rfl, rfl, rfl, rfl, rfl, rfl, rfl, rfl, rfl, rfl, rfl, rfl, rfl, rfl, rfl, rfl, rfl, rfl, rfl, rfl,
    rfl, rfl, rfl, rfl, rfl, rfl, rfl, rfl, rfl, rfl, rfl, rfl, rfl, rfl, rfl⟩

/-- A bank's update touches the banks alone. -/
@[simp] theorem State.modBank_keeps (s : State) (b : Nat) (f : Bank → Bank) :
  (s.modBank b f).pending = s.pending ∧ (s.modBank b f).start = s.start ∧ (s.modBank b f).fuse = s.fuse
    ∧ (s.modBank b f).flash = s.flash ∧ (s.modBank b f).img = s.img ∧ (s.modBank b f).power = s.power
    ∧ (s.modBank b f).portA = s.portA ∧ (s.modBank b f).portB = s.portB ∧ (s.modBank b f).selfTest = s.selfTest
    ∧ (s.modBank b f).link = s.link ∧ (s.modBank b f).linkB = s.linkB ∧ (s.modBank b f).clk = s.clk
    ∧ (s.modBank b f).sync = s.sync ∧ (s.modBank b f).grid = s.grid ∧ (s.modBank b f).store = s.store
    ∧ (s.modBank b f).layers = s.layers ∧ (s.modBank b f).comp = s.comp ∧ (s.modBank b f).out = s.out
    ∧ (s.modBank b f).tiles = s.tiles ∧ (s.modBank b f).latches = s.latches ∧ (s.modBank b f).quads = s.quads
    ∧ (s.modBank b f).drive = s.drive ∧ (s.modBank b f).diag = s.diag ∧ (s.modBank b f).rb = s.rb
    ∧ (s.modBank b f).cvu = s.cvu ∧ (s.modBank b f).zones = s.zones ∧ (s.modBank b f).safety = s.safety
    ∧ (s.modBank b f).thermal = s.thermal ∧ (s.modBank b f).policy = s.policy ∧ (s.modBank b f).affin = s.affin
    ∧ (s.modBank b f).nvm = s.nvm ∧ (s.modBank b f).mp = s.mp ∧ (s.modBank b f).sp = s.sp ∧ (s.modBank b f).svc = s.svc
    ∧ (s.modBank b f).leg = s.leg ∧ (s.modBank b f).ev = s.ev ∧ (s.modBank b f).tap = s.tap
    ∧ (s.modBank b f).free = s.free :=
  ⟨rfl, rfl, rfl, rfl, rfl, rfl, rfl, rfl, rfl, rfl, rfl, rfl, rfl, rfl, rfl, rfl, rfl, rfl, rfl, rfl, rfl, rfl, rfl,
    rfl, rfl, rfl, rfl, rfl, rfl, rfl, rfl, rfl, rfl, rfl, rfl, rfl, rfl, rfl⟩

/-- A quadrant's update touches the quadrants alone. -/
@[simp] theorem State.modQuad_keeps (s : State) (q : Nat) (f : Quad → Quad) :
  (s.modQuad q f).pending = s.pending ∧ (s.modQuad q f).start = s.start ∧ (s.modQuad q f).fuse = s.fuse
    ∧ (s.modQuad q f).flash = s.flash ∧ (s.modQuad q f).img = s.img ∧ (s.modQuad q f).power = s.power
    ∧ (s.modQuad q f).portA = s.portA ∧ (s.modQuad q f).portB = s.portB ∧ (s.modQuad q f).selfTest = s.selfTest
    ∧ (s.modQuad q f).link = s.link ∧ (s.modQuad q f).linkB = s.linkB ∧ (s.modQuad q f).clk = s.clk
    ∧ (s.modQuad q f).sync = s.sync ∧ (s.modQuad q f).grid = s.grid ∧ (s.modQuad q f).store = s.store
    ∧ (s.modQuad q f).banks = s.banks ∧ (s.modQuad q f).layers = s.layers ∧ (s.modQuad q f).comp = s.comp
    ∧ (s.modQuad q f).out = s.out ∧ (s.modQuad q f).tiles = s.tiles ∧ (s.modQuad q f).latches = s.latches
    ∧ (s.modQuad q f).drive = s.drive ∧ (s.modQuad q f).diag = s.diag ∧ (s.modQuad q f).rb = s.rb
    ∧ (s.modQuad q f).cvu = s.cvu ∧ (s.modQuad q f).zones = s.zones ∧ (s.modQuad q f).safety = s.safety
    ∧ (s.modQuad q f).thermal = s.thermal ∧ (s.modQuad q f).policy = s.policy ∧ (s.modQuad q f).affin = s.affin
    ∧ (s.modQuad q f).nvm = s.nvm ∧ (s.modQuad q f).mp = s.mp ∧ (s.modQuad q f).sp = s.sp ∧ (s.modQuad q f).svc = s.svc
    ∧ (s.modQuad q f).leg = s.leg ∧ (s.modQuad q f).ev = s.ev ∧ (s.modQuad q f).tap = s.tap
    ∧ (s.modQuad q f).free = s.free :=
  ⟨rfl, rfl, rfl, rfl, rfl, rfl, rfl, rfl, rfl, rfl, rfl, rfl, rfl, rfl, rfl, rfl, rfl, rfl, rfl, rfl, rfl, rfl, rfl,
    rfl, rfl, rfl, rfl, rfl, rfl, rfl, rfl, rfl, rfl, rfl, rfl, rfl, rfl, rfl⟩

/-- A layer's update touches the layers alone. -/
@[simp] theorem State.modLayer_keeps (s : State) (n : Nat) (f : Layer → Layer) :
  (s.modLayer n f).pending = s.pending ∧ (s.modLayer n f).start = s.start ∧ (s.modLayer n f).fuse = s.fuse
    ∧ (s.modLayer n f).flash = s.flash ∧ (s.modLayer n f).img = s.img ∧ (s.modLayer n f).power = s.power
    ∧ (s.modLayer n f).portA = s.portA ∧ (s.modLayer n f).portB = s.portB ∧ (s.modLayer n f).selfTest = s.selfTest
    ∧ (s.modLayer n f).link = s.link ∧ (s.modLayer n f).linkB = s.linkB ∧ (s.modLayer n f).clk = s.clk
    ∧ (s.modLayer n f).sync = s.sync ∧ (s.modLayer n f).grid = s.grid ∧ (s.modLayer n f).store = s.store
    ∧ (s.modLayer n f).banks = s.banks ∧ (s.modLayer n f).comp = s.comp ∧ (s.modLayer n f).out = s.out
    ∧ (s.modLayer n f).tiles = s.tiles ∧ (s.modLayer n f).latches = s.latches ∧ (s.modLayer n f).quads = s.quads
    ∧ (s.modLayer n f).drive = s.drive ∧ (s.modLayer n f).diag = s.diag ∧ (s.modLayer n f).rb = s.rb
    ∧ (s.modLayer n f).cvu = s.cvu ∧ (s.modLayer n f).zones = s.zones ∧ (s.modLayer n f).safety = s.safety
    ∧ (s.modLayer n f).thermal = s.thermal ∧ (s.modLayer n f).policy = s.policy ∧ (s.modLayer n f).affin = s.affin
    ∧ (s.modLayer n f).nvm = s.nvm ∧ (s.modLayer n f).mp = s.mp ∧ (s.modLayer n f).sp = s.sp
    ∧ (s.modLayer n f).svc = s.svc ∧ (s.modLayer n f).leg = s.leg ∧ (s.modLayer n f).ev = s.ev
    ∧ (s.modLayer n f).tap = s.tap ∧ (s.modLayer n f).free = s.free :=
  ⟨rfl, rfl, rfl, rfl, rfl, rfl, rfl, rfl, rfl, rfl, rfl, rfl, rfl, rfl, rfl, rfl, rfl, rfl, rfl, rfl, rfl, rfl, rfl,
    rfl, rfl, rfl, rfl, rfl, rfl, rfl, rfl, rfl, rfl, rfl, rfl, rfl, rfl, rfl⟩

/-- Drawing a free value touches its counter alone. -/
@[simp] theorem State.drawn_keeps (s : State) :
  (s.drawn).pending = s.pending ∧ (s.drawn).start = s.start ∧ (s.drawn).fuse = s.fuse ∧ (s.drawn).flash = s.flash
    ∧ (s.drawn).img = s.img ∧ (s.drawn).power = s.power ∧ (s.drawn).portA = s.portA ∧ (s.drawn).portB = s.portB
    ∧ (s.drawn).selfTest = s.selfTest ∧ (s.drawn).link = s.link ∧ (s.drawn).linkB = s.linkB ∧ (s.drawn).clk = s.clk
    ∧ (s.drawn).sync = s.sync ∧ (s.drawn).grid = s.grid ∧ (s.drawn).store = s.store ∧ (s.drawn).banks = s.banks
    ∧ (s.drawn).layers = s.layers ∧ (s.drawn).comp = s.comp ∧ (s.drawn).out = s.out ∧ (s.drawn).tiles = s.tiles
    ∧ (s.drawn).latches = s.latches ∧ (s.drawn).quads = s.quads ∧ (s.drawn).drive = s.drive ∧ (s.drawn).diag = s.diag
    ∧ (s.drawn).rb = s.rb ∧ (s.drawn).cvu = s.cvu ∧ (s.drawn).zones = s.zones ∧ (s.drawn).safety = s.safety
    ∧ (s.drawn).thermal = s.thermal ∧ (s.drawn).policy = s.policy ∧ (s.drawn).affin = s.affin ∧ (s.drawn).nvm = s.nvm
    ∧ (s.drawn).mp = s.mp ∧ (s.drawn).sp = s.sp ∧ (s.drawn).svc = s.svc ∧ (s.drawn).leg = s.leg ∧ (s.drawn).ev = s.ev
    ∧ (s.drawn).tap = s.tap :=
  ⟨rfl, rfl, rfl, rfl, rfl, rfl, rfl, rfl, rfl, rfl, rfl, rfl, rfl, rfl, rfl, rfl, rfl, rfl, rfl, rfl, rfl, rfl, rfl,
    rfl, rfl, rfl, rfl, rfl, rfl, rfl, rfl, rfl, rfl, rfl, rfl, rfl, rfl, rfl⟩

/-- A flag touches the event unit alone. -/
@[simp] theorem State.setFlag_keeps (s : State) (i : Nat) :
  (s.setFlag i).pending = s.pending ∧ (s.setFlag i).start = s.start ∧ (s.setFlag i).fuse = s.fuse
    ∧ (s.setFlag i).flash = s.flash ∧ (s.setFlag i).img = s.img ∧ (s.setFlag i).power = s.power
    ∧ (s.setFlag i).portA = s.portA ∧ (s.setFlag i).portB = s.portB ∧ (s.setFlag i).selfTest = s.selfTest
    ∧ (s.setFlag i).link = s.link ∧ (s.setFlag i).linkB = s.linkB ∧ (s.setFlag i).clk = s.clk
    ∧ (s.setFlag i).sync = s.sync ∧ (s.setFlag i).grid = s.grid ∧ (s.setFlag i).store = s.store
    ∧ (s.setFlag i).banks = s.banks ∧ (s.setFlag i).layers = s.layers ∧ (s.setFlag i).comp = s.comp
    ∧ (s.setFlag i).out = s.out ∧ (s.setFlag i).tiles = s.tiles ∧ (s.setFlag i).latches = s.latches
    ∧ (s.setFlag i).quads = s.quads ∧ (s.setFlag i).drive = s.drive ∧ (s.setFlag i).diag = s.diag
    ∧ (s.setFlag i).rb = s.rb ∧ (s.setFlag i).cvu = s.cvu ∧ (s.setFlag i).zones = s.zones
    ∧ (s.setFlag i).safety = s.safety ∧ (s.setFlag i).thermal = s.thermal ∧ (s.setFlag i).policy = s.policy
    ∧ (s.setFlag i).affin = s.affin ∧ (s.setFlag i).nvm = s.nvm ∧ (s.setFlag i).mp = s.mp ∧ (s.setFlag i).sp = s.sp
    ∧ (s.setFlag i).svc = s.svc ∧ (s.setFlag i).leg = s.leg ∧ (s.setFlag i).tap = s.tap ∧ (s.setFlag i).free = s.free :=
  ⟨rfl, rfl, rfl, rfl, rfl, rfl, rfl, rfl, rfl, rfl, rfl, rfl, rfl, rfl, rfl, rfl, rfl, rfl, rfl, rfl, rfl, rfl, rfl,
    rfl, rfl, rfl, rfl, rfl, rfl, rfl, rfl, rfl, rfl, rfl, rfl, rfl, rfl, rfl⟩

/-- An event touches the event unit alone (R403). -/
@[simp] theorem State.raise_keeps (s : State) (code : Nat) (d : List (Nat × Nat)) :
  (s.raise code d).pending = s.pending ∧ (s.raise code d).start = s.start ∧ (s.raise code d).fuse = s.fuse
    ∧ (s.raise code d).flash = s.flash ∧ (s.raise code d).img = s.img ∧ (s.raise code d).power = s.power
    ∧ (s.raise code d).portA = s.portA ∧ (s.raise code d).portB = s.portB ∧ (s.raise code d).selfTest = s.selfTest
    ∧ (s.raise code d).link = s.link ∧ (s.raise code d).linkB = s.linkB ∧ (s.raise code d).clk = s.clk
    ∧ (s.raise code d).sync = s.sync ∧ (s.raise code d).grid = s.grid ∧ (s.raise code d).store = s.store
    ∧ (s.raise code d).banks = s.banks ∧ (s.raise code d).layers = s.layers ∧ (s.raise code d).comp = s.comp
    ∧ (s.raise code d).out = s.out ∧ (s.raise code d).tiles = s.tiles ∧ (s.raise code d).latches = s.latches
    ∧ (s.raise code d).quads = s.quads ∧ (s.raise code d).drive = s.drive ∧ (s.raise code d).diag = s.diag
    ∧ (s.raise code d).rb = s.rb ∧ (s.raise code d).cvu = s.cvu ∧ (s.raise code d).zones = s.zones
    ∧ (s.raise code d).safety = s.safety ∧ (s.raise code d).thermal = s.thermal ∧ (s.raise code d).policy = s.policy
    ∧ (s.raise code d).affin = s.affin ∧ (s.raise code d).nvm = s.nvm ∧ (s.raise code d).mp = s.mp
    ∧ (s.raise code d).sp = s.sp ∧ (s.raise code d).svc = s.svc ∧ (s.raise code d).leg = s.leg
    ∧ (s.raise code d).tap = s.tap ∧ (s.raise code d).free = s.free :=
  ⟨rfl, rfl, rfl, rfl, rfl, rfl, rfl, rfl, rfl, rfl, rfl, rfl, rfl, rfl, rfl, rfl, rfl, rfl, rfl, rfl, rfl, rfl, rfl,
    rfl, rfl, rfl, rfl, rfl, rfl, rfl, rfl, rfl, rfl, rfl, rfl, rfl, rfl, rfl⟩

/-- A link control block touches the packet layer alone. -/
@[simp] theorem State.lcb_keeps (s : State) (k v x : Nat) :
  (s.lcb k v x).pending = s.pending ∧ (s.lcb k v x).start = s.start ∧ (s.lcb k v x).fuse = s.fuse
    ∧ (s.lcb k v x).flash = s.flash ∧ (s.lcb k v x).img = s.img ∧ (s.lcb k v x).power = s.power
    ∧ (s.lcb k v x).portA = s.portA ∧ (s.lcb k v x).portB = s.portB ∧ (s.lcb k v x).selfTest = s.selfTest
    ∧ (s.lcb k v x).linkB = s.linkB ∧ (s.lcb k v x).clk = s.clk ∧ (s.lcb k v x).sync = s.sync
    ∧ (s.lcb k v x).grid = s.grid ∧ (s.lcb k v x).store = s.store ∧ (s.lcb k v x).banks = s.banks
    ∧ (s.lcb k v x).layers = s.layers ∧ (s.lcb k v x).comp = s.comp ∧ (s.lcb k v x).out = s.out
    ∧ (s.lcb k v x).tiles = s.tiles ∧ (s.lcb k v x).latches = s.latches ∧ (s.lcb k v x).quads = s.quads
    ∧ (s.lcb k v x).drive = s.drive ∧ (s.lcb k v x).diag = s.diag ∧ (s.lcb k v x).rb = s.rb ∧ (s.lcb k v x).cvu = s.cvu
    ∧ (s.lcb k v x).zones = s.zones ∧ (s.lcb k v x).safety = s.safety ∧ (s.lcb k v x).thermal = s.thermal
    ∧ (s.lcb k v x).policy = s.policy ∧ (s.lcb k v x).affin = s.affin ∧ (s.lcb k v x).nvm = s.nvm
    ∧ (s.lcb k v x).mp = s.mp ∧ (s.lcb k v x).sp = s.sp ∧ (s.lcb k v x).svc = s.svc ∧ (s.lcb k v x).leg = s.leg
    ∧ (s.lcb k v x).ev = s.ev ∧ (s.lcb k v x).tap = s.tap ∧ (s.lcb k v x).free = s.free :=
  ⟨rfl, rfl, rfl, rfl, rfl, rfl, rfl, rfl, rfl, rfl, rfl, rfl, rfl, rfl, rfl, rfl, rfl, rfl, rfl, rfl, rfl, rfl, rfl,
    rfl, rfl, rfl, rfl, rfl, rfl, rfl, rfl, rfl, rfl, rfl, rfl, rfl, rfl, rfl⟩

/-- Queueing a packet touches the packet layer alone. -/
@[simp] theorem State.enqueue_keeps (s : State) (q : Nat) (p : TxPkt) :
  (s.enqueue q p).pending = s.pending ∧ (s.enqueue q p).start = s.start ∧ (s.enqueue q p).fuse = s.fuse
    ∧ (s.enqueue q p).flash = s.flash ∧ (s.enqueue q p).img = s.img ∧ (s.enqueue q p).power = s.power
    ∧ (s.enqueue q p).portA = s.portA ∧ (s.enqueue q p).portB = s.portB ∧ (s.enqueue q p).selfTest = s.selfTest
    ∧ (s.enqueue q p).linkB = s.linkB ∧ (s.enqueue q p).clk = s.clk ∧ (s.enqueue q p).sync = s.sync
    ∧ (s.enqueue q p).grid = s.grid ∧ (s.enqueue q p).store = s.store ∧ (s.enqueue q p).banks = s.banks
    ∧ (s.enqueue q p).layers = s.layers ∧ (s.enqueue q p).comp = s.comp ∧ (s.enqueue q p).out = s.out
    ∧ (s.enqueue q p).tiles = s.tiles ∧ (s.enqueue q p).latches = s.latches ∧ (s.enqueue q p).quads = s.quads
    ∧ (s.enqueue q p).drive = s.drive ∧ (s.enqueue q p).diag = s.diag ∧ (s.enqueue q p).rb = s.rb
    ∧ (s.enqueue q p).cvu = s.cvu ∧ (s.enqueue q p).zones = s.zones ∧ (s.enqueue q p).safety = s.safety
    ∧ (s.enqueue q p).thermal = s.thermal ∧ (s.enqueue q p).policy = s.policy ∧ (s.enqueue q p).affin = s.affin
    ∧ (s.enqueue q p).nvm = s.nvm ∧ (s.enqueue q p).mp = s.mp ∧ (s.enqueue q p).sp = s.sp ∧ (s.enqueue q p).svc = s.svc
    ∧ (s.enqueue q p).leg = s.leg ∧ (s.enqueue q p).ev = s.ev ∧ (s.enqueue q p).tap = s.tap
    ∧ (s.enqueue q p).free = s.free := by
  rw [State.enqueue]
  split <;> exact ⟨rfl, rfl, rfl, rfl, rfl, rfl, rfl, rfl, rfl, rfl, rfl, rfl, rfl, rfl, rfl, rfl, rfl, rfl, rfl, rfl, rfl, rfl, rfl,
    rfl, rfl, rfl, rfl, rfl, rfl, rfl, rfl, rfl, rfl, rfl, rfl, rfl, rfl, rfl⟩

/-- A charge of credits touches the packet layer alone. -/
@[simp] theorem State.charge_keeps (s : State) (v n l : Nat) :
  (s.charge v n l).pending = s.pending ∧ (s.charge v n l).start = s.start ∧ (s.charge v n l).fuse = s.fuse
    ∧ (s.charge v n l).flash = s.flash ∧ (s.charge v n l).img = s.img ∧ (s.charge v n l).power = s.power
    ∧ (s.charge v n l).portA = s.portA ∧ (s.charge v n l).portB = s.portB ∧ (s.charge v n l).selfTest = s.selfTest
    ∧ (s.charge v n l).linkB = s.linkB ∧ (s.charge v n l).clk = s.clk ∧ (s.charge v n l).sync = s.sync
    ∧ (s.charge v n l).grid = s.grid ∧ (s.charge v n l).store = s.store ∧ (s.charge v n l).banks = s.banks
    ∧ (s.charge v n l).layers = s.layers ∧ (s.charge v n l).comp = s.comp ∧ (s.charge v n l).out = s.out
    ∧ (s.charge v n l).tiles = s.tiles ∧ (s.charge v n l).latches = s.latches ∧ (s.charge v n l).quads = s.quads
    ∧ (s.charge v n l).drive = s.drive ∧ (s.charge v n l).diag = s.diag ∧ (s.charge v n l).rb = s.rb
    ∧ (s.charge v n l).cvu = s.cvu ∧ (s.charge v n l).zones = s.zones ∧ (s.charge v n l).safety = s.safety
    ∧ (s.charge v n l).thermal = s.thermal ∧ (s.charge v n l).policy = s.policy ∧ (s.charge v n l).affin = s.affin
    ∧ (s.charge v n l).nvm = s.nvm ∧ (s.charge v n l).mp = s.mp ∧ (s.charge v n l).sp = s.sp ∧ (s.charge v n l).svc = s.svc
    ∧ (s.charge v n l).leg = s.leg ∧ (s.charge v n l).ev = s.ev ∧ (s.charge v n l).tap = s.tap ∧ (s.charge v n l).free = s.free :=
  ⟨rfl, rfl, rfl, rfl, rfl, rfl, rfl, rfl, rfl, rfl, rfl, rfl, rfl, rfl, rfl, rfl, rfl, rfl, rfl, rfl, rfl, rfl, rfl,
    rfl, rfl, rfl, rfl, rfl, rfl, rfl, rfl, rfl, rfl, rfl, rfl, rfl, rfl, rfl⟩

/-- A quadrant command touches the Rind's list alone. -/
@[simp] theorem State.sendCmd_keeps (s : State) (q : Nat) (w : BitVec 64) (st : Bool) :
  (s.sendCmd q w st).pending = s.pending ∧ (s.sendCmd q w st).start = s.start ∧ (s.sendCmd q w st).fuse = s.fuse
    ∧ (s.sendCmd q w st).flash = s.flash ∧ (s.sendCmd q w st).img = s.img ∧ (s.sendCmd q w st).power = s.power
    ∧ (s.sendCmd q w st).portA = s.portA ∧ (s.sendCmd q w st).portB = s.portB ∧ (s.sendCmd q w st).selfTest = s.selfTest
    ∧ (s.sendCmd q w st).link = s.link ∧ (s.sendCmd q w st).linkB = s.linkB ∧ (s.sendCmd q w st).clk = s.clk
    ∧ (s.sendCmd q w st).sync = s.sync ∧ (s.sendCmd q w st).grid = s.grid ∧ (s.sendCmd q w st).store = s.store
    ∧ (s.sendCmd q w st).banks = s.banks ∧ (s.sendCmd q w st).layers = s.layers ∧ (s.sendCmd q w st).comp = s.comp
    ∧ (s.sendCmd q w st).out = s.out ∧ (s.sendCmd q w st).tiles = s.tiles ∧ (s.sendCmd q w st).latches = s.latches
    ∧ (s.sendCmd q w st).quads = s.quads ∧ (s.sendCmd q w st).drive = s.drive ∧ (s.sendCmd q w st).diag = s.diag
    ∧ (s.sendCmd q w st).rb = s.rb ∧ (s.sendCmd q w st).cvu = s.cvu ∧ (s.sendCmd q w st).zones = s.zones
    ∧ (s.sendCmd q w st).thermal = s.thermal ∧ (s.sendCmd q w st).policy = s.policy ∧ (s.sendCmd q w st).affin = s.affin
    ∧ (s.sendCmd q w st).nvm = s.nvm ∧ (s.sendCmd q w st).mp = s.mp ∧ (s.sendCmd q w st).sp = s.sp
    ∧ (s.sendCmd q w st).svc = s.svc ∧ (s.sendCmd q w st).leg = s.leg ∧ (s.sendCmd q w st).ev = s.ev
    ∧ (s.sendCmd q w st).tap = s.tap ∧ (s.sendCmd q w st).free = s.free :=
  ⟨rfl, rfl, rfl, rfl, rfl, rfl, rfl, rfl, rfl, rfl, rfl, rfl, rfl, rfl, rfl, rfl, rfl, rfl, rfl, rfl, rfl, rfl, rfl,
    rfl, rfl, rfl, rfl, rfl, rfl, rfl, rfl, rfl, rfl, rfl, rfl, rfl, rfl, rfl⟩

/-- New budgets touch the NVM controller alone. -/
@[simp] theorem State.setNvm_keeps (s : State) (v : Nvm) :
  (s.setNvm v).pending = s.pending ∧ (s.setNvm v).start = s.start ∧ (s.setNvm v).fuse = s.fuse
    ∧ (s.setNvm v).flash = s.flash ∧ (s.setNvm v).img = s.img ∧ (s.setNvm v).power = s.power
    ∧ (s.setNvm v).portA = s.portA ∧ (s.setNvm v).portB = s.portB ∧ (s.setNvm v).selfTest = s.selfTest
    ∧ (s.setNvm v).link = s.link ∧ (s.setNvm v).linkB = s.linkB ∧ (s.setNvm v).clk = s.clk ∧ (s.setNvm v).sync = s.sync
    ∧ (s.setNvm v).grid = s.grid ∧ (s.setNvm v).store = s.store ∧ (s.setNvm v).banks = s.banks
    ∧ (s.setNvm v).layers = s.layers ∧ (s.setNvm v).comp = s.comp ∧ (s.setNvm v).out = s.out
    ∧ (s.setNvm v).tiles = s.tiles ∧ (s.setNvm v).latches = s.latches ∧ (s.setNvm v).quads = s.quads
    ∧ (s.setNvm v).drive = s.drive ∧ (s.setNvm v).diag = s.diag ∧ (s.setNvm v).rb = s.rb ∧ (s.setNvm v).cvu = s.cvu
    ∧ (s.setNvm v).zones = s.zones ∧ (s.setNvm v).safety = s.safety ∧ (s.setNvm v).thermal = s.thermal
    ∧ (s.setNvm v).policy = s.policy ∧ (s.setNvm v).affin = s.affin ∧ (s.setNvm v).mp = s.mp ∧ (s.setNvm v).sp = s.sp
    ∧ (s.setNvm v).svc = s.svc ∧ (s.setNvm v).leg = s.leg ∧ (s.setNvm v).ev = s.ev ∧ (s.setNvm v).tap = s.tap
    ∧ (s.setNvm v).free = s.free :=
  ⟨rfl, rfl, rfl, rfl, rfl, rfl, rfl, rfl, rfl, rfl, rfl, rfl, rfl, rfl, rfl, rfl, rfl, rfl, rfl, rfl, rfl, rfl, rfl,
    rfl, rfl, rfl, rfl, rfl, rfl, rfl, rfl, rfl, rfl, rfl, rfl, rfl, rfl, rfl⟩

/-- A limiter run touches the zones alone (R309). -/
@[simp] theorem State.runLimiter_keeps (s : State) (dt : Nat) :
  (s.runLimiter dt).pending = s.pending ∧ (s.runLimiter dt).start = s.start ∧ (s.runLimiter dt).fuse = s.fuse
    ∧ (s.runLimiter dt).flash = s.flash ∧ (s.runLimiter dt).img = s.img ∧ (s.runLimiter dt).power = s.power
    ∧ (s.runLimiter dt).portA = s.portA ∧ (s.runLimiter dt).portB = s.portB ∧ (s.runLimiter dt).selfTest = s.selfTest
    ∧ (s.runLimiter dt).link = s.link ∧ (s.runLimiter dt).linkB = s.linkB ∧ (s.runLimiter dt).clk = s.clk
    ∧ (s.runLimiter dt).sync = s.sync ∧ (s.runLimiter dt).grid = s.grid ∧ (s.runLimiter dt).store = s.store
    ∧ (s.runLimiter dt).banks = s.banks ∧ (s.runLimiter dt).layers = s.layers ∧ (s.runLimiter dt).comp = s.comp
    ∧ (s.runLimiter dt).out = s.out ∧ (s.runLimiter dt).tiles = s.tiles ∧ (s.runLimiter dt).latches = s.latches
    ∧ (s.runLimiter dt).quads = s.quads ∧ (s.runLimiter dt).drive = s.drive ∧ (s.runLimiter dt).diag = s.diag
    ∧ (s.runLimiter dt).rb = s.rb ∧ (s.runLimiter dt).cvu = s.cvu ∧ (s.runLimiter dt).safety = s.safety
    ∧ (s.runLimiter dt).thermal = s.thermal ∧ (s.runLimiter dt).policy = s.policy ∧ (s.runLimiter dt).affin = s.affin
    ∧ (s.runLimiter dt).nvm = s.nvm ∧ (s.runLimiter dt).mp = s.mp ∧ (s.runLimiter dt).sp = s.sp
    ∧ (s.runLimiter dt).svc = s.svc ∧ (s.runLimiter dt).leg = s.leg ∧ (s.runLimiter dt).ev = s.ev
    ∧ (s.runLimiter dt).tap = s.tap ∧ (s.runLimiter dt).free = s.free :=
  ⟨rfl, rfl, rfl, rfl, rfl, rfl, rfl, rfl, rfl, rfl, rfl, rfl, rfl, rfl, rfl, rfl, rfl, rfl, rfl, rfl, rfl, rfl, rfl,
    rfl, rfl, rfl, rfl, rfl, rfl, rfl, rfl, rfl, rfl, rfl, rfl, rfl, rfl, rfl⟩

end Sys2Proof.Machine
end

