-- ==== Sys2Proof/WellFormed.lean ====
section
/-!
DEFINITION. Well-formed commands: what the operands' Lean types do not say. A packet whose LENGTH or fields are wrong is well
formed: its meaning judges it (R120, R437).
-/
namespace Sys2Proof

/-- Opcodes of the requests the spec names (Table 4.11). -/
def requestOpcodes : List Nat := [1, 2, 3, 4, 5, 6, 7]

/-- Opcodes of the service operations the spec names (Table 13.6). -/
def serviceOpcodes : List Nat := [0x101, 0x102, 0x103, 0x110, 0x111, 0x112, 0x113, 0x120, 0x130, 0x140, 0x141, 0x142]

/-- An opcode the spec does not name, for the place it arrives at (R437). -/
def opcodeUnknown (src : OpSrc) (op : Nat) : Bool :=
  match src with
  | .request _ => !requestOpcodes.contains op
  | .service _ => !serviceOpcodes.contains op

/-- A request at a bank's port: requester 0 to 10, rows of a bank, a word for every row of a write (R164, R165). -/
def StoreReq.wf (r : StoreReq) : Bool :=
  r.who ≤ 10 && (r.rows.all fun x => x < 32768) && (!r.write || r.data.length = r.rows.length) && 1 ≤ r.rows.length

/-- A flash command: one of the three writers, an erase without data, a page at most (R368). -/
def FlashCmd.wf (c : FlashCmd) : Bool :=
  1 ≤ c.writer && c.writer ≤ 3 && (!c.erase || c.data.isEmpty) && c.data.length ≤ 4096

/-- A T512 frame: a payload of 0 to 4 096 bytes (Table 14.1). -/
def T512Frame.wf (f : T512Frame) : Bool := f.payload.length ≤ 4096

/-- The command is well formed. -/
def Instr.wf : Instr → Bool
  | .unknownOpcode src op _ => opcodeUnknown src op.toNat
  | .arbiterDecision _ reqs => reqs.all StoreReq.wf
  | .flashCommand c => c.wf
  | .powerDomainRequest pd _ => 1 ≤ pd.val
  | .heatRecordWrite kind target => 1 ≤ kind.val && (kind.val = 4 || kind.val = 5 || target.val < 64)
  | .rowSegment _ _ codes _ => codes.length = 128
  | .scanStepRelease rows => rows.all fun y => y < 512
  | .mpPolicyTick _ _ branch => branch.length = 4
  | .gapPulseEnd _ _ _ _ collapse => collapse ≤ 255
  | .packetDiscard _ _ _ _ len => len ≤ 4096
  | .eventRateWindow _ key => key < 2 ^ 32
  | .regWrite _ f => f.wf
  | .regRead f => f.wf
  | .lines _ f => f.wf
  | .showRows _ f => f.wf
  | .legacyEcho f => f.wf
  | .frameRejected _ f => f.wf
  | .softReset _ f => f.wf
  | .faultIdxWrite f => f.wf
  | .faultEntryRead f => f.wf
  | .legacyStatusRead f => f.wf
  | .linkErrCntRead f => f.wf
  | .lowByteRead f => f.wf
  | _ => true

end Sys2Proof
end

