-- ==== Sys2Proof/Certificates/Slice0/Obligations.lean ====
section
/-!
DEFINITION. The statements for the provers: what each family of commands does (each command completes in one of them), the whole-machine
rules and the invariants that every step keeps.
-/
open Sys2Proof Sys2Proof.Machine

/-- A step runs the front command (DESIGN CHOICE for the idle step, assumption log 7): with c at the front of the queue a step is c
on the state with the queue's rest; on an empty queue only time passes: 25 TIME cycles, and 100 ns of TB3 where the safety clock
runs, a port that waits in ALIGN goes on to DESKEW when its wait is over, and what waited for its consumer is served (assumption
log 10). -/
def Obligations.StepRunsFront : Prop :=
  (∀ (c : Instr) (s : State), step { s with pending := c :: s.pending } = exec c s) ∧
  (∀ (s : State) (c : Instr) (rest : List Instr), s.pending = c :: rest → step s = exec c { s with pending := rest }) ∧
  (∀ s : State, s.pending = [] → step s = .next s.idle ∧ s.idle.pending = [] ∧
    s.idle.clk.tb3 = (if s.clk.safe = true ∧ s.safety.oscStopped = false then s.clk.tb3 + 100 else s.clk.tb3)) ∧
  (∀ s : State, s.link.waiting = [] → s.portA.alignAt = none → s.portB.alignAt = none →
    s.idle = { s with clk := s.idle.clk, sync := s.idle.sync, grid := { s.grid with lampErr := s.idle.grid.lampErr }, ev := s.idle.ev }) ∧
  (∀ (s : State) (t : Nat), s.link.waiting = [] → s.portA.st = .align → s.portA.alignAt = some t → t + 100000 ≤ (s.elapse 25).now1 →
    s.idle.portA = { s.portA with st := .deskew, framing := 1, alignAt := none }) ∧
  (∀ s : State, ∃ u : State, u.link = s.link ∧ u.mp = s.mp ∧ u.sp = s.sp ∧ u.svc = s.svc ∧ s.idle = u.serveWaiting)

/-- VLOG to SELECT (Table 2.19, R69, R419): VLOG_VALID starts POWER_ON; the SAFE PLL's lock starts the Rind on its ROM defaults with
every cut line low and TB3 at 0; the fuse read leads to SELECT with PD3, PD4, PD5 and PD10 on, and a failed row raises 0x0B08;
the crystal PLLs' lock starts TB0 and TB1 at 0 and the SP. Each leaves everything else as it was. -/
def Obligations.PowerOnLeadsToSelect : Prop :=
  (∀ s : State, s.start.vlog = false →
    exec .vlogValid s = .next { s with start := { s.start with vlog := true, state := .powerOn } }) ∧
  (∀ s : State, s.start.vlog = true → s.start.state = .powerOn → s.safety.oscStopped = false →
    ∃ t, exec .safePllLocked s = .next t ∧
      t.start = { s.start with state := .fuseRead, at3 := 0 } ∧ t.clk = { s.clk with safe := true, tb3 := 0 } ∧
      (∀ i < 64, t.isCut i = true) ∧ t.safety.held = BitVec.allOnes 64 ∧ t.safety.paint = .dark ∧
      t.zones.active = clampSetOf romSafety (limiterStart romSafety []) ∧ t.zones.pending = none ∧
      t = { s with start := t.start, clk := t.clk, zones := t.zones, safety := t.safety, ev := t.ev }) ∧
  (∀ (bad : Bool) (s : State), s.start.state = .fuseRead →
    ∃ t, exec (.fuseReadDone bad) s = .next t ∧ t.start = { s.start with fuseBad := bad, state := .select } ∧
      t.power = { s.power with pd3 := true, pd4 := true, pd5 := true, pd10 := true } ∧
      t.ev = (if bad then (s.raise 0x0B08 []).ev else s.ev) ∧
      t = { s with start := t.start, power := t.power, ev := t.ev }) ∧
  (∀ s : State, s.start.state = .select → s.clk.crystal = false →
    ∃ t, exec .crystalPllLocked s = .next t ∧
      t.clk = { s.clk with crystal := true, tb0 := 0, tb1 := 0, epoch := 0 } ∧
      t.sp = { s.sp with running := true, lastServ := s.clk.tb3 } ∧
      t.svc.state = (if s.svc.lockRec then .lockout else .locked) ∧
      t = { s with clk := t.clk, sp := t.sp, svc := { s.svc with state := t.svc.state }, ev := t.ev,
                   start := { s.start with inhTold := true } })

/-- The choice of a slot (R65-R67, Table 2.18): HEADERS_CHECKED loads the first slot of R66's order, or enters SERVICE_ONLY where no
header passes; a failed flash read is retried, and a further one rejects the slot with reason 0x0C or, where it is another
read's (the free value of assumption log 52), is retried in turn; a slot that fails a body check is rejected with that check's
reason, its sections streamed, and the next of the order is tried. A slot that passes every check (Table 2.19, R61): BRING_UP
with its image in force, its reason 0, its firmware loaded, the MP not yet ready, the Rind and the SP on its SAFETY section, the
grid started in its default mode, every quadrant powered, port A in training. -/
def Obligations.SlotsAreTriedUntilOneIsValid : Prop :=
  (∀ s : State, s.start.state = .select → s.clk.crystal = true → s.start.noHeader = [] →
    ∃ t, exec .headersChecked s = .next t ∧ t.start.startCount = s.nextStartCount ∧
      t.start.reasonA = (if s.headerReason s.flash.slotA = 0 then s.start.reasonA else s.headerReason s.flash.slotA) ∧
      t.start.reasonB = (if s.headerReason s.flash.slotB = 0 then s.start.reasonB else s.headerReason s.flash.slotB) ∧
      (∀ i l, s.slotOrder = i :: l →
        t.start.state = .load ∧ t.start.loading = some i ∧ t.start.order = l ∧
        t = { s with start := t.start, ev := t.ev }) ∧
      (s.slotOrder = [] → t.start.state = .serviceOnly ∧ t.safety.romParams = true)) ∧
  (∀ (s : State) (i : SlotId), s.start.loading = some i → s.start.state = .load →
    (s.start.retried = false →
      exec .flashReadFail s = .next { s with start := { s.start with retried := true },
                                             flash := { s.flash with retries := sat32 (s.flash.retries + 1) } }) ∧
    (s.start.retried = true →
      exec .flashReadFail s = .next ((s.drawn.reject i 0x0C).tryNext s.start.order) ∨
      exec .flashReadFail s = .next s.drawn.retryRead)) ∧
  (∀ (s : State) (i : SlotId), s.start.loading = some i → s.start.state = .load → (s.slot i).bodyReason ≠ 0 →
    exec .slotChecksDone s = .next (((s.stripped (s.slot i)).reject i (s.slot i).bodyReason).tryNext s.start.order)) ∧
  (∀ (s : State) (i : SlotId), s.start.loading = some i → s.start.state = .load → (s.slot i).bodyReason = 0 →
    ∃ t, exec .slotChecksDone s = .next t ∧
      t.start.state = .bringUp ∧ t.start.active = some i ∧ t.start.loading = none ∧ t.img = (s.slot i).params ∧
      t.mp.ready = false ∧ t.mp.code = some i ∧ t.mp.entry = some (s.slot i).params.fwEntry ∧ t.grid.started = true ∧ t.grid.mode = (s.slot i).params.defaultMode ∧ t.clk.gridOn = true ∧
      t.safety.romParams = false ∧ t.safety.copy = some (s.slot i).params.safety ∧
      (∀ q, q < 4 → (t.quad q).powered = true) ∧ t.power.pd1 = true ∧
      (match i with | .a => t.start.reasonA = 0 | .b => t.start.reasonB = 0) ∧
      t.fuse = s.fuse ∧ t.flash.slotA = s.flash.slotA ∧ t.flash.slotB = s.flash.slotB ∧ t.thermal = s.thermal)

/-- READY (Table 2.19, R69, R70, R75, R77): the ready report of an MP whose firmware is loaded, in BRING_UP, makes the engine READY,
with the store's and the quadrants' registers locked, FAULT_N of a stuck reset released, the personality latched by the framing
of a link that is up, and a rollback advance begun where the image asks for one. The first bring-up timeout restarts the MP, the
second ends the start with outcome 2. -/
def Obligations.MpReadyMakesReady : Prop :=
  (∀ s : State, s.start.state = .bringUp → s.start.attempts < 2 → s.mpLoaded = true →
    ∃ t, exec .mpReady s = .next t ∧ t.start.state = .ready ∧ t.start.outcome = some 0 ∧ t.mp.ready = true ∧
      t.store.wlock = true ∧ t.drive.qlock = true ∧ t.safety.stuckReset = false ∧ (s.link.waiting = [] → t.link.waiting = []) ∧
      t.start.rolling = (s.img.advance && decide (s.fuse.rollback < s.img.secVer)) ∧
      (s.start.pers = .unlatched → s.portA.st = .up → t.start.pers = if s.portA.framing = 2 then .legacy else .native) ∧
      t.fuse = s.fuse ∧ t.img = s.img ∧ t.thermal = s.thermal ∧ t.rb = s.rb) ∧
  (∀ s : State, s.start.state = .bringUp → s.start.attempts = 0 →
    ∃ t, exec .bringupTimeout s = .next t ∧ t.start.state = .bringUp ∧ t.start.attempts = 1 ∧ t.mp.ready = false ∧
      t.mp.restarts = sat32 (s.mp.restarts + 1) ∧ t.nvm.reserve = 0 ∧ t.safety = s.safety ∧ t.portA = s.portA) ∧
  (∀ s : State, s.start.state = .bringUp → s.start.attempts = 1 →
    ∃ t, exec .bringupTimeout s = .next t ∧ t.start = { s.start with attempts := 2, outcome := some 2 } ∧
      t = { s with start := t.start, ev := t.ev })

/-- The rollback counter (R48) and a loss of power (R419): ROLLBACK blows one step of F with event 0x0B05, and the advance goes on
while F is below the image's SEC_VERSION; LOSS_OF_VLOG resets every block, AON included, while the flash, the fuses, the straps
and the service lockout's records stay, and a step that was in progress reads blown or unblown (the free value of assumption log
40). The security version only grows, and only by a step of ROLLBACK, or one that a loss of VLOG interrupts; every other fuse
never changes (R48). -/
def Obligations.FusesAndFlashOutlastPower : Prop :=
  (∀ s : State, s.start.rolling = true →
    exec .rollback s = .next (({ s with
      fuse := { s.fuse with rollback := s.fuse.rollback + 1 }
      start := { s.start with rolling := decide (s.fuse.rollback + 1 < s.img.secVer) } } : State).raise
        0x0B05 [(1, s.fuse.rollback + 1)])) ∧
  (∀ s : State, s.flash.cur = none → s.start.rolling = false →
    exec .lossOfVlog s = .next { (State.reset) with
      pending := s.pending, free := s.free, fuse := s.fuse
      flash := { slotA := s.flash.slotA, slotB := s.flash.slotB, recs := s.flash.recs }
      start := { addr0 := s.start.addr0, addr1 := s.start.addr1, testEn := s.start.testEn }
      svc := { fails := s.svc.fails, lockRec := s.svc.lockRec } }) ∧
  (∀ s : State, s.start.rolling = true →
    ∃ t, exec .lossOfVlog s = .next t ∧ (t.fuse.rollback = s.fuse.rollback ∨ t.fuse.rollback = s.fuse.rollback + 1) ∧
      t.fuse.keyHash = s.fuse.keyHash ∧ t.start.rolling = false ∧ t.pending = s.pending) ∧
  (∀ (c : Instr) (s t : State), exec c s = .next t →
    t.fuse = { s.fuse with rollback := t.fuse.rollback } ∧ s.fuse.rollback ≤ t.fuse.rollback ∧
    t.fuse.rollback ≤ s.fuse.rollback + 1 ∧ (c ≠ .rollback → c ≠ .lossOfVlog → t.fuse = s.fuse))

/-- The hardware reset (R73-R75, R330): NRESET low leads to RESET_HELD, the fuses, the thermal unit, the Rind's parameters and
active clamp set, TB3 and the slots kept, the safety state taken from LBREQ; NRESET high starts again from SELECT with the off
latch and the causes held until a start cleared, the cause of the start telling a stuck reset from another; a stuck reset sets
its flag, asserts FAULT_N and raises 0x080E. -/
def Obligations.ResetKeepsTheRind : Prop :=
  (∀ s : State, s.start.state.resettable = true → s.rindRuns = true →
    ∃ t, exec .nresetLow s = .next t ∧ t.start.state = .resetHeld ∧ t.start.vlog = s.start.vlog ∧ t.fuse = s.fuse ∧
      t.thermal = s.thermal ∧ t.zones.active = s.zones.active ∧ t.safety.romParams = s.safety.romParams ∧
      t.safety.copy = s.safety.copy ∧ t.safety.state = s.offState ∧ t.clk.tb3 = s.clk.tb3 ∧ t.clk.crystal = false ∧
      t.mp.ready = false ∧ t.sp.running = false ∧ t.svc.state = .locked ∧ t.flash.cur = none ∧ t.pending = s.pending) ∧
  (∀ s : State, s.start.state = .resetHeld →
    ∃ t, exec .nresetHigh s = .next t ∧
      t.start = { s.start with state := .select, cause := if s.start.stuck then 2 else 1, at3 := s.clk.tb3, stuck := false } ∧
      t.power = { s.power with pd3 := true, pd4 := true, pd5 := true, pd10 := true } ∧
      t.safety.offLatch = false ∧ t.safety.firstNormal = false ∧
      t.safety.rindCauses = s.safety.rindCauses &&& ~~~untilStart ∧ t.safety.switchFault = 0 ∧
      t.drive = { s.drive with overcurrent := false } ∧
      t = { s with start := t.start, power := t.power, safety := t.safety, drive := t.drive, policy := t.policy, ev := t.ev }) ∧
  (∀ s : State, s.start.state = .resetHeld → s.start.stuck = false →
    exec .stuckReset s = .next ((({ s with
      start := { s.start with stuck := true }, safety := { s.safety with stuckReset := true } } : State).setFlag
        fStuckReset).raise 0x080E []))

/-- Detection, sweep and back-off of a port (R83-R85, R89, R98, Table 3.3): a detection on port A's back lane in DETECT leads to
SWEEP at the first usable generation where it finds the host or a squelch is open, otherwise to BACKOFF; on port B a PRESENT
lane leads to SWEEP at port A's generation with the next ATTEMPT; an opening squelch leads from DETECT to SWEEP and from BACKOFF
to DETECT with the interval reset; a dwell's end turns to the next usable generation, starts the next round, or after four
rounds backs off; a timeout of a training state backs off; an elapsed interval returns to DETECT with the next one longer. -/
def Obligations.PortsDetectSweepAndBackOff : Prop :=
  (∀ (s : State) (lane : Fin 4) (r : Detect), s.portA.st = .detect →
    exec (.receiverDetectionDone .a lane r) s = .next { s with
      portA :=
      if r = .present ∨ (laneList.any fun i => (s.portA.lanes.get {} i).squelch) = true
      then { s.portA with backDet := r, st := .sweep, sweepGen := s.usableFrom 3, sweepRound := 0 }
      else ({ s.portA with backDet := r } : Port).toBackoff }) ∧
  (∀ (s : State) (lane : Fin 4), s.portB.st = .detect →
    ∃ t, exec (.receiverDetectionDone .b lane .present) s = .next t ∧ t.portB.st = .sweep ∧
      t.portB.sweepGen = s.portA.gen ∧ t.portB.attempt = s.portB.attempt + 1 ∧ t.portB.txDet = s.portB.txDet.set .absent lane .present ∧
      t = { s with portB := t.portB }) ∧
  (∀ (s : State) (p : PortId) (lane : Fin 4), (s.port p).st = .detect →
    ∃ t, exec (.squelchOpen p lane) s = .next t ∧ (t.port p).st = .sweep ∧ ((t.port p).lanes.get {} lane).squelch = true ∧
      t = s.modPort p fun _ => t.port p) ∧
  (∀ (s : State) (p : PortId) (lane : Fin 4), (s.port p).st = .backoff → ((s.port p).lanes.get {} lane).squelch = false →
    ∃ t, exec (.squelchOpen p lane) s = .next t ∧ (t.port p).st = .detect ∧ (t.port p).backoff = 0 ∧
      t = s.modPort p fun _ => t.port p) ∧
  (∀ s : State, s.portA.st = .sweep →
    exec .sweepDwellEnd s = .next { s with
      portA :=
      if 0 < s.usableFrom (s.portA.sweepGen - 1) then { s.portA with sweepGen := s.usableFrom (s.portA.sweepGen - 1) }
      else if 3 ≤ s.portA.sweepRound then s.portA.toBackoff
      else { s.portA with sweepGen := s.usableFrom 3, sweepRound := s.portA.sweepRound + 1 } }) ∧
  (∀ (s : State) (p : PortId), (s.port p).st.training = true →
    exec (.trainingTimeout p) s = .next (s.modPort p Port.toBackoff)) ∧
  (∀ (s : State) (p : PortId), (s.port p).st = .backoff →
    ∃ t, exec (.backoffElapsed p) s = .next t ∧ (t.port p).st = .detect ∧
      (t.port p).backoff = min 7 ((s.port p).backoff + 1) ∧ t = s.modPort p fun _ => t.port p)

/-- Lock and framing (R82, R90, R93-R95): bit lock on an open lane leads from SWEEP to ALIGN at the generation of the dwell, at G1
on lane 0 alone; a comma on lane 0 at G1 leads to DESKEW with native framing, or to EXCHANGE with T512, where that framing is
usable; the first block lock at G2 or G3 starts TS_A, and DESKEW follows once every lane is locked, or 100 us later. -/
def Obligations.LockSelectsGenerationAndFraming : Prop :=
  (∀ (s : State) (p : PortId) (lane : Fin 4), (s.port p).st = .sweep → ((s.port p).lanes.get {} lane).squelch = true →
    ((s.port p).sweepGen ≠ 1 ∨ lane = 0) →
    ∃ t, exec (.bitLock p lane) s = .next t ∧ (t.port p).st = .align ∧ (t.port p).gen = (s.port p).sweepGen ∧
      ((t.port p).lanes.get {} lane).bitLock = true ∧ t = s.modPort p fun _ => t.port p) ∧
  (∀ (s : State) (p : PortId) (lane : Fin 4), (s.port p).st = .sweep → (s.port p).sweepGen = 1 → lane ≠ 0 →
    exec (.bitLock p lane) s = .next s) ∧
  (∀ s : State, s.portA.st = .align → s.portA.gen = 1 → (s.portA.lanes.get {} 0).bitLock = true →
    (s.nativeUsable = true → ∃ t, exec (.commaAligned .a 0 false) s = .next t ∧ t.portA.st = .deskew ∧
      t.portA.framing = 1 ∧ t = { s with portA := t.portA }) ∧
    (s.t512Usable = true → ∃ t, exec (.commaAligned .a 0 true) s = .next t ∧ t.portA.st = .exchange ∧
      t.portA.framing = 2 ∧ t.portA.useMask = 1 ∧ (t.portA.lanes.get {} 0).laneId = 0 ∧ t = { s with portA := t.portA, leg := { s.leg with hsRx := 0 } })) ∧
  (∀ (s : State) (lane : Fin 4), s.portA.st = .align → 2 ≤ s.portA.gen → (s.portA.lanes.get {} lane).bitLock = true →
    s.nativeUsable = true → s.portA.alignAt = none →
    ∃ t, exec (.blockLock .a lane) s = .next t ∧ (t.portA.lanes.get {} lane).block = true ∧ t.portA.txBlock = 1 ∧
      ((∀ i, i < 4 → (t.portA.lanes.get {} i).block = true) → t.portA.st = .deskew ∧ t.portA.framing = 1) ∧
      ((∃ i, i < 4 ∧ (t.portA.lanes.get {} i).block = false) → t.portA.st = .align ∧ t.portA.alignAt = some s.now1) ∧
      t = { s with portA := t.portA }) ∧
  (∀ (s : State) (at1 : Nat), s.portA.st = .align → s.portA.alignAt = some at1 → at1 + 100000 ≤ s.now1 →
    s.toDeskew .a = { s with portA := { s.portA with st := .deskew, framing := 1, alignAt := none } })

/-- The training blocks (R87-R89, R92, R96, R97, R111, Table 3.2): a host's TS_A gives the lane its LANE_ID; TS_B blocks in DESKEW
set WORK_MASK to the lanes that are locked and within 64 UI, and USE_MASK to the lanes R97 chooses from them; TS_END on every
lane in use enters EXCHANGE; a far-end loopback ends in DETECT with event 0x010A; a block that is no training block of its phase
changes no port that is not training. -/
def Obligations.TrainingBlocksSetTheLanes : Prop :=
  (∀ (s : State) (lane : Fin 4) (w : BitVec 64), (s.portA.lanes.get {} lane).inverted = false → trOk w 0 = true →
    trRole w = true → trLpbk w = 0 → s.portA.st = .deskew →
    ∃ t, exec (.tsA .a lane w) s = .next t ∧ (t.portA.lanes.get {} lane).laneId = trLane w ∧ t.portA.st = .deskew ∧
      t.portA.attempt = trAttempt w ∧ t = { s with portA := t.portA }) ∧
  (∀ (s : State) (blocks : List (Fin 4 × Nat × BitVec 64)), s.portA.st = .deskew → blocks ≠ [] →
    (∀ b ∈ blocks, (s.portA.lanes.get {} b.1).inverted = false ∧ trOk b.2.2 1 = true ∧ trRole b.2.2 = true) →
    ∃ t, exec (.tsB .a blocks) s = .next t ∧ t.portA.st = .deskew ∧
      t.portA.workMask = t.portA.idMask (fun l => l.deskewed && l.locked s.portA.gen) ∧
      t.portA.useMask = s.useOf s.portA.gen t.portA.workMask ∧ t = { s with portA := t.portA }) ∧
  (∀ (s : State) (lane : Fin 4) (w : BitVec 64), s.portA.st = .deskew → (s.portA.lanes.get {} lane).inverted = false →
    trOk w 2 = true → trRole w = true → s.portA.useMask = BitVec.twoPow 4 (s.portA.lanes.get {} lane).laneId →
    (s.portA.lanes.get {} lane).laneId < 4 → (s.portA.lanes.get {} lane).deskewed = true →
    ∃ t, exec (.tsEnd .a [(lane, w)]) s = .next t ∧ t.portA.st = .exchange ∧ t = { s with portA := t.portA }) ∧
  (∀ s : State, s.portA.st = .loopback → s.portA.loopback = 3 →
    ∃ t, exec .farEndLoopbackEnd s = .next t ∧ t.portA = s.portA.toDetect ∧
      t = ({ s with portA := s.portA.toDetect } : State).raise 0x010A [(1, 2), (1, 0)]) ∧
  (∀ (s : State) (p : PortId) (lane : Fin 4) (w : BitVec 64), ((s.port p).lanes.get {} lane).inverted = false →
    trOk w 0 = false → (s.port p).st.training = false → exec (.tsA p lane w) s = .next s)

/-- Loss and repair of lanes (R99, R102-R105, R113): a lane that is not in use only loses its lock; a fault on a lane in use at G2
or G3 starts a repair over the lanes that keep their lock, with a NAK, and without a lane to go on with it is link down; a
repair that does not end in time is link down with cause 2; port B goes down by itself; a REPAIR block of the downstream module
gives port B its new masks. Link down returns port A to DETECT with no revision and raises 0x0102. Electrical idle (R107-R109,
R136, R140): IDLE_ENTER on a native link that offered idle stops the receive lanes, and port B's with nothing outstanding there;
WAKE begins the wake; at its end every lane in use that locked leads back to UP, and none locked is link down; the back lane
sends IDLE_ENTER and idles only when the receive lanes idle with every queue and the replay buffer empty, and sends its wake
burst when a queue holds a packet; two ABSENT results in a row on the idle back lane are link down with cause 5. -/
def Obligations.LaneLossIdleAndWake : Prop :=
  (∀ (s : State) (lane : Fin 4), (s.portA.lanes.get {} lane).laneId = 15 →
    exec (.laneFault .a lane) s = .next { s with portA := s.portA.modLane lane Lane.lost } ∧
    exec (.squelchClose .a lane) s = .next { s with portA := s.portA.modLane lane fun l => { l.lost with squelch := false } }) ∧
  (∀ (s : State) (lane : Fin 4), s.portA.st = .up → (s.portA.lanes.get {} lane).laneId < 4 →
    s.portA.useMask.getLsbD (s.portA.lanes.get {} lane).laneId = true →
    let q := s.portA.modLane lane Lane.lost
    let use := s.useOf s.portA.gen q.surviving
    (s.portA.gen ≠ 1 → use ≠ 0 →
      ∃ t, exec (.laneFault .a lane) s = .next t ∧ t.portA.st = .repair ∧ t.portA.workMask = q.surviving ∧
        t.portA.useMask = use ∧ t.link.nakFor = some s.link.expSeq ∧ t = { s with portA := t.portA, link := t.link }) ∧
    ((s.portA.gen = 1 ∨ use = 0) → exec (.laneFault .a lane) s = .next (({ s with portA := q } : State).linkDown 0))) ∧
  (∀ s : State, s.portA.st = .repair → exec .repairTimeout s = .next (s.linkDown 2)) ∧
  (∀ (s : State) (cause : Nat), (s.linkDown cause).portA.st = .detect ∧ (s.linkDown cause).link.rev = 0 ∧
    (s.linkDown cause).link.holdRun = true ∧ (s.linkDown cause).link.replay = [] ∧ (s.linkDown cause).portB.st = .off) ∧
  (∀ (s : State) (lane : Fin 4), s.portB.st = .up →
    exec (.squelchClose .b lane) s = .next (({ s with portB := s.portB.modLane lane fun l =>
      { l.lost with squelch := false } } : State).portBDown 1) ∧
    exec (.laneFault .b lane) s = .next (({ s with portB := s.portB.modLane lane Lane.lost } : State).portBDown 0)) ∧
  (∀ (s : State) (w : BitVec 64), trOk w 3 = true → trRole w = false → (s.portB.st = .up ∨ s.portB.st = .repair) →
    exec (.repair w) s = .next { s with portB :=
      { s.portB with st := .repair, workMask := trWork w, useMask := trUse w, txBlock := 2 } }) ∧
  (∀ s : State, s.linkUp = true → s.idleOffered = true →
    ∃ t, exec .idleEnter s = .next t ∧ t.portA = { s.portA with st := .idle, rxIdle := true } ∧
      t.portB.st = (if s.portB.st = .up ∧ s.linkB.wait = [] ∧ s.linkB.sent = [] then .idle else s.portB.st) ∧
      t = { s with portA := t.portA, portB := t.portB }) ∧
  (∀ s : State, s.portA.st = .idle →
    ∃ t, exec .wake s = .next t ∧ t.portA = { s.portA with st := .wake } ∧
      t.portB.st = (if s.portB.st = .idle then .wake else s.portB.st) ∧ t = { s with portA := t.portA, portB := t.portB }) ∧
  (∀ (s : State) (locked : BitVec 4), s.portA.st = .wake → (s.portA.useMask &&& locked) = s.portA.useMask → s.portA.useMask ≠ 0 →
    ∃ t, exec (.wakeEnd locked) s = .next t ∧ t.portA.st = .up ∧ t.portA.rxIdle = false ∧
      t.portB.st = (if s.portB.st = .wake then .up else s.portB.st) ∧ t = { s with portA := t.portA, portB := t.portB }) ∧
  (∀ (s : State) (locked : BitVec 4), s.portA.st = .wake → (s.portA.useMask &&& locked) = 0 →
    ∃ t, exec (.wakeEnd locked) s = .next t ∧ t.portA.st = .detect ∧ t.link.holdRun = true) ∧
  (∀ s : State, s.portA.rxIdle = true → s.tqsEmpty = true → s.link.replay = [] →
    exec .backLaneIdleEntry s = .next { s with portA :=
      { (s.sendPhase .a (List.replicate 8 6)).portA with backIdle := true, txBlock := 0, absentRun := 0, shortedRun := 0 } }) ∧
  (∀ s : State, s.portA.backIdle = true → s.tqsEmpty = false →
    exec .backLaneWake s = .next { s with portA := { s.portA with backIdle := false, txBlock := 6 } }) ∧
  (∀ s : State, s.portA.backIdle = true →
    (s.portA.absentRun = 0 → exec (.backLaneDetect .absent) s = .next { s with portA :=
      { s.portA with backDet := .absent, absentRun := 1, shortedRun := 0 } }) ∧
    (s.portA.absentRun = 1 → exec (.backLaneDetect .absent) s = .next (({ s with portA :=
      { s.portA with backDet := .absent, absentRun := 2, shortedRun := 0 } } : State).linkDown 5)))

/-- The receive path of port A (R120, R125, R126, R129, R140, R273): a packet that arrives in order for this module and passes both
stages is consumed with its credits charged and freed; a duplicate is acknowledged again, a packet ahead is NAKed, one that is
too long fails its framing, none of them consumed, the checkpoint of a WRITE's layer copied back; a packet for another module
goes to port B with its credits held where that link stands, and is discarded with event 0x0106 cause 8 where it does not; a
broadcast is both consumed and forwarded; without a native link nothing arrives. -/
def Obligations.PacketsAreConsumedForwardedOrRejected : Prop :=
  (∀ (s : State) (i : Instr) (p : Rx) (f : State → State), s.accepts p →
    s.receive i p f = (f (s.admitted p)).freeCredits p.vc (creditCost p.len) p.len) ∧
  (∀ (s : State) (i : Instr) (p : Rx) (f : State → State), s.linkUp = true → p.len ≤ 4096 →
    (seqClass s.link.expSeq p.h.seq = 1 → s.receive i p f = s.sendAck.restoreFor p.vc p.type) ∧
    (seqClass s.link.expSeq p.h.seq = 2 → s.receive i p f = s.sendNak.restoreFor p.vc p.type)) ∧
  (∀ (s : State) (i : Instr) (p : Rx) (f : State → State), s.linkUp = true → 4096 < p.len →
    s.receive i p f = (s.linkFailed .framing p.h.seq).restoreFor p.vc p.type) ∧
  (∀ (s : State) (i : Instr) (p : Rx) (f : State → State), s.linkUp = true → p.h.seq = s.link.expSeq →
    s.start.state ≠ .serviceOnly → p.len ≤ 4096 → p.lenOk = true → p.fieldsOk = true →
    (s.link.credits.get {} p.vc).held + creditCost p.len ≤ s.grant p.vc →
    (p.h.addr.toNat < 8 → p.h.addr ≠ BitVec.setWidth 4 s.link.addr →
      s.receive i p f = if s.portB.linked then (s.admitted p).forward p (creditCost p.len) false
        else ((s.admitted p).freeCredits p.vc (creditCost p.len) p.len).raiseRated 0x0106 8 [(1, 8), (1, p.vc), (1, p.type)]) ∧
    (p.h.addr = 0xF → s.mp.ready = true → s.sp.running = true → s.storeBlocked p.lo p.hi = false → s.link.waiting = [] →
      s.portB.linked = true → s.receive i p f = f ((s.admitted p).forward p (creditCost p.len) false))) ∧
  (∀ (s : State) (i : Instr) (p : Rx) (f : State → State), s.linkUp = false → s.receive i p f = s)

/-- The capability exchange (R135, R137-R139, Table 4.5): a good offer is answered with the highest common revision, the upstream
credits taken and the address set once; one without a common revision is answered with REV_SEL 0 and event 0x0107; a CONFIRM
that echoes REV_SEL is link-up with that revision and the numbering restarted; port B confirms the answer of a module that took
port A's revision. -/
def Obligations.CapabilityExchangeBringsLinksUp : Prop :=
  (∀ (s : State) (b : List Byte), s.portA.st = .exchange → s.portA.framing = 1 → b.length = 0x60 → fieldAt b 4 1 = 0 →
    bitOf (fieldAt b 7 1) 7 = true → fieldAt b 8 1 ≤ 7 → (∀ v < 6, 16 ≤ fieldAt b (0x20 + 2 * v) 2) →
    (s.revSelect (fieldAt b 5 1 % 8) ≠ 0 →
      ∃ t, exec (.capOffer b) s = .next t ∧ t.link.offered = s.revSelect (fieldAt b 5 1 % 8) ∧
        t.link.addr = (if s.link.addrKnown then s.link.addr else s.addrFrom (fieldAt b 8 1)) ∧ t.link.addrKnown = true ∧
        t.link.hop = fieldAt b 8 1 ∧ t.link.capTx.isSome = true ∧ t = { s with link := t.link }) ∧
    (s.revSelect (fieldAt b 5 1 % 8) = 0 →
      ∃ t, exec (.capOffer b) s = .next t ∧ t.link.offered = 0 ∧ t.link.addr = s.link.addr ∧
        t.ev = (s.raise 0x0107 [(1, 0)]).ev ∧ t = { s with link := t.link, ev := t.ev })) ∧
  (∀ (s : State) (b : List Byte), s.portA.st = .exchange → s.portA.framing = 1 → b.length = 0x60 → fieldAt b 4 1 = 2 →
    fieldAt b 6 1 % 8 = s.link.offered → s.link.offered ≠ 0 →
    ∃ t, exec (.capConfirm b) s = .next t ∧ t.portA.st = .up ∧ t.portA.backoff = 0 ∧
      t.portA.linkUps = sat32 (s.portA.linkUps + 1) ∧ t.link.rev = revOf s.link.offered ∧ t.link.expSeq = 0 ∧
      t.link.txSeq = 0 ∧ t.link.replay = [] ∧ t.link.credits = [] ∧ t.link.holdRun = false ∧ t.safety = s.safety ∧
      t.flash = s.flash ∧ t.clk = s.clk) ∧
  (∀ (s : State) (b : List Byte), s.portB.st = .exchange → b.length = 0x60 → fieldAt b 4 1 = 1 →
    bitOf (fieldAt b 7 1) 7 = false → fieldAt b 6 1 % 8 ≠ 0 → revOf (fieldAt b 6 1 % 8) = s.link.rev →
    ∃ t, exec (.capAnswer b) s = .next t ∧ t.portB.st = .up ∧ t.linkB.rev = s.link.rev ∧
      t.linkB.downAddr = BitVec.ofNat 3 (fieldAt b 9 1) ∧ t.linkB.txSeq = 0 ∧ t.linkB.expSeq = 0 ∧
      t = { s with portB := t.portB, linkB := t.linkB, ev := t.ev })

/-- Failures, acknowledgement and replay (R120, R125-R128): a packet that fails its CRC or framing is NAKed and counted, the fifth
in a row of one SEQ is link down with cause 4; a packet that fails the content stage passes the link stage and is answered or
reported; an ACK drops what it acknowledges; a NAK for the oldest packet replays it, the fifth is link down; the ACK timer
acknowledges what has passed; the replay timer replays, and after four replays takes the link down; port B keeps its own
sequence so. Where a timer of both ports runs, which of the two ends is a free value (assumption log 52). -/
def Obligations.FailuresAcksAndReplay : Prop :=
  (∀ (s : State) (seq : BitVec 12), s.linkUp = true →
    (s.link.failRun = 0 → ∃ t, exec (.packetLinkFail .a .crc seq) s = .next t ∧ t.link.failSeq = seq ∧ t.link.failRun = 1 ∧
      t.link.nakFor = some s.link.expSeq ∧ t.portA.crcFails = sat32 (s.portA.crcFails + 1) ∧ t.link.expSeq = s.link.expSeq ∧
      t = { s with link := t.link, portA := t.portA }) ∧
    (s.link.failRun = 4 → s.link.failSeq = seq →
      ∃ t, exec (.packetLinkFail .a .crc seq) s = .next t ∧ t.portA.st = .detect ∧ t.link.rev = 0)) ∧
  (∀ (s : State) (h : Hdr) (up : Bool) (vc : Fin 32) (type : BitVec 8) (len status cause : Nat), s.linkUp = true →
    h.seq = s.link.expSeq → len ≤ 4096 → s.noStaging vc len = false → s.start.state ≠ .serviceOnly → s.headFails h up vc.val type.toNat len = some (status, cause) →
    ∃ t, exec (.packetDiscard h up vc type len) s = .next t ∧ t.link.expSeq = s.link.expSeq + 1 ∧
      t.portA.contentDiscards = sat32 (s.portA.contentDiscards + 1) ∧
      t = { s with link := t.link, portA := t.portA, layers := t.layers, cvu := t.cvu, ev := t.ev }) ∧
  (∀ (s : State) (q : BitVec 12), s.linkUp = true → (∃ x ∈ s.link.replay, x.seq = q) →
    let l := (s.link.replay.dropWhile fun x => x.seq ≠ q).drop 1
    exec (.ack .a q) s = .next { s with link := { s.link with
      replay := l, replayCount := 0, nakCount := 0, replayNext := replayFrom TxPkt.seq s.link.replayNext l } }) ∧
  (∀ (s : State) (q : BitVec 12) (x : TxPkt) (l : List TxPkt), s.linkUp = true → s.link.replay = x :: l → x.seq = q →
    (∀ y ∈ x :: l, y.seq ≠ q - 1) →
    (s.link.nakCount < 4 → exec (.nak .a q) s = .next { s with
      link := { s.link with nakCount := s.link.nakCount + 1, replayCount := min 4 (s.link.replayCount + 1), replayNext := some q }
      portA := { s.portA with replays := sat32 (s.portA.replays + 1) } }) ∧
    (4 ≤ s.link.nakCount → exec (.nak .a q) s = .next (s.linkDown 4))) ∧
  (∀ s : State,
    (s.ackDue .a = true → s.ackDue .b = false → exec .ackTimer s = .next { s with link := { s.link with
      lcbs := s.link.lcbs ++ [{ kind := 1, vc := 0, value := (s.link.expSeq - 1).toNat }], unacked := 0 } }) ∧
    (s.ackDue .a = false → s.ackDue .b = true → exec .ackTimer s = .next { s with linkB := { s.linkB with
      lcbs := s.linkB.lcbs ++ [{ kind := 1, vc := 0, value := (s.linkB.expSeq - 1).toNat }], unacked := 0 } }) ∧
    (s.ackDue .a = true → s.ackDue .b = true →
      exec .ackTimer s = .next (if s.freeVal 20 % 2 = 0 then s.drawn.sendAck else s.drawn.sendAckB))) ∧
  (∀ (s : State) (x : TxPkt) (l : List TxPkt), s.backUp = true → s.link.replay = x :: l → s.replayDue .b = false →
    (s.link.replayCount < 4 → exec .replayTimer s = .next { s with
      link := { s.link with replayCount := s.link.replayCount + 1, replayNext := some x.seq }
      portA := { s.portA with replays := sat32 (s.portA.replays + 1) } }) ∧
    (4 ≤ s.link.replayCount → exec .replayTimer s = .next (s.linkDown 4))) ∧
  (∀ (s : State) (x : FwdPkt) (l : List FwdPkt), s.portBUp = true → s.linkB.sent = x :: l → s.replayDue .a = false →
    (s.linkB.replayCount < 4 → exec .replayTimer s = .next { s with
      linkB := { s.linkB with replayCount := s.linkB.replayCount + 1, replayNext := some x.seq }
      portB := { s.portB with replays := sat32 (s.portB.replays + 1) } }) ∧
    (4 ≤ s.linkB.replayCount → exec .replayTimer s = .next (s.portBDown 4))) ∧
  (∀ s : State, s.replayDue .a = true → s.replayDue .b = true →
    exec .replayTimer s = .next (if s.freeVal 20 % 2 = 0 then s.drawn.replayEndA else s.drawn.replayEndB))

/-- Credits, transmit queues and forwarding (R117, R125, R127, R129, R132, R139, R140): CREDIT adds the advance of its cumulative
TOTAL modulo 2048; the 2 us timer returns the TOTAL of every VC with credits freed; the head of the chosen queue leaves with the
next SEQ and is kept for replay, the waiting link control blocks before it; a packet whose queue is full waits with its
producer; a head that has waited joins the queues served next; a packet leaves for port B with a new SEQ there; an upstream
packet of the downstream module, within the credits granted, enters TQ6 unchanged but for its SEQ. -/
def Obligations.CreditsQueuesAndForwarding : Prop :=
  (∀ (s : State) (vc : Fin 32) (total : BitVec 11), s.linkUp = true →
    exec (.credit .a vc total) s = .next { s with link := { s.link with
      txTotal := s.link.txTotal.set 0 vc.val total.toNat
      txLeft := s.link.txLeft.modify 0 vc.val fun n => n + (total.toNat + 2048 - s.link.txTotal.get 0 vc.val) % 2048 } }) ∧
  (∀ s : State, s.creditDue .a = true → s.creditDue .b = false → (∀ v, s.creditHeld v = false) →
    ∃ t, exec (.creditReturnTimer false) s = .next t ∧
      t.link.lcbs = s.link.lcbs ++ ((List.range 32).filter fun v => decide (0 < (s.link.credits.get {} v).freed)).map
        (fun v => { kind := 3, vc := v, value := (s.link.credits.get {} v).total }) ∧
      t = { s with link := t.link }) ∧
  (∀ (s : State) (resend : Bool), s.creditDue .a = true → s.creditDue .b = true →
    exec (.creditReturnTimer resend) s = .next (if s.freeVal 20 % 2 = 0 then s.drawn.forEach (s.creditVcs resend .a) State.sendCredit
      else s.drawn.forEach (s.creditVcs resend .b) State.sendCreditB)) ∧
  (∀ (s : State) (q : Nat) (p : TxPkt), s.backUp = true → s.portA.backIdle = false → s.portA.backDet = .present →
    s.link.replayNext = none → s.tqChoice = some q → s.tqHead q = some p → p.type ≠ 0x40 →
    ∃ t, exec .tqTransmit s = .next t ∧ t.link.txSeq = s.link.txSeq + 1 ∧ t.link.lcbs = [] ∧
      t.link.replay = s.link.replay ++ [{ p with seq := s.link.txSeq, fwd := decide (q = 6) }] ∧
      (q ≠ 1 → q ≠ 6 → s.link.blocked.get [] q = [] → t.link.tqs = s.link.tqs.modify [] q (fun l => l.drop 1) ∧ t.ev = s.ev) ∧
      t = { s with link := t.link, linkB := t.linkB, portA := t.portA, cvu := t.cvu, ev := t.ev, svc := t.svc }) ∧
  (∀ (s : State) (q : Nat) (p : TxPkt),
    (s.tqRoom q p = true → s.enqueue q p = { s with link := { s.link with tqs := s.link.tqs.modify [] q fun l => l ++ [p] } }) ∧
    (s.tqRoom q p = false →
      s.enqueue q p = { s with link := { s.link with blocked := s.link.blocked.modify [] q fun l => l ++ [p] } })) ∧
  (∀ (s : State) (q : Fin 7), (s.tqHead q.val).isSome = true → q.val ∉ s.link.starved →
    exec (.tqStarvation q) s = .next { s with link := { s.link with starved := s.link.starved ++ [q.val] } }) ∧
  (∀ (s : State) (dt i : Nat), let u := s.elapse dt
    u.portBDrives = true → u.linkB.replayNext = none → u.fwdChoice = some i → u.linkB.sent.length < 2047 →
    ∃ t, exec (.forwardPortB dt) s = .next t ∧ t.linkB.wait = u.linkB.wait.eraseIdx i ∧
      t.linkB.sent = u.linkB.sent ++ [{ u.linkB.wait.getD i {} with seq := u.linkB.txSeq }] ∧
      t.linkB.txSeq = u.linkB.txSeq + 1 ∧ t = { u with linkB := t.linkB, portB := t.portB, cvu := t.cvu }) ∧
  (∀ (s : State) (h : UpHdr) (vc : Fin 32) (type : BitVec 8) (b : List Byte), s.portB.linked = true → h.up = true → h.h.seq = s.linkB.expSeq →
    b.length ≤ 4096 → (s.linkB.credits.get {} vc.val).held + creditCost b.length ≤ s.linkB.granted.get 0 vc.val →
    exec (.portBUpstream h vc type b) s = .next ((s.linkPassB.chargeB vc (creditCost b.length)).enqueue
      6 { vc := vc.val, type := type.toNat, tag := h.h.tag, addr := h.h.addr, payload := b, entry := s.halfNow1 }))

/-- WRITE and SURFACE_COMPLETE (R122, R123, R163, R194, R196, R197, R272): the data of an accepted WRITE to a powered part of the
store stands at the layer's base plus OFFSET, every other byte of the store reads as before, and the snoop run goes on or
starts; a SURFACE_COMPLETE whose START, SIZE and signature are those of the unbroken run closes the run, adds the ready span, or
keeps it for the next latch point where it arrives inside the guard, and is answered OK, and one that is not is answered
SIG_MISMATCH with event 0x0406. -/
def Obligations.WritesReachTheStore : Prop :=
  (∀ (s : State) (h : Hdr) (n : Fin 12) (b : List Byte) (corrected : Nat), s.MemoryWf → s.accepts (writeRx s h n.val b) →
    s.power.pd3 = true → s.unpowered ((s.env n.val).base + fieldAt b 0 4) ((s.env n.val).base + fieldAt b 0 4 + (b.drop 8).length) = false →
    ∃ t, exec (.write h n b corrected []) s = .next t ∧
      (∀ a, t.store.byte a =
        if (s.env n.val).base + fieldAt b 0 4 ≤ a ∧ a < (s.env n.val).base + fieldAt b 0 4 + (b.drop 8).length
        then (b.drop 8).getD (a - ((s.env n.val).base + fieldAt b 0 4)) 0 else s.store.byte a) ∧
      t.store.stagCorr = sat32 (s.store.stagCorr + corrected) ∧
      (∀ l, s.layers[n.val]? = some l →
        (t.layer n.val).run = some (nextRun (l.run.map Run.checked) (fieldAt b 0 4) (b.drop 8) false) ∧
        (t.layer n.val).chk = (t.layer n.val).run ∧ (t.layer n.val).active = l.active ∧
        (t.layer n.val).spans = keepSpans (fieldAt b 0 4) (fieldAt b 0 4 + (b.drop 8).length) l.spans) ∧
      t.link.expSeq = s.link.expSeq + 1 ∧
      t = { s with store := t.store, layers := t.layers, grid := { s.grid with change := t.grid.change }, link := t.link,
                   svc := t.svc, ev := t.ev, cvu := t.cvu }) ∧
  (∀ (s : State) (dt : Nat) (h : Hdr) (n : Fin 12) (b : List Byte), let u := s.elapse dt
    u.accepts (completeRx h n.val b) → s.power.pd3 = true → fieldAt b 0 4 % 8 = 0 → fieldAt b 4 4 % 8 = 0 → fieldAt b 0 4 + fieldAt b 4 4 ≤ (s.env n.val).size →
    (s.env n.val).enabled = true →
    (runMatches ((s.layer n.val).run.map Run.checked) (fieldAt b 0 4) (fieldAt b 4 4) (fieldAt b 8 4) = true →
      ∃ t, exec (.surfaceComplete dt h n b) s = .next t ∧
        t.layers = s.layers.modify n.val (fun l =>
          let x : Span := { lo := fieldAt b 0 4, hi := fieldAt b 0 4 + fieldAt b 4 4 }
          if s.grid.started = false ∨ (u.capture 0).before u.clk.epoch (u.cutoffOf u.grid.nextG) = true
          then { l with run := none, chk := none, spans := addSpan l.spans x }
          else { l with run := none, chk := none, waits := l.waits ++ [x] }) ∧
        u.replied t h 0 0x81 0 [] ∧ t.store = s.store ∧ t.comp = s.comp ∧ t.latches = s.latches ∧ t.tiles = s.tiles) ∧
    (runMatches ((s.layer n.val).run.map Run.checked) (fieldAt b 0 4) (fieldAt b 4 4) (fieldAt b 8 4) = false →
      ∃ t, exec (.surfaceComplete dt h n b) s = .next t ∧
        t.layers = s.layers.modify n.val (fun l => { l with run := none, chk := none }) ∧
        u.replied t h 0x0A 0x81 0 [] ∧ t.store = s.store ∧ t.comp = s.comp))

/-- DESCRIPTOR and COMMIT (R193, R207, R208, R227, R262): an accepted DESCRIPTOR in range writes the shadow of an enabled layer and
is answered OK; a COMMIT that passes the checks of Table 7.7 joins the pending commits with a copy of each named shadow, bound
to the first latch point whose cutoff is later than its arrival; one that fails is answered with the first check's status and
changes no commit. POUR (R131, R158, R228, R230): a broadcast POUR of the epoch in force releases every await-POUR commit of its
ID together, bound to the first latch point at or after its LATCH_TIME, or, where that is late, to the next latch point with
SCHED_LATE and event 0x0204; one that matches no commit raises 0x0504 alone (the model's choice for another EPOCH, assumption
log 52); an await-POUR commit that has waited its time is discarded with 0x0505. -/
def Obligations.DescriptorsCommitsAndPours : Prop :=
  (∀ (s : State) (h : Hdr) (b : List Byte), s.accepts (descriptorRx h b) → s.power.pd3 = true → fieldAt b 0 1 % 16 < 12 →
    descOk (fieldAt b 0 1 % 16 < 4) (parseDesc (b.drop 16)) = true → (s.env (fieldAt b 0 1 % 16)).enabled = true →
    ∃ t, exec (.descriptor h b) s = .next t ∧
      t.layers = s.layers.modify (fieldAt b 0 1 % 16) (fun l => { l with shadow := parseDesc (b.drop 16) }) ∧
      t.link.expSeq = s.link.expSeq + 1 ∧ s.replied t h 0 0x20 0 [] ∧
      t = { s with layers := t.layers, link := t.link }) ∧
  (∀ (s : State) (dt : Nat) (h : Hdr) (b : List Byte), (s.elapse dt).accepts (commitRx h b) →
    let u := s.elapse dt
    let mask := fieldAt b 2 2 % 4096
    let await := bitOf (fieldAt b 4 1) 0
    (u.commitStatus mask await = 0 →
      ∃ t, exec (.commit dt h b) s = .next t ∧
        t.comp = { s.comp with pending := s.comp.pending ++
          [{ seq := BitVec.ofNat 16 (fieldAt b 0 2), mask := BitVec.ofNat 12 mask
             copies := (layersOf mask).map fun n => (n, (s.layer n).shadow)
             await := await, pourId := BitVec.ofNat 8 (fieldAt b 5 1)
             due := if await then 0 else u.boundFor (u.capture 0), at1 := u.now1 }] } ∧
        u.replied t h 0 0x21 0 [] ∧ t.layers = s.layers ∧ t.store = s.store ∧ t.grid = u.grid ∧ t.tiles = s.tiles ∧ t.safety = s.safety) ∧
    (u.commitStatus mask await ≠ 0 →
      ∃ t, exec (.commit dt h b) s = .next t ∧ t.comp = s.comp ∧ t.layers = s.layers ∧ t.quads = s.quads ∧
        u.replied t h (u.commitStatus mask await) 0x21 0 [])) ∧
  (∀ (s : State) (dt : Nat) (h : Hdr) (b : List Byte), (s.elapse dt).accepts (pourRx h b) → h.addr = 0xF →
    s.start.state = .ready → 0x21 ≤ s.link.rev →
    let u := s.elapse dt
    let pid := BitVec.ofNat 8 (fieldAt b 0 1)
    let w := extend32 (fieldAt b 4 4) u.now0
    let late := w < u.now0 ∨ u.cutoffOf (u.latchFor w) ≤ u.now0
    ((∃ c ∈ s.comp.pending, c.await = true ∧ c.group = 0 ∧ c.pourId = pid) → fieldAt b 1 1 = u.clk.epoch.toNat →
      ∃ t, exec (.pour dt h b) s = .next t ∧
        t.comp = { s.comp with
          pours := s.comp.pours + 1
          pending := s.comp.pending.map fun c => if c.await = true ∧ c.group = 0 ∧ c.pourId = pid
            then { c with await := false, group := s.comp.pours + 1, held := w
                          due := if late then u.nextLatch else u.latchFor w } else c } ∧
        t.ev = (if late then (u.schedLate w).ev else u.ev) ∧ t.layers = s.layers ∧ t.store = s.store) ∧
    ((∀ c ∈ s.comp.pending, ¬ (c.await = true ∧ c.group = 0 ∧ c.pourId = pid)) →
      ∃ t, exec (.pour dt h b) s = .next t ∧ t.comp = s.comp ∧ t.ev = (u.raise 0x0504 [(1, pid.toNat)]).ev)) ∧
  (∀ (s : State) (seq : BitVec 16), (∃ c ∈ s.comp.pending, c.await = true ∧ c.seq = seq) →
    exec (.awaitExpired seq) s = .next (({ s with comp := { s.comp with
      pending := s.comp.pending.eraseP fun c => c.await && c.seq = seq } } : State).raise 0x0505 [(2, seq.toNat)]))

/-- The time bases (R144-R146, R152, R156, Table 5.1): n cycles of the TIME clock advance TB1 by 4n ns, TB0 by 4n(1 + f + s) ns and,
once the grid runs, TB2 by 4n(1 + f) ns and the sum d of its steering; without the crystal PLLs none moves; on an empty queue
the block idles for 25 cycles and 100 ns of TB3 (the model's choice, assumption log 7), and where no operation waits and no port
stands in ALIGN nothing but the clocks, the grid's error and lock and their event changes. -/
def Obligations.ClocksAdvanceTogether : Prop :=
  (∀ (c : Clocks) (d : Int) (n : Nat), c.crystal = true → (c.advance d n).tb1 = c.tb1 + 4 * nsUnit * n ∧
    (c.slew = 0 → (c.advance d n).tb0 = addI c.tb0 (4 * (nsUnit + c.f) * n)) ∧
    (c.gridOn = true → (c.advance d n).tb2 = addI c.tb2 (4 * (nsUnit + c.f) * n + d)) ∧
    (c.gridOn = false → (c.advance d n).tb2 = c.tb2) ∧ (c.advance d n).tb3 = c.tb3 ∧ (c.advance d n).f = c.f) ∧
  (∀ (c : Clocks) (d : Int) (n : Nat), c.crystal = false → c.advance d n = c) ∧
  (∀ (c : Clocks) (d e : Int) (m n : Nat), c.crystal = true → c.slew = 0 → 0 ≤ (nsUnit : Int) + c.f → c.gridOn = false →
    (c.advance d m).advance e n = c.advance (d + e) (m + n)) ∧
  (∀ s : State, s.pending = [] → s.link.waiting = [] → s.portA.st ≠ .align → s.portB.st ≠ .align →
    ∃ t, step s = .next t ∧
      t.clk.tb3 = (if s.clk.safe = true ∧ s.safety.oscStopped = false then s.clk.tb3 + 100 else s.clk.tb3) ∧
      (s.clk.crystal = true → t.clk.tb1 = s.clk.tb1 + 4 * nsUnit * 25) ∧
      t = { s with clk := t.clk, sync := t.sync, grid := { s.grid with lampErr := t.grid.lampErr }, ev := t.ev })

/-- Synchronisation of TB0 (R150-R154, Table 5.4): a SYNC is stamped and kept, replacing an unpaired one, unless its CORRECTION has
saturated; its FOLLOW_UP within 10 ms gives the offset t2 - t1 - c_s - D, slewed where it is small; a DELAY_RESP in range joins
the last eight path delays; pairs and requests that time out are discarded with their cause; 3 s without a sample lead from
LOCKED or ACQUIRE to HOLDOVER with the slew removed; a TSEVT edge is stamped with the record of Table 5.5. LAMPSYNC (R237,
R238): a follower of a running grid that is not LOCKED takes a usable edge and steers by it; in LOCKED, or for an edge whose
spacing is off by more than 0.2 %, it only notes the edge; the leader ignores edges; three periods without a usable edge end it
with event 0x0509. -/
def Obligations.TimeIsDisciplinedFromOutside : Prop :=
  (∀ (s : State) (dt : Nat) (h : Hdr) (b : List Byte), (s.elapse dt).accepts (timeRx h b) →
    let u := s.elapse dt
    (corrSat (timeCorr b) = false →
      ∃ t, exec (.sync dt h b) s = .next t ∧
        t.sync = { u.sync with sync := some { seqid := timeSeqid b, rx := u.capture 0, cs := timeCorr b, slewed := u.clk.slewed } } ∧
        t.ev = (if s.sync.sync.isSome then (u.raise 0x0205 [(1, 1)]).ev else u.ev) ∧
        t = { u with sync := t.sync, link := t.link, ev := t.ev }) ∧
    (corrSat (timeCorr b) = true →
      ∃ t, exec (.sync dt h b) s = .next t ∧ t.ev = (u.raise 0x0205 [(1, 3)]).ev ∧ t = { u with link := t.link, ev := t.ev })) ∧
  (∀ (s : State) (dt : Nat) (h : Hdr) (b : List Byte) (y : SyncRx), (s.elapse dt).accepts (timeRx h b) →
    s.sync.sync = some y → y.seqid = timeSeqid b → (s.elapse dt).now1 - y.rx.tb1 < 10000000 →
    s.sync.delays ≠ [] → s.sync.state ≠ .free →
    let off := (y.rx.tb0 - extend32 (timeStamp b) y.rx.tb0) * 65536 - y.cs - s.pathDelay
    off.natAbs < 655360000 →
    ∃ t, exec (.followUp dt h b) s = .next t ∧ t.clk.slew = slewFor off ∧ t.sync.offset = off ∧ t.sync.sync = none ∧
      t.clk.tb0 = (s.elapse dt).clk.tb0 ∧ t.sync.delays = s.sync.delays ∧ t.comp = s.comp ∧ t.grid = (s.elapse dt).grid) ∧
  (∀ (s : State) (dt : Nat) (h : Hdr) (b : List Byte) (r : DelayReq), (s.elapse dt).accepts (timeRx h b) →
    s.sync.req = some r → r.seqid = timeSeqid b → (s.elapse dt).now1 - r.tx.tb1 < 10000000 → corrSat (timeCorr b) = false →
    let d := rdiv ((r.t2 - r.t1) * 65536 - r.cs + ((extend32 (timeStamp b) r.tx.tb0 - r.tx.tb0) * 65536 - timeCorr b)) 2
    0 ≤ d → d ≤ 6553600000 →
    ∃ t, exec (.delayResp dt h b) s = .next t ∧ t.sync = { (s.elapse dt).sync with req := none, delays := (d :: s.sync.delays).take 8 } ∧
      t = { s.elapse dt with sync := t.sync, link := t.link }) ∧
  (∀ s : State, (s.sync.req.isSome = true →
      exec (.syncPairTimeout true) s = .next (({ s with sync := { s.sync with req := none } } : State).raise 0x0205 [(1, 2)])) ∧
    (s.sync.sync.isSome = true →
      exec (.syncPairTimeout false) s = .next (({ s with sync := { s.sync with sync := none } } : State).raise 0x0205 [(1, 1)]))) ∧
  (∀ s : State, s.sync.state = .locked →
    exec .tb0Holdover s = .next (({ s with
      clk := { s.clk with slew := 0, slewLeft := 0 }, sync := { s.sync with state := .holdover, okRun := 0 } } : State).raise
        0x0201 [(1, 3), (1, 2)])) ∧
  (∀ (s : State) (dt : Nat), (s.elapse dt).clk.crystal = true →
    (∀ l, s.sync.tsLast = some l → l + 1000 ≤ (s.elapse dt).now1) →
    let u := s.elapse dt
    exec (.tsevtCapture dt) s = .next (({ u with sync := { u.sync with tsLast := some u.now1 } } : State).raise 0x0207
      [(4, toField 32 (u.stamp 2 u.now0)), (1, u.clk.epoch.toNat), (1, tbNum u.sync.state), (2, u.grid.frame.toNat),
       (4, u.now1 % 4294967296), (4, (u.now2 - u.grid.lastL) % 4294967296)])) ∧
  (∀ (s : State) (dt : Nat), (s.elapse dt).lampLeader = true → exec (.lampsyncEdge dt) s = .next (s.elapse dt)) ∧
  (∀ (s : State) (dt : Nat), let u := s.elapse dt
    let p := periodNs u.modeNow.rate
    let far (l : Nat) : Prop := p < ((u.now2 - l : Int) - p).natAbs * 500
    u.lampLeader = false → u.gridRuns = true →
    ((u.sync.state = .locked ∨ ∃ l, u.grid.lampLast = some l ∧ far l) →
      exec (.lampsyncEdge dt) s = .next { u with grid := { u.grid with lampLast := some u.now2 } }) ∧
    (u.sync.state ≠ .locked → (∀ l, u.grid.lampLast = some l → ¬ far l) →
      ∃ t, exec (.lampsyncEdge dt) s = .next t ∧
        t.grid = { u.grid with
          lampLast := some u.now2, onLamp := true, lampLost := false
          lampErr := reduceHalf ((u.grid.nextL * nsUnit : Nat) - (u.clk.tb2 : Int)) (periodUnits u.modeNow.rate) } ∧
        t.clk = { u.clk with g := steer t.grid.lampErr } ∧
        t = { u with grid := t.grid, clk := t.clk, sync := t.sync, ev := t.ev })) ∧
  (∀ s : State, s.grid.onLamp = true →
    ∃ t, exec .lampsyncLoss s = .next t ∧ t.grid = { s.grid with onLamp := false, lampLost := true } ∧
      t = { s with grid := t.grid, clk := t.clk, sync := t.sync, ev := t.ev })

/-- Zone lists (R303, R304, Table 11.4): a plain list that passes its checks becomes the candidate and is answered OK, one that does
not is rejected with cause 2 and leaves no candidate; a complement whose decode agrees in every field within 1 ms confirms the
candidate: its LIST_SEQ is in force with event 0x0804, both channels take its targets and the limiter runs with dt = 0 into the
pending set; a complement that fails its checks, one whose decode differs, one without a candidate and a candidate left alone
are rejected with causes 2, 3, 4 and 1; a complement too late finds its candidate expired (cause 1) and none left (cause 4); a
plain list that replaces a candidate discards it with cause 0, or 1 where it had expired. -/
def Obligations.ZoneListsTakeTwoPackets : Prop :=
  (∀ (s : State) (h : Hdr) (b : List Byte), s.accepts (zoneRx h 0x30 b 0) →
    let u := match s.zones.cand with
      | some c => s.raise 0x0805 [(2, c.seq.toNat), (1, if c.at3 + 1000000 < s.clk.tb3 then 1 else 0)]
      | none => s
    (∀ z, parseZones b s.clk.tb3 = some z →
      ∃ t, exec (.zonePlain h b) s = .next t ∧ t.zones = { s.zones with cand := some z } ∧ s.replied t h 0 0x30 0 [] ∧
        t.ev = u.ev ∧ t = { s with zones := t.zones, link := t.link, ev := t.ev }) ∧
    (parseZones b s.clk.tb3 = none →
      ∃ t, exec (.zonePlain h b) s = .next t ∧ t.zones = { s.zones with cand := none } ∧ s.replied t h 4 0x30 0 [] ∧
        t.ev = (u.raise 0x0805 [(2, fieldAt b 0 2), (1, 2)]).ev ∧ t = { s with zones := t.zones, link := t.link, ev := t.ev })) ∧
  (∀ (s : State) (h : Hdr) (b : List Byte) (c : ZoneList), s.accepts (zoneRx h 0x31 b 4) → s.zones.cand = some c →
    (c.at3 + 1000000 < s.clk.tb3 →
      ∃ t, exec (.zoneCompl h b) s = .next t ∧ t.zones = { s.zones with cand := none } ∧ s.replied t h 4 0x31 0 [] ∧
        t.ev = ((s.raise 0x0805 [(2, c.seq.toNat), (1, 1)]).raise 0x0805 [(2, fieldAt (b.map fun x => ~~~x) 0 2), (1, 4)]).ev ∧
        t = { s with zones := t.zones, link := t.link, ev := t.ev }) ∧
    (s.clk.tb3 ≤ c.at3 + 1000000 → parseZones (b.map fun x => ~~~x) c.at3 = none →
      ∃ t, exec (.zoneCompl h b) s = .next t ∧ t.zones = { s.zones with cand := none } ∧ s.replied t h 4 0x31 0 [] ∧
        t.ev = (s.raise 0x0805 [(2, c.seq.toNat), (1, 2)]).ev ∧ t = { s with zones := t.zones, link := t.link, ev := t.ev }) ∧
    (s.clk.tb3 ≤ c.at3 + 1000000 → ∀ z, parseZones (b.map fun x => ~~~x) c.at3 = some z →
      (z.same c = true →
        ∃ t, exec (.zoneCompl h b) s = .next t ∧ t.zones.cand = none ∧ t.zones.lastSeq = z.seq ∧
          t.zones.lim = limiterRun s.rindP s.degraded 0 (s.zones.lim.confirm s.rindP z) ∧
          t.zones.spLim = limiterRun s.spP s.degraded 0 (s.zones.spLim.confirm s.spP z) ∧
          t.zones.pending = some (clampSetOf s.rindP t.zones.lim) ∧ t.zones.active = s.zones.active ∧
          ((∀ e ∈ z.rows.mapIdx fun k r => (k, r), boundRow s.rindP e.1 e.2 = e.2) →
            t.ev = (s.raise 0x0804 [(2, z.seq.toNat)]).ev) ∧
          s.replied t h 0 0x31 0 [] ∧ t = { s with zones := t.zones, link := t.link, ev := t.ev }) ∧
      (z.same c = false →
        ∃ t, exec (.zoneCompl h b) s = .next t ∧ t.zones = { s.zones with cand := none } ∧ s.replied t h 4 0x31 0 [] ∧
          t.ev = (s.raise 0x0805 [(2, c.seq.toNat), (1, 3)]).ev ∧
          t = { s with zones := t.zones, link := t.link, ev := t.ev }))) ∧
  (∀ (s : State) (h : Hdr) (b : List Byte), s.accepts (zoneRx h 0x31 b 4) → s.zones.cand = none →
    ∃ t, exec (.zoneCompl h b) s = .next t ∧ t.zones = s.zones ∧ s.replied t h 4 0x31 0 [] ∧
      t.ev = (s.raise 0x0805 [(2, fieldAt (b.map fun x => ~~~x) 0 2), (1, 4)]).ev ∧ t = { s with link := t.link, ev := t.ev }) ∧
  (∀ (s : State) (c : ZoneList), s.zones.cand = some c →
    exec .candidateExpiry s = .next (({ s with zones := { s.zones with cand := none } } : State).raise 0x0805
      [(2, c.seq.toNat), (1, 1)]))

/-- Service sessions (R372, R373, Table 13.5): UNLOCK_REQ in LOCKED draws a nonce, unknown beforehand, and leads to CHALLENGED on
its path; the RESPONSE of R373 leads to UNLOCKED with event 0x0C06 and the failures back at 0, another counts a failure and
leads to LOCKED, or to LOCKOUT at MAX_ATTEMPTS; SESSION_END ends an unlocked session with event 0x0C06 and a challenge without a
failure. The session's timers (R371, R372): a challenge without a RESPONSE counts a failure with event 0x0C07; an idle session
ends with event 0x0C06; the lockout's end leads to LOCKED and is written to the safety records; a gap drops the bytes of the
frame so far. -/
def Obligations.SessionsUnlockByResponse : Prop :=
  (∀ (s : State) (q : SvcSrc) (args : List Byte), s.serves q 0x101 args → argsFixed args 0 = true → s.svc.state = .locked →
    s.svc.path = 0 → s.img.service.unlockEn = true → s.keyless = false →
    ∃ t, exec (.unlockReq q args) s = .next t ∧
      t.svc = { s.svc with state := .challenged, path := pathNum q, nonce := some (Config.nonce s.free), uartTx := t.svc.uartTx } ∧
      s.svcReplied t q 0 0x101 (bvBytes (Config.nonce s.free) 16) ∧
      t = { s with svc := t.svc, link := t.link, free := s.free + 1 }) ∧
  (∀ (s : State) (q : SvcSrc) (args : List Byte) (n : BitVec 128), s.serves q 0x102 args → argsFixed args 32 = true →
    s.svc.state = .challenged → s.svc.path = pathNum q → s.svc.nonce = some n →
    (argsOf args = s.response n →
      ∃ t, exec (.unlockResp q args) s = .next t ∧
        t.svc = { s.svc with state := .unlocked, nonce := none, fails := 0, uartTx := t.svc.uartTx } ∧
        t.ev = (s.raise 0x0C06 [(1, 1), (1, pathNum q)]).ev ∧ s.svcReplied t q 0 0x102 [] ∧
        t = { s with svc := t.svc, link := t.link, ev := t.ev }) ∧
    (argsOf args ≠ s.response n →
      ∃ t, exec (.unlockResp q args) s = .next t ∧
        t.svc.state = (if s.img.service.maxAttempts ≤ s.svc.fails + 1 then .lockout else .locked) ∧
        t.svc.fails = s.svc.fails + 1 ∧ t.svc.nonce = none ∧
        t.svc.lockRec = (s.svc.lockRec || decide (s.img.service.maxAttempts ≤ s.svc.fails + 1)) ∧
        s.svcReplied t q 6 0x102 [] ∧ t = { s with svc := t.svc, link := t.link, ev := t.ev })) ∧
  (∀ (s : State) (q : SvcSrc) (args : List Byte), s.serves q 0x103 args → argsFixed args 0 = true → s.svc.path = pathNum q →
    (s.svc.state = .unlocked →
      ∃ t, exec (.sessionEnd q args) s = .next t ∧
        t.svc = { s.svc with state := .locked, path := 0, nonce := none, uartTx := t.svc.uartTx } ∧
        t.ev = (s.raise 0x0C06 [(1, 0), (1, s.svc.path)]).ev ∧ s.svcReplied t q 0 0x103 [] ∧
        t = { s with svc := t.svc, link := t.link, ev := t.ev }) ∧
    (s.svc.state = .challenged →
      ∃ t, exec (.sessionEnd q args) s = .next t ∧
        t.svc = { s.svc with state := .locked, path := 0, nonce := none, uartTx := t.svc.uartTx } ∧ t.ev = s.ev ∧
        t = { s with svc := t.svc, link := t.link })) ∧
  (∀ s : State, s.svc.state = .challenged →
    ∃ t, exec .challengeTimeout s = .next t ∧ t.svc.fails = s.svc.fails + 1 ∧ t.svc.path = 0 ∧
      t.svc.state = (if s.img.service.maxAttempts ≤ s.svc.fails + 1 then .lockout else .locked) ∧
      t.ev = (s.raise 0x0C07 [(1, min 255 (s.svc.fails + 1)), (1, b2n (decide (s.img.service.maxAttempts ≤ s.svc.fails + 1)))]).ev ∧
      t = { s with svc := t.svc, ev := t.ev }) ∧
  (∀ s : State, s.svc.state = .unlocked → s.link.waiting = [] →
    ∃ t, exec .sessionIdleTimeout s = .next t ∧ t.svc = { s.svc with state := .locked, path := 0, nonce := none } ∧
      t = { s.raise 0x0C06 [(1, 0), (1, s.svc.path)] with svc := t.svc }) ∧
  (∀ s : State, s.svc.state = .lockout →
    exec .lockoutEnd s = .next { s with svc := { s.svc with state := .locked, lockRec := false } }) ∧
  (∀ s : State, exec .uartGapTimeout s = .next { s with svc := { s.svc with uartRx := [] } })

/-- Image operations and record reads (R79, R80, Table 13.6): in an unlocked session IMAGE_ERASE queues the erase of an inactive
slot, sector by sector, which leaves every byte of it 0xFF once its queue is done, and is refused with BUSY for the active one
or a fifth time; IMAGE_WRITE queues the programming of erased bytes of an inactive slot; IMAGE_CHECK answers the reason of the
checks and whether the slot would be chosen first, IMAGE_READ the bytes asked for, both behind the image operations queued
before them (the model's order, log entry 21); RECORD_READ answers the bytes asked for. -/
def Obligations.ImageOperationsOnInactiveSlots : Prop :=
  (∀ (s : State) (q : SvcSrc) (args : List Byte) (i : SlotId), s.serves q 0x110 args → argsFixed args 1 = true → s.sessionOn q →
    s.img.service.writeEn = true → slotOf (fieldAt (argsOf args) 0 1) = some i →
    (s.start.active ≠ some i → s.start.imgErases < 4 →
      ∃ t, exec (.imageErase q args) s = .next t ∧
        t.flash = s.flash.take { cmd := { writer := 2, erase := true, addr := slotBase i, data := [] }, more := 3071, op := 0x110 } ∧
        ((s.flash.cur ≠ none ∨ s.flash.wait = []) → ∀ k, k < 0xC00000 → (t.settled.slot i).byte k = 0xFF) ∧
        t.start = { s.start with imgErases := s.start.imgErases + 1 } ∧ s.svcReplied t q 0 0x110 [] ∧
        t = { s with flash := t.flash, start := t.start, svc := t.svc, link := t.link }) ∧
    ((s.start.active = some i ∨ 4 ≤ s.start.imgErases) →
      ∃ t, exec (.imageErase q args) s = .next t ∧ t.flash = s.flash ∧ s.svcReplied t q 8 0x110 [] ∧
        t = { s with svc := t.svc, link := t.link })) ∧
  (∀ (s : State) (q : SvcSrc) (args : List Byte) (i : SlotId), s.MemoryWf → s.serves q 0x111 args → argLenOk args = true → s.sessionOn q →
    let a := argsOf args
    let off := fieldAt a 1 4
    let data := a.drop 5
    5 ≤ a.length → s.img.service.writeEn = true → slotOf (fieldAt a 0 1) = some i → s.start.active ≠ some i →
    data.length ≤ 4096 → off + data.length ≤ 0xC00000 → (s.settled.slot i).blank off data.length = true →
    ∃ t, exec (.imageWrite q args) s = .next t ∧
      t.flash = s.flash.take { cmd := { writer := 2, erase := false, addr := slotBase i + off, data := data }, op := 0x111 } ∧
      ((s.flash.cur ≠ none ∨ s.flash.wait = []) → ∀ k, k < data.length → (t.settled.slot i).byte (off + k) = data.getD k 0) ∧
      s.svcReplied t q 0 0x111 [] ∧ t = { s with flash := t.flash, svc := t.svc, link := t.link }) ∧
  (∀ (s : State) (q : SvcSrc) (args : List Byte) (i : SlotId), s.serves q 0x112 args → argsFixed args 1 = true → s.sessionOn q →
    slotOf (fieldAt (argsOf args) 0 1) = some i →
    ∃ t, exec (.imageCheck q args) s = .next t ∧
      t.ev = (s.raise 0x0B09 [(2, 0x112), (1, slotNum i), (1, s.settled.slotReason (s.settled.slot i))]).ev ∧
      s.svcReplied t q 0 0x112 (leBytes 1 (s.settled.slotReason (s.settled.slot i)) ++
        leBytes 1 (b2n (s.settled.firstChoice = some i))) ∧
      t = { s with svc := t.svc, link := t.link, ev := t.ev }) ∧
  (∀ (s : State) (q : SvcSrc) (args : List Byte) (i : SlotId), s.serves q 0x113 args → argsFixed args 7 = true → s.sessionOn q →
    slotOf (fieldAt (argsOf args) 0 1) = some i → fieldAt (argsOf args) 5 2 ≤ maxRead →
    fieldAt (argsOf args) 1 4 + fieldAt (argsOf args) 5 2 ≤ 0xC00000 →
    ∃ t, exec (.imageRead q args) s = .next t ∧
      s.svcReplied t q 0 0x113 ((s.settled.slot i).bytes (fieldAt (argsOf args) 1 4) (fieldAt (argsOf args) 5 2)) ∧
      t = { s with svc := t.svc, link := t.link }) ∧
  (∀ (s : State) (q : SvcSrc) (args : List Byte) (r : Nat × Nat), s.serves q 0x120 args → argsFixed args 7 = true → s.sessionOn q →
    recordRegion (fieldAt (argsOf args) 0 1) = some r → 0 < fieldAt (argsOf args) 5 2 → fieldAt (argsOf args) 5 2 ≤ maxRead →
    fieldAt (argsOf args) 1 4 + fieldAt (argsOf args) 5 2 ≤ r.2 →
    ∃ t, exec (.recordRead q args) s = .next t ∧
      s.svcReplied t q 0 0x120 (s.flash.bytes (r.1 + fieldAt (argsOf args) 1 4) (fieldAt (argsOf args) 5 2)) ∧
      t = { s with svc := t.svc, link := t.link })

/-- Perturbation controls (R374, R375, Table 13.8): on the UART with TEST_EN high PERTURB_SET makes a control in range active with
event 0x0C0A, PERTURB_CLEAR ends the controls it names with event 0x0C0B, and PERTURB_STATUS answers those that are active; in a
session without the conditions of R374 a PERTURB_SET is answered LOCKED; when TEST_EN falls the controls it allowed end, and the
near-end loopback that it started (R110). -/
def Obligations.PerturbationsNeedTheirCondition : Prop :=
  (∀ (s : State) (args : List Byte), s.serves .uart 0x140 args → argsFixed args 12 = true → s.start.testEn = true →
    let c := fieldAt (argsOf args) 0 1
    let tgt := fieldAt (argsOf args) 2 2
    let v : BitVec 32 := BitVec.ofNat 32 (fieldAt (argsOf args) 4 4)
    perturbOk c tgt v = true → c ≠ 7 →
    ∃ t, exec (.perturbSet .uart args) s = .next t ∧
      t.svc.perturb = putControl { control := c, target := tgt, value := v, uart := true, left := v.toNat } s.svc.perturb ∧
      t.ev = (s.raise 0x0C0A [(1, c), (2, tgt), (4, v.toNat)]).ev ∧ s.svcReplied t .uart 0 0x140 [] ∧
      t = { s with svc := { s.svc with perturb := t.svc.perturb, uartTx := t.svc.uartTx }, ev := t.ev }) ∧
  (∀ (s : State) (q : SvcSrc) (args : List Byte), s.serves q 0x140 args → argsFixed args 12 = true → s.sessionOn q →
    s.testPath q = false → (s.img.perturbEn = false ∨ s.perturbCondition = false) →
    ∃ t, exec (.perturbSet q args) s = .next t ∧ t.svc.perturb = s.svc.perturb ∧ s.svcReplied t q 6 0x140 [] ∧
      t = { s with svc := { s.svc with uartTx := t.svc.uartTx }, link := t.link }) ∧
  (∀ (s : State) (q : SvcSrc) (args : List Byte), s.serves q 0x141 args → argsFixed args 1 = true →
    (s.sessionOn q ∨ s.testPath q = true) →
    let c := fieldAt (argsOf args) 0 1
    (c = 0xFF ∨ (1 ≤ c ∧ c ≤ 10)) → (∃ p ∈ s.svc.perturb, c = 0xFF ∨ p.control = c) →
    ∃ t, exec (.perturbClear q args) s = .next t ∧
      t.svc.perturb = s.svc.perturb.filter (fun p => !(c = 0xFF || p.control = c)) ∧
      t.ev = (s.raise 0x0C0B [(1, c)]).ev ∧ s.svcReplied t q 0 0x141 [] ∧
      t = { s with svc := { s.svc with perturb := t.svc.perturb, uartTx := t.svc.uartTx }, link := t.link, ev := t.ev }) ∧
  (∀ (s : State) (q : SvcSrc) (args : List Byte), s.serves q 0x142 args → argsFixed args 0 = true →
    (s.sessionOn q ∨ s.testPath q = true) →
    ∃ t, exec (.perturbStatus q args) s = .next t ∧ s.svcReplied t q 0 0x142 (s.svc.perturb.flatMap Perturb.bytes) ∧
      t = { s with svc := { s.svc with uartTx := t.svc.uartTx }, link := t.link }) ∧
  (∀ s : State, s.start.testEn = true → s.portA.st = .loopback → s.portA.loopback = 1 → s.selfTest.running = false →
    ∃ t, exec (.perturbOff true) s = .next t ∧ t.portA.st = .detect ∧ t.start = { s.start with testEn := false }) ∧
  (∀ s : State, s.start.testEn = true → s.portA.st ≠ .loopback →
    ∃ t, exec (.perturbOff true) s = .next t ∧ t.start = { s.start with testEn := false } ∧ t.tap = {} ∧
      (∀ p ∈ t.svc.perturb, p ∈ s.svc.perturb ∧ p.uart = false) ∧
      t = { s with start := t.start, tap := t.tap, svc := { s.svc with perturb := t.svc.perturb }, ev := t.ev })

/-- Requests that are answered at once (R124, R138, R398, R399, R402, R437): STATUS_READ answers the status words of its range, or
DOMAIN_OFF where one lies in a block without power, and with CLEAR over ST 0x0010 clears the flags whose condition does not
hold; ECHO answers its own bytes; an unknown opcode is answered BAD_OPCODE whatever else is wrong; an ADDR_SET that names this
serial number at revision 3.0 sets the address and is answered even as a broadcast. Requests that take effect at a latch point
(R206, R227, R233, R258): in READY an accepted MODE_SELECT, PROFILE_SELECT or MASTER_DIMMER is bound to the first latch point
whose cutoff is later than its arrival and is answered OK, nothing that is shown changing before; a MODE_SELECT before READY is
answered NOT_READY, and one that names no mode of the image BAD_ARG. -/
def Obligations.RequestsAreAnsweredAndBound : Prop :=
  (∀ (s : State) (h : Hdr) (args : List Byte), s.accepts (requestRx h 1 args) → argsFixed args 4 = true →
    let w := fieldAt (argsOf args) 0 2
    let count := fieldAt (argsOf args) 2 2
    0 < count → count ≤ 1022 → w % 4096 + count ≤ 0x1000 →
    (∀ d, (s.admitted (requestRx h 1 args)).statusData (w % 4096) count = some d →
      ∃ t, exec (.statusRead h args) s = .next t ∧ s.replied t h 0 0x10 1 d ∧
        t.ev = (if bitOf w 15 = true ∧ w % 4096 ≤ 0x10 ∧ 0x10 < w % 4096 + count then s.clearFlags.ev else s.ev) ∧
        t = { s with link := t.link, ev := t.ev }) ∧
    ((s.admitted (requestRx h 1 args)).statusData (w % 4096) count = none →
      ∃ t, exec (.statusRead h args) s = .next t ∧ s.replied t h 7 0x10 1 [] ∧ t = { s with link := t.link })) ∧
  (∀ (s : State) (h : Hdr) (args : List Byte), s.accepts (requestRx h 7 args) → argLenOk args = true → (argsOf args).length ≤ 4088 →
    ∃ t, exec (.echo h args) s = .next t ∧ s.replied t h 0 0x10 7 (argsOf args) ∧ t = { s with link := t.link }) ∧
  (∀ (s : State) (h : Hdr) (op : BitVec 16) (args : List Byte), s.accepts (requestRx h op.toNat args) →
    ∃ t, exec (.unknownOpcode (.request h) op args) s = .next t ∧ s.replied t h 3 0x10 op.toNat [] ∧ t = { s with link := t.link }) ∧
  (∀ (s : State) (q : SvcSrc) (op : BitVec 16) (args : List Byte), s.serves q op.toNat args →
    ∃ t, exec (.unknownOpcode (.service q) op args) s = .next t ∧ s.svcReplied t q 3 op.toNat [] ∧
      t = { s with svc := { s.svc with uartTx := t.svc.uartTx }, link := t.link }) ∧
  (∀ (s : State) (h : Hdr) (args : List Byte), s.accepts (requestRx h 5 args) → argsFixed args 12 = true → 0x30 ≤ s.link.rev →
    fieldAt (argsOf args) 0 8 = s.fuse.serial.toNat → s.img.link.addrMode = 2 →
    ∃ t, exec (.addrSet h args) s = .next t ∧ t.link.addr = BitVec.ofNat 3 (fieldAt (argsOf args) 8 1) ∧ t.link.addrKnown = true ∧
      t.link.tqs = (s.enqueue 0 (s.upPkt 0 0x11 h.tag (replyBytes 0 0x10 5 []))).link.tqs ∧
      t.link.blocked = (s.enqueue 0 (s.upPkt 0 0x11 h.tag (replyBytes 0 0x10 5 []))).link.blocked ∧
      t = { s with link := t.link }) ∧
  (∀ (s : State) (dt : Nat) (h : Hdr) (args : List Byte), (s.elapse dt).accepts (requestRx h 2 args) → argsFixed args 4 = true →
    let u := s.elapse dt
    let m := fieldAt (argsOf args) 0 1 % 8
    (s.start.state = .ready → m < s.img.modes.length →
      ∃ t, exec (.modeSelect dt h args) s = .next t ∧
        t.comp = { s.comp with bound := s.comp.bound ++ [{ due := u.boundFor (u.capture 0), kind := .mode m }] } ∧
        u.replied t h 0 0x10 2 [] ∧ t = { u with comp := t.comp, link := t.link }) ∧
    (s.start.state ≠ .ready →
      ∃ t, exec (.modeSelect dt h args) s = .next t ∧ u.replied t h 1 0x10 2 [] ∧ t = { u with link := t.link }) ∧
    (s.start.state = .ready → s.img.modes.length ≤ m →
      ∃ t, exec (.modeSelect dt h args) s = .next t ∧ u.replied t h 4 0x10 2 [] ∧ t = { u with link := t.link })) ∧
  (∀ (s : State) (dt : Nat) (h : Hdr) (args : List Byte), (s.elapse dt).accepts (requestRx h 3 args) → argsFixed args 4 = true →
    let u := s.elapse dt
    let p := fieldAt (argsOf args) 0 1
    let ms := fieldAt (argsOf args) 2 2
    s.start.state = .ready → ms ≤ 4000 → (p = 255 ∨ p < s.img.profileCount) → u.profileOff p = false →
    ∃ t, exec (.profileSelect dt h args) s = .next t ∧
      t.comp = { s.comp with bound := s.comp.bound ++
        [{ due := u.boundFor (u.capture 0), kind := .profile p ms (bitOf (fieldAt (argsOf args) 1 1) 0) }] } ∧
      u.replied t h 0 0x10 3 [] ∧
      t = { u with comp := t.comp, link := t.link, quads := t.quads, latches := t.latches, ev := t.ev }) ∧
  (∀ (s : State) (dt : Nat) (h : Hdr) (args : List Byte), (s.elapse dt).accepts (requestRx h 4 args) → argsFixed args 6 = true →
    let u := s.elapse dt
    let v := fieldAt (argsOf args) 0 2
    let ms := fieldAt (argsOf args) 2 2
    s.start.state = .ready → ms ≤ 4000 → v ≤ 0x8000 →
    ∃ t, exec (.masterDimmer dt h args) s = .next t ∧
      t.comp = { s.comp with bound := s.comp.bound ++
        [{ due := u.boundFor (u.capture 0), kind := .master (2 * v) ms (bitOf (fieldAt (argsOf args) 4 1) 0) }] } ∧
      u.replied t h 0 0x10 4 [] ∧
      t = { u with comp := t.comp, link := t.link, quads := t.quads, latches := t.latches, ev := t.ev })

/-- SAFETY_RECOVER (R322): with the latch clear it is answered OK and changes nothing; with the latch set and both channels
confirming it clears the latch, counts the recovery and raises event 0x080A, the effective state not changing by itself (what
the event says of a refusing channel is then a free value, assumption log 34); a channel that does not confirm answers BUSY, the
latch staying set. -/
def Obligations.RecoveryClearsTheOffLatch : Prop :=
  ∀ (s : State) (h : Hdr) (args : List Byte), s.accepts (requestRx h 6 args) → argsFixed args 4 = true → s.start.state = .ready →
    fieldAt (argsOf args) 0 1 = 0 →
    (s.safety.offLatch = false →
      ∃ t, exec (.safetyRecover h args) s = .next t ∧ s.replied t h 0 0x10 6 [] ∧ t = { s with link := t.link }) ∧
    (s.safety.offLatch = true → s.confirms s.safety.rindOkMs s.safety.rindCauses = true →
      s.confirms s.safety.spOkMs s.safety.spCauses = true → s.sp.running = true →
      ∃ t, exec (.safetyRecover h args) s = .next t ∧
        t.safety = { s.safety with offLatch := false, recover := s.recentRecoveries ++ [s.clk.tb3]
                                   recoveries := sat32 (s.safety.recoveries + 1) } ∧
        t.ev = (s.raise 0x080A [(1, 1), (1, s.freeVal 13 % 256), (4, s.freeVal 13 / 256)]).ev ∧ s.replied t h 0 0x10 6 [] ∧
        t = { s with safety := t.safety, link := t.link, ev := t.ev, free := t.free }) ∧
    (s.safety.offLatch = true →
      (s.confirms s.safety.rindOkMs s.safety.rindCauses = false ∨ s.confirms s.safety.spOkMs s.safety.spCauses = false) →
      ∃ t, exec (.safetyRecover h args) s = .next t ∧ t.safety = s.safety ∧ s.replied t h 8 0x10 6 [] ∧
        t = { s with link := t.link, ev := t.ev })

/-- The latch point (R209, R210, R211, R218, R229, R312): time passes to L(k), FRAME_ID advances, the completed pending clamp set
becomes active; a pending commit that is due and whose layers are ready is applied whole, its descriptors active and COMMIT_SEQ
shown; one with a layer that is not ready is deferred to the next latch point with its count, its layers unchanged; a frame with
a scan window starts at step 0, another has none. Each clause stands for one commit pending, no MODE_SELECT bound, and no
handover prepared. -/
def Obligations.LatchPointAppliesReadyCommits : Prop :=
  (∀ s : State, s.gridRuns = true → s.modeAt s.grid.nextG = none →
    ∃ t, exec .latchPoint s = .next t ∧ t.grid.frame = s.grid.frame + 1 ∧ t.grid.lastL = s.grid.nextL ∧
      t.grid.step = (if t.grid.kind = .full ∨ t.grid.kind = .keepAlive then 0 else 128) ∧ t.zones.pending = none ∧
      t.grid.mode = s.grid.mode ∧ t.clk = (s.elapse (s.cyclesTo2 s.grid.nextL)).clk ∧ t.store = s.store ∧ t.link = s.link ∧
      t.flash = s.flash ∧ t.img = s.img ∧ t.svc = s.svc ∧ t.portA = s.portA) ∧
  (∀ (s : State) (c : Commit) (n : Nat) (d : Desc), s.gridRuns = true → s.modeAt s.grid.nextG = none → s.comp.pending = [c] →
    c.await = false → c.group = 0 → c.due ≤ s.grid.nextG → c.copies = [(n, d)] → n < s.layers.length →
    (s.layer n).ready d = true →
    ∃ t, exec .latchPoint s = .next t ∧ t.comp.pending = [] ∧ t.comp.lastSeq = c.seq ∧ (t.layer n).active = d ∧
      (t.layer n).stale = false ∧ (∀ m, m ≠ n → (t.layer m).active = (s.layer m).active)) ∧
  (∀ (s : State) (c : Commit) (n : Nat) (d : Desc), s.gridRuns = true → s.modeAt s.grid.nextG = none → s.comp.pending = [c] →
    c.await = false → c.group = 0 → c.due ≤ s.grid.nextG → c.copies = [(n, d)] → (s.layer n).ready d = false →
    c.defers + 1 < (s.env n).staleN →
    ∃ t, exec .latchPoint s = .next t ∧ t.comp.pending = [{ c with due := t.grid.nextG, defers := c.defers + 1 }] ∧
      t.comp.lastSeq = s.comp.lastSeq ∧ (∀ m, (t.layer m).active = (s.layer m).active))

/-- The cutoff and the handover (R251, R320): the cutoff sends every powered tile its ALIGN of the frame, with a PWM_SET where the
next latch point brings a new period, once; where a commit is bound to the latch point, the latch clear and the vote NORMAL, the
handover is prepared, each ready quadrant told to leave its local source, and nothing else changes; HANDOVER_ALIGN then sends
every powered tile its PWM_SET and ALIGN. That both go out at the cutoff itself is the model's (log entry 35). -/
def Obligations.CutoffPreparesTheHandover : Prop :=
  (∀ s : State, s.gridRuns = true →
    let t1 := s.elapse (s.cyclesTo0 (s.cutoffOf s.grid.nextG))
    let u := (t1.elapse (t1.cyclesTo0 (s.cutoffOf s.grid.nextG))).timeTiles
    (u.clearable = true → (∃ c ∈ s.comp.pending, c.await = false ∧ c.due ≤ s.grid.nextG) → s.safety.handover = false →
      ∃ t, exec .cutoff s = .next t ∧ t.safety = { s.safety with handover := true, cmds := t.safety.cmds } ∧
        (∀ q < 4, u.quadReady q = true →
          (⟨q, quadWord 4 0 true 0 0 0 0 0, false, false⟩ : QuadCmd) ∈ t.safety.cmds) ∧ t = { u with safety := t.safety }) ∧
    (s.comp.pending = [] → s.leg.slot0 = none → s.leg.slot1 = none → exec .cutoff s = .next u) ∧
    u.grid.timed = true ∧ (s.grid.timed = false → ∀ n < 64, s.tileOn n = true → ctlOp ((u.tile n).ctl.get 0 12) = 3 ∧
      (s.nextPeriod ≠ s.pwmPeriod → ctlOp ((u.tile n).ctl.get 0 8) = 2))) ∧
  (∀ s : State, s.safety.handover = true →
    ∃ t, exec .handoverAlign s = .next t ∧ t = { s with tiles := t.tiles } ∧
      ∀ n < 64, s.tileOn n = true → ctlOp ((t.tile n).ctl.get 0 12) = 3 ∧ ctlOp ((t.tile n).ctl.get 0 8) = 2)

/-- The steps of a scan window (R187, R219, R221, R274, R275): every released or starved step advances the window by one; a row with
a residue mismatch is suppressed and counted in its frame; a step that is not sent sets STARVED and sends no segment; nothing
moves outside a window. -/
def Obligations.ScanStepsAdvanceTheWindow : Prop :=
  (∀ (s : State) (rows : List Nat), s.inWindow = true →
    ∃ t, exec (.scanStepRelease rows) s = .next t ∧ t.grid.step = s.grid.step + 1 ∧ t.grid.kind = s.grid.kind ∧
      t.grid.frame = s.grid.frame ∧ t.comp = s.comp ∧ t.layers = s.layers ∧ t.link = s.link ∧ t.clk = s.clk) ∧
  (∀ (s : State) (rows : List Nat) (y : Nat), s.inWindow = true → s.stretched = false → s.missingBank = none →
    y ∈ stepRows s.grid.step → y ∈ rows →
    ∃ t, exec (.scanStepRelease rows) s = .next t ∧ y ∈ t.out.frameLines) ∧
  (∀ (s : State) (bank : Option (Fin 16)), s.inWindow = true →
    ∃ t, exec (.scanoutStarved bank) s = .next t ∧ t.grid.step = s.grid.step + 1 ∧ t.grid.starvedSeen = true ∧
      (s.grid.starvedSeen = false → t.ev.flags.getLsbD fStarved = true) ∧ t.rb = s.rb ∧ t.comp = s.comp ∧ t.layers = s.layers) ∧
  (∀ (s : State) (rows : List Nat) (bank : Option (Fin 16)), s.inWindow = false →
    exec (.scanStepRelease rows) s = .next s ∧ exec (.scanoutStarved bank) s = .next s)

/-- A row segment at its tile (R222, R223, R225, R241): one whose LINE_CRC passes writes its 128 codes to the row's latches with
parity and leaves every other latch, and the tile answers with the signature of those codes; one whose LINE_CRC fails leaves
every latch and is answered with CRC_FAIL; one with a bad header is counted and not answered; a tile without power takes
nothing. After a wake the held segments are sent in order and event 0x0605 raised (R266). -/
def Obligations.SegmentsReachTheLatches : Prop :=
  (∀ (s : State) (n : Fin 64) (hdr : BitVec 32) (codes : List (BitVec 12)) (crc : BitVec 16), s.MemoryWf → s.tileOn n = true →
    headerOk 1 hdr.toNat = true → codes.length = 128 → s.svc.perturb = [] →
    let row := bitsOf hdr.toNat 21 7
    (lineCrc (codes.map BitVec.toNat) = crc →
      ∃ t, exec (.rowSegment n hdr codes crc) s = .next t ∧
        (∀ c, c < 128 → t.latch n row c = latchWord (codes.getD c 0)) ∧
        (∀ p, (∀ c, c < 128 → p ≠ tilePixel n row c) → t.latches.get 0 p = s.latches.get 0 p) ∧
        (t.tile n).rbWord = readbackWord 1 row (bitOf hdr.toNat 20) false false (bitsOf hdr.toNat 8 8)
          (lineCrc (codes.map BitVec.toNat)).toNat ∧
        t = { s with latches := t.latches, tiles := t.tiles }) ∧
    (lineCrc (codes.map BitVec.toNat) ≠ crc →
      ∃ t, exec (.rowSegment n hdr codes crc) s = .next t ∧ t.latches = s.latches ∧
        bitOf (t.tile n).rbWord.toNat 35 = true ∧ t = { s with tiles := t.tiles })) ∧
  (∀ (s : State) (n : Fin 64) (hdr : BitVec 32) (codes : List (BitVec 12)) (crc : BitVec 16), s.tileOn n = true →
    (headerOk 1 hdr.toNat = false ∨ codes.length ≠ 128) →
    exec (.rowSegment n hdr codes crc) s = .next (s.modTile n fun x => { x with ignored := x.ignored + 1 })) ∧
  (∀ (s : State) (n : Fin 64) (hdr : BitVec 32) (codes : List (BitVec 12)) (crc : BitVec 16), s.tileOn n = false →
    exec (.rowSegment n hdr codes crc) s = .next s) ∧
  (∀ (s : State) (q : Fin 4), s.quadReady q = true → (s.quad q).heldSegs ≠ [] → s.grid.step = 128 →
    ∃ t, exec (.wakeCatchup q) s = .next t ∧
      t.quads = (s.modQuad q fun k => { k with heldSegs := [] }).quads ∧
      t.ev = (s.raise 0x0605 [(1, q.val), (2, (s.quad q).heldSegs.length)]).ev ∧
      ((∀ x ∈ (s.quad q).heldSegs, s.isHeld x.1 = false) → t.rb.expect = s.rb.expect ++ (s.quad q).heldSegs.map fun x =>
        s.segRec x.1 x.2 (s.grid.kind = .keepAlive) (segCodes (s.bufRow s.windowBuf (tileY x.1 + x.2)) x.1)) ∧
      t = { s with quads := t.quads, rb := t.rb, tiles := t.tiles, ev := t.ev })

/-- Readbacks (R277, R278, R280): a readback that agrees with the oldest record of its tile is counted and its signature kept; the
first mismatch of a segment is counted and asks for a re-read in a later frame; the second is a fault with INTEGRITY and event
0x0707, and the SP requests DEGRADED; PARITY in a bad readback asks for a parity scan of the row; a record without its readback
in time is a mismatch, but for a quadrant powered down since. Re-reads, the READBACK packet and the generator check (R279, R281,
R295): no segment is sent again in a transition frame, in a full frame the frame's own segments are the re-reads, in the others
each due one goes out again with KEEPALIVE 1 to a tile that takes it, and what was mismatched in an earlier frame is due no
longer; the frame's packet joins TQ2's, of three the oldest dropped, and the frame's record starts again, FRAME_SIG formed in
context 40; the generator check turns to the next reported segment, and every difference of LINE_CRC sets INTEGRITY with event
0x0708 and lets the SP request DEGRADED. -/
def Obligations.ReadbacksAndRereads : Prop :=
  (∀ (s : State) (n : Fin 64) (w : BitVec 48) (x : SegRec) (rest : List SegRec), rbCrcOk w.toNat = true → bitsOf w.toNat 44 4 = 1 →
    s.sp.running = true → takeRec n.val s.rb.expect = (some x, rest) →
    let key := 128 * x.tile + x.row
    (rbReason x w.toNat = none → s.rb.fault = [] → s.safety.spCauses.getLsbD cReadback = false →
      ∃ t, exec (.readback n w) s = .next t ∧ t.rb.expect = rest ∧ t.rb.checked = sat16 (s.rb.checked + 1) ∧
        t.rb.sigs = s.rb.sigs ++ [(64 * x.row + x.tile, x.crc)] ∧ t.rb.bad = s.rb.bad ∧ t.rb.fault = [] ∧
        t = { s with rb := t.rb, zones := { s.zones with stall := t.zones.stall } }) ∧
    (∀ r, rbReason x w.toNat = some r → s.rb.miss.get false key = false → s.rb.fault = [] →
      s.safety.spCauses.getLsbD cReadback = false →
      ∃ t, exec (.readback n w) s = .next t ∧ t.rb.expect = rest ∧ t.rb.miss.get false key = true ∧ t.rb.fault = [] ∧
        t.rb.reread = s.rb.reread ++ [(key, s.grid.frame)] ∧
        t.rb.bad = s.rb.bad ++ [{ tile := x.tile, row := x.row, fault := false, reason := r
                                  sig := BitVec.ofNat 16 (bitsOf w.toNat 8 16) }] ∧
        t.rb.mismatches = sat32 (s.rb.mismatches + 1) ∧
        t.rb.scanDue = s.rb.scanDue ++ (if bitOf w.toNat 34 then [key] else []) ∧
        t.ev = (s.raiseRated 0x0706 0 [(1, x.tile), (1, r), (2, x.row)]).ev ∧ t = { s with rb := t.rb, ev := t.ev }) ∧
    (∀ r, rbReason x w.toNat = some r → s.rb.miss.get false key = true →
      ∃ t, exec (.readback n w) s = .next t ∧ (∃ v : State, v = { s with rb := v.rb } ∧
        t = (((v.setFlag fIntegrity).raise 0x0707 [(1, x.tile), (1, r), (2, x.row)]).judgeFaults).scanAfter x (bitOf w.toNat 34)) ∧
        t.rb.fault.get false key = true ∧ t.rb.mismatches = sat32 (s.rb.mismatches + 1) ∧
        t.ev.flags.getLsbD fIntegrity = true ∧ t.safety.spCauses.getLsbD cReadback = true ∧ t.store = s.store ∧
        t.comp = s.comp ∧ t.layers = s.layers)) ∧
  (∀ (s : State) (n : Fin 64) (w : BitVec 48), rbCrcOk w.toNat = false → exec (.readback n w) s = .next s) ∧
  (∀ (s : State) (x : SegRec) (rest : List SegRec), s.rb.expect = x :: rest →
    (s.sp.running = true → s.tileOn x.tile = true →
      ∃ t, exec .readbackTimeout s = .next t ∧ t.rb.expect = rest ∧ t.rb.miss.get false (128 * x.tile + x.row) = true ∧
        t.rb.mismatches = sat32 (s.rb.mismatches + 1) ∧ t.store = s.store ∧ t.comp = s.comp) ∧
    (s.tileOn x.tile = false → exec .readbackTimeout s = .next { s with rb := { s.rb with expect := rest } })) ∧
  (∀ s : State, s.grid.kind = .transition → exec .reread s = .next s) ∧
  (∀ s : State, s.grid.step = 128 → s.grid.kind = .full →
    ∃ t, exec .reread s = .next t ∧ t.rb.reread = s.rb.reread.filter (fun x => x.2 = s.grid.frame) ∧ t.rb.expect = s.rb.expect ∧
      t = { s with rb := t.rb, tiles := t.tiles }) ∧
  (∀ s : State, s.grid.step = 128 → (s.grid.kind = .keepAlive ∨ s.grid.kind = .idle) →
    ∃ t, exec .reread s = .next t ∧ t.rb.reread = s.rb.reread.filter (fun x => x.2 = s.grid.frame) ∧
      (∀ x ∈ t.rb.expect, x ∈ s.rb.expect ∨ (x.keep = true ∧ ∃ y ∈ s.rb.reread, y.2 ≠ s.grid.frame ∧ y.1 = 128 * x.tile + x.row)) ∧
      (∀ y ∈ s.rb.reread, y.2 ≠ s.grid.frame → s.isHeld (y.1 / 128) = false → s.quadReady (quadOfTile (y.1 / 128)) = true →
        s.segPoison s.grid.lastFull (tileY (y.1 / 128) + y.1 % 128) (y.1 / 128) = false →
        ∃ x ∈ t.rb.expect, x.tile = y.1 / 128 ∧ x.row = y.1 % 128 ∧ x.keep = true) ∧
      t = { s with rb := t.rb, tiles := t.tiles, banks := t.banks, store := { s.store with log := t.store.log }, ev := t.ev }) ∧
  (∀ s : State, s.rb.checked ≠ 0 → s.sp.running = true →
    ∃ t, exec .readbackPacket s = .next t ∧ t.rb = { s.rb with sigs := [], bad := [], checked := 0 } ∧
      t.readbacks = dropReadback (s.readbacks ++ [s.upPkt 2 0x32 0 s.readbackBytes]) ∧
      (t.cvu.get {} 40).value = BitVec.ofNat 32 (crc32cRun 0xFFFFFFFF (sigBytes s.rb.sigs)) ∧
      t = { s with rb := t.rb, cvu := t.cvu, link := { s.link with tqs := t.link.tqs, blocked := t.link.blocked } }) ∧
  (∀ (s : State) (x : Nat × BitVec 16), (s.grid.kind = .full ∨ s.grid.kind = .keepAlive) → s.grid.step = 128 → s.sp.running = true →
    nextReported s.rb.rot s.rb.reported = some x →
    let y := tileY (x.1 / 128) + x.1 % 128
    let codes := segCodes (s.bufRow s.grid.lastFull y) (x.1 / 128)
    s.segPoison s.grid.lastFull y (x.1 / 128) = false →
    ∃ v : State, v = { s with
        rb := { s.rb with rot := (x.1 + 1) % 8192, crcGen := v.rb.crcGen }
        cvu := v.cvu, ev := v.ev, banks := v.banks, store := { s.store with log := v.store.log } } ∧
      (v.cvu.get {} 41).value = BitVec.ofNat 32 (lineCrc codes).toNat ∧
      (lineCrc codes = x.2 → v.rb.crcGen = s.rb.crcGen ∧ exec .crcGenCheck s = .next v) ∧
      (lineCrc codes ≠ x.2 → v.rb.crcGen = true ∧
        ∃ t, exec .crcGenCheck s = .next t ∧ t = ((v.setFlag fIntegrity).raise 0x0708 []).setCause false cCrcGen true ∧
          t.ev.flags.getLsbD fIntegrity = true ∧ t.safety.spCauses.getLsbD cCrcGen = true))

/-- Control words at a tile (R223, R225, R248, R250, R251, R252, R290, Table 9.1): a CUR_SET gives the tile its target and slew
rate, SLEW 0 as 1; a PWM_SET in range waits with its period and phase and is ignored in local mode; an ALIGN names the next
boundary, DELAY from now, and is ignored in local mode; THRESH gives the thresholds; each word taken is acknowledged with
KEEPALIVE and FRAME8 of its segment's header; one whose header fails is ignored and counted, and none reaches a tile without
power. Tile current (R246, R248, R254, R255, R264, R288): at a period boundary the applied code moves toward its target, never
past it and at once where an override has changed; the period begins that an ALIGN has named, with a PERIOD that waited for it,
or the next at the natural end, and a named row is measured in it; a write of DRV_TILE takes its REQ, sends a powered tile a
CUR_SET when it changes, and never changes the applied code. -/
def Obligations.ControlWordsAndTileCurrent : Prop :=
  (∀ (s : State) (n : Fin 64) (w : BitVec 96), s.tileOn n = true → ctlOp w = 1 → headerOk 2 (s.ctlHeader n 4).toNat = true →
    exec (.curSet n w) s = .next (s.modTile n fun x => { x with
      ctl := x.ctl.drop 4, ctlHead := x.ctlHead.drop 4, tgt := BitVec.ofNat 8 (bitsOf w.toNat 80 8), slew := max 1 (bitsOf w.toNat 72 8), segRow := none
      rbWord := controlAck (s.ctlHeader n 4) })) ∧
  (∀ (s : State) (n : Fin 64) (w : BitVec 96), s.tileOn n = true → ctlOp w = 2 → headerOk 2 (s.ctlHeader n 8).toNat = true →
    exec (.pwmSet n w) s = .next (s.modTile n fun x => { x with
      ctl := x.ctl.drop 8, ctlHead := x.ctlHead.drop 8, segRow := none
      periodNew := if x.localSrc = true ∨ bitsOf w.toNat 60 28 < 25600000 ∨ 204800000 < bitsOf w.toNat 60 28 then x.periodNew
        else some (BitVec.ofNat 28 (bitsOf w.toNat 60 28))
      phase := if x.localSrc = true ∨ bitsOf w.toNat 60 28 < 25600000 ∨ 204800000 < bitsOf w.toNat 60 28 then x.phase
        else some (BitVec.ofNat 6 (bitsOf w.toNat 54 6))
      rbWord := controlAck (s.ctlHeader n 8) })) ∧
  (∀ (s : State) (n : Fin 64) (w : BitVec 96), s.tileOn n = true → ctlOp w = 3 → headerOk 2 (s.ctlHeader n 12).toNat = true →
    exec (.align n w) s = .next (s.modTile n fun x => { x with
      ctl := x.ctl.drop 12, ctlHead := x.ctlHead.drop 12, segRow := none, align := if x.localSrc then x.align else some (s.tileNow + bitsOf w.toNat 64 24)
      rbWord := controlAck (s.ctlHeader n 12) })) ∧
  (∀ (s : State) (n : Fin 64) (w : BitVec 96), s.tileOn n = true → ctlOp w = 0x45 → headerOk 2 (s.ctlHeader n 276).toNat = true →
    exec (.thresh n w) s = .next (s.modTile n fun x => { x with
      ctl := x.ctl.drop 276, ctlHead := x.ctlHead.drop 276, segRow := none, openMv := bitsOf w.toNat 78 10, shortMv := bitsOf w.toNat 66 12
      rbWord := controlAck (s.ctlHeader n 276) })) ∧
  (∀ (s : State) (n : Fin 64) (w : BitVec 96), s.tileOn n = true → ctlOp w = 1 → headerOk 2 (s.ctlHeader n 4).toNat = false →
    exec (.curSet n w) s = .next (s.modTile n fun x => { x with ignored := x.ignored + 1 })) ∧
  (∀ (s : State) (n : Fin 64) (w : BitVec 96), s.tileOn n = false →
    exec (.curSet n w) s = .next s ∧ exec (.pwmSet n w) s = .next s ∧ exec (.align n w) s = .next s ∧
      exec (.thresh n w) s = .next s) ∧
  (∀ (s : State) (n : Fin 64), s.tileOn n = true →
    exec (.tilePeriodBoundary n) s = .next (s.modTile n fun x => { x.slewTo (s.curTarget n) with
      meas := x.measNext.map (fun m => { m with dirty := s.drive.low }), measNext := none, align := none, segRow := none
      start := if x.align = none then x.start + x.periodUsed else 256 * x.align.getD 0
      period := if x.align = none then x.period else x.periodNew.getD x.period
      periodNew := if x.align = none then x.periodNew else none })) ∧
  (∀ (s : State) (n : Fin 64), s.tileOn n = false → exec (.tilePeriodBoundary n) s = .next s) ∧
  (∀ (x : Tile) (tgt : Nat), tgt < 256 →
    min x.applied.toNat tgt ≤ (x.slewTo tgt).applied.toNat ∧ (x.slewTo tgt).applied.toNat ≤ max x.applied.toNat tgt ∧
      (x.ovrNew = true → (x.slewTo tgt).applied.toNat = tgt)) ∧
  (∀ (s : State) (n : Fin 64) (v : BitVec 32), v.toNat % 256 ≤ s.fusedCeil n →
    let u := s.modTile n fun x => { x with req := BitVec.ofNat 8 (v.toNat % 256), ceilSeen := false }
    ((s.tile n).req.toNat ≠ v.toNat % 256 → exec (.drvTileWrite n v) s = .next (u.sendCurSet n)) ∧
    ((s.tile n).req.toNat = v.toNat % 256 → exec (.drvTileWrite n v) s = .next u)) ∧
  (∀ (s : State) (n : Fin 64) (v : BitVec 32), ∃ t, exec (.drvTileWrite n v) s = .next t ∧
    (t.tile n).applied = (s.tile n).applied ∧ (t.tile n).req = BitVec.ofNat 8 v.toNat ∧ t = { s with tiles := t.tiles, ev := t.ev }) ∧
  (∀ (s : State) (n : Nat), s.tileOn n = false → s.sendCurSet n = s) ∧
  (∀ (s : State) (n : Nat), s.tileOn n = true → ctlOp (((s.sendCurSet n).tile n).ctl.get 0 4) = 1)

/-- The quadrant command bus (R252, R254, R267, R268, Table 9.6): a valid command to one tile has its effect there and is answered
by it; a rectangle joins the held set and starts the sweep again, an empty one paints nothing, a ninth is refused with NAK; a
change of source raises event 0x0608, the local source's phase counting from it; every addressed tile answers once; a word whose
CRC8 fails or whose CMD is reserved changes no tile; a quadrant without power takes nothing. A fill sweep (R245, R268): at its
end every pixel of the tile that a held rectangle covers holds the code of the most recently received one that covers it, but
for the rows that a row segment has written during the sweep, which keep the segment's codes (the model's reading of the order,
log entry 52); every other latch is as before, and the rectangles have left the tile's set. -/
def Obligations.BusCommandsAndFillSweeps : Prop :=
  (∀ (s : State) (q : Fin 4) (w : BitVec 64), (s.quad q).powered = true → qValid w = true → qAll w = false →
    let n := tileOf q (qTile w)
    let a := s.modQuad q fun k => { k with answers := [] }
    let ans (v : State) (nak : Bool) : State := v.modQuad q fun k => { k with answers := k.answers ++ [v.answer n nak] }
    (qCmd w = 1 → (s.tile n).held.length < 8 → (qRect w).x0 ≤ (qRect w).x1 → (qRect w).y0 ≤ (qRect w).y1 →
      exec (.fillRect q w) s = .next (ans (a.modTile n fun x => { x with held := x.held ++ [qRect w], wrote := 0 }) false)) ∧
    (qCmd w = 1 → (s.tile n).held.length < 8 → ((qRect w).x1 < (qRect w).x0 ∨ (qRect w).y1 < (qRect w).y0) →
      exec (.fillRect q w) s = .next (ans a false)) ∧
    (qCmd w = 1 → 8 ≤ (s.tile n).held.length → exec (.fillRect q w) s = .next (ans a true)) ∧
    (qCmd w = 2 → exec (.setCeil q w) s = .next (ans (a.modTile n fun x => { x with
      ceil := some (BitVec.ofNat 8 (qArg w / 16)), applied := BitVec.ofNat 8 (min x.applied.toNat (qArg w / 16)) }) false)) ∧
    (qCmd w = 3 → exec (.setOverride q w) s = .next (ans (a.modTile n fun x => { x with
      ovrEn := bitOf (qArg w) 11, ovr := BitVec.ofNat 8 (qArg w / 8)
      ovrNew := x.ovrNew || bitOf (qArg w) 11 ≠ x.ovrEn || (bitOf (qArg w) 11 && BitVec.ofNat 8 (qArg w / 8) ≠ x.ovr) }) false)) ∧
    (qCmd w = 4 → (s.tile n).localSrc ≠ bitOf (qArg w) 11 →
      exec (.setSource q w) s = .next (ans ((a.modTile n fun x => { x with
        localSrc := bitOf (qArg w) 11
        align := if bitOf (qArg w) 11 then some (s.tileNow + rdivNat (n * localPeriod) 16384) else none }).raise
        0x0608 [(1, n), (1, b2n (bitOf (qArg w) 11))]) false)) ∧
    (qCmd w = 4 → (s.tile n).localSrc = bitOf (qArg w) 11 → exec (.setSource q w) s = .next (ans a false)) ∧
    (qCmd w = 5 → exec (.quadStatus q w) s = .next (ans a false))) ∧
  (∀ (s : State) (q : Fin 4) (w : BitVec 64), (s.quad q).powered = true → qValid w = true →
    (qCmd w = 1 → ∃ t, exec (.fillRect q w) s = .next t ∧ (t.quad q).answers.length = (qTiles q w).length ∧
      t = { s with tiles := t.tiles, quads := t.quads }) ∧
    (qCmd w = 2 → ∃ t, exec (.setCeil q w) s = .next t ∧ (t.quad q).answers.length = (qTiles q w).length ∧
      (∀ n ∈ qTiles q w, (t.tile n).ceil = some (BitVec.ofNat 8 (qArg w / 16))) ∧
      t = { s with tiles := t.tiles, quads := t.quads })) ∧
  (∀ (s : State) (q : Fin 4) (w : BitVec 64), (s.quad q).powered = true → qValid w = false →
    ∃ t, exec (.fillRect q w) s = .next t ∧ exec (.setCeil q w) s = .next t ∧ exec (.setOverride q w) s = .next t ∧
      exec (.setSource q w) s = .next t ∧ exec (.quadStatus q w) s = .next t ∧ t = { s with quads := t.quads } ∧
      (t.quad q).answers = (qTiles q w).map fun n => s.answer n true) ∧
  (∀ (s : State) (q : Fin 4) (w : BitVec 64), (s.quad q).powered = false →
    exec (.fillRect q w) s = .next s ∧ exec (.setCeil q w) s = .next s ∧ exec (.setOverride q w) s = .next s ∧
      exec (.setSource q w) s = .next s ∧ exec (.quadStatus q w) s = .next s) ∧
  (∀ (s : State) (n : Fin 64), s.MemoryWf → s.tileOn n = true → (s.tile n).held ≠ [] →
    ∃ t, exec (.fillSweepDone n) s = .next t ∧
      (∀ row col, row < 128 → col < 128 →
        t.latch n row col = (if (s.tile n).wrote.getLsbD row then s.latch n row col
          else match (s.tile n).held.reverse.find? fun r => r.covers row col with
          | some r => latchWord r.code
          | none => s.latch n row col)) ∧
      (∀ p, (∀ row col, row < 128 → col < 128 → p ≠ tilePixel n row col) → t.latches.get 0 p = s.latches.get 0 p) ∧
      (Sparse.wf {} s.tiles = true → (t.tile n).held = [] ∧ (t.tile n).wrote = 0) ∧ t = { s with latches := t.latches, tiles := t.tiles })

/-- Answers as the Rind takes them (R37, R268, R328): the last answer of a command ends it; a NAK or a time-out sends it once more,
and the second gives it up, cuts the tiles it addresses and raises event 0x0811; an answer whose CHK does not match is none;
with the last command of a quadrant that is painted dark answered, its power-force line is released. -/
def Obligations.AnswersEndTheRindsCommands : Prop :=
  (∀ (s : State) (q : Fin 4) (a : BitVec 16) (c : QuadCmd) (rest : List QuadCmd), s.safety.cmds = c :: rest → c.quad = q.val →
    s.safety.paint ≠ .dark →
    bitsOf a.toNat 0 4 = (bitsOf a.toNat 12 4 ^^^ bitsOf a.toNat 8 4) ^^^ bitsOf a.toNat 4 4 →
    (qAll c.word = false → qTile c.word = bitsOf a.toNat 12 4 → bitOf a.toNat 11 = false →
      exec (.commandAnswer q a) s = .next { s with safety := { s.safety with cmds := rest } }) ∧
    (qAll c.word = true → bitsOf a.toNat 12 4 = 15 → bitOf a.toNat 11 = false →
      exec (.commandAnswer q a) s = .next { s with safety := { s.safety with cmds := rest } }) ∧
    ((qAll c.word = true ∨ qTile c.word = bitsOf a.toNat 12 4) → bitOf a.toNat 11 = true →
      exec (.commandAnswer q a) s = exec (.commandTimeout q) s)) ∧
  (∀ (s : State) (q : Fin 4) (a : BitVec 16),
    bitsOf a.toNat 0 4 ≠ (bitsOf a.toNat 12 4 ^^^ bitsOf a.toNat 8 4) ^^^ bitsOf a.toNat 4 4 →
    exec (.commandAnswer q a) s = .next s) ∧
  (∀ (s : State) (q : Fin 4) (c : QuadCmd) (rest : List QuadCmd), s.safety.cmds = c :: rest → c.quad = q.val →
    (c.resent = false →
      exec (.commandTimeout q) s = .next { s with safety := { s.safety with cmds := { c with resent := true } :: rest } }) ∧
    (c.resent = true → s.safety.paint ≠ .dark →
      ∃ t, exec (.commandTimeout q) s = .next t ∧ t.safety.cmds = rest ∧ (∀ n ∈ qTiles q c.word, t.isCut n = true) ∧
        t = { s with safety := t.safety, ev := t.ev } ∧ ∃ u : State, t = u.raise 0x0811 [(1, q.val), (1, qCmd c.word)])) ∧
  (∀ (s : State) (q : Fin 4) (a : BitVec 16) (c : QuadCmd), s.safety.cmds = [c] → c.quad = q.val → s.safety.paint = .dark →
    s.zones.blankQuads.getLsbD q = false →
    bitsOf a.toNat 0 4 = (bitsOf a.toNat 12 4 ^^^ bitsOf a.toNat 8 4) ^^^ bitsOf a.toNat 4 4 →
    ((qAll c.word = true ∧ bitsOf a.toNat 12 4 = 15) ∨ (qAll c.word = false ∧ qTile c.word = bitsOf a.toNat 12 4)) →
    bitOf a.toNat 11 = false →
    ∃ t, exec (.commandAnswer q a) s = .next t ∧ t.safety = { s.safety with cmds := [] } ∧ (t.quad q).forced = false ∧
      t = { s with safety := t.safety, quads := t.quads })

/-- Quadrant power (R36, R263, R264, R265, R266, R37): OFF_REQ is granted to a dark, unlit quadrant whose power-force line is not
asserted and otherwise refused with event 0x0C05; at the next boundary a granted quadrant goes off with event 0x0603, its
latches 0; a WAKE_REQ wakes one that is off with event 0x0604 and its latches 0; a waking quadrant becomes ready with its
ceilings, requests and timing; the power-force line is released after a stall blanking unless the Rind still paints. Power
domains (R36, R113, R188, Table 1.8): a permitted switch-off takes the domain's power and what it holds (PD2: port B; PD3: the
CVU contexts, the LUT memory, the queues; PD4 and PD5: the banks' contents), one that is not permitted is refused with event
0x0C05 and changes nothing else; a switch-on gives the power back; PD0, PD1 and PD10 are refused; a quadrant domain is switched
as OFF_REQ and WAKE_REQ switch it. What PD3's blocks hold beside the contexts is the model's deduction (log entry 27). The
address in the event of a domain without a register is the model's free value (assumption log 33). -/
def Obligations.PowerOfQuadrantsAndDomains : Prop :=
  (∀ (s : State) (q : Fin 4), (s.quad q).powered = true →
    let a := s.modQuad q fun x => { x with offReq := true }
    ((s.quad q).darkFrom + 1000000 * s.drive.qdarkMs ≤ s.now1 → (s.quad q).lit = false → (s.quad q).forced = false →
      exec (.offReq q) s = .next (a.modQuad q fun x => { x with granted := true })) ∧
    ((s.now1 < (s.quad q).darkFrom + 1000000 * s.drive.qdarkMs ∨ (s.quad q).lit = true ∨ (s.quad q).forced = true) →
      exec (.offReq q) s = .next (a.raise 0x0C05 [(1, 2), (4, qpwrAddr)]))) ∧
  (∀ (s : State) (q : Fin 4), (s.quad q).granted = true → (s.quad q).powered = true → (s.quad q).lit = false →
    (s.quad q).forced = false →
    ∃ t, exec (.quadOff q) s = .next t ∧ t.latches = s.latches.filter (fun x => quadOfTile (tileOfPixel x.1) ≠ q.val) ∧
      t.quads = (s.modQuad q fun k => { k with
        powered := false, ready := false, on := false, granted := false, waking := false, fresh := false, heldSegs := [], answers := [] }).quads ∧
      t.ev = (s.raise 0x0603 [(1, q.val)]).ev ∧
      t = { s with latches := t.latches, quads := t.quads, tiles := t.tiles, thermal := t.thermal, ev := t.ev }) ∧
  (∀ (s : State) (q : Fin 4),
    exec (.wakeReq q) s = .next ((s.modQuad q fun x => { x with offReq := false, granted := false }).wake q) ∧
    ((s.quad q).powered = false →
      let t := s.wake q
      (t.quad q).powered = true ∧ (t.quad q).waking = true ∧ (t.quad q).ready = false ∧
        t.latches = s.latches.filter (fun x => quadOfTile (tileOfPixel x.1) ≠ q.val) ∧ t.ev = (s.raise 0x0604 [(1, q.val)]).ev ∧
        t = { s with quads := t.quads, latches := t.latches, ev := t.ev })) ∧
  (∀ (s : State) (q : Fin 4), (s.quad q).waking = true → (s.quad q).powered = true → s.safety.paint = .none →
    ∃ t, exec (.quadReady q) s = .next t ∧
      t.quads = (s.modQuad q fun x => { x with ready := true, on := true, waking := false, fresh := true }).quads ∧
      (∀ n ∈ tilesOfQuad q, (t.tile n).ceil = some (BitVec.ofNat 8 (min (s.fusedCeil n) s.drive.cl)) ∧
        (t.tile n).tgt = (t.tile n).req ∧ (t.tile n).period = BitVec.ofNat 28 s.pwmPeriod ∧
        (t.tile n).align = some (s.alignAt s.grid.lastL s.pwmPeriod n)) ∧
      t = { s with quads := t.quads, tiles := t.tiles }) ∧
  (∀ (s : State) (q : Fin 4), s.zones.blankQuads.getLsbD q = true → s.safety.paint = .none →
    exec (.powerForceRelease q) s = .next (({ s with zones := { s.zones with
      blankQuads := setBit s.zones.blankQuads q false } } : State).modQuad q fun k => { k with forced := false })) ∧
  (∀ s : State, s.mpRuns = true →
    (s.mayDrop 3 = true → s.power.pd3 = true →
      ∃ t, exec (.powerDomainRequest 3 false) s = .next t ∧ t.power = { s.power with pd3 := false } ∧ t.cvu = [] ∧
        t.layers = s.layers.map (fun l => { l with run := none, chk := none }) ∧ t.out = { s.out with lut := [], lutGone := some s.free } ∧
        t.link.tqs = [] ∧ t.link.blocked = [] ∧ t.link.waiting = [] ∧ t.linkB.wait = [] ∧
        t = { s with power := t.power, cvu := t.cvu, layers := t.layers, out := t.out, diag := s.diag.unpowered, link := t.link,
                     linkB := t.linkB, free := s.free + 1 }) ∧
    (s.power.pd2 = true → ∃ t, exec (.powerDomainRequest 2 false) s = .next t ∧ t.power = { s.power with pd2 := false } ∧
      t.portB = s.portB.toOff ∧ t.linkB.wait = [] ∧ t.linkB.sent = [] ∧
      t = { s with power := t.power, portB := t.portB, link := t.link, linkB := t.linkB }) ∧
    (s.mayDrop 4 = true → s.power.pd4 = true → (s.mp.ready = false ∨ s.store.init0 = false) →
      exec (.powerDomainRequest 4 false) s = .next { s with
        power := { s.power with pd4 := false }, store := { s.store with init0 := false } }) ∧
    (s.mayDrop 4 = true → s.power.pd4 = true → ∃ t, exec (.powerDomainRequest 4 false) s = .next t ∧ t.power.pd4 = false ∧
      t.store.init0 = false) ∧
    (s.mayDrop 5 = true → s.power.pd5 = true →
      exec (.powerDomainRequest 5 false) s = .next { s with
        power := { s.power with pd5 := false }, store := { s.store with init1 := false } }) ∧
    (∀ pd : Fin 11, 3 ≤ pd.val → pd.val ≤ 5 → s.mayDrop pd = false →
      exec (.powerDomainRequest pd false) s = .next (s.raise 0x0C05 [(1, 2), (4, Config.freeNat 10 pd)])) ∧
    (∀ pd : Fin 11, pd.val < 2 ∨ pd.val = 10 → ∀ on,
      exec (.powerDomainRequest pd on) s = .next (s.raise 0x0C05 [(1, 2), (4, Config.freeNat 10 pd)])) ∧
    exec (.powerDomainRequest 2 true) s = .next (({ s with power := { s.power with pd2 := true } } : State).startPortB) ∧
    exec (.powerDomainRequest 3 true) s = .next { s with power := { s.power with pd3 := true } } ∧
    exec (.powerDomainRequest 4 true) s = .next { s with power := { s.power with pd4 := true } } ∧
    exec (.powerDomainRequest 5 true) s = .next { s with power := { s.power with pd5 := true } } ∧
    (∀ q : Fin 4, exec (.powerDomainRequest ⟨6 + q.val, by omega⟩ true) s = exec (.wakeReq q) s ∧
      exec (.powerDomainRequest ⟨6 + q.val, by omega⟩ false) s = exec (.offReq q) s)) ∧
  (∀ (s : State) (pd : Fin 11) (on : Bool), s.mpRuns = false → exec (.powerDomainRequest pd on) s = .next s)

/-- Diagnosis words at a tile (R287, R288, R289, R291, Table 10.6): MEAS names the row of the next period and ends every tamp
permission and kept result; TAMP_ALLOW counts only for the row a MEAS of the same segment names; SWITCH_GAP is scheduled where
its placement holds, and otherwise ignored, a pulse already scheduled keeping its place; a RESULT for the gap test is answered
from the last one; PARITY_SCAN finds exactly the columns whose latch fails its parity. -/
def Obligations.DiagnosisWordsAtTheTile : Prop :=
  (∀ (s : State) (n : Fin 64) (w : BitVec 96), s.tileOn n = true → ctlOp w = 0x40 → headerOk 2 (s.ctlHeader n 256).toNat = true →
    exec (.meas n w) s = .next (s.modTile n fun x => { x with
      ctl := x.ctl.drop 256, ctlHead := x.ctlHead.drop 256
      measNext := some { row := bitsOf w.toNat 81 7, cmin := bitsOf w.toNat 69 12, cgap := bitsOf w.toNat 57 12 }
      tamp := 0, resOpen := 0, resShort := 0, resStuck := 0, resParity := 0, resLit := 0, resDark := 0
      segRow := some (bitsOf w.toNat 81 7)
      rbWord := readbackWord 2 (bitsOf w.toNat 81 7) (bitOf (s.ctlHeader n 256).toNat 20) false false (bitsOf (s.ctlHeader n 256).toNat 8 8) 0 })) ∧
  (∀ (s : State) (n : Fin 64) (w : BitVec 96), s.tileOn n = true → ctlOp w = 0x41 → headerOk 2 (s.ctlHeader n (260 + bitsOf w.toNat 79 2)).toNat = true →
    exec (.tampAllow n w) s = .next (s.modTile n fun x => { x with
      ctl := x.ctl.drop (260 + bitsOf w.toNat 79 2), ctlHead := x.ctlHead.drop (260 + bitsOf w.toNat 79 2), segRow := (s.tile n).segRow
      tamp := if (s.tile n).segRow = some (bitsOf w.toNat 81 7)
        then x.tamp ||| BitVec.ofNat 128 (bitsOf w.toNat 47 32 * 2 ^ (32 * bitsOf w.toNat 79 2)) else x.tamp
      rbWord := readbackWord 2 ((s.tile n).segRow.getD 0) (bitOf (s.ctlHeader n (260 + bitsOf w.toNat 79 2)).toNat 20) false false (bitsOf (s.ctlHeader n (260 + bitsOf w.toNat 79 2)).toNat 8 8) 0 })) ∧
  (∀ (s : State) (n : Fin 64) (w : BitVec 96), s.tileOn n = true → ctlOp w = 0x42 → headerOk 2 (s.ctlHeader n 264).toNat = true →
    exec (.switchGap n w) s = .next (s.modTile n fun x =>
      let y : Tile := { x with
        ctl := x.ctl.drop 264, ctlHead := x.ctlHead.drop 264, segRow := none
        rbWord := readbackWord 2 0 (bitOf (s.ctlHeader n 264).toNat 20) false false (bitsOf (s.ctlHeader n 264).toNat 8 8) 0 }
      if gapPlaced (bitsOf w.toNat 64 24) x.periodUsed then { y with gap := some (bitsOf w.toNat 64 24) }
      else { y with gapPass := false, gapLoad := false, gapTime := 0 })) ∧
  (∀ (s : State) (n : Fin 64) (w : BitVec 96), s.tileOn n = true → ctlOp w = 0x43 → headerOk 2 (s.ctlHeader n 268).toNat = true → bitsOf w.toNat 85 3 = 4 →
    exec (.result n w) s = .next (s.modTile n fun x => { x with
      ctl := x.ctl.drop 268, ctlHead := x.ctlHead.drop 268, segRow := none
      rbWord := readbackWord 2 0 (bitOf (s.ctlHeader n 268).toNat 20) false false (bitsOf (s.ctlHeader n 268).toNat 8 8)
        (b2n (s.tile n).gapPass * 32768 + b2n (s.tile n).gapLoad * 16384 + min 255 (s.tile n).gapTime) })) ∧
  (∀ (s : State) (n : Fin 64) (w : BitVec 96), s.tileOn n = true → ctlOp w = 0x44 → headerOk 2 (s.ctlHeader n 272).toNat = true →
    ∃ t, exec (.parityScan n w) s = .next t ∧
      (∀ c < 128, (t.tile n).resParity.getLsbD c = !latchOk (s.latch n (bitsOf w.toNat 81 7) c)) ∧ (t.tile n).ctl = (s.tile n).ctl.drop 272 ∧
      (t.tile n).rbWord = readbackWord 2 (bitsOf w.toNat 81 7) (bitOf (s.ctlHeader n 272).toNat 20) false false
        (bitsOf (s.ctlHeader n 272).toNat 8 8) 0)

/-- Measured periods (R288, R290, R293): a period in which a latch of the row was written gives no results; a clean one keeps the
comparators' outputs for the columns that could be checked, moves the sweep on where the row was its own, and asks for the
results; the second failing measurement of a pixel for one cause puts it into the fault map with that cause. -/
def Obligations.MeasuredPeriodsFeedTheFaultMap : Prop :=
  (∀ (s : State) (n : Fin 64) (a b c : BitVec 128) (m : Meas), (s.tile n).meas = some m →
    (m.dirty = true → exec (.measPeriodEnd n a b c) s = .next (s.modTile n fun x => { x with meas := none })) ∧
    (m.dirty = false →
      let lit := s.codeMask n m.row fun i v => m.cmin ≤ v || ((s.tile n).tamp.getLsbD i && 0 < v)
      let dark := s.codeMask n m.row fun _ v => v ≤ 4096 - m.cmin || m.cgap ≤ v
      let u := s.modTile n fun x => { x with
        meas := none, resRow := m.row, resLit := lit, resDark := dark
        resOpen := a &&& lit, resShort := b &&& lit, resStuck := c &&& dark }
      (m.row ≠ (s.tile n).sweepRow → exec (.measPeriodEnd n a b c) s = .next (u.sendResult n 0 0)) ∧
      (m.row = (s.tile n).sweepRow → exec (.measPeriodEnd n a b c) s = .next ((u.rowMeasured n).sendResult n 0 0)))) ∧
  (∀ (s : State) (p cause : Nat), s.diag.fails.get 0 (8 * p + cause) = 1 → cause ≠ 0 → s.mapBlocked p = false → s.mapped p = false →
    let t := s.measured p cause true
    t.diag.cause.get 0 p = cause ∧ t.diag.mapDirty = true ∧ (s.diag.list.length < listDepth → p ∈ t.diag.list) ∧
      t.tiles = s.tiles ∧ t.link = s.link ∧ t.flash = s.flash) ∧
  (∀ (s : State) (p cause : Nat), s.diag.fails.get 0 (8 * p + cause) = 0 →
    let t := s.measured p cause true
    t.diag.fails.get 0 (8 * p + cause) = 1 ∧ t.store = s.store ∧ t.diag.list = s.diag.list)

/-- The diagnosis engine's schedule (R288, R290, R291, R294, Table 10.9): a row slot whose measured period ends by the next latch
point sends its tile a MEAS for the sweep's row, another sends nothing; a gap test is sent where no tile of the quadrant is
pulsed, otherwise it waits; a sweep that takes too long is reported once; DIAG_CTRL takes the fields in range; a report of the
changes since the last leaves on TQ4 where there is room, and where there is none a full report is due. Gap tests (R291, R292,
R327): a passing pulse ends the run of failures and asks for the result; a second failing test running is a switch fault,
reported, and the Rind requests DEGRADED; a tile whose switch stays closed while it is cut raises VLED_INH. -/
def Obligations.DiagnosisSchedulesAndGapTests : Prop :=
  (∀ (s : State) (n : Fin 64), s.quadReady (quadOfTile n) = true → s.grid.step = 128 → s.power.pd3 = true → (s.tile n).sweepRow < 128 →
    (s.slotFits n = false → exec (.diagRowSlot n) s = .next s) ∧
    (s.slotFits n = true → ∃ t, exec (.diagRowSlot n) s = .next t ∧ ctlOp ((t.tile n).ctl.get 0 256) = 0x40 ∧
      bitsOf ((t.tile n).ctl.get 0 256).toNat 81 7 = (s.tile n).sweepRow ∧ t = { s with tiles := t.tiles })) ∧
  (∀ (s : State) (n : Fin 64), s.quadReady (quadOfTile n) = true → s.power.pd3 = true →
    ((tilesOfQuad (quadOfTile n)).any s.gapBusy = false → exec (.gapTestDue n) s = .next (s.sendGap n)) ∧
    ((tilesOfQuad (quadOfTile n)).any s.gapBusy = true → s.diag.gapOrder.contains n.val = false →
      exec (.gapTestDue n) s = .next { s with diag := { s.diag with gapOrder := s.diag.gapOrder ++ [n.val] } })) ∧
  (∀ (s : State) (n : Fin 64), (s.tile n).overdue = false →
    exec (.sweepOverdue n) s = .next ((s.modTile n fun x => { x with overdue := true }).raise 0x070A [(1, n.val)])) ∧
  (∀ (s : State) (v : BitVec 32), ∃ t, exec (.diagCtrlWrite v) s = .next t ∧
    t.diag.sweepMs = (if 100 ≤ bitsOf v.toNat 16 11 ∧ bitsOf v.toNat 16 11 ≤ 1500 then bitsOf v.toNat 16 11 else s.diag.sweepMs) ∧
    t.diag.gapMs = (if 16 ≤ bitsOf v.toNat 8 8 ∧ bitsOf v.toNat 8 8 ≤ 250 then bitsOf v.toNat 8 8 else s.diag.gapMs) ∧
    t = { s with diag := { s.diag with sweepMs := t.diag.sweepMs, gapMs := t.diag.gapMs } }) ∧
  (∀ s : State, s.linkUp = true → s.isLegacy = false → s.diag.fullDue = false → s.diag.delta ≠ [] →
    let ps := s.mapPackets false (s.diag.delta.map fun x => mapEntry x.1 x.2.1 x.2.2)
    (s.queued 4 + (ps.map TxPkt.size).foldl (· + ·) 0 ≤ queueDepth 4 →
      ∃ t, exec .diagMapReport s = .next t ∧ t.link = (ps.foldl (fun v p => v.enqueue 4 p) s).link ∧
        t.diag = { s.diag with reportSeq := s.diag.reportSeq + 1, delta := [], lost := false } ∧
        t = { s with link := t.link, diag := t.diag }) ∧
    (queueDepth 4 < s.queued 4 + (ps.map TxPkt.size).foldl (· + ·) 0 →
      exec .diagMapReport s = .next { s with diag := { s.diag with delta := [], lost := true, fullDue := true } })) ∧
  (∀ (s : State) (n : Fin 64) (g : Nat) (load : Bool) (ns : Nat), (s.tile n).gap = some g →
    ∃ t, exec (.gapPulseEnd n true true load ns) s = .next t ∧ t.safety = s.safety ∧ t.ev = s.ev ∧
      t = { s with tiles := t.tiles, diag := { s.diag with gapOrder := t.diag.gapOrder } }) ∧
  (∀ (s : State) (n : Fin 64) (g : Nat) (falls load : Bool) (ns : Nat), (s.tile n).gap = some g → s.isCut n = false →
    1 ≤ (s.tile n).gapFails → s.safety.switchFault.getLsbD n = false →
    ∃ t, exec (.gapPulseEnd n falls false load ns) s = .next t ∧ t.safety.switchFault.getLsbD n = true ∧
      t.safety.rindCauses.getLsbD cSwitch = true ∧ (falls = false → t.safety.switchClosed.getLsbD n = true) ∧
      t.faultN = true ∧ t.store = s.store ∧ t.link = s.link) ∧
  (∀ (s : State) (n : Nat), n < 64 → s.safety.switchClosed.getLsbD n = true → s.isCut n = true → s.checkInh.vledInh = true)

/-- The supply monitor and the module limiter (R256, R327, R420): CL falls by 8 above the limit, rises by 1 below 95 % of it and
keeps its bounds; above 16 A the overcurrent latch asserts VLED_INH and FAULT_N; VLED_LOW begins below 3.30 V and ends at 3.35
V; VLED is present from 3.00 V to below 2.90 V, and in the service-only state the fallback beam follows it (R68). Sensor samples
(R335, R336, R338, R339, R393, Table 12.1): a reading is taken by its source; a tile sensor whose third reading running lies out
of range becomes FAILED, and so does a precision sensor and the NTC, whose legacy register then reads 0; a tile without power
has no reading. -/
def Obligations.ReadingsOfSupplyAndSensors : Prop :=
  (∀ (s : State) (ma mv : Nat), s.drive.cl ≤ 255 →
    ∃ t, exec (.moduleLimitUpdate ma mv) s = .next t ∧ t.drive.iLim = min 12000 (40000000 / max 3000 mv) ∧ t.drive.cl ≤ 255 ∧
      (t.drive.iLim < ma → t.drive.cl = s.drive.cl - 8) ∧
      (ma * 100 < t.drive.iLim * 95 → t.drive.cl = min 255 (s.drive.cl + 1)) ∧
      (t.drive.iLim * 95 ≤ ma * 100 → ma ≤ t.drive.iLim → t.drive.cl = s.drive.cl) ∧ t.drive.vledMa = ma ∧ t.drive.vledMv = mv ∧
      t = { s with drive := t.drive, safety := { s.safety with cmds := t.safety.cmds }, ev := t.ev }) ∧
  (∀ (s : State) (ma : Nat), 16000 < ma → s.drive.overcurrent = false →
    ∃ t, exec (.overcurrent ma) s = .next t ∧ t.drive = { s.drive with overcurrent := true } ∧ t.vledInh = true ∧ t.faultN = true ∧
      t = { s with drive := t.drive, ev := t.ev }) ∧
  (∀ (s : State) (ma : Nat), ma ≤ 16000 → exec (.overcurrent ma) s = .next s) ∧
  (∀ (s : State) (mv : Nat),
    (s.drive.low = false → mv < 3300 →
      ∃ t, exec (.vledLow mv) s = .next t ∧ t.drive = { s.drive with low := true } ∧
        t = { s with drive := t.drive, tiles := t.tiles, ev := t.ev }) ∧
    (s.drive.low = true → 3350 ≤ mv →
      ∃ t, exec (.vledLow mv) s = .next t ∧ t.drive = { s.drive with low := false } ∧ t = { s with drive := t.drive, ev := t.ev }) ∧
    ((s.drive.low = false ∧ 3300 ≤ mv) ∨ (s.drive.low = true ∧ mv < 3350) → exec (.vledLow mv) s = .next s)) ∧
  (∀ (s : State) (mv : Nat),
    let p := decide ((if s.drive.present then 2900 else 3000) ≤ mv)
    let u : State := { s with drive := { s.drive with present := p } }
    ((s.start.state ≠ .serviceOnly ∨ p = s.drive.present) → exec (.vledPresent mv) s = .next u) ∧
    (s.start.state = .serviceOnly → p ≠ s.drive.present → s.safety.state = .fallback →
      ∃ t, exec (.vledPresent mv) s = .next t ∧ (t.safety.paint = .beam ↔ p = true) ∧ t.drive = u.drive ∧ t.safety.state = .fallback)) ∧
  (∀ (s : State) (n : Fin 64) (raw : BitVec 16), s.tileOn n = true → raw ≠ 0 →
    ∃ t, exec (.tileSensorSample n raw) s = .next t ∧ (t.tsensor n).raw = raw.toInt ∧
      (s.overridden n = none → outOfRange raw.toInt = true → 2 ≤ (s.tsensor n).oor →
        ((s.tsensor n).state = .trusted ∨ (s.tsensor n).state = .suspect) → (t.tsensor n).state = .failed) ∧
      t = { s with thermal := t.thermal, drive := t.drive, tiles := t.tiles, leg := t.leg, ev := t.ev }) ∧
  (∀ (s : State) (n : Fin 64) (raw : BitVec 16), s.tileOn n = false → exec (.tileSensorSample n raw) s = .next s) ∧
  (∀ (s : State) (q : Fin 4) (raw : BitVec 16), raw ≠ 0 →
    ∃ t, exec (.quadSensorSample q raw) s = .next t ∧ (t.qsensor q).raw = raw.toInt ∧
      (s.overridden (64 + q.val) = none → outOfRange raw.toInt = true → 2 ≤ (s.qsensor q).oor → (t.qsensor q).failed = true) ∧
      t = { s with thermal := t.thermal, drive := t.drive, tiles := t.tiles, ev := t.ev }) ∧
  (∀ (s : State) (raw : BitVec 16),
    exec (.dieSensorSample raw) s = .next { s with thermal := { s.thermal with die := raw.toInt } }) ∧
  (∀ (s : State) (ohms : Nat), s.overridden 69 = none →
    ∃ t, exec (.ntcSample ohms) s = .next t ∧ t.thermal.ntc = ntcTemp ohms ∧
      (outOfRange (ntcTemp ohms) = true → 2 ≤ s.thermal.ntcOor → t.thermal.ntcFailed = true ∧ t.leg.tempExt = 0) ∧
      (outOfRange (ntcTemp ohms) = false → s.thermal.ntcFailed = false →
        t.thermal.ntcFailed = false ∧ t.thermal.ntcOor = 0 ∧ t.leg.tempExt = tempCode (ofS124 (ntcTemp ohms))) ∧
      t = { s with thermal := { s.thermal with ntc := t.thermal.ntc, ntcOor := t.thermal.ntcOor, ntcFailed := t.thermal.ntcFailed }
                   leg := { s.leg with tempExt := t.leg.tempExt }, ev := t.ev })

/-- The MP's accesses (R18, R36, R181, R259, R362, R365): a stripe scale in range is taken in the legacy personality and used from
the next latch point; REGISTER_WRITE to a register that a command of its own names acts as that command, one to ARB_STAT clears
the bits written 1 (R399: a bus error without power), an address of no register is a bus error with event 0x0C05, and none acts
while the MP is held off. -/
def Obligations.RegisterWritesActAsTheirCommands : Prop :=
  (∀ (s : State) (c : Fin 64) (v : BitVec 32), s.start.pers = .legacy → v.toNat % 65536 ≤ 0x8000 →
    ∃ t, exec (.drvStripeWrite c v) s = .next t ∧ t.out.stripe = s.out.stripe ∧
      t.out.stripeNext = s.out.stripeNext.set 0x8000 c (v.toNat % 65536) ∧
      t = { s with out := { s.out with stripeNext := t.out.stripeNext, stripeDirty := t.out.stripeDirty } }) ∧
  (∀ (s : State) (c : Fin 64) (v : BitVec 32), (s.start.pers ≠ .legacy ∨ 0x8000 < v.toNat % 65536) →
    exec (.drvStripeWrite c v) s = .next s) ∧
  (∀ (s : State) (v : BitVec 32) (n : Fin 64), s.mpRuns = true →
    exec (.registerWrite (BitVec.ofNat 20 (0x2000 + 4 * n.val)) v) s = exec (.drvTileWrite n v) s) ∧
  (∀ (s : State) (v : BitVec 32), s.mpRuns = true → exec (.registerWrite 0x4000 v) s = exec (.diagCtrlWrite v) s) ∧
  (∀ (s : State) (v : BitVec 32) (b : Fin 16) (j : Fin 8), s.mpRuns = true →
    exec (.registerWrite (BitVec.ofNat 20 (0x100 * b.val + 0x30 + 4 * j.val)) v) s = exec (.slotShadowWrite b j v) s) ∧
  (∀ (s : State) (v : BitVec 32) (b : Fin 16), s.mpRuns = true → s.wordOff (0x300 + b.val) = false →
    exec (.registerWrite (BitVec.ofNat 20 (0x100 * b.val + 4)) v) s = .next (s.modBank b.val fun k => { k with
      busyBit := k.busyBit && !v.getLsbD 8, broken := k.broken && !v.getLsbD 7, wdog := k.wdog && !v.getLsbD 6
      access := k.access && !v.getLsbD 5 })) ∧
  (∀ (s : State) (v : BitVec 32) (b : Fin 16), s.mpRuns = true → s.wordOff (0x300 + b.val) = true →
    exec (.registerWrite (BitVec.ofNat 20 (0x100 * b.val + 4)) v) s = .next (s.raise 0x0C05 [(1, 0), (4, 0x100 * b.val + 4)])) ∧
  (∀ (s : State) (v : BitVec 32), s.mpRuns = true →
    exec (.registerWrite 0xFFFFC v) s = .next (s.raise 0x0C05 [(1, 0), (4, 0xFFFFC)])) ∧
  (∀ (s : State) (a : BitVec 32), s.mpRuns = true → exec (.mpBadAccess a) s = .next (s.raise 0x0C05 [(1, 0), (4, a.toNat)])) ∧
  (∀ (s : State) (a : BitVec 20) (b v : BitVec 32), s.mpRuns = false →
    exec (.registerWrite a v) s = .next s ∧ exec (.mpBadAccess b) s = .next s)

/-- A bank's decision (R173, R174, R176, R177, R180, R182, R186): slots 0, 8, ... of every table belong to the scan-out; the slot's
owner with a request is granted it and the pointer advances; without one the slot is an idle slot for the next requester after
the last idle winner; a locked bank grants its owner alone and its pointer stands, the scrubber's sequence ending with its
RELEASE write; a frozen one grants nobody; with no request the pointer advances. Slot tables and locks (R179, R181, R183, R184,
R186): a shadow word's entries are taken, 11 to 14 as 0xF, or ignored with SHADOW_BUSY and event 0x0306 while a swap is pending;
a swap waits for the wrap, where the shadow becomes active; FREEZE holds its bit; a lock ended by its owner's reset sets
LOCK_BROKEN with event 0x0303, the requests of its sequence discarded, by the watchdog with event 0x0304, every request of the
owner discarded, each answered by an abort (Table 6.6: the accumulator makes its sequence again, the fault-map writer once); an
overdue scrub is reported once per pass (R171). -/
def Obligations.ArbitersFollowTheirSlotTables : Prop :=
  (∀ (k : Bank) (i : Nat), i % 8 = 0 → k.slotOwner i = some 0) ∧
  (∀ i, i < 64 → ({} : Bank).slotOwner i = [some 0, some 1, some 2, some 3, some 1, some 2, some 4, none].getD (i % 8) none) ∧
  (∀ (s : State) (b : Fin 16) (o : Nat) (r : StoreReq), s.groupReady (b.val / 8) = true → s.link.waiting = [] → (s.bank b).owner = none →
    (s.bank b).freeze = false → (s.bank b).swap = false → (s.bank b).slotOwner (s.bank b).ptr = some o → (s.bank b).request o = some r →
    ∃ t, exec (.arbiterDecision b []) s = .next t ∧ (t.bank b).grant = some o ∧ (t.bank b).ptr = ((s.bank b).ptr + 1) % 64 ∧
      (t.bank b).reqs = dropReq o (s.bank b).reqs ∧ (t.bank b).lastIdle = (s.bank b).lastIdle ∧
      t = { s with banks := t.banks, store := t.store, svc := t.svc, ev := t.ev }) ∧
  (∀ (s : State) (b : Fin 16) (m : Nat), s.groupReady (b.val / 8) = true → s.link.waiting = [] → (s.bank b).owner = none → (s.bank b).freeze = false →
    (s.bank b).swap = false → (∀ o, (s.bank b).slotOwner (s.bank b).ptr = some o → (s.bank b).request o = none) →
    (s.bank b).idleWinner = some m →
    ∃ t, exec (.arbiterDecision b []) s = .next t ∧ (t.bank b).grant = some m ∧ (t.bank b).lastIdle = m ∧
      (t.bank b).ptr = ((s.bank b).ptr + 1) % 64) ∧
  (∀ (s : State) (b : Fin 16) (o : Nat), s.groupReady (b.val / 8) = true → s.link.waiting = [] → (s.bank b).owner = some o →
    (s.bank b).scrubFix = none →
    ((s.bank b).request o = none →
      exec (.arbiterDecision b []) s = .next (s.modBank b fun k => { k with grant := none })) ∧
    ((s.bank b).request o ≠ none →
      ∃ t, exec (.arbiterDecision b []) s = .next t ∧ (t.bank b).grant = some o ∧ (t.bank b).ptr = (s.bank b).ptr)) ∧
  (∀ (s : State) (b : Fin 16) (o row : Nat), s.groupReady (b.val / 8) = true → s.link.waiting = [] → (s.bank b).owner = some o →
    (s.bank b).scrubFix = some row →
    ∃ t, exec (.arbiterDecision b []) s = .next t ∧ (t.bank b).owner = none ∧ (t.bank b).scrubFix = none ∧ (t.bank b).grant = some 10 ∧
      (t.bank b).ptr = (s.bank b).ptr ∧ t.store.cells = s.store.cells ∧ t = { s with banks := t.banks, store := t.store, svc := t.svc }) ∧
  (∀ (s : State) (b : Fin 16), s.groupReady (b.val / 8) = true → s.link.waiting = [] → (s.bank b).owner = none → (s.bank b).reqs ≠ [] →
    (s.bank b).freeze = true → exec (.arbiterDecision b []) s = .next (s.modBank b fun k => { k with grant := none })) ∧
  (∀ (s : State) (b : Fin 16), s.groupReady (b.val / 8) = true → s.link.waiting = [] → (s.bank b).owner = none → (s.bank b).reqs = [] →
    exec (.arbiterDecision b []) s = .next (s.modBank b fun k => { k.wrap with ptr := (k.wrap.ptr + 1) % 64, grant := none })) ∧
  (∀ (s : State) (b : Fin 16) (j : Fin 8) (v : BitVec 32), (s.bank b).swap = false →
    ∃ f : Sparse (BitVec 4) → Sparse (BitVec 4), exec (.slotShadowWrite b j v) s = .next (s.modBank b fun k => { k with shadow := f k.shadow }) ∧
      ∀ m, Sparse.wf 0 m = true →
        (∀ i, i < 8 → slotEntry (f m) (8 * j.val + i) =
          BitVec.ofNat 4 (if 10 < bitsOf v.toNat (4 * i) 4 then 15 else bitsOf v.toNat (4 * i) 4)) ∧
        (∀ x, (x < 8 * j.val ∨ 8 * j.val + 8 ≤ x) → slotEntry (f m) x = slotEntry m x)) ∧
  (∀ (s : State) (b : Fin 16) (j : Fin 8) (v : BitVec 32), (s.bank b).swap = true →
    exec (.slotShadowWrite b j v) s = .next ((s.modBank b fun k => { k with busyBit := true }).raise 0x0306 [(1, b.val)])) ∧
  (∀ (s : State) (b : Fin 16), exec (.swap b) s = .next (s.modBank b fun k => { k with swap := true })) ∧
  (∀ k : Bank, k.swap = true → (k.ptr = 0 → k.wrap = { k with active := k.shadow, swap := false }) ∧ (k.ptr ≠ 0 → k.wrap = k)) ∧
  (∀ (s : State) (b : Fin 16) (on : Bool), s.link.waiting = [] → exec (.freeze b on) s = .next (s.modBank b fun k => { k with freeze := on })) ∧
  (∀ (s : State) (b : Fin 16) (o : Nat), (s.bank b).owner = some o → s.link.waiting = [] →
    let k := s.bank b
    let abort (r : StoreReq) : Answer := { who := r.who, abort := true, busError := decide (r.who = 5) }
    let mine := k.reqs.filter fun r => r.who = o
    (∃ t, exec (.lockBroken b) s = .next t ∧ (t.bank b).owner = none ∧ (t.bank b).broken = true ∧
      (t.bank b).reqs = dropSeq o k.reqs ++ retryOf o (seqOf o k.reqs) ∧ (t.bank b).aborts = (seqOf o k.reqs).map abort ∧
      t.ev = ((s.setFlag fLockBroken).raise 0x0303 [(1, b.val), (1, o), (1, k.ptr)]).ev ∧ t = { s with banks := t.banks, ev := t.ev }) ∧
    (∃ t, exec (.arbWatchdog b) s = .next t ∧ (t.bank b).owner = none ∧ (t.bank b).broken = true ∧ (t.bank b).wdog = true ∧
      (t.bank b).reqs = k.reqs.filter (fun r => r.who ≠ o) ++ retryOf o mine ∧ (t.bank b).aborts = mine.map abort ∧
      t.ev = ((s.setFlag fLockBroken).raise 0x0304 [(1, b.val), (1, o), (1, k.ptr)]).ev ∧
      t = { s with banks := t.banks, ev := t.ev }) ∧
    (o ≠ 8 → o ≠ 9 → ∀ g, retryOf o g = [])) ∧
  (∀ (s : State) (b : Fin 16), (s.bank b).owner = none → exec (.lockBroken b) s = .next s ∧ exec (.arbWatchdog b) s = .next s) ∧
  (∀ (s : State) (b : Fin 16),
    ((s.bank b).overdue = false →
      exec (.scrubOverdue b) s = .next ((s.modBank b fun k => { k with overdue := true }).raise 0x0308 [(1, b.val)])) ∧
    ((s.bank b).overdue = true → exec (.scrubOverdue b) s = .next s))

/-- Requests at a bank (R40, R164, R168, R172): a request outside its requester's regions is refused with ACCESS_ERR and event
0x0307 and waits for no slot; a granted write of a whole word puts its 32 bytes at the word's address and no other byte of the
store changes; a bank that is not ready keeps its requests waiting; one without power refuses them, the MP's with a bus error
and event 0x0C05; a requester without power makes none. A bank group's initialisation (R172, R188): outside BRING_UP every byte
of a group that is initialised reads 0 but for what a wake of group 0 restores, the other group's bytes stay, its banks take
their shadow tables with FREEZE clear, keeping the requests that waited, and the group is ready; a group without power or
already initialised does not change. -/
def Obligations.StoreRequestsAndInitialisation : Prop :=
  (∀ (s : State) (b : Fin 16) (r : StoreReq), s.requesterOn r.who = true → s.groupPower (b.val / 8) = true → s.link.waiting = [] →
    s.permitted b r = false → s.groupReady (b.val / 8) = false →
    ∃ t, exec (.arbiterDecision b [r]) s = .next t ∧ (t.bank b).access = true ∧ (t.bank b).reqs = (s.bank b).reqs ∧
      (∃ row ∈ r.rows ++ [0], t.ev = (s.raiseRated 0x0307 r.who [(1, r.who), (4, wordAddr b row)]).ev) ∧
      t = { s with banks := t.banks, ev := t.ev }) ∧
  (∀ (s : State) (b : Fin 16) (r : StoreReq), s.requesterOn r.who = true → s.groupPower (b.val / 8) = false → s.link.waiting = [] →
    ∃ t, exec (.arbiterDecision b [r]) s = .next t ∧ (t.bank b).reqs = (s.bank b).reqs ∧
      ((t.bank b).answer.any fun a => a.who = r.who && a.access && a.busError = decide (r.who = 5)) = true ∧
      t.ev = (if r.who = 5 then (s.raise 0x0C05 [(1, 0), (4, wordAddr b (r.rows.headD 0))]).ev else s.ev) ∧
      t = { s with banks := t.banks, ev := t.ev }) ∧
  (∀ (s : State) (b : Fin 16) (r : StoreReq), s.requesterOn r.who = false →
    exec (.arbiterDecision b [r]) s = exec (.arbiterDecision b []) s) ∧
  (∀ (s : State) (b : Fin 16) (r : StoreReq), s.requesterOn r.who = true → s.groupPower (b.val / 8) = true → s.link.waiting = [] →
    s.permitted b r = true → s.groupReady (b.val / 8) = false →
    exec (.arbiterDecision b [r]) s = .next (s.modBank b fun k => { k with reqs := k.reqs ++ [r] })) ∧
  (∀ (s : State) (b : Fin 16) (o row : Nat) (w : BitVec 256) (rel : Bool), s.MemoryWf → s.groupReady (b.val / 8) = true → s.link.waiting = [] →
    (s.bank b).owner = none → (s.bank b).freeze = false → (s.bank b).swap = false → (s.bank b).slotOwner (s.bank b).ptr = some o →
    (s.bank b).request o = some { who := o, write := true, rows := [row], mask := 15, data := [w], lock := false, release := rel } →
    o ≠ 10 →
    ∃ t, exec (.arbiterDecision b []) s = .next t ∧
      (∀ i, i < 32 → t.store.byte (wordAddr b row + i) = BitVec.ofNat 8 (w.toNat >>> (8 * i))) ∧
      (∀ a, (a < wordAddr b row ∨ wordAddr b row + 32 ≤ a) → t.store.byte a = s.store.byte a) ∧
      t = { s with banks := t.banks, store := t.store, svc := t.svc }) ∧
  (∀ (s : State) (g : Fin 2), s.groupPower g = true → s.groupInit g = false → s.start.state ≠ .bringUp →
    (s.start.state ≠ .ready ∨ g.val = 1) → s.link.waiting = [] →
    ∃ t, exec (.bankInitDone g) s = .next t ∧ t.groupReady g = true ∧
      (∀ a, groupLo g ≤ a → a < groupHi g → t.store.byte a = 0) ∧
      (∀ a, a < 0x1000000 → (a < groupLo g ∨ groupHi g ≤ a) → t.store.byte a = s.store.byte a) ∧
      (∀ i, i < 8 → (t.bank (8 * g + i)).active = (s.bank (8 * g + i)).shadow ∧ (t.bank (8 * g + i)).freeze = false ∧
        (t.bank (8 * g + i)).owner = none ∧ (t.bank (8 * g + i)).reqs = (s.bank (8 * g + i)).reqs) ∧
      t = { s with store := t.store, banks := t.banks }) ∧
  (∀ (s : State) (g : Fin 2), (s.groupPower g = false ∨ s.groupInit g = true) → exec (.bankInitDone g) s = .next s)

/-- The effective state follows the vote (R314, R315, R316, Table 11.5): with the latch clear and the state in NORMAL or DEGRADED a
vote of DEGRADED leads to DEGRADED and a vote in the off class to FALLBACK or DARK as LBREQ decides, setting the latch once
NORMAL has been reached; a vote of NORMAL alone does not end DEGRADED; with the latch set the state lies in the off class
whatever the vote. The exchange of a millisecond (R315, R316, R317, Tables 11.5 and 11.6): the words sent are the channels' own
requests, three missing words of the SP lead to the off class; both full requests NORMAL for 1 s end DEGRADED; DEGRADED that has
lasted its time leads to the off class; full requests that differ for more than 3 s set the flag and lead to the off class; a
vote that differs raises event 0x0812. -/
def Obligations.JudgementFollowsTheVote : Prop :=
  (∀ s : State, s.safety.offLatch = false → s.safety.state.off = false → s.vote = 0 → s.judge = s) ∧
  (∀ s : State, s.safety.offLatch = false → s.safety.state.off = false → s.vote = 1 →
    s.judge.safety.state = .degraded ∧ s.judge.safety.offLatch = false) ∧
  (∀ s : State, s.vote = 2 →
    s.judge.safety.state = s.offState ∧ s.judge.safety.offLatch = (s.safety.offLatch || s.safety.firstNormal) ∧
      s.judge.safety.lbreq = s.safety.lbreq) ∧
  (∀ s : State, s.safety.offLatch = true → s.judge.safety.state = s.offState ∧ s.judge.safety.offLatch = true) ∧
  (∀ s : State, s.safety.state.off = true → s.judge.safety.state.off = true) ∧
  (∀ s : State, s.rindRuns = true → s.clk.crystal = true → s.sp.running = true → s.safety.rindCauses.getLsbD cSpWatchdog = false →
    ∃ t, exec (.requestWord true true) s = .next t ∧ t.safety.spSent = s.spOwn ∧ t.safety.rindSent = s.rindOwn ∧
      t.safety.spMiss = 0 ∧ t.safety.rindMiss = 0 ∧ t.sp.wordDone = true ∧
      (s.spOwn = 0 → s.rindOwn = 0 → s.safety.offLatch = false → s.safety.state = .normal → t.safety.state = .normal) ∧
      (s.spOwn = 2 → t.safety.state.off = true) ∧ t.store = s.store ∧ t.link = s.link) ∧
  (∀ s : State, s.rindRuns = true → s.clk.crystal = true → 2 ≤ s.safety.spMiss →
    ∃ t, exec (.requestWord false true) s = .next t ∧ t.safety.spMiss = 3 ∧ t.safety.rindCauses.getLsbD cSpWatchdog = true ∧
      t.safety.state.off = true) ∧
  (∀ s : State, s.safety.state = .degraded → s.bothNormal = true →
    ∃ t, exec .normalAgreement s = .next t ∧ t.safety.state = .normal ∧ t.safety.degMs = 0 ∧ t.grid.change = true ∧
      t = { s with safety := t.safety, grid := t.grid, zones := t.zones, ev := t.ev }) ∧
  (∀ s : State, s.safety.state = .degraded → s.rindRuns = true →
    ∃ t, exec .degTimeout s = .next t ∧ t.safety.state = s.offState ∧
      t.safety.offLatch = (s.safety.offLatch || s.safety.firstNormal) ∧ t.store = s.store ∧ t.link = s.link) ∧
  (∀ s : State, s.rindFull ≠ s.spFull → s.safety.disagree = false →
    ∃ t, exec .channelDisagree s = .next t ∧ t.safety.disagree = true ∧ t.ev.flags.getLsbD fDisagree = true ∧
      t.safety.rindCauses.getLsbD cDisagree = true ∧ t.safety.state.off = true) ∧
  (∀ s : State, s.sp.running = true → s.safety.voteBad = false →
    exec .voteMismatch s = .next (({ s with safety := { s.safety with voteBad := true } } : State).raise 0x0812
      [(1, s.spVote), (1, stateNum s.safety.state)]))

/-- Faults and lines that move the safety state (R30, R50, R101, R299, R321, R329): the end of a link hold leads to the off class
and its cause clears at once; a corrupt parameter copy gives way to the ROM parameters and ends NORMAL; a clock fault leads to
the off class; an oscillator fault makes the SP request the off class; with the safety oscillator stopped no tile emits light; a
change of LBREQ in the off class decides between FALLBACK and DARK. -/
def Obligations.FaultsLeadToTheOffClass : Prop :=
  (∀ s : State, s.link.holdRun = true → s.rindRuns = true →
    ∃ t, exec .linkHoldExpiry s = .next t ∧ t.link = { s.link with holdRun := false } ∧ t.safety.state.off = true ∧
      t.safety.rindCauses.getLsbD cLinkHold = false ∧ (s.safety.firstNormal = true → t.safety.offLatch = true) ∧ t.store = s.store) ∧
  (∀ s : State, s.safety.copy.isSome = true → s.safety.crcBad = false → s.rindRuns = true →
    ∃ t, exec (.safetyCrcCheck true) s = .next t ∧ t.safety.romParams = true ∧ t.safety.crcBad = true ∧ t.rindP = romSafety ∧
      t.safety.state ≠ .normal ∧ t.faultN = true) ∧
  (∀ s : State, exec (.safetyCrcCheck false) s = .next s) ∧
  (∀ (s : State) (b : Bool), s.safety.clockFault.getLsbD (b2n b) = false → s.rindRuns = true →
    ∃ t, exec (.clockFault b) s = .next t ∧ t.safety.clockFault.getLsbD (b2n b) = true ∧ t.safety.state.off = true ∧ t.faultN = true) ∧
  (∀ s : State, s.safety.oscFault = false → s.sp.running = true →
    ∃ t, exec (.oscillatorCheck true) s = .next t ∧ t.safety.oscFault = true ∧ t.spOwn = 2 ∧ t.faultN = true) ∧
  (∀ s : State, exec .safetyOscillatorStop s = .next { s with safety := { s.safety with oscStopped := true } } ∧
    ({ s with safety := { s.safety with oscStopped := true } } : State).dark) ∧
  (∀ (s : State) (active : Bool), s.rindRuns = true → s.safety.lbreq ≠ active →
    ∃ t, exec (.lbreq active) s = .next t ∧ t.safety.lbreq = active ∧
      (s.safety.state.off = true → t.safety.state = if active then .fallback else .dark) ∧
      t.store = s.store ∧ t.link = s.link ∧ t.comp = s.comp)

/-- The limiter, the compare and the stall deadline (R306, R308, R309, R312, R313, R325, R326): a tick runs the limiter for 1 ms
into the pending set, leaves the active set, and cuts a tile that R325 or R326 names; a second difference of the clamp sets
running makes the SP request DEGRADED; a stall deadline met ends without effect, a missed one with CAP tightened leads to the
off class, and a third stall blanking within a second makes the Rind request DEGRADED, until 10 s have passed. -/
def Obligations.LimiterTicksAndStalls : Prop :=
  (∀ s : State, s.rindRuns = true → s.zones.diffRun = 0 →
    ∃ t, exec .limiterTick s = .next t ∧ t.clk = { s.clk with tb3 := (s.clk.tb3 / 1000000 + 1) * 1000000 } ∧
      t.zones.lim = limiterRun s.rindP s.degraded 1 s.zones.lim ∧ t.zones.pending = some (clampSetOf s.rindP t.zones.lim) ∧
      t.zones.active = s.zones.active ∧
      (∀ n, n < 64 → (s.stuckCut n = true ∨ s.segmentCut n = true) → t.isCut n = true) ∧
      t = { s with clk := t.clk, zones := t.zones, safety := t.safety, ev := t.ev }) ∧
  (∀ s : State, s.sp.running = true → s.zones.diffRun = 1 → s.zones.sameRun = 1 →
    ∃ t, exec .setMismatch s = .next t ∧ t.zones.diffRun = 2 ∧ t.zones.sameRun = 0 ∧ t.safety.spCauses.getLsbD cSetDiff = true ∧
      1 ≤ t.spOwn) ∧
  (∀ (s : State) (x : Stall), s.zones.stall = some x → s.rindRuns = true →
    (s.unscanned x = [] → exec .stallBlank s = .next { s with zones := { s.zones with stall := none } }) ∧
    (s.unscanned x ≠ [] → x.capped = true →
      ∃ t, exec .stallBlank s = .next t ∧ t.zones.stall = none ∧ t.safety.state.off = true) ∧
    (s.unscanned x ≠ [] → x.capped = false →
      ∃ t, exec .stallBlank s = .next t ∧ t.zones.stall = none ∧
        t.zones.stalls = (s.zones.stalls.filter fun y => s.clk.tb3 < y + 1000000000) ++ [s.clk.tb3] ∧
        (3 ≤ t.zones.stalls.length → t.safety.rindCauses.getLsbD cStall = true) ∧ t.store = s.store)) ∧
  (∀ s : State, s.safety.rindCauses.getLsbD cStall = true →
    ∃ t, exec .stallRequestExpiry s = .next t ∧ t.safety.rindCauses.getLsbD cStall = false ∧ t.store = s.store ∧ t.link = s.link)

/-- The MP's watchdog (R364, R365): a service in its window starts the next one, outside it is a bite; a bite raises event 0x0C01,
makes the SP request DEGRADED and restarts the MP, and the third within 600 s leaves it off with event 0x0C03; its ready report
after a restart withdraws the request; without firmware there is no report. The SP's supervision (R364, R367): the next value in
its window is a service; a window missed is a bite: the SP is reset, the Rind requests the off class and takes the SAFETY
defaults as targets, the third bite within 600 s keeping the SP in reset; a restart raises event 0x0C08; three heartbeats
without an advance are a fault and make the SP request the off class. -/
def Obligations.WatchdogsBiteAndRestart : Prop :=
  (∀ (s : State) (dt : Nat), let u := s.elapse dt
    u.mpWatched = true → u.mp.ready = true →
    (inWindow 25 100 (u.now1 - u.mp.lastServ) = true →
      exec (.mpWatchdogService dt) s = .next { u with mp := { u.mp with lastServ := u.now1 } }) ∧
    (inWindow 25 100 (u.now1 - u.mp.lastServ) = false → exec (.mpWatchdogService dt) s = .next u.mpBite)) ∧
  (∀ s : State, s.mpWatched = true →
    let times := recentBites s.mp.bites s.now1
    let v : State := (s.raise 0x0C01 []).setCause false cMpBite true
    let u : State := { v with mp := { v.mp with bites := times } }
    ∃ t, exec .mpWatchdog s = .next t ∧ t.mp.ready = false ∧ t.mp.bites = times ∧ t.safety.spCauses.getLsbD cMpBite = true ∧
      t.nvm.reserve = 0 ∧
      (times.length < 3 → t = u.restartMp ∧ t.mp.restarts = sat32 (s.mp.restarts + 1) ∧ t.power = s.power) ∧
      (3 ≤ times.length → t.mp.heldOff = true ∧ t.mp.code = none ∧ t.power = { s.power with pd10 := false } ∧
        ∃ w : State, w.ev = u.cyclePd10.ev ∧ t = w.raise 0x0C03 []) ∧
      t.link = s.link ∧ t.comp = s.comp ∧ t.fuse = s.fuse) ∧
  (∀ s : State, s.mpWatched = true → s.mp.ready = false → s.mpLoaded = true → s.start.state = .ready → s.link.waiting = [] →
    ∃ t, exec .mpRestartReady s = .next t ∧ t.mp.ready = true ∧ t.mp.lastServ = s.now1 ∧
      t.safety.spCauses.getLsbD cMpBite = false ∧ t.start = s.start ∧ t.clk = s.clk) ∧
  (∀ s : State, s.mpLoaded = false → exec .mpRestartReady s = .next s) ∧
  (∀ s : State, s.sp.running = true → s.sp.wordDone = true → s.rindRuns = true →
    (inWindow 5 20 (s.clk.tb3 - s.sp.lastServ) = true →
      exec (.spWatchdogService s.sp.wdSeq) s = .next { s with sp := { s.sp with
        wdSeq := s.sp.wdSeq + 1, lastServ := s.clk.tb3, wordDone := false } }) ∧
    (inWindow 5 20 (s.clk.tb3 - s.sp.lastServ) = false → exec (.spWatchdogService s.sp.wdSeq) s = .next s.spBite)) ∧
  (∀ (s : State) (v : BitVec 8), v ≠ s.sp.wdSeq → exec (.spWatchdogService v) s = .next s) ∧
  (∀ s : State, s.sp.running = true → s.rindRuns = true →
    ∃ t, exec .spWatchdog s = .next t ∧
      t = (({ s with sp := t.sp } : State).setCause true cSpWatchdog true).defaultTargets ∧ t.sp.running = false ∧ t.sp.bites = recentBites s.sp.bites s.clk.tb3 ∧
      t.sp.heldOff = decide (3 ≤ (recentBites s.sp.bites s.clk.tb3).length) ∧ t.safety.rindCauses.getLsbD cSpWatchdog = true ∧
      t.safety.state.off = true ∧ t.store = s.store ∧ t.link = s.link) ∧
  (∀ s : State, s.sp.running = false → s.sp.heldOff = false → s.sp.bites ≠ [] → s.link.waiting = [] →
    ∃ t, exec .spRestarted s = .next t ∧
      t.sp = { s.sp with running := true, wdSeq := 0, lastServ := s.clk.tb3, wordDone := false, stalled := 0 } ∧
      t.zones.spLim = s.zones.lim ∧ t.ev = (s.raise 0x0C08 []).ev ∧ t = { s with sp := t.sp, zones := t.zones, ev := t.ev }) ∧
  (∀ (s : State) (n : Nat), s.sp.running = true →
    (n ≠ s.sp.beat → exec (.rindHeartbeat n) s = .next { s with sp := { s.sp with beat := n, stalled := 0 } }) ∧
    (n = s.sp.beat → 2 ≤ s.sp.stalled → s.sp.beatFault = false →
      ∃ t, exec (.rindHeartbeat n) s = .next t ∧ t.sp.beatFault = true ∧ t.spOwn = 2 ∧ t.faultN = true))

/-- The MP's heat policy (R341, R343, R344, R345): a tick sets f_p from the mean power, a tile whose junction estimate reaches
SHUT_C is shut down and its request falls to 0; before the MP is ready there is no tick; a shut tile below RETRY_C returns with
event 0x0907. The hard cut (R346, R347, R349): where its sources decide, every tile of the target is cut with event 0x0909,
below 135 degC the cut is released, but a latched tile stays cut; the third cut of a tile within 600 s is latched with
THERMAL_LATCH; the SP's first heat record stands in the flash as it was written. -/
def Obligations.HeatPolicyAndHardCuts : Prop :=
  (∀ (s : State) (mv ma : Nat) (branch : List Nat), s.mp.ready = true →
    ∃ t, exec (.mpPolicyTick mv ma branch) s = .next t ∧ t.policy.fp = nextPower s.policy.fp mv ma ∧
      (∀ n, n < 64 → (s.heat n).shut = false → ofS124 s.img.thermal.shutC ≤ s.junction n mv (branch.getD (quadOfTile n) 0) →
        (t.heat n).shut = true ∧ (t.tile n).req = 0) ∧
      t = { s with policy := t.policy, drive := { s.drive with branchMa := t.drive.branchMa }, tiles := t.tiles, leg := t.leg
                   ev := t.ev }) ∧
  (∀ (s : State) (mv ma : Nat) (branch : List Nat), s.mp.ready = false → exec (.mpPolicyTick mv ma branch) s = .next s) ∧
  (∀ fp mv ma : Nat, fp ≤ fxOne → nextPower fp mv ma ≤ fxOne ∧
    (mv * ma * 10 ≤ 9 * min (12000 * mv) 40000000 → fp ≤ nextPower fp mv ma)) ∧
  (∀ (s : State) (n : Fin 64), s.mp.ready = true → (s.heat n).shut = true → (s.heat n).tj < ofS124 s.img.thermal.retryC →
    exec (.shutdownRetry n) s = .next ((s.modHeat n fun x => { x with shut := false }).raise 0x0907
      [(1, n.val), (2, toField 16 (toS124 (s.heat n).tj))])) ∧
  (∀ (s : State) (g : Fin 68), s.cutDecides g ≠ [] → (s.hcut g).cut = false →
    ∃ t, exec (.hardCut g) s = .next t ∧ (t.hcut g).cut = true ∧ (t.hcut g).srcs = s.cutDecides g ∧
      (∀ n ∈ cutTiles g, t.isCut n = true) ∧
      (∀ n ∈ cutTiles g, 2 ≤ ((s.heat n).cutTimes.filter fun x => decide (s.clk.tb3 < x + 600000000000)).length →
        (t.heat n).cutLatch = true) ∧
      t = { s with policy := t.policy, safety := t.safety, leg := t.leg, ev := t.ev }) ∧
  (∀ (s : State) (g : Fin 68), s.cutDecides g = [] → exec (.hardCut g) s = .next s) ∧
  (∀ (s : State) (g : Fin 68), (s.hcut g).cut = true → (∀ x ∈ (s.hcut g).srcs, s.readsHot x coolRaw = false) →
    ∃ t, exec (.hardCutRelease g) s = .next t ∧ t.policy.cuts = s.policy.cuts.set {} g {} ∧
      (∀ n ∈ cutTiles g, (s.heat n).cutLatch = true → t.isCut n = true) ∧
      t = { s with policy := t.policy, safety := t.safety, ev := t.ev }) ∧
  (∀ (s : State) (kind : Fin 7) (g : Fin 68), s.MemoryWf → kind.val ≠ 0 → s.sp.running = true →
    (∀ c ∈ s.flash.recs, c.1 < heatBase ∨ heatBase + 8192 ≤ c.1) → s.spFits 64 1 = true →
    ∃ t, exec (.heatRecordWrite kind g) s = .next t ∧ t.flash.bytes heatBase 64 = s.heatEntry 0 kind.val g ∧
      t.flash.slotA = s.flash.slotA ∧ t.flash.slotB = s.flash.slotB ∧
      t = { s with flash := t.flash, nvm := t.nvm, affin := t.affin, ev := t.ev })

/-- Affinage weights and charges (R350, R351, R352, R355): AFF_W_WRITE gives every tile its weight, 0 for a tile that is cut or
held, and counts a second of operation where the module operates; a charge adds to a block's counter the whole part of its
stress and at most one more, saturating at 2^32 - 1; with no tile held FILL_CHARGE charges nothing. Saves and the reservation
(R354, R369, R370): a save the budgets do not allow is deferred with event 0x0A02 and writes nothing; one they allow takes the
next slot and SAVE_SEQ; a deferred save is repeated as a save; a RESERVE the level covers moves its bytes into the reservation,
one it does not leaves none. -/
def Obligations.AffinageChargesAndSaves : Prop :=
  (∀ s : State, s.mp.ready = true →
    ∃ t, exec .affWWrite s = .next t ∧
      (∀ n, n < 64 → t.affin.weights.get 0 n =
        if s.isCut n = true ∨ s.isHeld n = true then 0 else weightOf s.img.aff (s.tile n).applied.toNat (s.heat n).tj) ∧
      t.affin.opS = (if s.operates then sat32 (s.affin.opS + 1) else s.affin.opS) ∧
      t = { s with affin := { s.affin with weights := t.affin.weights, opS := t.affin.opS } }) ∧
  (∀ (s : State) (k sigma units w : Nat), s.MemoryWf → s.store.flips = [] → s.svc.perturb = [] →
    ((s.chargeBlock k sigma units w).counter k = min 0xFFFFFFFF (s.counter k + sigma * units * w / 2 ^ 48) ∨
      (s.chargeBlock k sigma units w).counter k = min 0xFFFFFFFF (s.counter k + sigma * units * w / 2 ^ 48 + 1)) ∧
    (∀ j, j ≠ k → (s.chargeBlock k sigma units w).counter j = s.counter j)) ∧
  (∀ s : State, s.mp.ready = true → s.groupReady 0 = true →
    ((∀ n, n < 64 → s.isHeld n = false ∨ s.isCut n = true) → exec .fillCharge s = .next s) ∧
    (∃ t, exec .fillCharge s = .next t ∧
      t = { s with store := t.store, affin := t.affin, svc := t.svc, banks := t.banks, ev := t.ev })) ∧
  (∀ s : State, s.mp.ready = false → exec .fillCharge s = .next s ∧ exec .affWWrite s = .next s) ∧
  (∀ s : State, s.mp.ready = true → s.groupReady 0 = true →
    (s.eraseFits 64 = false →
      ∃ t, exec .affinageSave s = .next t ∧ t.affin = { s.affin with deferred := true } ∧ t.flash = s.flash ∧ t.store = s.store ∧
        (∃ w : State, t = w.raise 0x0A02 [])) ∧
    (s.eraseFits 64 = true → affBody + 64 ≤ s.nvmRefill.nvm.prog →
      ∃ t, exec .affinageSave s = .next t ∧ t.affin.saveSlot = s.nextSave.1 ∧
        t.affin.saveSeq = BitVec.ofNat 32 s.nextSave.2 ∧ t.affin.deferred = false ∧ t.fuse = s.fuse ∧ t.comp = s.comp) ∧
    (s.affin.deferred = true → exec .saveDeferred s = exec .affinageSave s)) ∧
  (∀ s : State, s.affin.deferred = false → exec .saveDeferred s = .next s) ∧
  (∀ (s : State) (n : BitVec 23), s.mp.ready = true →
    (n.toNat ≤ s.nvmRefill.nvm.prog →
      exec (.reserve n) s = .next (s.setNvm { s.nvmRefill.nvm with
        prog := s.nvmRefill.nvm.prog - n.toNat, reserve := n.toNat, reserveOk := true })) ∧
    (s.nvmRefill.nvm.prog < n.toNat →
      exec (.reserve n) s = .next (s.setNvm { s.nvmRefill.nvm with reserve := 0, reserveOk := false })))

/-- Flash commands (R368, R369): one outside its writer's regions is refused with event 0x0C05; one its budget allows begins at once
or waits, and no byte changes before it completes; an image slot takes commands in an unlocked session only (R41); a completed
program has put its bytes into erased flash, a completed erase left its sector 0xFF, and the waiting command of the highest
priority follows; an IMAGE_ERASE goes on with its next sector and ends with event 0x0B09 (R79, R80). The MP's records (R369,
R411, R412): a write its budgets allow lands in erased flash, one they do not is refused whole; the start log is written once a
start, after its outcome; the fault map is saved only when it has changed and is clean afterwards; the history goes on in the
newest sector's first free entry. -/
def Obligations.FlashCommandsAndRecords : Prop :=
  (∀ (s : State) (c : FlashCmd), s.cmdAllowed c = false →
    exec (.flashCommand c) s = .next (s.raise 0x0C05 [(1, 1), (4, c.addr)])) ∧
  (∀ (s : State) (c : FlashCmd), s.cmdAllowed c = true → s.cmdFits c = true →
    (s.flash.cur = none →
      ∃ t, exec (.flashCommand c) s = .next t ∧ t.flash = { s.flash with cur := some { cmd := c } } ∧ t = { s with flash := t.flash, nvm := t.nvm }) ∧
    (s.flash.cur ≠ none →
      ∃ t, exec (.flashCommand c) s = .next t ∧ t.flash = { s.flash with wait := s.flash.wait ++ [{ cmd := c }] } ∧
        t = { s with flash := t.flash, nvm := t.nvm })) ∧
  (∀ (s : State) (c : FlashCmd), s.cmdAllowed c = true → s.cmdFits c = false →
    ∃ t, exec (.flashCommand c) s = .next t ∧ t.flash = s.flash ∧ t = { s with nvm := t.nvm, ev := t.ev }) ∧
  (∀ (s : State) (c : FlashCmd), c.writer = 2 → s.svc.state ≠ .unlocked → s.cmdAllowed c = false) ∧
  (∀ (s : State) (c : FlashCmd), s.MemoryWf → s.flash.cur = some { cmd := c } → 0x1800000 ≤ c.addr →
    (c.erase = false → (∀ i, i < c.data.length → s.flash.byte (c.addr + i) = 0xFF) →
      ∃ t, exec .flashCommandDone s = .next t ∧ (∀ i, i < c.data.length → t.flash.byte (c.addr + i) = c.data.getD i 0) ∧
        (∀ a, (a < c.addr ∨ c.addr + c.data.length ≤ a) → t.flash.byte a = s.flash.byte a) ∧ t = { s with flash := t.flash }) ∧
    (c.erase = true →
      ∃ t, exec .flashCommandDone s = .next t ∧ (∀ a, a / 4096 = c.addr / 4096 → t.flash.byte a = 0xFF) ∧
        (∀ a, a / 4096 ≠ c.addr / 4096 → t.flash.byte a = s.flash.byte a) ∧
        t = { s with flash := t.flash, affin := t.affin, ev := t.ev })) ∧
  (∀ (s : State) (c d : FlashJob) (l m : List FlashJob), s.flash.cur = some c → c.more = 0 → s.flash.wait = l ++ d :: m →
    1 ≤ d.cmd.writer → d.cmd.writer ≤ 3 → (∀ x ∈ l, d.cmd.writer < x.cmd.writer) → (∀ x ∈ m, d.cmd.writer ≤ x.cmd.writer) →
    ∃ t, exec .flashCommandDone s = .next t ∧ t.flash.cur = some d ∧ t.flash.wait = l ++ m) ∧
  (∀ (s : State) (j : FlashJob), s.flash.cur = some j → 0 < j.more → (∀ x ∈ s.flash.wait, 2 ≤ x.cmd.writer) → j.cmd.writer = 2 →
    ∃ t, exec .flashCommandDone s = .next t ∧ t.flash.wait = s.flash.wait ∧
      t.flash.cur = some { j with cmd := { j.cmd with addr := j.cmd.addr + 4096 }, more := j.more - 1 }) ∧
  (∀ (s : State) (j : FlashJob), s.flash.cur = some j → j.more = 0 → j.op ≠ 0 →
    ∃ t, exec .flashCommandDone s = .next t ∧ ∃ w : State,
      t = w.raise 0x0B09 [(2, j.op), (1, if j.cmd.addr < 0xC00000 then 0 else 1), (1, 0)]) ∧
  (∀ (s : State) (a : Nat) (bs : List Byte), s.MemoryWf → 0x1800000 ≤ a →
    (s.eraseFits 0 = true → (s.payErase 0).progFits bs.length = true → (∀ i, i < bs.length → s.flash.byte (a + i) = 0xFF) →
      (s.mpWrite a bs false).flash.bytes a bs.length = bs) ∧
    (s.eraseFits 1 = false → (s.mpWrite a bs true).flash = s.flash)) ∧
  (∀ s : State, s.start.outcome.isSome = true → s.start.logged = false →
    let i := match s.lastStart with | some p => (p.2 + 1) % 4096 | none => 0
    let u := s.mpWrite (startLogBase + 64 * i) s.startEntry (i % 64 = 0)
    exec .startLogWrite s = .next { u with start := { u.start with logged := true } }) ∧
  (∀ s : State, (s.start.outcome = none ∨ s.start.logged = true) → exec .startLogWrite s = .next s) ∧
  (∀ s : State, s.mp.ready = true → s.diag.mapDirty = true → s.groupReady 0 = true →
    (s.budgetAllows (1 + ceilDiv s.mapBody.length 4096) (s.mapBody.length + 64) = true →
      ∃ t, exec .faultMapSave s = .next t ∧ t.diag = { s.diag with mapDirty := false } ∧
        t.flash = (s.saveCopy mapMagic mapCopies s.mapBody).flash) ∧
    (s.budgetAllows (1 + ceilDiv s.mapBody.length 4096) (s.mapBody.length + 64) = false →
      ∃ t, exec .faultMapSave s = .next t ∧ t.diag = s.diag ∧ t.flash = s.flash)) ∧
  (∀ s : State, s.diag.mapDirty = false → exec .faultMapSave s = .next s) ∧
  (∀ s : State, s.mp.ready = true →
    (s.histLast = none → exec .telemetryHistory s = .next (s.histSector 0 1)) ∧
    (∀ p a, s.histLast = some p → s.histFree p.1 = some a → exec .telemetryHistory s = .next (s.mpWrite a s.histEntry false)))

/-- Event reporting (R404, R405, R406, R407, R408): the waiting records leave in order, as many as a packet holds, and none in the
legacy personality; a rated event is raised at its first occurrence with count 1, further ones within its second are counted,
and the second ends with the event raised again with that count, or closes; raising an event gives it the next SEQ and touches
nothing but the event memory. -/
def Obligations.EventsAreReportedInOrder : Prop :=
  (∀ s : State, s.start.pers ≠ .legacy → (∃ e ∈ s.ev.ring, e.pkt = 0) →
    ∃ t, exec .eventPacket s = .next t ∧ t.ev.formed = s.ev.formed + 1 ∧
      t.ev.ring.map (fun e => { e with pkt := 0 }) = s.ev.ring.map (fun e => { e with pkt := 0 }) ∧
      t = { s with ev := { s.ev with formed := t.ev.formed, ring := t.ev.ring } }) ∧
  (∀ s : State, s.start.pers = .legacy → exec .eventPacket s = .next s) ∧
  (∀ (s : State) (code key : Nat) (data : List (Nat × Nat)), let hit (w : Window) : Prop := w.code = BitVec.ofNat 16 code ∧ w.key = key
    ((∀ w ∈ s.ev.windows, ¬ hit w) →
      s.raiseRated code key data = { s with ev := { (s.raise code (ratedData code 1 data)).ev with
        windows := s.ev.windows ++ [{ code := BitVec.ofNat 16 code, key := key, count := 0, data := data }] } }) ∧
    ((∃ w ∈ s.ev.windows, hit w) →
      let t := (s.raiseRated code key data).ev.windows
      s.raiseRated code key data = { s with ev := { s.ev with windows := t } } ∧ t.length = s.ev.windows.length ∧
        (∀ (i : Nat) (w : Window), s.ev.windows[i]? = some w →
          (hit w → t[i]? = some { w with count := min 0xFFFFFFFF (w.count + 1), data := data }) ∧ (¬ hit w → t[i]? = some w)))) ∧
  (∀ (s : State) (code : BitVec 16) (key : Nat) (w : Window),
    s.ev.windows.find? (fun x => x.code = code && x.key = key) = some w →
    (w.count = 0 → exec (.eventRateWindow code key) s = .next { s with ev := { s.ev with
      windows := s.ev.windows.filter fun x => !(x.code = code && x.key = key) } }) ∧
    (w.count ≠ 0 → ∃ t, exec (.eventRateWindow code key) s = .next t ∧ t.ev.next = s.ev.next + 1 ∧
      t.ev.ring = (s.raise code.toNat (ratedData code.toNat w.count w.data)).ev.ring ∧
      t.ev.windows = s.ev.windows.map (fun x => if x.code = code && x.key = key then { x with count := 0 } else x) ∧
      t = { s with ev := t.ev })) ∧
  (∀ (s : State) (code : Nat) (data : List (Nat × Nat)), (s.raise code data).ev.next = s.ev.next + 1 ∧
    (s.raise code data).ev.flags = s.ev.flags ∧ s.raise code data = { s with ev := (s.raise code data).ev }) ∧
  (∀ (s : State) (code : Nat) (data : List (Nat × Nat)), s.mp.ready = true →
    (s.ev.ring.map Event.size).foldl (· + ·) 0 + (16 + 4 * dataWords data) ≤ 16384 →
    ∃ e, (s.raise code data).ev.ring = s.ev.ring ++ [e] ∧ e.code = BitVec.ofNat 16 code ∧ e.seq = s.ev.next ∧ e.data = data)

/-- Legacy register writes (R380, R384, R389, R392, Table 14.3): a REG_WRITE of one register stores its writable bits and, where the
register acts on the light, binds that effect to the next latch point whose cutoff has not passed; CTRL.SOFT_RESET returns every
RW register to its reset value with event 0x0D07; a write of FAULT_IDX takes the snapshot of the fault list; a write outside the
map is answered OUT_OF_RANGE and changes no register. -/
def Obligations.LegacyWritesTakeEffect : Prop :=
  (∀ (s : State) (dt : Nat) (f : T512Frame) (v : Byte), let u := s.elapse dt
    let a := f.arg.toNat
    u.takesFrame f → f.payload = [v] → a < 0x80 → ¬ (a = 4 ∧ v.getLsbD 7 = true) →
    ∃ t, exec (.regWrite dt f) s = .next t ∧ u.ackedT512 t f 0 ∧
      t.leg.regs = (if legMask a = 0 then u.leg.regs else u.leg.regs.set 0 a ((v &&& legMask a) ^^^ legReset a)) ∧
      t.leg.light = (if legLight a = true then u.leg.light ++ [(u.boundFor (u.capture 0), a, v &&& legMask a)] else u.leg.light) ∧
      t.leg.rows = u.leg.rows ∧ t.leg.status = u.leg.status ∧ t = { u with leg := t.leg, portA := t.portA }) ∧
  (∀ (s : State) (dt : Nat) (f : T512Frame), let u := s.elapse dt
    u.takesFrame f → (f.payload = [] ∨ 0x80 < f.arg.toNat + f.payload.length) →
    ∃ t, exec (.regWrite dt f) s = .next t ∧ u.ackedT512 t f 2 ∧ t.leg.regs = u.leg.regs ∧ t.leg.light = u.leg.light ∧
      t.ev = (u.raise 0x0D05 [(1, 1), (1, 2)]).ev ∧ t = { u with leg := t.leg, portA := t.portA, ev := t.ev }) ∧
  (∀ (s : State) (dt : Nat) (f : T512Frame) (v : Byte), let u := s.elapse dt
    u.takesFrame f → f.arg = 4 → f.payload = [v] → v.getLsbD 7 = true →
    ∃ t, exec (.softReset dt f) s = .next t ∧ u.ackedT512 t f 0 ∧ (∀ a, t.legReg a = legReset a) ∧
      t.leg.light = u.leg.light ++ (((List.range 128).filter legLight).map fun a => (u.boundFor (u.capture 0), a, legReset a)) ∧
      t.ev = (u.raise 0x0D07 []).ev ∧ t.leg.snap = u.leg.snap ∧ t.leg.rows = u.leg.rows ∧ t = { u with leg := t.leg, portA := t.portA, ev := t.ev }) ∧
  (∀ (s : State) (f : T512Frame) (lo hi : Byte), s.takesFrame f → f.arg = 0x0D → f.payload = [lo, hi] →
    ∃ t, exec (.faultIdxWrite f) s = .next t ∧ s.ackedT512 t f 0 ∧ t.leg.snap = s.failedBlocks ∧
      t.leg.regs = (s.leg.regs.set 0 0x0D lo).set 0 0x0E hi ∧ t.leg.light = s.leg.light ∧ t = { s with leg := t.leg, portA := t.portA })

/-- Legacy register reads (R389, R390, R392, Tables 14.3, 14.4, 14.7): a REG_READ in range is answered with the bytes of consecutive
registers, each read in turn with its side effect: STATUS is cleared, with DEGRADED and FALLBACK of the present state;
LINK_ERR_CNT is cleared; a low byte latches its high byte; a read of 0x10 steps FAULT_IDX; FAULT_ENTRY names a block of the
snapshot, 0xFFFF past its end; an RW register reads as it holds. -/
def Obligations.LegacyReadsAnswerAndAct : Prop :=
  (∀ (s : State) (f : T512Frame) (n : Byte), s.takesFrame f → f.payload = [n] → 1 ≤ n.toNat → n.toNat ≤ 128 →
    f.arg.toNat + n.toNat ≤ 0x80 →
    ∀ c ∈ [Instr.regRead f, .faultEntryRead f, .legacyStatusRead f, .linkErrCntRead f, .lowByteRead f],
      let r := s.legReads f.arg.toNat n.toNat
      let a : T512Reply := { type := 0x82, seq := f.seq, arg := f.arg, payload := r.2 }
      ∃ t, exec c s = .next t ∧ s.repliedT512 t f a ∧ t = { r.1 with portA := t.portA, leg := { r.1.leg with
        lastSeq := some f.seq, lastReply := some a, replies := s.leg.replies ++ [a], badRun := 0 } }) ∧
  (∀ s : State, (s.legRead 3).1.leg = { s.leg with status := 0 } ∧
    (s.legRead 3).2.getLsbD 2 = decide (s.safety.state = .fallback) ∧
    (s.legRead 3).2.getLsbD 1 = decide (s.safety.state = .degraded) ∧
    (∀ i, i < 8 → i ≠ 1 → i ≠ 2 → (s.legRead 3).2.getLsbD i = s.leg.status.getLsbD i)) ∧
  (∀ s : State, s.legRead 0x12 = ({ s with leg := { s.leg with errCnt := 0 } }, BitVec.ofNat 8 s.leg.errCnt)) ∧
  (∀ (s : State) (a v : Nat), (a = 0x0B ∧ v = min 0xFFFF s.failedBlocks.length ∨ a = 0x0D ∧ v = s.faultIdx ∨ a = 0x0F ∧ v = s.faultEntry) →
    s.legRead a = ({ s with leg := { s.leg with hi := s.leg.hi.set 0 a (BitVec.ofNat 8 (v / 256)) } }, BitVec.ofNat 8 v) ∧
    (s.legRead (a + 1)).2 = s.leg.hi.get 0 a) ∧
  (∀ s : State,
    (s.legRead 0x10).1 = { s with leg := { s.leg with
      regs := (s.leg.regs.set 0 0x0D (BitVec.ofNat 8 (s.faultIdx + 1))).set 0 0x0E (BitVec.ofNat 8 ((s.faultIdx + 1) / 256)) } } ∧
    (∀ k, s.leg.snap[s.faultIdx]? = some k → s.faultEntry = k % 512 * 128 + k / 512) ∧
    (s.leg.snap.length ≤ s.faultIdx → s.faultEntry = 0xFFFF)) ∧
  (∀ (s : State) (a : Nat), (a = 4 ∨ a = 5 ∨ a = 8 ∨ a = 9 ∨ a = 0x0A ∨ (0x40 ≤ a ∧ a ≤ 0x7F)) → s.legRead a = (s, s.legReg a))

/-- Rows and SHOW (R380, R382, R383): a LINES frame in range writes each row into the row's working copy, a free one where it has
none, at its place in region 5, and changes no other byte; SHOW before READY is answered NOT_READY; at READY it takes slot 0, or
slot 1 where slot 0 is bound to another latch point, with the working copies committed; inside the guard it also sets
COMMIT_LATE with event 0x0D03. -/
def Obligations.LinesAndShowMoveTheRows : Prop :=
  (∀ (s : State) (dt : Nat) (f : T512Frame) (n : Nat), let u := s.elapse dt
    let v := f.arg.toNat
    u.takesFrame f → u.MemoryWf → f.payload.length = 512 * n → 1 ≤ n → n ≤ 8 → v + n ≤ 128 → u.power.pd4 = true → u.power.pd5 = true →
    u.storeBlocked (u.regionBase 5 + 512 * v) (u.regionBase 5 + 512 * v + 0x30000 + 512 * n) = false →
    ¬ (u.isReady = true ∧ v + n = 128 ∧ (u.legReg 4).getLsbD 1 = true) →
    let copy (r : Nat) : Nat := if (u.legRow r).work = 4 then (u.legRow r).freeCopy else (u.legRow r).work
    let addr (r : Nat) : Nat := u.regionBase 5 + 0x10000 * copy r + 512 * r
    ∃ t, exec (.lines dt f) s = .next t ∧ u.ackedT512 t f 0 ∧
      (∀ r i, v ≤ r → r < v + n → i < 512 → t.store.byte (addr r + i) = f.payload.getD (512 * (r - v) + i) 0) ∧
      (∀ a, (∀ r, v ≤ r → r < v + n → a < addr r ∨ addr r + 512 ≤ a) → t.store.byte a = u.store.byte a) ∧
      (∀ r, v ≤ r → r < v + n → t.legRow r = { u.legRow r with work := copy r }) ∧
      (∀ r, (r < v ∨ v + n ≤ r) → t.legRow r = u.legRow r) ∧
      t = { u with leg := t.leg, portA := t.portA, store := t.store, svc := t.svc }) ∧
  (∀ (s : State) (dt : Nat) (f : T512Frame), let u := s.elapse dt
    u.takesFrame f → f.arg = 0 → f.payload = [] →
    (u.isReady = false → ∃ t, exec (.showRows dt f) s = .next t ∧ u.ackedT512 t f 3 ∧ t.leg.slot0 = u.leg.slot0 ∧
      t.leg.slot1 = u.leg.slot1 ∧ t.leg.rows = u.leg.rows ∧ t = { u with leg := t.leg, portA := t.portA, ev := t.ev }) ∧
    (u.isReady = true →
      let due := u.boundFor (u.capture 0)
      let one := u.leg.slot0 ≠ some due ∧ (u.leg.slot1 = some due ∨ u.leg.slot0 ≠ none)
      ∃ t, exec (.showRows dt f) s = .next t ∧ u.ackedT512 t f 0 ∧
        (one → t.leg.slot1 = some due ∧ t.leg.seq1 = f.seq ∧ t.leg.slot0 = u.leg.slot0) ∧
        (¬ one → t.leg.slot0 = some due ∧ t.leg.seq0 = f.seq ∧ t.leg.slot1 = u.leg.slot1) ∧
        (u.grid.lastL ≤ u.now2 → u.cutoffOf u.grid.nextG ≤ u.stamp 0 u.now0 → t.ev = ((u.setFlag fCommitLate).raise 0x0D03 [(1, f.seq.toNat)]).ev) ∧
        (u.grid.lastL ≤ u.now2 → u.stamp 0 u.now0 < u.cutoffOf u.grid.nextG → t.ev = u.ev) ∧ t = { u with leg := t.leg, portA := t.portA, ev := t.ev }))

/-- Echo, rejections, duplicates, failing frames and the handshake (R77, R378, R380, R381): an echo returns its payload; a TYPE that
is no host type is answered with status 1; a duplicate is not executed and gets the stored reply again; a frame that fails is
answered with a NAK of the last accepted SEQ and counted, the fifth in a row is link down; the sixteenth HS set is link-up, and
four sets after it are link down. -/
def Obligations.LegacyFramesAreAnswered : Prop :=
  (∀ (s : State) (f : T512Frame), s.takesFrame f → f.payload.length ≤ 4096 →
    ∃ t, exec (.legacyEcho f) s = .next t ∧ s.repliedT512 t f { type := 0x85, seq := f.seq, arg := f.arg, payload := f.payload } ∧
      t.leg.regs = s.leg.regs ∧ t = { s with leg := t.leg, portA := t.portA }) ∧
  (∀ (s : State) (ty : BitVec 8) (f : T512Frame), s.takesFrame f → (ty = 0 ∨ 5 < ty.toNat) →
    ∃ t, exec (.frameRejected ty f) s = .next t ∧ s.ackedT512 t f 1 ∧
      t.ev = (s.raise 0x0D05 [(1, ty.toNat), (1, 1)]).ev ∧ t.leg.regs = s.leg.regs ∧ t = { s with leg := t.leg, portA := t.portA, ev := t.ev }) ∧
  (∀ (s : State) (f : T512Frame) (r : T512Reply), s.legacyUp = true → s.mp.ready = true → s.link.waiting = [] →
    s.leg.lastSeq = some f.seq → s.leg.lastReply = some r → f.payload.length ≤ 360448 →
    ∀ c ∈ [Instr.regRead f, .faultEntryRead f, .legacyStatusRead f, .linkErrCntRead f, .lowByteRead f, .legacyEcho f, .faultIdxWrite f],
      ∃ t, exec c s = .next t ∧ t.leg = { s.leg with badRun := 0, replies := s.leg.replies ++ [r] } ∧ s.sentT512 t r ∧
        t = { s with leg := t.leg, portA := t.portA }) ∧
  (∀ (s : State) (noRoom : Bool) (q : BitVec 8), s.legacyUp = true → s.leg.lastSeq = some q → (noRoom = true ∨ s.leg.badRun < 4) →
    ∃ t, exec (.frameNak noRoom) s = .next t ∧ t.leg.replies = s.leg.replies ++ [{ type := 0x83, seq := q }] ∧
      s.sentT512 t { type := 0x83, seq := q } ∧ t.leg.errCnt = min 255 (s.leg.errCnt + 1) ∧ t.leg.badRun = (if noRoom then 0 else s.leg.badRun + 1) ∧
      (s.isLegacy = true → t.leg.status = s.leg.status ||| 16) ∧
      t.ev = (s.raiseRated 0x0D04 0 []).ev ∧ t.leg.regs = s.leg.regs ∧ t = { s with leg := t.leg, portA := t.portA, ev := t.ev }) ∧
  (∀ (s : State) (q : BitVec 8), s.legacyUp = true → s.leg.lastSeq = some q → s.leg.badRun = 4 →
    ∃ t, exec (.frameNak false) s = .next t ∧ t.portA.st = .detect ∧ t.link.holdRun = true ∧
      t.leg.replies = s.leg.replies ++ [{ type := 0x83, seq := q }]) ∧
  (∀ (s : State) (n : Nat), s.portA.framing = 2 → s.portA.st = .exchange →
    (s.leg.hsRx + n < 16 → exec (.hs n) s = .next { s with leg := { s.leg with hsRx := s.leg.hsRx + n } }) ∧
    (16 ≤ s.leg.hsRx + n → ∃ t, exec (.hs n) s = .next t ∧ t.portA.st = .up ∧ t.leg.lastSeq = none ∧ t.link.holdRun = false ∧
      (s.isReady = true → s.start.pers = .unlatched → t.start.pers = .legacy) ∧
      (s.start.pers ≠ .unlatched → t.start.pers = s.start.pers))) ∧
  (∀ (s : State) (n : Nat), s.legacyUp = true → 4 ≤ n →
    ∃ t, exec (.hs n) s = .next t ∧ t.portA.st = .detect ∧ t.ev.next = (s.linkLost).ev.next + 1 ∧ t.safety = s.safety)

/-- Self-test and loopback (R110, R112): LINK_SELFTEST in an unlocked session, dark and with LBREQ low, takes port A into its
loopback with fresh results and ends the session; where the state does not allow it the answer is BUSY and nothing starts; its
end keeps the counters and locks of the tested lanes and returns port A to DETECT with event 0x010A; TEST_EN high starts the
near-end loopbacks where port A is powered. The test access port as this model runs it (R430; the controller's states are those
of IEEE 1149.1, which the spec names, assumption log 12): held in test-logic reset while TEST_EN is low; five cycles with TMS
high reach test-logic reset from every state, where BYPASS is selected; a BYPASS register passes TDI on one cycle later; the
boundary chain puts the captured lands out in twelve shifts, the first land first, and nothing but the port moves. -/
def Obligations.SelfTestsAndTestPort : Prop :=
  (∀ (s : State) (q : SvcSrc) (args : List Byte), let a := argsOf args
    s.serves q 0x130 args → argsFixed args 6 = true → s.sessionOn q → fieldAt a 0 1 ≤ 1 →
    1 ≤ fieldAt a 1 1 → fieldAt a 1 1 ≤ 15 → 1 ≤ fieldAt a 2 1 → fieldAt a 2 1 ≤ 3 → 1 ≤ fieldAt a 4 2 → fieldAt a 4 2 ≤ 1000 →
    (s.selftestAllowed = true →
      ∃ t, exec (.linkSelftest q args) s = .next t ∧ t.portA.st = .loopback ∧ t.portA.loopback = fieldAt a 0 1 + 1 ∧
        t.portA.gen = fieldAt a 2 1 ∧ t.portA.txBlock = 0 ∧
        t.selfTest = { running := true, gen := fieldAt a 2 1, ms := fieldAt a 4 2, lanes := BitVec.ofNat 4 (fieldAt a 1 1), errors := [], locks := 0 } ∧
        t.svc.state = .locked ∧ t.link.holdRun = true ∧ s.svcReplied t q 0 0x130 [] ∧ t.safety = s.safety ∧ t.store = s.store) ∧
    (s.selftestAllowed = false →
      ∃ t, exec (.linkSelftest q args) s = .next t ∧ s.svcReplied t q 8 0x130 [] ∧ t.portA = s.portA ∧ t.selfTest = s.selfTest ∧
        t = { s with link := t.link, svc := t.svc })) ∧
  (∀ (s : State) (errors : List (Fin 4 × Nat)) (locks : BitVec 4), s.portA.st = .loopback → s.selfTest.running = true →
    ∃ t, exec (.selftestEnd errors locks) s = .next t ∧ t.portA.st = .detect ∧ t.selfTest.running = false ∧
      t.selfTest.lanes = s.selfTest.lanes ∧ t.selfTest.locks = locks &&& s.selfTest.lanes ∧
      (∀ l n, errors.filter (fun e => e.1 = l) = [(l, n)] →
        t.selfTest.errors.get 0 l = if s.selfTest.lanes.getLsbD l = true then min n 0xFFFFFFFF else 0) ∧
      t.ev = (s.raise 0x010A [(1, s.portA.loopback - 1), (1, 0)]).ev ∧
      t = { s with portA := t.portA, selfTest := t.selfTest, ev := t.ev }) ∧
  (∀ (s : State) (errors : List (Fin 4 × Nat)) (locks : BitVec 4), (s.portA.st ≠ .loopback ∨ s.selfTest.running = false) →
    exec (.selftestEnd errors locks) s = .next s) ∧
  (∀ s : State, s.start.testEn = false →
    (s.portA.st = .off → exec .testEnHigh s = .next { s with start := { s.start with testEn := true }, tap := {} }) ∧
    (s.portA.st ≠ .off → ∃ t, exec .testEnHigh s = .next t ∧ t.start.testEn = true ∧ t.tap = {} ∧ t.portA.st = .loopback ∧
      t.portA.loopback = 1 ∧ t.portA.txBlock = 0 ∧ t.link.holdRun = true ∧ t.safety = s.safety ∧ t.store = s.store)) ∧
  (∀ s : State, s.start.testEn = true → exec .testEnHigh s = .next s) ∧
  (∀ (s : State) (tms tdi : Bool) (lands : BitVec 12), (s.start.testEn = false ∨ s.start.vlog = false) →
    exec (.testAccessPort tms tdi lands) s = .next s) ∧
  (∀ (s : State) (tms tdi : Bool) (lands : BitVec 12), s.start.testEn = true → s.start.vlog = true →
    ∃ t, exec (.testAccessPort tms tdi lands) s = .next t ∧ t.tap = s.tap.clock tms tdi lands (s.freeVal 12) ∧
      t = { s with tap := t.tap, free := t.free }) ∧
  (∀ (p : Tap) (d : Bool) (lands : BitVec 12) (u : Nat), p.st < 16 →
    ((List.replicate 5 ()).foldl (fun q _ => q.clock true d lands u) p).st = 0 ∧
    ((List.replicate 5 ()).foldl (fun q _ => q.clock true d lands u) p).ir = 15) ∧
  (∀ (p : Tap) (d : Bool) (lands : BitVec 12) (u : Nat), p.st = 4 → p.boundary = false →
    (p.clock false d lands u).tdo = some d ∧ (p.clock false d lands u).st = 4) ∧
  (∀ (p : Tap) (lands : BitVec 12) (u : Nat) (d : Nat → Bool), p.st = 3 → p.boundary = true →
    ∀ k, k < 12 → let q := (List.range k).foldl (fun (r : Tap) i => r.clock false (d i) lands u) (p.clock false false lands u)
      q.tdo = some (lands.getLsbD k) ∧ q.st = 4 ∧ q.outs = p.outs ∧ q.ir = p.ir)

/-- Every command is answered: no operand and no state stops the block, and no command touches the queue. -/
def Obligations.EveryCommandIsAnswered : Prop :=
  ∀ (c : Instr) (s : State), ∃ t, exec c s = .next t ∧ t.pending = s.pending

/-- While the off latch is set the effective state stays FALLBACK or DARK, over every step (R314). -/
def Obligations.TheOffLatchHoldsThroughEveryStep : Prop :=
  ∀ s t : State, s.LatchHolds → step s = .next t → t.LatchHolds

/-- The pixel store, the flash and the latches keep their canonical form over every step (the model's own form of memory; R163, R41,
R241). -/
def Obligations.MemoryStaysCanonicalThroughEveryStep : Prop :=
  ∀ s t : State, s.MemoryWf → step s = .next t → t.MemoryWf

/-- At most eight commits are pending, over every step (R208). -/
def Obligations.CommitsStayBoundedThroughEveryStep : Prop :=
  ∀ s t : State, s.CommitsBounded → step s = .next t → t.CommitsBounded

/-- What reset leaves (R48, R163, R299, R314, Tables 2.20 and 9.1): the block unpowered in power-on, its memory empty and canonical,
the off latch clear, nothing pending, every tile dark. -/
def Obligations.ResetIsDarkAndEmpty : Prop :=
  State.reset.MemoryWf ∧ State.reset.LatchHolds ∧ State.reset.CommitsBounded ∧ State.reset.dark ∧ State.reset.pending = [] ∧
  State.reset.start.vlog = false ∧ State.reset.start.state = .powerOn ∧ State.reset.safety.offLatch = false ∧
  State.reset.safety.state = .dark ∧ State.reset.comp.pending = [] ∧ State.reset.clk.safe = false ∧ State.reset.clk.crystal = false

/-- Commands that complete with their effect, under conditions on the state and the operands alone: every LATCH_POINT of a running
grid (R209, R216); a stripe scale in range (R259); the MP's bad access, whose own effect is the event (R362); its register
writes to AFF_W, RESERVE, STORE_WDOG and DRV_QDARK, and any other (R352, R370, R181, R263); an EVENT packet and the end of a
rated event's second (R405, R406); FILL_CHARGE, which charges every block of a tile held and not cut and no other (R352); a
deferred save, made again (R354); each legacy read (R389). -/
def Obligations.CommandsCompleteWithTheirEffect : Prop :=
  (∀ s : State, s.gridRuns = true →
    ∃ t, exec .latchPoint s = .next t ∧ t.grid.frame = s.grid.frame + 1 ∧ t.grid.lastL = s.grid.nextL ∧ t.grid.firstDone = true) ∧
  (∀ (s : State) (c : Fin 64) (v : BitVec 32), s.start.pers = .legacy → v.toNat % 65536 ≤ 0x8000 →
    ∃ t, exec (.drvStripeWrite c v) s = .next t ∧ t.out.stripeNext.get 0x8000 c = v.toNat % 65536 ∧
      t = { s with out := { s.out with stripeNext := t.out.stripeNext, stripeDirty := t.out.stripeDirty } }) ∧
  (∀ (s : State) (a : BitVec 32), s.mpRuns = true → exec (.mpBadAccess a) s = .next (s.raise 0x0C05 [(1, 0), (4, a.toNat)])) ∧
  (∀ (s : State) (v : BitVec 32) (n : Fin 64), s.mpRuns = true →
    exec (.registerWrite (BitVec.ofNat 20 (0x8000 + 4 * n.val)) v) s = .next { s with affin := { s.affin with
      weights := s.affin.weights.set 0 n.val (v.toNat % 0x2000000) } }) ∧
  (∀ (s : State) (v : BitVec 32), s.mpRuns = true →
    exec (.registerWrite 0xA008 v) s = .next (s.doReserve (v.toNat % 0x800000)) ∧
    (s.store.wlock = false → 1 ≤ v.toNat % 128 → v.toNat % 128 ≤ 100 →
      exec (.registerWrite 0x1000 v) s = .next { s with store := { s.store with wdogUs := v.toNat % 128 } }) ∧
    (s.drive.qlock = false → 100 ≤ v.toNat % 65536 → v.toNat % 65536 ≤ 60000 →
      exec (.registerWrite 0x2104 v) s = .next { s with drive := { s.drive with qdarkMs := v.toNat % 65536 } })) ∧
  (∀ (s : State) (a : BitVec 20) (v : BitVec 32), s.mpRuns = true →
    ∃ t, exec (.registerWrite a v) s = .next t ∧ t.flash = s.flash ∧ t.fuse = s.fuse ∧ t.comp = s.comp ∧ t.clk = s.clk ∧
      t.latches = s.latches ∧ t.link = s.link) ∧
  (∀ (s : State) (l m : List Event) (e : Event), s.start.pers ≠ .legacy → s.ev.ring = l ++ e :: m → (∀ x ∈ l, x.pkt ≠ 0) → e.pkt = 0 →
    e.size ≤ 4088 →
    ∃ t, exec .eventPacket s = .next t ∧ t.ev.formed = s.ev.formed + 1 ∧
      t.ev.ring = l ++ { e with pkt := s.ev.formed + 1 } :: markEvents (s.ev.formed + 1) (4088 - e.size) m ∧
      t = { s with ev := { s.ev with formed := t.ev.formed, ring := t.ev.ring } }) ∧
  (∀ (s : State) (code : BitVec 16) (key : Nat) (w : Window),
    s.ev.windows.find? (fun x => x.code = code && x.key = key) = some w →
    ∃ t, exec (.eventRateWindow code key) s = .next t ∧
      (w.count = 0 → t.ev.ring = s.ev.ring ∧ ∀ x ∈ t.ev.windows, ¬ (x.code = code ∧ x.key = key)) ∧
      (0 < w.count → t.ev.next = s.ev.next + 1 ∧ ∀ x ∈ t.ev.windows, x.code = code → x.key = key → x.count = 0)) ∧
  (∀ s : State, s.mp.ready = true → s.groupReady 0 = true → s.MemoryWf → s.store.flips = [] → s.svc.perturb = [] →
    ∃ t, exec .fillCharge s = .next t ∧ ∀ k, k < 65536 →
      let n := tileOfBlock k
      let q := s.counter k + fillSum s.rindP k * secondUnits * weightOf s.img.aff s.rindP.fbCurrent (s.heat n).tj / 2 ^ 48
      ((s.isHeld n = true ∧ s.isCut n = false) → t.counter k = min 0xFFFFFFFF q ∨ t.counter k = min 0xFFFFFFFF (q + 1)) ∧
      (¬ (s.isHeld n = true ∧ s.isCut n = false) → t.counter k = s.counter k)) ∧
  (∀ s : State, s.mp.ready = true → s.groupReady 0 = true → s.affin.deferred = true →
    (s.eraseFits 64 = false → ∃ t, exec .saveDeferred s = .next t ∧ t.affin = s.affin ∧ t.flash = s.flash) ∧
    (s.eraseFits 64 = true → affBody + 64 ≤ s.nvmRefill.nvm.prog →
      ∃ t, exec .saveDeferred s = .next t ∧ t.affin.saveSlot = s.nextSave.1 ∧
        t.affin.saveSeq = BitVec.ofNat 32 s.nextSave.2 ∧ t.affin.deferred = false)) ∧
  (∀ (s : State) (f : T512Frame) (n : Byte), s.takesFrame f → f.payload = [n] → 1 ≤ n.toNat → n.toNat ≤ 128 →
    f.arg.toNat + n.toNat ≤ 0x80 →
    let a : T512Reply := { type := 0x82, seq := f.seq, arg := f.arg, payload := (s.legReads f.arg.toNat n.toNat).2 }
    (∃ t, exec (.regRead f) s = .next t ∧ s.repliedT512 t f a) ∧ (∃ t, exec (.faultEntryRead f) s = .next t ∧ s.repliedT512 t f a) ∧
    (∃ t, exec (.legacyStatusRead f) s = .next t ∧ s.repliedT512 t f a) ∧
    (∃ t, exec (.linkErrCntRead f) s = .next t ∧ s.repliedT512 t f a) ∧ (∃ t, exec (.lowByteRead f) s = .next t ∧ s.repliedT512 t f a))

/-- The Rind clamp (R300): it never raises a code, leaves none above CAP, above the cutoff none above ABOVE_CUT_CODE and in a zone
none above its limit; a code that meets no limit passes unchanged; a higher code is never clamped lower. -/
def Obligations.TheRindClampOnlyLowers : Prop :=
  ∀ (k : ClampSet) (c x y : Nat),
    rindClamp k c x y ≤ c ∧ rindClamp k c x y ≤ k.cap ∧ (y < k.row (x / 64) → rindClamp k c x y ≤ k.above) ∧
    (∀ z ∈ k.zones, z.2.covers x y = true → rindClamp k c x y ≤ z.2.lim) ∧
    (c ≤ k.cap → (y < k.row (x / 64) → c ≤ k.above) → (∀ z ∈ k.zones, z.2.covers x y = true → c ≤ z.2.lim) →
      rindClamp k c x y = c) ∧
    (∀ d, c ≤ d → rindClamp k c x y ≤ rindClamp k d x y)
end

