-- ==== Sys2Proof/Tests/Slice0.lean ====
section
/-!
SUPPORT. Tests: ill-formed commands that each well-formedness check refuses, the spec's check values and worked examples, words written
out from the spec's layouts, single steps, and for every statement of Obligations.lean that has hypotheses a theorem `wit_<Name>` that
shows, clause by clause, a concrete state and operands that meet the clause's hypotheses together.
-/
namespace Sys2Proof.Tests
open Sys2Proof Sys2Proof.Machine

set_option Elab.async false
set_option maxRecDepth 100000

/-! ### Small states and operands -/

/-- The states a list of commands leads to. -/
def run (s : State) (cs : List Instr) : State := cs.foldl (fun t c => match exec c t with | .next u => u | _ => t) s
/-- VLOG present. -/
def sPower : State := { State.reset with start := { state := .powerOn, vlog := true } }
/-- The Rind runs; the fuses are being read. -/
def sFuse : State := { State.reset with start := { state := .fuseRead, vlog := true }, clk := { safe := true } }
/-- SELECT. -/
def sSel : State := { State.reset with start := { state := .select, vlog := true, order := [.a] }, clk := { safe := true, crystal := true }, power := { pd1 := true, pd2 := true, pd3 := true, pd4 := true, pd5 := true, pd10 := true }, sp := { running := true } }
/-- LOAD. -/
def sLoad : State := { sSel with start := { state := .load, vlog := true, loading := some .a, reasonA := 0 } }
/-- BRING_UP. -/
def sBring : State := { sSel with start := { state := .bringUp, vlog := true, active := some .a, reasonA := 0, reasonB := 1 }, quads := (List.range 4).map fun q => (q, { powered := true, waking := true }), clk := { safe := true, crystal := true, gridOn := true }, grid := { started := true, nextG := 8333333, nextL := 8333333 }, mp := { code := some .a, entry := some 0 } }
/-- BRING_UP, both bank groups initialised. -/
def sInit : State := { sBring with store := { init0 := true, init1 := true } }
/-- READY. -/
def sReady0 : State := { sInit with start := { state := .ready, vlog := true, active := some .a, reasonA := 0, reasonB := 1, readyMs := some 0, outcome := some 0 }, mp := { ready := true, code := some .a, entry := some 0 }, quads := (List.range 4).map fun q => (q, { powered := true, ready := true }), safety := { copy := some {}, romParams := false } }
def lanesUp : Sparse Lane := [(0, { squelch := true, bitLock := true, block := true, laneId := 0, deskewed := true, ended := true }), (1, { squelch := true, bitLock := true, block := true, laneId := 1, deskewed := true, ended := true }), (2, { squelch := true, bitLock := true, block := true, laneId := 2, deskewed := true, ended := true }), (3, { squelch := true, bitLock := true, block := true, laneId := 3, deskewed := true, ended := true })]
def st (s : State) (f : Start → Start) : State := { s with start := f s.start }
def portUp : Port := { st := .up, gen := 3, framing := 1, lanes := lanesUp, workMask := 15, useMask := 15, txBlock := 5, linkUps := 1, backDet := .present, txDet := [(0, .present), (1, .present), (2, .present), (3, .present)] }
/-- READY, the native link up on port A. -/
def sUp : State := { sReady0 with portA := portUp, link := { sReady0.link with rev := 0x30, offered := 3, addr := 2, addrKnown := true } }
/-- READY and NORMAL, the native link up. -/
def sNorm : State := { sUp with safety := { sUp.safety with state := .normal, firstNormal := true, paint := .none, held := 0, cuts := [], rindCauses := 0, spCauses := 0, rindOkMs := 2000, spOkMs := 2000 }, start := { sUp.start with pers := .native } }
/-- READY with the off latch set, both channels confirming. -/
def sLatch : State := { sUp with safety := { sUp.safety with offLatch := true, rindOkMs := 2000, spOkMs := 2000, firstNormal := true } }
/-- READY with both ports up. -/
def sBoth : State := { sNorm with portB := portUp, linkB := { sNorm.linkB with rev := 0x30 } }
/-- READY in the legacy personality, the T512 link up. -/
def sLeg : State := { sNorm with portA := { portUp with framing := 2, gen := 1, workMask := 1, useMask := 1 }, start := { sNorm.start with pers := .legacy } }
/-- A training block (Table 3.2). -/
def mkTr (phase lane gen lpbk : Nat) (role : Bool) (work use att : Nat) : BitVec 64 :=
  let v : Nat := 0xE1 + (if role then 2^23 else 0) + lane * 2^24 + phase * 2^28 + gen * 2^34 + lpbk * 2^36 + work * 2^40 + use *
      2^44 + att * 2^48
  BitVec.ofNat 64 (v + crc8 (leBytes 7 v) * 2^56)
/-- A packet for this module, to every module, for another. -/
def hOwn : Hdr := ⟨0, 2, 7⟩
def hB : Hdr := ⟨0, 15, 7⟩
def hOther : Hdr := ⟨0, 4, 7⟩
/-- A payload of a length from fields (offset, width, value). -/
def pay (len : Nat) (fs : List (Nat × Nat × Nat)) : List Byte :=
  (List.range len).map fun i => match fs.find? (fun f => f.1 ≤ i && i < f.1 + f.2.1) with
    | some f => BitVec.ofNat 8 (f.2.2 >>> (8 * (i - f.1)))
    | none => 0
def pA (s : State) (f : Port → Port) : State := { s with portA := f s.portA }
def pB (s : State) (f : Port → Port) : State := { s with portB := f s.portB }
def lk (s : State) (f : Link → Link) : State := { s with link := f s.link }
def tp (q : BitVec 12) : TxPkt := { vc := 0, type := 0x11, seq := q, payload := [1, 2, 3] }
def exch (s : State) : State := { s with portA := { s.portA with st := .exchange, framing := 1 } }
def fp (q : BitVec 12) : FwdPkt := { vc := 1, type := 0x20, payload := [1], credits := 1, seq := q }
def wdata : List Byte := [1, 2, 3, 4, 5, 6, 7, 8]
def w0 : List Byte := pay 8 [(0, 4, 64)] ++ wdata
def sW : State := { sNorm with store := { init0 := true, init1 := true, cells := wdata.mapIdx fun i b => (9437248 + i, b) }, layers := sNorm.layers.modify 0 fun l => { l with run := some { start := 64, len := 8, crc := 0xb976e07e#32 } }, link := { sNorm.link with expSeq := 1, credits := [(8, { held := 0, total := 1, freed := 1 })] } }
def crcW : Nat := crc32c wdata
def sW2 : State := lk sW fun l => { l with expSeq := 0 }
def aw : Commit := { seq := 77, mask := 1, await := true, pourId := 9 }
def rdy (s : State) : State := { s with clk := { s.clk with tb0 := 3000 * nsUnit, tb1 := 3000 * nsUnit } }
def sv (s : State) (f : Service → Service) : State := { s with svc := f s.svc }
def ag (n : Nat) (fs : List (Nat × Nat × Nat)) : List Byte := leBytes 2 n ++ pay n fs
def zrec (x0 x1 y0 y1 lim id : Nat) : List Byte :=
  let b := leBytes 2 x0 ++ leBytes 2 x1 ++ leBytes 2 y0 ++ leBytes 2 y1 ++ leBytes 2 lim ++ leBytes 1 id ++ [0]
  b ++ leBytes 2 (crc16 b) ++ [0, 0]
def gr (s : State) (f : Grid → Grid) : State := { s with grid := f s.grid }
def keep (s : State) (st : Nat) : State := gr s fun g => { g with kind := .keepAlive, step := st, haveFull := true }
def row (x : Nat) : List Byte := (List.range 512).map fun i => BitVec.ofNat 8 (i + x)
def hd (row frame : Nat) (keep : Bool) : Nat := let b := 1 * 2^28 + row * 2^21 + b2n keep * 2^20 + frame * 2^8; b + crcMsbBits 8
    0x07 24 (b / 256) 0
def zlist (seq : Nat) (recs : List (List Byte)) : List Byte :=
  let hd := leBytes 2 seq ++ leBytes 1 recs.length ++ [0] ++ [2] ++ [0,0,0] ++ [0,0,0,0]
  hd ++ leBytes 4 (crc32c (hd ++ recs.flatten)) ++ recs.flatten
def zl1 := zlist 9 [zrec 10 200 20 100 500 3]
def zl2 := zlist 10 [zrec 10 200 20 100 500 3, zrec 300 400 0 511 0 4]
def inv (b : List Byte) : List Byte := b.map fun x => ~~~x
def c1 : ZoneList := (parseZones zl1 0).getD {}
def unl (s : State) (p : Nat) : State := sv s fun v => { v with state := .unlocked, path := p }
def chal (s : State) (p : Nat) (n : BitVec 128) (k : Nat) : State := sv s fun v => { v with state := .challenged, path := p, nonce := some n, fails := k }
def cm (s : State) (f : Comp → Comp) : State := { s with comp := f s.comp }
def rbk (s : State) (f : Readback → Readback) : State := { s with rb := f s.rb }
def sf (s : State) (f : Safety → Safety) : State := { s with safety := f s.safety }
def tl (s : State) (n : Nat) (f : Tile → Tile) : State := s.modTile n f
def sG : State := { sNorm with clk := { sNorm.clk with gridOn := true, crystal := true }, grid := { sNorm.grid with started := true } }
def sClr : State := sf sG fun x => { x with state := .dark }
def d1 : Desc := { visible := true }
def cmt (due : Nat) (l : List (Nat × Desc)) : Commit := { seq := 4, mask := 2, copies := l, due := due }
def lay (s : State) (n : Nat) (f : Layer → Layer) : State := { s with layers := s.layers.modify n f }
def spanned (s : State) : State := lay s 1 fun l => { l with spans := [⟨0, 100000000⟩] }
def full (s : State) (st : Nat) : State := gr s fun g => { g with kind := .full, step := st }
def codes1 : List (BitVec 12) := (List.range 128).map fun i => BitVec.ofNat 12 (i * 31)
def lcrc : BitVec 16 := lineCrc (codes1.map BitVec.toNat)
def rec1 : SegRec := { tile := 3, row := 9, frame8 := 7, keep := false, crc := 0x1234 }
def rec0 : SegRec := { tile := 5, row := 9, frame8 := 7, keep := false, crc := 0x1234 }
def w1 := readbackWord 1 9 false false false 7 0x1234
def w2 := readbackWord 1 9 false true false 7 0x1234
def rd (s : State) : State := rbk s fun r => { r with expect := [rec0, rec1, rec1], checked := 4, sigs := [(1, 2)], reread := [(128 * 3 + 9, s.grid.frame), (128 * 5 + 7, s.grid.frame + 1)] }
def qd (s : State) (n : Nat) (f : Quad → Quad) : State := s.modQuad n f
def dg (s : State) (f : Diag → Diag) : State := { s with diag := f s.diag }
def dv (s : State) (f : Drive → Drive) : State := { s with drive := f s.drive }
def pw (s : State) (f : Power → Power) : State := { s with power := f s.power }
def ctl (op : Nat) (body : Nat) : BitVec 96 := BitVec.ofNat 96 (op * 2^88 + body)
def c2 : QuadCmd := { quad := 0, word := quadWord 2 5 false 0 0 0 0 0x800, resent := false, stall := false }
def c2r : QuadCmd := { c2 with resent := true }
def c3 : QuadCmd := { quad := 0, word := quadWord 4 5 true 0 0 0 0 0x800, resent := false, stall := false }
def an (t : Nat) (nak : Bool) : BitVec 16 := let mid := b2n nak * 8; BitVec.ofNat 16 (t * 4096 + mid * 256 + (t ^^^ mid))
def mk (s : State) (c : List QuadCmd) : State := sf s fun x => { x with cmds := c, paint := .none }
def ms (s : State) (m : Meas) : State := (tl s 3 fun x => { x with meas := some m, measNext := some m, sweepRow := 9, tamp := 0xFF })
def m1 : Meas := { row := 9, cmin := 100, cgap := 50, dirty := false }
def frz (s : State) : State := (List.range 16).foldl (fun u b => u.modBank b fun k => { k with freeze := true }) s
def bk (s : State) (b : Nat) (f : Bank → Bank) : State := s.modBank b f
def zn (s : State) (f : Zones → Zones) : State := { s with zones := f s.zones }
def ck (s : State) (f : Clocks → Clocks) : State := { s with clk := f s.clk }
def rc (s : State) (l : List Nat) : State := sf s fun x => { x with rindCauses := l.foldl (fun m n => setBit m n true) 0 }
def off (s : State) : State := sf s fun x => { x with state := .dark }
def deg (s : State) : State := sf s fun x => { x with state := .degraded }
def wr (o row : Nat) : StoreReq := { who := o, write := true, rows := [row], mask := 15, data := [0x0123456789ABCDEF0011223344556677], lock := false, release := false }
def rdq (o row : Nat) : StoreReq := { who := o, write := false, rows := [row], mask := 15, data := [], lock := false, release := false }
def stl : Stall := { frame := 0, rects := [], capped := true }
def stl2 : Stall := { frame := 0, rects := [(0, 100, 0, 100)], capped := true }
def stl3 : Stall := { stl2 with capped := false }
def sleg : State := { sNorm with start := { sNorm.start with pers := .legacy } }
def reqsX := [wr 3 5, wr 1 6, rdq 0 9, wr 10 7, rdq 3 6]
def hot (s : State) (v : Int) : State := { s with thermal := { s.thermal with tiles := [(3, { raw := v, state := .trusted }), (63, { raw := v, state := .trusted })], quads := [(0, { raw := v }), (3, { raw := v })] } }
def af (s : State) (f : Affin → Affin) : State := { s with affin := f s.affin }
def fl (s : State) (f : Flash → Flash) : State := { s with flash := f s.flash }
def nv (s : State) (f : Nvm → Nvm) : State := { s with nvm := f s.nvm }
def ev (s : State) (f : Events → Events) : State := { s with ev := f s.ev }
def lg (s : State) (f : Legacy → Legacy) : State := { s with leg := f s.leg }
def cP : FlashCmd := { writer := 3, erase := false, addr := 0x1E00000, data := [1,2,3,255,0] }
def cE : FlashCmd := { writer := 3, erase := true, addr := 0x1E00000, data := [] }
def cI : FlashCmd := { writer := 2, erase := true, addr := 0x400000, data := [] }
def cX : FlashCmd := { writer := 3, erase := false, addr := 0x1FFFFFE, data := [1,2,3] }
def jI : FlashJob := { cmd := cI, more := 5, op := 0x110 }
def wnd : Window := { code := 0x0101, key := 0, count := 3, data := [(1, 1)] }
def evs : List Event := [{ code := 5, seq := 1 }, { code := 6, seq := 2, data := [(4, 1)] }, { code := 6, seq := 2, pkt := 3 }]
def unl2 (s : State) : State := { s with svc := { s.svc with state := .unlocked, path := 1 }, start := { s.start with active := some .b } }
def fr (q a : Nat) (p : List Byte) : T512Frame := { seq := BitVec.ofNat 8 q, arg := BitVec.ofNat 16 a, payload := p }
def big (s : State) : State := dg { s with link := { s.link with tqs := (List.range 8).foldl (fun t _ => t.modify [] 4 fun l => l ++ [s.upPkt 4 0x30 0 (List.replicate 4088 0)]) s.link.tqs } } fun d => { d with delta := (List.range 3).map fun i => (i, 1, false) }
def far (s : State) : State := { s with clk := { s.clk with tb1 := 10^9 * nsUnit } }
def states28 : State := tl sNorm 3 (fun x => { x with gap := some 2 })
def states29 : State := sf (tl (tl sNorm 5 fun x => { x with gap := some 2, gapFails := 1 }) 3 fun x => { x with gap := some 2, gapFails := 1 }) (fun x => { x with cuts := [] })
def frr (q a : Nat) (p : List Byte) : T512Frame := { seq := BitVec.ofNat 8 q, arg := BitVec.ofNat 16 a, payload := p }

/-! ### Well-formedness: each check refuses an ill-formed command -/

theorem test_wf_opcode_named : (Instr.unknownOpcode (.request hOwn) 7 []).wf = false ∧
    (Instr.unknownOpcode (.service .uart) 0x103 []).wf = false ∧ (Instr.unknownOpcode (.request hOwn) 0x103 []).wf = true := by decide
theorem test_wf_store_request : (Instr.arbiterDecision 0 [{ wr 3 5 with who := 11 }]).wf = false ∧
    (Instr.arbiterDecision 0 [wr 3 32768]).wf = false ∧ (Instr.arbiterDecision 0 [{ wr 3 5 with data := [] }]).wf = false ∧
    (Instr.arbiterDecision 0 [{ rdq 3 5 with rows := [] }]).wf = false ∧ (Instr.arbiterDecision 0 [wr 3 5, rdq 0 9]).wf = true := by
  decide +kernel
theorem test_wf_flash_command : (Instr.flashCommand { cP with writer := 0 }).wf = false ∧
    (Instr.flashCommand { cP with writer := 4 }).wf = false ∧ (Instr.flashCommand { cP with erase := true }).wf = false ∧
    (Instr.flashCommand { cP with data := List.replicate 4097 0 }).wf = false ∧ (Instr.flashCommand cP).wf = true := by
  decide +kernel
theorem test_wf_power_domain : (Instr.powerDomainRequest 0 true).wf = false ∧ (Instr.powerDomainRequest 1 true).wf = true := by decide
theorem test_wf_heat_record : (Instr.heatRecordWrite 0 3).wf = false ∧ (Instr.heatRecordWrite 1 64).wf = false ∧
    (Instr.heatRecordWrite 4 64).wf = true := by decide
theorem test_wf_row_segment : (Instr.rowSegment 0 0 [] 0).wf = false ∧
    (Instr.rowSegment 0 0 (List.replicate 128 0) 0).wf = true := by decide +kernel
theorem test_wf_scan_rows : (Instr.scanStepRelease [512]).wf = false ∧ (Instr.scanStepRelease [511]).wf = true := by decide
theorem test_wf_policy_branches : (Instr.mpPolicyTick 0 0 [1, 2, 3]).wf = false ∧ (Instr.mpPolicyTick 0 0 [1, 2, 3, 4]).wf = true := by
  decide
theorem test_wf_gap_time : (Instr.gapPulseEnd 0 true true true 256).wf = false ∧ (Instr.gapPulseEnd 0 true true true 255).wf = true := by
  decide
theorem test_wf_packet_length : (Instr.packetDiscard hOwn false 0 0 4097).wf = false ∧ (Instr.packetDiscard hOwn false 0 0 4096).wf = true := by decide
theorem test_wf_event_key : (Instr.eventRateWindow 0 (2 ^ 32)).wf = false ∧ (Instr.eventRateWindow 0 5).wf = true := by decide
theorem test_wf_frames :
    ∀ f ∈ [({ seq := 1, arg := 0, payload := List.replicate 4097 0 } : T512Frame)],
      [Instr.regWrite 0 f, .regRead f, .lines 0 f, .showRows 0 f, .legacyEcho f, .frameRejected 9 f, .softReset 0 f, .faultIdxWrite f,
        .faultEntryRead f, .legacyStatusRead f, .linkErrCntRead f, .lowByteRead f].all (fun c => !c.wf) = true := by decide +kernel

/-! ### The spec's check values and worked examples -/

/-- 04 R116: the check value of CRC-32C over "123456789". -/
theorem test_crc32c : crc32c [0x31, 0x32, 0x33, 0x34, 0x35, 0x36, 0x37, 0x38, 0x39] = 0xE3069283 := by decide +kernel
/-- FIPS 180-4's example "abc": the first and the last four bytes of the digest. -/
theorem test_sha256 : let d := sha256 [0x61, 0x62, 0x63]
    d.take 4 = [0xBA, 0x78, 0x16, 0xBF] ∧ d.drop 28 = [0xF2, 0x00, 0x15, 0xAD] := by decide +kernel
/-- 08 R222: the check value of the LINE_CRC over "123456789". -/
theorem test_crc16 : crc16 [0x31, 0x32, 0x33, 0x34, 0x35, 0x36, 0x37, 0x38, 0x39] = 0x29B1 := by decide +kernel
/-- 04 Table 4.3 written out: SEQ 5, ADDR 2, VC 1, DIR 0, TYPE 0x20, LENGTH 9, TAG 0x1234. -/
theorem test_wire_header :
    let h : WireHdr := { seq := 5, addr := 2, vc := 1, dir := false, type := 0x20, len := 9, tag := 0x1234 }
    h.word = 0x0052082000091234 ∧ wireHdr 0x0052082000091234 = h := by decide +kernel
/-- 04 R114, R116: the blocks of a packet read back; a changed padding byte is a framing error, a changed CRC a CRC failure. -/
theorem test_wire_packet :
    let h : WireHdr := { seq := 5, addr := 2, vc := 1, dir := false, type := 0x20, len := 2, tag := 0 }
    readFrame (packetBlks h [7, 9]) = .good h [7, 9] ∧
      readFrame [sopBlk, { ctl := false, w := h.word }, { ctl := false, w := 0x10907 }, eopBlk (packetCrc h [7, 9])] = .framing ∧
      readFrame [sopBlk, { ctl := false, w := h.word }, { ctl := false, w := 0x0907 }, eopBlk (packetCrc h [7, 9] + 1)] = .crc h := by
  decide +kernel
/-- 04 Table 4.2: the CRC8 of a lone 1 is the polynomial 0x07; a CREDIT of VC 1, TOTAL 5; a reserved KIND is ignored. -/
theorem test_wire_lcb : crc8 [1] = 7 ∧ ({ kind := 3, vc := 1, value := 5 } : Lcb).body = [0x30, 0x05, 0x08, 0, 0, 0] ∧
    readLcb (Lcb.bytes { kind := 3, vc := 1, value := 5 }) = some { kind := 3, vc := 1, value := 5 } ∧
    readLcb (Lcb.bytes { kind := 4, value := 5 }) = none := by decide +kernel
/-- 03 R86: from a register of zeros a lone 1 comes back 39 and 58 bits later; a control block has the sync header 0b10. -/
theorem test_wire_scrambler : (scrambleBits 64 0 1 0).2 = 1 + 2 ^ 39 + 2 ^ 58 ∧
    (descrambleBits 64 0 (1 + 2 ^ 39 + 2 ^ 58) 0).2 = 1 ∧ lineBlock true 1 = 6 := by decide +kernel
/-- 00, the example of pixel (1500, 300). -/
theorem test_pixel_place : tileAt 1500 300 = 43 ∧ quadOfTile 43 = 3 ∧ blockOfPixel 615900 = 38775 ∧ tileOfPixel 615900 = 43 ∧
    (blockPixels 38775).head? = some 615900 := by decide +kernel
/-- 06, the example of store addresses. -/
theorem test_store_address : (bankOf 0x412CBB, rowOf 0x412CBB) = (5, 0x412C) ∧ (bankOf 0x445DDC, rowOf 0x445DDC) = (6, 0x445D) ∧
    (bankOf 0x900100, rowOf 0x900100) = (8, 0x1001) ∧ wordAddr 5 0x412C = 0x412CA0 := by decide +kernel
/-- 07, the example of a fade: g at 10 ms of 50, from 0 to alpha8(230). -/
theorem test_fade_value : alpha8 230 = 59111 ∧ fadeValue 0 59111 10 50 false = 11822 := by decide +kernel
/-- 09, the example of one pixel through the chain. -/
theorem test_pixel_chain : lutBase false 35364 = 2210 ∧ scaleCode 2210 0x86 32768 52428 = 1851 := by decide +kernel
/-- 12 R352 and the example of block 38 775: 450 / 1000 / 8.617333e-5 × (1/298.15 − 1/358.15) has exponential 18.806631; the example
goes on with it rounded to 18.8066 and so gives 1 232 509 (assumption log 25). -/
theorem test_affinage_weight : weightOf {} 160 (85 * degUnit) = 1232511 ∧ l70Su {} = 1609325409 := by decide +kernel
/-- 15, the example of a PIXEL_FAULT record. -/
theorem test_event_record :
    ({ code := 0x0701, sev := 1, tb0 := 1250000000, epoch := 4, tb1 := 200000000, frame := 150, seq := 0x0123
       data := [(1, 1), (4, 615900)] } : Event).bytes =
      [0x01, 0x07, 0x50, 0x04, 0x80, 0x7C, 0x81, 0x4A, 0x23, 0x01, 0x96, 0x00, 0x00, 0xC2, 0xEB, 0x0B,
       0x01, 0x00, 0x00, 0x00, 0xDC, 0x65, 0x09, 0x00] := by decide +kernel
/-- 08, the examples of the grid: n = 150 at 120 Hz, and the change to 100 Hz. -/
theorem test_grid_instants : gridAtLeast 120 1249999999 = 1250000000 ∧ gridAtLeast 120 1250000001 = 1258333333 ∧
    gridAtLeast 100 1268333333 = 1270000000 := by decide +kernel
/-- 11, the example of a zone moved 40 pixels east: the tick at 1 ms. -/
theorem test_zone_move :
    let z : ZoneL := { used := true, ex0 := 900 * 256, ex1 := 1000 * 256, ey0 := 240 * 256, ey1 := 270 * 256, elim := 40 * 256
                       tx0 := 940, tx1 := 1040, ty0 := 240, ty1 := 270, tlim := 40 }
    (z.move 0x200 0).ex1 = 1040 * 256 ∧ (z.move 0x200 0).ex0 = 900 * 256 ∧ (z.move 0x200 1).ex0 = 902 * 256 := by decide +kernel
/-- 14, the example of the legacy frame: row 75, column 375 in copy 1 of region 5 at 0x900000. -/
theorem test_legacy_place : 0x900000 + 0x10000 * 1 + 512 * 75 + 375 = 0x919777 ∧ lutBase true 65535 = 4095 := by decide

/-! ### Words written out from the spec's layouts -/

/-- Table 9.6: CMD 2 in bits 63 to 60, TILE 5 in 59 to 56, ARG in 26 to 15, CRC8 in the low byte. -/
theorem test_quad_word : let w := quadWord 2 5 false 0 0 0 0 0x800
    w.toNat / 256 = (2 <<< 52) + (5 <<< 48) + (0x800 <<< 7) ∧ qCmd w = 2 ∧ qTile w = 5 ∧ qAll w = false ∧ qArg w = 0x800 ∧
      qCrcOk w = true := by decide +kernel
/-- Table 8.4: KIND 1 in bits 47 to 44, ROW in 43 to 37, FRAME8 in 31 to 24, SIG in 23 to 8, HCRC in the low byte. -/
theorem test_readback_word : let w := readbackWord 1 9 false true false 7 0x1234
    w.toNat / 256 = (1 <<< 36) + (9 <<< 29) + (1 <<< 27) + (7 <<< 16) + 0x1234 ∧ rbCrcOk w.toNat = true ∧ rbCrcOk (w + 1).toNat = false := by
  decide +kernel
/-- The table gives no row any bits: no word spells a command. -/
theorem test_table_gives_no_word : decodeTableWord 8 0x5A = none ∧ (State.reset.withFetchWord 8 0x5A).pending = [] := by decide

/-! ### Single steps -/

/-- The state a command leads to. -/
def after (c : Instr) (s : State) : State := match exec c s with | .next t => t | _ => s

theorem test_step_idle : ∃ t, step State.reset = .next t ∧ t.pending = [] ∧ t.clk.tb3 = 0 := ⟨_, rfl, by decide, by decide⟩
theorem test_step_front :
    ∃ t, step { State.reset with pending := [.vlogValid, .lbreq true] } = .next t ∧ t.pending = [.lbreq true] ∧ t.start.vlog = true :=
  ⟨_, rfl, by decide, by decide⟩
/-- 02 R69, Table 2.19: the steps of a start, from reset to READY. -/
theorem test_start_first : (after .vlogValid State.reset).start.vlog = true ∧ (after .safePllLocked sPower).start.state = .fuseRead ∧
    (after (.fuseReadDone false) sFuse).start.state = .select := by decide +kernel
theorem test_start_last : (after .headersChecked sSel).start.state = .load ∧ (after .mpReady sReady0).start.state = .ready ∧
    (after .mpReady { sReady0 with start := { sReady0.start with state := .bringUp } }).start.state = .ready := by decide +kernel
/-- 04 R135, 06 R164: a WRITE's bytes lie in the layer's pool at its OFFSET, and the byte after them stays. -/
theorem test_write_lands : let t := after (.write hOwn 0 w0 0 []) sNorm
    t.store.byte 0x900040 = 1 ∧ t.store.byte 0x900047 = 8 ∧ t.store.byte 0x900048 = 0 ∧ t.link.expSeq = 1 := by decide +kernel
/-- 05 R152: an idle step is 25 TIME cycles, 100 ns of TB3. -/
theorem test_idle_time : (sNorm.idle.clk.tb3, sNorm.idle.now1) = (100, 100) := by decide +kernel
/-- 06 R179: the default slot table, and an entry above 10 stored as 15. -/
theorem test_slot_shadow : let t := after (.slotShadowWrite 2 1 0x0000000B) sNorm
    (slotEntry (t.bank 2).shadow 8, slotEntry (t.bank 2).shadow 9, (t.bank 2).ptr) = (15, 0, 0) := by decide +kernel
/-- Table 13.4: the MP's read of REFUSED returns the count and clears it (R18). -/
theorem test_mp_read : let t := ({ sNorm with nvm := { sNorm.nvm with refused := 5 } } : State).mpRead 0xA004
    t.2.toNat % 65536 = 5 ∧ t.1.nvm.refused = 0 := by decide +kernel
/-- 09 R256: above the limit CL falls by 8. -/
theorem test_limit : (after (.moduleLimitUpdate 12001 3000) sNorm).drive.cl = 247 ∧ (after (.moduleLimitUpdate 0 3000) sNorm).drive.cl = 255 := by
  decide +kernel
/-- 09 R420: VLED_LOW begins below 3.30 V. -/
theorem test_vledLow : (after (.vledLow 3299) sNorm).drive.low = true ∧ (after (.vledLow 3300) sNorm).drive.low = false := by decide +kernel
/-- 09 Table 9.1: a CUR_SET's target and slew rate. -/
theorem test_cur_set : let s : State := sNorm
    (match exec (.curSet 63 (ctl 1 (50 <<< 80 ||| 3 <<< 72))) s with
      | .next t => ((t.tile 63).tgt, (t.tile 63).slew, (t.tile 0).tgt)
      | _ => (0, 0, 0)) = (50, 3, 160) := by decide +kernel
/-- 11 R314: a clock fault sets the off latch once NORMAL has been reached. -/
theorem test_clock_fault : let s : State := sNorm
    (match exec (.clockFault false) s with
      | .next t => t.safety.state.off && t.safety.offLatch
      | _ => false) = true := by decide +kernel
/-- 14 R380: the sixteenth set brings the legacy link up. -/
theorem test_legacy_link_up :
    (match exec (.hs 16) { sLeg with portA := { sLeg.portA with st := .exchange } } with
      | .next t => decide (t.portA.st = .up)
      | _ => false) = true := by decide +kernel

/-! ### Witnesses of the hypotheses of the statements -/

theorem wit_PowerOnLeadsToSelect :
  (let s : State := State.reset
  s.start.vlog = false) ∧
  (let s : State := sPower
  s.start.vlog = true ∧
    s.start.state = StartState.powerOn ∧
    s.safety.oscStopped = false) ∧
  (let s : State := sFuse
  s.start.state = StartState.fuseRead) ∧
  (let s : State := { sSel with clk := { sSel.clk with crystal := false } }
  s.start.state = StartState.select ∧
    s.clk.crystal = false) := by
  refine ⟨?_, ?_, ?_, ?_⟩ <;> decide +kernel
theorem wit_SlotsAreTriedUntilOneIsValid :
  (let s : State := sSel
  s.start.state = StartState.select ∧
    s.clk.crystal = true ∧
    s.start.noHeader = []) ∧
  (let s : State := sLoad
  let i : SlotId := .a
  s.start.loading = some i ∧
    s.start.state = StartState.load ∧
    s.start.retried = false) ∧
  (let s : State := { sLoad with start := { sLoad.start with retried := true } }
  let i : SlotId := .a
  s.start.loading = some i ∧
    s.start.state = StartState.load ∧
    s.start.retried = true) ∧
  (let s : State := { sLoad with start := { sLoad.start with loading := some .b } }
  let i : SlotId := .b
  s.start.loading = some i ∧
    s.start.state = StartState.load ∧
    (s.slot i).bodyReason ≠ 0) ∧
  (let s : State := sLoad
  let i : SlotId := .a
  s.start.loading = some i ∧
    s.start.state = StartState.load ∧
    (s.slot i).bodyReason = 0) := by
  refine ⟨?_, ?_, ?_, ?_, ?_⟩ <;> decide +kernel
theorem wit_MpReadyMakesReady :
  (let s : State := sBring
  s.start.state = StartState.bringUp ∧
    s.start.attempts < 2 ∧
    s.mpLoaded = true) ∧
  (let s : State := sBring
  s.start.state = StartState.bringUp ∧
    s.start.attempts = 0) ∧
  (let s : State := { sBring with start := { sBring.start with attempts := 1 } }
  s.start.state = StartState.bringUp ∧
    s.start.attempts = 1) := by
  refine ⟨?_, ?_, ?_⟩ <;> decide +kernel
theorem wit_FusesAndFlashOutlastPower :
  (let s : State := { sNorm with start := { sNorm.start with rolling := true } }
  s.start.rolling = true) ∧
  (let s : State := State.reset
  s.flash.cur = none ∧
    s.start.rolling = false) ∧
  (let c : Instr := .vlogValid
  let s : State := State.reset
  let t : State := sPower
  exec c s = Host.Outcome.next t) ∧
  (let c : Instr := .vlogValid
  let s : State := State.reset
  let t : State := sPower
  exec c s = Host.Outcome.next t ∧
    c ≠ Instr.rollback ∧
    c ≠ Instr.lossOfVlog) := by
  refine ⟨?_, ?_, ?_, ?_⟩ <;> (first | decide +kernel | exact rfl | exact ⟨rfl, by decide, by decide⟩)
theorem wit_ResetKeepsTheRind :
  (let s : State := sFuse
  s.start.state.resettable = true ∧
    s.rindRuns = true) ∧
  (let s : State := { sNorm with start := { sNorm.start with state := .resetHeld } }
  s.start.state = StartState.resetHeld) ∧
  (let s : State := { sNorm with start := { sNorm.start with state := .resetHeld } }
  s.start.state = StartState.resetHeld ∧
    s.start.stuck = false) := by
  refine ⟨?_, ?_, ?_⟩ <;> decide +kernel
theorem wit_PortsDetectSweepAndBackOff :
  (let s : State := ((fun x => pA sNorm fun p => { p with st := x })) (.detect)
  s.portA.st = LState.detect) ∧
  (let s : State := ((fun x => pB sBoth fun p => { p with st := x })) (.detect)
  s.portB.st = LState.detect) ∧
  (let s : State := ((fun x => pA sNorm fun p => { p with st := x })) (.detect)
  let p : PortId := .a
  (s.port p).st = LState.detect) ∧
  (let s : State := ((fun x => pA sReady0 fun p => { p with st := x, lanes := [], gen := 0, sweepGen := 1, sweepRound := 3 })) (.backoff)
  let p : PortId := .a
  let lane : Fin 4 := 0
  (s.port p).st = LState.backoff ∧
    (Sparse.get { } (s.port p).lanes ↑lane).squelch = false) ∧
  (let s : State := ((fun x => pA sNorm fun p => { p with st := x })) (.sweep)
  s.portA.st = LState.sweep) ∧
  (let s : State := ((fun x => pA sNorm fun p => { p with st := x })) (.sweep)
  let p : PortId := .a
  (s.port p).st.training = true) ∧
  (let s : State := ((fun x => pA sNorm fun p => { p with st := x })) (.backoff)
  let p : PortId := .a
  (s.port p).st = LState.backoff) := by
  refine ⟨?_, ?_, ?_, ?_, ?_, ?_, ?_⟩ <;> decide +kernel
theorem wit_LockSelectsGenerationAndFraming :
  (let s : State := ((fun x => pA sNorm fun p => { p with st := x })) (.sweep)
  let p : PortId := .a
  let lane : Fin 4 := 0
  (s.port p).st = LState.sweep ∧
    (Sparse.get { } (s.port p).lanes ↑lane).squelch = true ∧
    ((s.port p).sweepGen ≠ 1 ∨ lane = 0)) ∧
  (let s : State := ((fun x => pA sReady0 fun p => { p with st := x, lanes := [], gen := 0, sweepGen := 1, sweepRound := 3 })) (.sweep)
  let p : PortId := .a
  let lane : Fin 4 := 1
  (s.port p).st = LState.sweep ∧
    (s.port p).sweepGen = 1 ∧
    lane ≠ 0) ∧
  (let s : State := pA sNorm fun p => { p with st := .align, gen := 1 }
  s.portA.st = LState.align ∧
    s.portA.gen = 1 ∧
    (Sparse.get { } s.portA.lanes 0).bitLock = true ∧
    s.nativeUsable = true) ∧
  (let s : State := pA sLeg (fun p => { p with st := .align, gen := 1 })
  s.portA.st = LState.align ∧
    s.portA.gen = 1 ∧
    (Sparse.get { } s.portA.lanes 0).bitLock = true ∧
    s.t512Usable = true) ∧
  (let s : State := ((fun x => pA sNorm fun p => { p with st := x })) (.align)
  let lane : Fin 4 := 0
  s.portA.st = LState.align ∧
    2 ≤ s.portA.gen ∧
    (Sparse.get { } s.portA.lanes ↑lane).bitLock = true ∧
    s.nativeUsable = true ∧
    s.portA.alignAt = none) ∧
  (let s : State := pA { sNorm with clk := { sNorm.clk with tb1 := 200000 * 2^32 } } (fun p => { p with st := .align, alignAt := some 5 })
  let at1 : ℕ := 5
  s.portA.st = LState.align ∧
    s.portA.alignAt = some at1 ∧
    at1 + 100000 ≤ s.now1) := by
  refine ⟨?_, ?_, ?_, ?_, ?_, ?_⟩ <;> decide +kernel
theorem wit_TrainingBlocksSetTheLanes :
  (let s : State := ((fun x => pA sNorm fun p => { p with st := x })) (.deskew)
  let lane : Fin 4 := 0
  let w : BitVec 64 := mkTr 0 2 3 0 true 0 0 7
  (Sparse.get { } s.portA.lanes ↑lane).inverted = false ∧
    trOk w 0 = true ∧
    trRole w = true ∧
    trLpbk w = 0 ∧
    s.portA.st = LState.deskew) ∧
  (let s : State := ((fun x => pA sNorm fun p => { p with st := x })) (.deskew)
  let blocks : List (Fin 4 × ℕ × BitVec 64) := [(0, (0, mkTr 1 2 3 0 true 0 0 7))]
  s.portA.st = LState.deskew ∧
    blocks ≠ [] ∧
    (∀ b ∈ blocks, (Sparse.get { } s.portA.lanes ↑b.1).inverted = false ∧ trOk b.2.2 1 = true ∧ trRole b.2.2 = true)) ∧
  (let s : State := pA sNorm fun p => { p with useMask := 2, st := .deskew }
  let lane : Fin 4 := 1
  let w : BitVec 64 := mkTr 2 1 3 0 true 15 15 7
  s.portA.st = LState.deskew ∧
    (Sparse.get { } s.portA.lanes ↑lane).inverted = false ∧
    trOk w 2 = true ∧
    trRole w = true ∧
    s.portA.useMask = BitVec.twoPow 4 (Sparse.get { } s.portA.lanes ↑lane).laneId ∧
    (Sparse.get { } s.portA.lanes ↑lane).laneId < 4 ∧
    (Sparse.get { } s.portA.lanes ↑lane).deskewed = true) ∧
  (let s : State := pA sNorm fun p => { p with st := .loopback, loopback := 3 }
  s.portA.st = LState.loopback ∧
    s.portA.loopback = 3) ∧
  (let s : State := sFuse
  let p : PortId := .a
  let lane : Fin 4 := 0
  let w : BitVec 64 := 0
  (Sparse.get { } (s.port p).lanes ↑lane).inverted = false ∧
    trOk w 0 = false ∧
    (s.port p).st.training = false) := by
  refine ⟨?_, ?_, ?_, ?_, ?_⟩ <;> decide +kernel
theorem wit_LaneLossIdleAndWake :
  (let s : State := sFuse
  let lane : Fin 4 := 0
  (Sparse.get { } s.portA.lanes ↑lane).laneId = 15) ∧
  (let s : State := sNorm
  let lane : Fin 4 := 0
  s.portA.st = LState.up ∧
    (Sparse.get { } s.portA.lanes ↑lane).laneId < 4 ∧
    s.portA.useMask.getLsbD (Sparse.get { } s.portA.lanes ↑lane).laneId = true ∧
    s.portA.gen ≠ 1 ∧
    s.useOf s.portA.gen (s.portA.modLane (↑lane) Lane.lost).surviving ≠ 0) ∧
  (let s : State := sLeg
  let lane : Fin 4 := 0
  s.portA.st = LState.up ∧
    (Sparse.get { } s.portA.lanes ↑lane).laneId < 4 ∧
    s.portA.useMask.getLsbD (Sparse.get { } s.portA.lanes ↑lane).laneId = true ∧
    (s.portA.gen = 1 ∨ s.useOf s.portA.gen (s.portA.modLane (↑lane) Lane.lost).surviving = 0)) ∧
  (let s : State := ((fun x => pA sNorm fun p => { p with st := x })) (.repair)
  s.portA.st = LState.repair) ∧
  (let s : State := ((fun x => pB sBoth fun p => { p with st := x })) (.up)
  s.portB.st = LState.up) ∧
  (let s : State := ((fun x => pB sBoth fun p => { p with st := x })) (.up)
  let w : BitVec 64 := mkTr 3 2 3 0 false 7 7 7
  trOk w 3 = true ∧
    trRole w = false ∧
    (s.portB.st = LState.up ∨ s.portB.st = LState.repair)) ∧
  (let s : State := sNorm
  s.linkUp = true ∧
    s.idleOffered = true) ∧
  (let s : State := ((fun x => pA sNorm fun p => { p with st := x })) (.idle)
  s.portA.st = LState.idle) ∧
  (let s : State := ((fun x => pA sNorm fun p => { p with st := x })) (.wake)
  let locked : BitVec 4 := 15
  s.portA.st = LState.wake ∧
    s.portA.useMask &&& locked = s.portA.useMask ∧
    s.portA.useMask ≠ 0) ∧
  (let s : State := ((fun x => pA sNorm fun p => { p with st := x })) (.wake)
  let locked : BitVec 4 := 0
  s.portA.st = LState.wake ∧
    s.portA.useMask &&& locked = 0) ∧
  (let s : State := pA sNorm fun p => { p with rxIdle := true }
  s.portA.rxIdle = true ∧
    s.tqsEmpty = true ∧
    s.link.replay = []) ∧
  (let s : State := pA { sNorm with link := { sNorm.link with tqs := [(1, [{}])] } } fun p => { p with backIdle := true }
  s.portA.backIdle = true ∧
    s.tqsEmpty = false) ∧
  (let s : State := pA sNorm fun p => { p with rxIdle := true, backIdle := true, st := .idle }
  s.portA.backIdle = true ∧
    s.portA.absentRun = 0) ∧
  (let s : State := pA sNorm fun p => { p with rxIdle := true, backIdle := true, absentRun := 1 }
  s.portA.backIdle = true ∧
    s.portA.absentRun = 1) := by
  refine ⟨?_, ?_, ?_, ?_, ?_, ?_, ?_, ?_, ?_, ?_, ?_, ?_, ?_, ?_⟩ <;> decide +kernel
theorem wit_PacketsAreConsumedForwardedOrRejected :
  (let s : State := sNorm
  let p : Rx := { h := hOwn, vc := 1, type := 0x20, opcode := 0, len := 8, payload := [1,2,3,4,5,6,7,8], lenOk := true, fieldsOk := true, who := 0 }
  s.accepts p) ∧
  (let s : State := sNorm
  let p : Rx := { h := ⟨4095, 2, 0⟩, vc := 1, type := 0x20, opcode := 0, len := 8, payload := [1,2,3,4,5,6,7,8], lenOk := true, fieldsOk := true, who := 1 }
  s.linkUp = true ∧
    p.len ≤ 4096 ∧
    seqClass s.link.expSeq p.h.seq = 1) ∧
  (let s : State := sNorm
  let p : Rx := { h := ⟨1, 2, 0⟩, vc := 1, type := 0x20, opcode := 0, len := 8, payload := [1,2,3,4,5,6,7,8], lenOk := true, fieldsOk := true, who := 0 }
  s.linkUp = true ∧
    p.len ≤ 4096 ∧
    seqClass s.link.expSeq p.h.seq = 2) ∧
  (let s : State := sNorm
  let p : Rx := { h := hOwn, vc := 1, type := 0x20, opcode := 0, len := 5000, payload := [], lenOk := true, fieldsOk := true, who := 0 }
  s.linkUp = true ∧
    4096 < p.len) ∧
  (let s : State := sNorm
  let p : Rx := { h := hOther, vc := 1, type := 0x20, opcode := 0, len := 8, payload := [1,2,3,4,5,6,7,8], lenOk := true, fieldsOk := true, who := 0 }
  s.linkUp = true ∧
    p.h.seq = s.link.expSeq ∧
    s.start.state ≠ StartState.serviceOnly ∧
    p.len ≤ 4096 ∧
    p.lenOk = true ∧
    p.fieldsOk = true ∧
    (Sparse.get { } s.link.credits p.vc).held + creditCost p.len ≤ s.grant p.vc ∧
    p.h.addr.toNat < 8 ∧
    p.h.addr ≠ BitVec.setWidth 4 s.link.addr) ∧
  (let s : State := sBoth
  let p : Rx := { h := hB, vc := 1, type := 0x20, opcode := 0, len := 8, payload := [1,2,3,4,5,6,7,8], lenOk := true, fieldsOk := true, who := 0 }
  s.linkUp = true ∧
    p.h.seq = s.link.expSeq ∧
    s.start.state ≠ StartState.serviceOnly ∧
    p.len ≤ 4096 ∧
    p.lenOk = true ∧
    p.fieldsOk = true ∧
    (Sparse.get { } s.link.credits p.vc).held + creditCost p.len ≤ s.grant p.vc ∧
    p.h.addr = 15 ∧
    s.mp.ready = true ∧
    s.sp.running = true ∧
    s.storeBlocked p.lo p.hi = false ∧
    s.link.waiting = [] ∧
    s.portB.linked = true) ∧
  (let s : State := sFuse
  s.linkUp = false) := by
  refine ⟨?_, ?_, ?_, ?_, ?_, ?_, ?_⟩ <;> decide +kernel
theorem wit_CapabilityExchangeBringsLinksUp :
  (let s : State := exch sNorm
  let b : List Byte := pay 0x60 [(4, 1, 0), (5, 1, 7), (7, 1, 0x80), (8, 1, 1), (0x20, 2, 100), (0x22, 2, 100), (0x24, 2, 100),
      (0x26, 2, 100), (0x28, 2, 100), (0x2A, 2, 0xFFFF)]
  s.portA.st = LState.exchange ∧
    s.portA.framing = 1 ∧
    b.length = 96 ∧
    fieldAt b 4 1 = 0 ∧
    bitOf (fieldAt b 7 1) 7 = true ∧
    fieldAt b 8 1 ≤ 7 ∧
    (∀ v < 6, 16 ≤ fieldAt b (32 + 2 * v) 2) ∧
    s.revSelect (fieldAt b 5 1 % 8) ≠ 0) ∧
  (let s : State := exch sNorm
  let b : List Byte := pay 0x60 [(4, 1, 0), (5, 1, 0), (7, 1, 0x80), (8, 1, 1), (0x20, 2, 100), (0x22, 2, 100), (0x24, 2, 100),
      (0x26, 2, 100), (0x28, 2, 100), (0x2A, 2, 0xFFFF)]
  s.portA.st = LState.exchange ∧
    s.portA.framing = 1 ∧
    b.length = 96 ∧
    fieldAt b 4 1 = 0 ∧
    bitOf (fieldAt b 7 1) 7 = true ∧
    fieldAt b 8 1 ≤ 7 ∧
    (∀ v < 6, 16 ≤ fieldAt b (32 + 2 * v) 2) ∧
    s.revSelect (fieldAt b 5 1 % 8) = 0) ∧
  (let s : State := exch sNorm
  let b : List Byte := pay 0x60 [(4, 1, 2), (6, 1, 3)]
  s.portA.st = LState.exchange ∧
    s.portA.framing = 1 ∧
    b.length = 96 ∧
    fieldAt b 4 1 = 2 ∧
    fieldAt b 6 1 % 8 = s.link.offered ∧
    s.link.offered ≠ 0) ∧
  (let s : State := { sBoth with portB := { sBoth.portB with st := .exchange }, linkB := { sBoth.linkB with rev := 0 } }
  let b : List Byte := pay 0x60 [(4, 1, 1), (6, 1, 4), (9, 1, 3)]
  s.portB.st = LState.exchange ∧
    b.length = 96 ∧
    fieldAt b 4 1 = 1 ∧
    bitOf (fieldAt b 7 1) 7 = false ∧
    fieldAt b 6 1 % 8 ≠ 0 ∧
    revOf (fieldAt b 6 1 % 8) = s.link.rev) := by
  refine ⟨?_, ?_, ?_, ?_⟩ <;> decide +kernel
theorem wit_FailuresAcksAndReplay :
  (let s : State := sNorm
  s.linkUp = true ∧
    s.link.failRun = 0) ∧
  (let s : State := lk sNorm fun l => { l with failRun := 4, failSeq := 5 }
  let seq : BitVec 12 := 5
  s.linkUp = true ∧
    s.link.failRun = 4 ∧
    s.link.failSeq = seq) ∧
  (let s : State := sNorm
  let h : Hdr := hOwn
  let up : Bool := false
  let vc : Fin 32 := 0
  let type : BitVec 8 := 0x20
  let len : ℕ := 0
  let status : ℕ := 2
  let cause : ℕ := 2
  s.linkUp = true ∧
    h.seq = s.link.expSeq ∧
    len ≤ 4096 ∧
    s.noStaging (↑vc) len = false ∧
    s.start.state ≠ StartState.serviceOnly ∧
    s.headFails h up (↑vc) type.toNat len = some (status, cause)) ∧
  (let s : State := lk sNorm fun l => { l with replay := [tp 0, tp 1] , txSeq := 2 }
  let q : BitVec 12 := 0
  s.linkUp = true ∧
    (∃ x ∈ s.link.replay, x.seq = q)) ∧
  (let s : State := lk sNorm fun l => { l with replay := [tp 0, tp 1] , txSeq := 2 }
  let q : BitVec 12 := 0
  let x : TxPkt := tp 0
  let l : List TxPkt := [tp 1]
  s.linkUp = true ∧
    s.link.replay = x :: l ∧
    x.seq = q ∧
    (∀ y ∈ x :: l, y.seq ≠ q - 1) ∧
    s.link.nakCount < 4) ∧
  (let s : State := lk sNorm fun l => { l with replay := [tp 1], nakCount := 4, replayCount := 4 }
  let q : BitVec 12 := 1
  let x : TxPkt := tp 1
  let l : List TxPkt := []
  s.linkUp = true ∧
    s.link.replay = x :: l ∧
    x.seq = q ∧
    (∀ y ∈ x :: l, y.seq ≠ q - 1) ∧
    4 ≤ s.link.nakCount) ∧
  (let s : State := lk sNorm fun l => { l with unacked := 3 }
  s.ackDue PortId.a = true ∧
    s.ackDue PortId.b = false) ∧
  (let s : State := { sBoth with linkB := { sBoth.linkB with sent := [{ vc := 1, type := 0x20, payload := [1], credits := 1, seq := 0 }], replayCount := 4, unacked := 2, granted := [(0, 100), (1, 100), (4, 9), (7, 1)] } }
  s.ackDue PortId.a = false ∧
    s.ackDue PortId.b = true) ∧
  (let s : State := { (lk sBoth fun l => { l with unacked := 3, replay := [tp 0, tp 1], txSeq := 2, credits := [(1, { held := 5, total := 7, freed := 3 })] }) with linkB := { sBoth.linkB with sent := [{ vc := 1, type := 0x20, payload := [1], credits := 1, seq := 0 }], unacked := 2, granted := [(0, 100), (1, 100)], credits := [(1, { held := 5, total := 7, freed := 3 })] } }
  s.ackDue PortId.a = true ∧
    s.ackDue PortId.b = true) ∧
  (let s : State := lk sNorm fun l => { l with replay := [tp 0, tp 1] , txSeq := 2 }
  let x : TxPkt := tp 0
  let l : List TxPkt := [tp 1]
  s.backUp = true ∧
    s.link.replay = x :: l ∧
    s.replayDue PortId.b = false ∧
    s.link.replayCount < 4) ∧
  (let s : State := lk sNorm fun l => { l with replay := [tp 1], nakCount := 4, replayCount := 4 }
  let x : TxPkt := tp 1
  let l : List TxPkt := []
  s.backUp = true ∧
    s.link.replay = x :: l ∧
    s.replayDue PortId.b = false ∧
    4 ≤ s.link.replayCount) ∧
  (let s : State := { sBoth with linkB := { sBoth.linkB with sent := [{ vc := 1, type := 0x20, payload := [1], credits := 1, seq := 0 }], granted := [(0, 100), (1, 100), (4, 9), (7, 1)] } }
  let x : FwdPkt := fp 0
  let l : List FwdPkt := []
  s.portBUp = true ∧
    s.linkB.sent = x :: l ∧
    s.replayDue PortId.a = false ∧
    s.linkB.replayCount < 4) ∧
  (let s : State := { sBoth with linkB := { sBoth.linkB with sent := [{ vc := 1, type := 0x20, payload := [1], credits := 1, seq := 0 }], replayCount := 4, unacked := 2, granted := [(0, 100), (1, 100), (4, 9), (7, 1)] } }
  let x : FwdPkt := fp 0
  let l : List FwdPkt := []
  s.portBUp = true ∧
    s.linkB.sent = x :: l ∧
    s.replayDue PortId.a = false ∧
    4 ≤ s.linkB.replayCount) ∧
  (let s : State := { (lk sBoth fun l => { l with unacked := 3, replay := [tp 0, tp 1], txSeq := 2, credits := [(1, { held := 5, total := 7, freed := 3 })] }) with linkB := { sBoth.linkB with sent := [{ vc := 1, type := 0x20, payload := [1], credits := 1, seq := 0 }], unacked := 2, granted := [(0, 100), (1, 100)], credits := [(1, { held := 5, total := 7, freed := 3 })] } }
  s.replayDue PortId.a = true ∧
    s.replayDue PortId.b = true) := by
  refine ⟨?_, ?_, ?_, ?_, ?_, ?_, ?_, ?_, ?_, ?_, ?_, ?_, ?_, ?_⟩ <;> decide +kernel
theorem wit_CreditsQueuesAndForwarding :
  (let s : State := sNorm
  s.linkUp = true) ∧
  (let s : State := sNorm
  s.creditDue PortId.a = true ∧
    s.creditDue PortId.b = false ∧
    (∀ (v : ℕ), s.creditHeld v = false)) ∧
  (let s : State := sBoth
  s.creditDue PortId.a = true ∧
    s.creditDue PortId.b = true) ∧
  (let s : State := { (lk sNorm fun l => { l with txLeft := [(0, 100), (5, 100)], tqs := [(0, [tp 0, tp 1])] }) with ev := {} }
  let q : ℕ := 0
  let p : TxPkt := tp 0
  s.backUp = true ∧
    s.portA.backIdle = false ∧
    s.portA.backDet = Detect.present ∧
    s.link.replayNext = none ∧
    s.tqChoice = some q ∧
    s.tqHead q = some p ∧
    p.type ≠ 64) ∧
  (let s : State := sFuse
  let q : ℕ := 0
  let p : TxPkt := tp 0
  s.tqRoom q p = true) ∧
  (let s : State := sFuse
  let q : ℕ := 8
  let p : TxPkt := tp 0
  s.tqRoom q p = false) ∧
  (let s : State := { (lk sNorm fun l => { l with txLeft := [(0, 100), (5, 100)], tqs := [(0, [tp 0, tp 1])] }) with ev := {} }
  let q : Fin 7 := 0
  (s.tqHead ↑q).isSome = true ∧
    ↑q ∉ s.link.starved) ∧
  (let s : State := { sBoth with linkB := { sBoth.linkB with wait := [{ vc := 1, type := 0x20, payload := [1], credits := 1 }], left := [(1, 50)] } }
  let dt : ℕ := 0
  let i : ℕ := 0
  (s.elapse dt).portBDrives = true ∧
    (s.elapse dt).linkB.replayNext = none ∧
    (s.elapse dt).fwdChoice = some i ∧
    (s.elapse dt).linkB.sent.length < 2047) ∧
  (let s : State := { sBoth with linkB := { sBoth.linkB with sent := [{ vc := 1, type := 0x20, payload := [1], credits := 1, seq := 0 }], replayCount := 4, unacked := 2, granted := [(0, 100), (1, 100), (4, 9), (7, 1)] } }
  let h : UpHdr := ⟨hOwn, true⟩
  let vc : Fin 32 := 0
  let b : List Byte := []
  s.portB.linked = true ∧
    h.up = true ∧
    h.h.seq = s.linkB.expSeq ∧
    b.length ≤ 4096 ∧
    (Sparse.get { } s.linkB.credits ↑vc).held + creditCost b.length ≤ Sparse.get 0 s.linkB.granted ↑vc) := by
  refine ⟨?_, ?_, ?_, ?_, ?_, ?_, ?_, ?_, ?_⟩ <;> (first | decide +kernel | exact ⟨by decide +kernel, by decide +kernel, fun _ => rfl⟩)
theorem wit_WritesReachTheStore :
  (let s : State := sNorm
  let h : Hdr := hOwn
  let n : Fin 12 := 0
  let b : List Byte := w0
  s.MemoryWf ∧
    s.accepts (writeRx s h (↑n) b) ∧
    s.power.pd3 = true ∧
    s.unpowered ((s.env ↑n).base + fieldAt b 0 4) ((s.env ↑n).base + fieldAt b 0 4 + (List.drop 8 b).length) = false) ∧
  (let s : State := sW2
  let dt : ℕ := 0
  let h : Hdr := hOwn
  let n : Fin 12 := 0
  let b : List Byte := pay 16 [(0, 4, 64), (4, 4, 8), (8, 4, crcW)]
  (s.elapse dt).accepts (completeRx h (↑n) b) ∧
    s.power.pd3 = true ∧
    fieldAt b 0 4 % 8 = 0 ∧
    fieldAt b 4 4 % 8 = 0 ∧
    fieldAt b 0 4 + fieldAt b 4 4 ≤ (s.env ↑n).size ∧
    (s.env ↑n).enabled = true ∧
    runMatches (Option.map Run.checked (s.layer ↑n).run) (fieldAt b 0 4) (fieldAt b 4 4) (fieldAt b 8 4) = true) ∧
  (let s : State := sNorm
  let dt : ℕ := 0
  let h : Hdr := hOwn
  let n : Fin 12 := 0
  let b : List Byte := w0
  (s.elapse dt).accepts (completeRx h (↑n) b) ∧
    s.power.pd3 = true ∧
    fieldAt b 0 4 % 8 = 0 ∧
    fieldAt b 4 4 % 8 = 0 ∧
    fieldAt b 0 4 + fieldAt b 4 4 ≤ (s.env ↑n).size ∧
    (s.env ↑n).enabled = true ∧
    runMatches (Option.map Run.checked (s.layer ↑n).run) (fieldAt b 0 4) (fieldAt b 4 4) (fieldAt b 8 4) = false) := by
  refine ⟨?_, ?_, ?_⟩ <;> decide +kernel
theorem wit_DescriptorsCommitsAndPours :
  (let s : State := sNorm
  let h : Hdr := hOwn
  let b : List Byte := pay 0x50 [(0, 1, 3)]
  s.accepts (descriptorRx h b) ∧
    s.power.pd3 = true ∧
    fieldAt b 0 1 % 16 < 12 ∧
    descOk (decide (fieldAt b 0 1 % 16 < 4)) (parseDesc (List.drop 16 b)) = true ∧
    (s.env (fieldAt b 0 1 % 16)).enabled = true) ∧
  (let s : State := sNorm
  let dt : ℕ := 0
  let h : Hdr := hOwn
  let b : List Byte := pay 16 [(0, 2, 77), (2, 2, 3)]
  (s.elapse dt).accepts (commitRx h b) ∧
    (s.elapse dt).commitStatus (fieldAt b 2 2 % 4096) (bitOf (fieldAt b 4 1) 0) = 0) ∧
  (let s : State := sNorm
  let dt : ℕ := 0
  let h : Hdr := hOwn
  let b : List Byte := w0
  (s.elapse dt).accepts (commitRx h b) ∧
    (s.elapse dt).commitStatus (fieldAt b 2 2 % 4096) (bitOf (fieldAt b 4 1) 0) ≠ 0) ∧
  (let s : State := { sNorm with comp := { sNorm.comp with pending := [aw, { aw with seq := 78, pourId := 8 }, { aw with seq := 79 }] } }
  let dt : ℕ := 0
  let h : Hdr := hB
  let b : List Byte := pay 16 [(0, 1, 9), (4, 4, 4000000)]
  (s.elapse dt).accepts (pourRx h b) ∧
    h.addr = 15 ∧
    s.start.state = StartState.ready ∧
    33 ≤ s.link.rev ∧
    (∃ c ∈ s.comp.pending, c.await = true ∧ c.group = 0 ∧ c.pourId = BitVec.ofNat 8 (fieldAt b 0 1)) ∧
    fieldAt b 1 1 = (s.elapse dt).clk.epoch.toNat) ∧
  (let s : State := sNorm
  let dt : ℕ := 0
  let h : Hdr := hB
  let b : List Byte := w0
  (s.elapse dt).accepts (pourRx h b) ∧
    h.addr = 15 ∧
    s.start.state = StartState.ready ∧
    33 ≤ s.link.rev ∧
    (∀ c ∈ s.comp.pending, ¬(c.await = true ∧ c.group = 0 ∧ c.pourId = BitVec.ofNat 8 (fieldAt b 0 1)))) ∧
  (let s : State := { sNorm with comp := { sNorm.comp with pending := [aw, { aw with seq := 78, pourId := 8 }, { aw with seq := 79 }] } }
  let seq : BitVec 16 := 77
  (∃ c ∈ s.comp.pending, c.await = true ∧ c.seq = seq)) := by
  refine ⟨?_, ?_, ?_, ?_, ?_, ?_⟩ <;> decide +kernel
theorem wit_ClocksAdvanceTogether :
  (let c : Clocks := { crystal := true, tb0 := 5, tb1 := 7 }
  c.crystal = true) ∧
  (let c : Clocks := { crystal := true, tb0 := 5, tb1 := 7 }
  c.crystal = true ∧
    c.slew = 0) ∧
  (let c : Clocks := { crystal := true, gridOn := true, f := 77777, tb0 := 12345678 }
  c.crystal = true ∧
    c.gridOn = true) ∧
  (let c : Clocks := { crystal := true, tb0 := 5, tb1 := 7 }
  c.crystal = true ∧
    c.gridOn = false) ∧
  (let c : Clocks := {}
  c.crystal = false) ∧
  (let c : Clocks := { crystal := true, tb0 := 5, tb1 := 7 }
  c.crystal = true ∧
    c.slew = 0 ∧
    0 ≤ ↑nsUnit + c.f ∧
    c.gridOn = false) ∧
  (let s : State := sFuse
  s.pending = [] ∧
    s.link.waiting = [] ∧
    s.portA.st ≠ LState.align ∧
    s.portB.st ≠ LState.align) := by
  refine ⟨?_, ?_, ?_, ?_, ?_, ?_, ?_⟩ <;> decide +kernel
theorem wit_TimeIsDisciplinedFromOutside :
  (let s : State := sNorm
  let dt : ℕ := 0
  let h : Hdr := hOwn
  let b : List Byte := pay 32 [(2, 2, 5), (4, 4, 900)]
  (s.elapse dt).accepts (timeRx h b) ∧
    corrSat (timeCorr b) = false) ∧
  (let s : State := sNorm
  let dt : ℕ := 0
  let h : Hdr := hOwn
  let b : List Byte := pay 32 [(2, 2, 5), (4, 4, 900), (8, 6, 0x7FFFFFFFFFFF)]
  (s.elapse dt).accepts (timeRx h b) ∧
    corrSat (timeCorr b) = true) ∧
  (let s : State := { rdy sNorm with sync := { sNorm.sync with sync := some { seqid := 5, rx := { tb0 := 1000, tb1 := 2500 }, cs := 0 }, delays := [6553600], state := .locked } }
  let dt : ℕ := 0
  let h : Hdr := hOwn
  let b : List Byte := pay 32 [(2, 2, 5), (4, 4, 900)]
  let y : SyncRx := { seqid := 5, rx := { tb0 := 1000, tb1 := 2500 }, cs := 0 }
  (s.elapse dt).accepts (timeRx h b) ∧
    s.sync.sync = some y ∧
    y.seqid = timeSeqid b ∧
    (s.elapse dt).now1 - y.rx.tb1 < 10000000 ∧
    s.sync.delays ≠ [] ∧
    s.sync.state ≠ TbState.free ∧
    ((y.rx.tb0 - extend32 (timeStamp b) y.rx.tb0) * 65536 - y.cs - s.pathDelay).natAbs < 655360000) ∧
  (let s : State := { rdy sNorm with sync := { sNorm.sync with req := some { seqid := 5, t1 := 500, t2 := 600, cs := 0, tx := { tb0 := 700, tb1 := 700 } }, delays := [6553600], state := .locked } }
  let dt : ℕ := 0
  let h : Hdr := hOwn
  let b : List Byte := pay 32 [(2, 2, 5), (4, 4, 900)]
  let r : DelayReq := { seqid := 5, t1 := 500, t2 := 600, cs := 0, tx := { tb0 := 700, tb1 := 700 } }
  (s.elapse dt).accepts (timeRx h b) ∧
    s.sync.req = some r ∧
    r.seqid = timeSeqid b ∧
    (s.elapse dt).now1 - r.tx.tb1 < 10000000 ∧
    corrSat (timeCorr b) = false ∧
    0 ≤ rdiv ((r.t2 - r.t1) * 65536 - r.cs + ((extend32 (timeStamp b) r.tx.tb0 - r.tx.tb0) * 65536 - timeCorr b)) 2 ∧
    rdiv ((r.t2 - r.t1) * 65536 - r.cs + ((extend32 (timeStamp b) r.tx.tb0 - r.tx.tb0) * 65536 - timeCorr b)) 2 ≤
  6553600000) ∧
  (let s : State := { rdy sNorm with sync := { sNorm.sync with req := some { seqid := 5, t1 := 500, t2 := 600, cs := 0, tx := { tb0 := 700, tb1 := 700 } }, delays := [6553600], state := .locked } }
  s.sync.req.isSome = true) ∧
  (let s : State := { rdy sNorm with sync := { sNorm.sync with sync := some { seqid := 5, rx := { tb0 := 1000, tb1 := 2500 }, cs := 0 }, delays := [6553600], state := .locked } }
  s.sync.sync.isSome = true) ∧
  (let s : State := { rdy sNorm with sync := { sNorm.sync with sync := some { seqid := 5, rx := { tb0 := 1000, tb1 := 2500 }, cs := 0 }, delays := [6553600], state := .locked } }
  s.sync.state = TbState.locked) ∧
  (let s : State := sNorm
  let dt : ℕ := 0
  (s.elapse dt).clk.crystal = true ∧
    (∀ (l : ℕ), s.sync.tsLast = some l → l + 1000 ≤ (s.elapse dt).now1)) ∧
  (let s : State := { (rdy sNorm) with start := { sNorm.start with addr0 := false, addr1 := false } }
  let dt : ℕ := 0
  (s.elapse dt).lampLeader = true) ∧
  (let s : State := { rdy sNorm with sync := { sNorm.sync with sync := some { seqid := 5, rx := { tb0 := 1000, tb1 := 2500 }, cs := 0 }, delays := [6553600], state := .locked } }
  let dt : ℕ := 0
  (s.elapse dt).lampLeader = false ∧
    (s.elapse dt).gridRuns = true ∧
    ((s.elapse dt).sync.state = TbState.locked ∨
  ∃ l,
  (s.elapse dt).grid.lampLast = some l ∧
    (fun l =>
        periodNs (s.elapse dt).modeNow.rate <
          (((s.elapse dt).now2 : ℤ) - (l : ℤ) - (periodNs (s.elapse dt).modeNow.rate : ℤ)).natAbs * 500)
      l)) ∧
  (let s : State := sNorm
  let dt : ℕ := 0
  (s.elapse dt).lampLeader = false ∧
    (s.elapse dt).gridRuns = true ∧
    (s.elapse dt).sync.state ≠ TbState.locked ∧
    (∀ (l : ℕ),
  (s.elapse dt).grid.lampLast = some l →
  ¬(fun l =>
        periodNs (s.elapse dt).modeNow.rate <
          (((s.elapse dt).now2 : ℤ) - (l : ℤ) - (periodNs (s.elapse dt).modeNow.rate : ℤ)).natAbs * 500)
      l)) ∧
  (let s : State := { rdy sNorm with grid := { sNorm.grid with onLamp := true, lampLast := some 3 } }
  s.grid.onLamp = true) := by
  refine ⟨?_, ?_, ?_, ?_, ?_, ?_, ?_, ?_, ?_, ?_, ?_, ?_⟩ <;> decide +kernel
theorem wit_ZoneListsTakeTwoPackets :
  (let s : State := sNorm
  let h : Hdr := hOwn
  let b : List Byte := zl1
  let z : ZoneList := c1
  s.accepts (zoneRx h 48 b 0) ∧
    parseZones b s.clk.tb3 = some z) ∧
  (let s : State := sNorm
  let h : Hdr := hOwn
  let b : List Byte := inv zl1
  s.accepts (zoneRx h 48 b 0) ∧
    parseZones b s.clk.tb3 = none) ∧
  (let s : State := { sNorm with zones := { sNorm.zones with cand := some c1 }, clk := { sNorm.clk with tb3 := 5000000 } }
  let h : Hdr := hOwn
  let b : List Byte := zl1
  let c : ZoneList := c1
  s.accepts (zoneRx h 49 b 4) ∧
    s.zones.cand = some c ∧
    c.at3 + 1000000 < s.clk.tb3) ∧
  (let s : State := { sNorm with zones := { sNorm.zones with cand := some c1 } }
  let h : Hdr := hOwn
  let b : List Byte := zl1
  let c : ZoneList := c1
  s.accepts (zoneRx h 49 b 4) ∧
    s.zones.cand = some c ∧
    s.clk.tb3 ≤ c.at3 + 1000000 ∧
    parseZones (List.map (fun x => ~~~x) b) c.at3 = none) ∧
  (let s : State := { sNorm with zones := { sNorm.zones with cand := some c1 } }
  let h : Hdr := hOwn
  let b : List Byte := inv zl1
  let c : ZoneList := c1
  let z : ZoneList := c1
  s.accepts (zoneRx h 49 b 4) ∧
    s.zones.cand = some c ∧
    s.clk.tb3 ≤ c.at3 + 1000000 ∧
    parseZones (List.map (fun x => ~~~x) b) c.at3 = some z ∧
    z.same c = true) ∧
  (let s : State := { sNorm with zones := { sNorm.zones with cand := some c1 } }
  let h : Hdr := hOwn
  let b : List Byte := inv zl2
  let c : ZoneList := c1
  let z : ZoneList := (parseZones zl2 0).getD {}
  s.accepts (zoneRx h 49 b 4) ∧
    s.zones.cand = some c ∧
    s.clk.tb3 ≤ c.at3 + 1000000 ∧
    parseZones (List.map (fun x => ~~~x) b) c.at3 = some z ∧
    z.same c = false) ∧
  (let s : State := sNorm
  let h : Hdr := hOwn
  let b : List Byte := zl1
  s.accepts (zoneRx h 49 b 4) ∧
    s.zones.cand = none) ∧
  (let s : State := { sNorm with zones := { sNorm.zones with cand := some c1 } }
  let c : ZoneList := c1
  s.zones.cand = some c) := by
  refine ⟨?_, ?_, ?_, ?_, ?_, ?_, ?_, ?_⟩ <;> decide +kernel
theorem wit_SessionsUnlockByResponse :
  (let s : State := sNorm
  let q : SvcSrc := .uart
  let args : List Byte := ag 0 []
  s.serves q 257 args ∧
    argsFixed args 0 = true ∧
    s.svc.state = SvcState.locked ∧
    s.svc.path = 0 ∧
    s.img.service.unlockEn = true ∧
    s.keyless = false) ∧
  (let s : State := chal sNorm 1 5 0
  let q : SvcSrc := .vc4 hOwn
  let args : List Byte := leBytes 2 32 ++ sNorm.response 5
  let n : BitVec 128 := 5
  s.serves q 258 args ∧
    argsFixed args 32 = true ∧
    s.svc.state = SvcState.challenged ∧
    s.svc.path = pathNum q ∧
    s.svc.nonce = some n ∧
    argsOf args = s.response n) ∧
  (let s : State := chal sNorm 1 5 0
  let q : SvcSrc := .vc4 hOwn
  let args : List Byte := ag 32 []
  let n : BitVec 128 := 5
  s.serves q 258 args ∧
    argsFixed args 32 = true ∧
    s.svc.state = SvcState.challenged ∧
    s.svc.path = pathNum q ∧
    s.svc.nonce = some n ∧
    argsOf args ≠ s.response n) ∧
  (let s : State := unl sNorm 1
  let q : SvcSrc := .vc4 hOwn
  let args : List Byte := ag 0 []
  s.serves q 259 args ∧
    argsFixed args 0 = true ∧
    s.svc.path = pathNum q ∧
    s.svc.state = SvcState.unlocked) ∧
  (let s : State := chal sNorm 1 5 0
  let q : SvcSrc := .vc4 hOwn
  let args : List Byte := ag 0 []
  s.serves q 259 args ∧
    argsFixed args 0 = true ∧
    s.svc.path = pathNum q ∧
    s.svc.state = SvcState.challenged) ∧
  (let s : State := chal sNorm 1 5 0
  s.svc.state = SvcState.challenged) ∧
  (let s : State := unl sNorm 1
  s.svc.state = SvcState.unlocked ∧
    s.link.waiting = []) ∧
  (let s : State := sv sNorm fun v => { v with state := .lockout, lockRec := true }
  s.svc.state = SvcState.lockout) := by
  refine ⟨?_, ?_, ?_, ?_, ?_, ?_, ?_, ?_⟩ <;> (first | decide +kernel | (dsimp only [State.serves]; decide +kernel))
theorem wit_ImageOperationsOnInactiveSlots :
  (let s : State := unl sNorm 1
  let q : SvcSrc := .vc4 hOwn
  let args : List Byte := ag 1 [(0, 1, 1)]
  let i : SlotId := .b
  s.serves q 272 args ∧
    argsFixed args 1 = true ∧
    s.sessionOn q ∧
    s.img.service.writeEn = true ∧
    slotOf (fieldAt (argsOf args) 0 1) = some i ∧
    s.start.active ≠ some i ∧
    s.start.imgErases < 4) ∧
  (let s : State := unl sNorm 1
  let q : SvcSrc := .vc4 hOwn
  let args : List Byte := ag 1 [(0, 1, 0)]
  let i : SlotId := .a
  s.serves q 272 args ∧
    argsFixed args 1 = true ∧
    s.sessionOn q ∧
    s.img.service.writeEn = true ∧
    slotOf (fieldAt (argsOf args) 0 1) = some i ∧
    (s.start.active = some i ∨ 4 ≤ s.start.imgErases)) ∧
  (let s : State := unl sNorm 1
  let q : SvcSrc := .vc4 hOwn
  let args : List Byte := ag 9 [(0, 1, 1), (1, 4, 70), (5, 4, 0x44332211)]
  let i : SlotId := .b
  s.MemoryWf ∧
    s.serves q 273 args ∧
    argLenOk args = true ∧
    s.sessionOn q ∧
    5 ≤ (argsOf args).length ∧
    s.img.service.writeEn = true ∧
    slotOf (fieldAt (argsOf args) 0 1) = some i ∧
    s.start.active ≠ some i ∧
    (List.drop 5 (argsOf args)).length ≤ 4096 ∧
    fieldAt (argsOf args) 1 4 + (List.drop 5 (argsOf args)).length ≤ 12582912 ∧
    (s.settled.slot i).blank (fieldAt (argsOf args) 1 4) (List.drop 5 (argsOf args)).length = true) ∧
  (let s : State := unl sNorm 1
  let q : SvcSrc := .vc4 hOwn
  let args : List Byte := ag 1 [(0, 1, 0)]
  let i : SlotId := .a
  s.serves q 274 args ∧
    argsFixed args 1 = true ∧
    s.sessionOn q ∧
    slotOf (fieldAt (argsOf args) 0 1) = some i) ∧
  (let s : State := unl sNorm 1
  let q : SvcSrc := .vc4 hOwn
  let args : List Byte := ag 7 [(0, 1, 1), (1, 4, 70), (5, 2, 16)]
  let i : SlotId := .b
  s.serves q 275 args ∧
    argsFixed args 7 = true ∧
    s.sessionOn q ∧
    slotOf (fieldAt (argsOf args) 0 1) = some i ∧
    fieldAt (argsOf args) 5 2 ≤ maxRead ∧
    fieldAt (argsOf args) 1 4 + fieldAt (argsOf args) 5 2 ≤ 12582912) ∧
  (let s : State := unl sNorm 1
  let q : SvcSrc := .vc4 hOwn
  let args : List Byte := ag 7 [(0, 1, 1), (1, 4, 70), (5, 2, 16)]
  let r : ℕ × ℕ := (0x1C40000, 0x40000)
  s.serves q 288 args ∧
    argsFixed args 7 = true ∧
    s.sessionOn q ∧
    recordRegion (fieldAt (argsOf args) 0 1) = some r ∧
    0 < fieldAt (argsOf args) 5 2 ∧
    fieldAt (argsOf args) 5 2 ≤ maxRead ∧
    fieldAt (argsOf args) 1 4 + fieldAt (argsOf args) 5 2 ≤ r.2) := by
  refine ⟨?_, ?_, ?_, ?_, ?_, ?_⟩ <;> (first | decide +kernel | (dsimp only [State.serves]; decide +kernel))
theorem wit_PerturbationsNeedTheirCondition :
  (let s : State := unl { sUp with start := { sUp.start with testEn := true } } 2
  let args : List Byte := ag 12 [(0, 1, 5), (2, 2, 0x0301), (4, 4, 800)]
  s.serves SvcSrc.uart 320 args ∧
    argsFixed args 12 = true ∧
    s.start.testEn = true ∧
    perturbOk (fieldAt (argsOf args) 0 1) (fieldAt (argsOf args) 2 2) (BitVec.ofNat 32 (fieldAt (argsOf args) 4 4)) = true ∧
    fieldAt (argsOf args) 0 1 ≠ 7) ∧
  (let s : State := unl sNorm 1
  let q : SvcSrc := .vc4 hOwn
  let args : List Byte := ag 12 [(0, 1, 5), (2, 2, 0x0301), (4, 4, 800)]
  s.serves q 320 args ∧
    argsFixed args 12 = true ∧
    s.sessionOn q ∧
    s.testPath q = false ∧
    (s.img.perturbEn = false ∨ s.perturbCondition = false)) ∧
  (let s : State := { sUp with start := { sUp.start with testEn := true }, svc := { sUp.svc with perturb := [{ control := 5, target := 3, value := 9, uart := true }, { control := 2, target := 3, value := 9, uart := false }] } }
  let q : SvcSrc := .uart
  let args : List Byte := ag 1 [(0,1,255)]
  s.serves q 321 args ∧
    argsFixed args 1 = true ∧
    (s.sessionOn q ∨ s.testPath q = true) ∧
    (fieldAt (argsOf args) 0 1 = 255 ∨ 1 ≤ fieldAt (argsOf args) 0 1 ∧ fieldAt (argsOf args) 0 1 ≤ 10) ∧
    (∃ p ∈ s.svc.perturb, fieldAt (argsOf args) 0 1 = 255 ∨ p.control = fieldAt (argsOf args) 0 1)) ∧
  (let s : State := unl sNorm 1
  let q : SvcSrc := .vc4 hOwn
  let args : List Byte := ag 0 []
  s.serves q 322 args ∧
    argsFixed args 0 = true ∧
    (s.sessionOn q ∨ s.testPath q = true)) ∧
  (let s : State := { sNorm with start := { sNorm.start with testEn := true }, portA := { sNorm.portA with st := .loopback, loopback := 1 } }
  s.start.testEn = true ∧
    s.portA.st = LState.loopback ∧
    s.portA.loopback = 1 ∧
    s.selfTest.running = false) ∧
  (let s : State := unl { sUp with start := { sUp.start with testEn := true } } 2
  s.start.testEn = true ∧
    s.portA.st ≠ LState.loopback) := by
  refine ⟨?_, ?_, ?_, ?_, ?_, ?_⟩ <;> (first | decide +kernel | (dsimp only [State.serves]; decide +kernel))
theorem wit_RequestsAreAnsweredAndBound :
  (let s : State := { sNorm with power := { sNorm.power with pd4 := false, pd5 := false, pd3 := false } }
  let h : Hdr := hOwn
  let args : List Byte := ag 4 [(0, 2, 0x0400), (2, 2, 0x20)]
  s.accepts (requestRx h 1 args) ∧
    argsFixed args 4 = true ∧
    0 < fieldAt (argsOf args) 2 2 ∧
    fieldAt (argsOf args) 2 2 ≤ 1022 ∧
    fieldAt (argsOf args) 0 2 % 4096 + fieldAt (argsOf args) 2 2 ≤ 4096 ∧
    (s.admitted (requestRx h 1 args)).statusData (fieldAt (argsOf args) 0 2 % 4096) (fieldAt (argsOf args) 2 2) = none) ∧
  (let s : State := sNorm
  let h : Hdr := hOwn
  let args : List Byte := ag 0 []
  s.accepts (requestRx h 7 args) ∧
    argLenOk args = true ∧
    (argsOf args).length ≤ 4088) ∧
  (let s : State := sNorm
  let h : Hdr := hOwn
  let op : BitVec 16 := 0x55
  let args : List Byte := zl1
  s.accepts (requestRx h op.toNat args)) ∧
  (let s : State := sNorm
  let q : SvcSrc := .uart
  let op : BitVec 16 := 0x55
  let args : List Byte := zl1
  s.serves q op.toNat args) ∧
  (let s : State := { sNorm with img := { sNorm.img with link := { sNorm.img.link with addrMode := 2 } } }
  let h : Hdr := hOwn
  let args : List Byte := ag 12 [(0, 8, 1), (8, 1, 5)]
  s.accepts (requestRx h 5 args) ∧
    argsFixed args 12 = true ∧
    48 ≤ s.link.rev ∧
    fieldAt (argsOf args) 0 8 = s.fuse.serial.toNat ∧
    s.img.link.addrMode = 2) ∧
  (let s : State := sNorm
  let dt : ℕ := 0
  let h : Hdr := hOwn
  let args : List Byte := ag 4 [(0, 2, 1), (2, 2, 3)]
  (s.elapse dt).accepts (requestRx h 2 args) ∧
    argsFixed args 4 = true ∧
    s.start.state = StartState.ready ∧
    fieldAt (argsOf args) 0 1 % 8 < s.img.modes.length) ∧
  (let s : State := { sNorm with start := { sNorm.start with state := .bringUp } }
  let dt : ℕ := 0
  let h : Hdr := hOwn
  let args : List Byte := ag 4 [(0, 2, 1), (2, 2, 3)]
  (s.elapse dt).accepts (requestRx h 2 args) ∧
    argsFixed args 4 = true ∧
    s.start.state ≠ StartState.ready) ∧
  (let s : State := sNorm
  let dt : ℕ := 0
  let h : Hdr := hOwn
  let args : List Byte := ag 4 [(0,1,255),(2,2,100)]
  (s.elapse dt).accepts (requestRx h 2 args) ∧
    argsFixed args 4 = true ∧
    s.start.state = StartState.ready ∧
    s.img.modes.length ≤ fieldAt (argsOf args) 0 1 % 8) ∧
  (let s : State := sNorm
  let dt : ℕ := 0
  let h : Hdr := hOwn
  let args : List Byte := ag 4 [(0,1,255),(2,2,100)]
  (s.elapse dt).accepts (requestRx h 3 args) ∧
    argsFixed args 4 = true ∧
    s.start.state = StartState.ready ∧
    fieldAt (argsOf args) 2 2 ≤ 4000 ∧
    (fieldAt (argsOf args) 0 1 = 255 ∨ fieldAt (argsOf args) 0 1 < s.img.profileCount) ∧
    (s.elapse dt).profileOff (fieldAt (argsOf args) 0 1) = false) ∧
  (let s : State := sNorm
  let dt : ℕ := 0
  let h : Hdr := hOwn
  let args : List Byte := ag 6 [(0, 2, 0x4000), (2, 2, 50), (4, 1, 1)]
  (s.elapse dt).accepts (requestRx h 4 args) ∧
    argsFixed args 6 = true ∧
    s.start.state = StartState.ready ∧
    fieldAt (argsOf args) 2 2 ≤ 4000 ∧
    fieldAt (argsOf args) 0 2 ≤ 32768) := by
  refine ⟨?_, ?_, ?_, ?_, ?_, ?_, ?_, ?_, ?_, ?_⟩ <;> (first | decide +kernel | (dsimp only [State.serves]; decide +kernel))
theorem wit_RecoveryClearsTheOffLatch :
  (let s : State := sNorm
  let h : Hdr := hOwn
  let args : List Byte := ag 4 [(0, 2, 0x8000), (2, 2, 0x20)]
  s.accepts (requestRx h 6 args) ∧
    argsFixed args 4 = true ∧
    s.start.state = StartState.ready ∧
    fieldAt (argsOf args) 0 1 = 0 ∧
    s.safety.offLatch = false) ∧
  (let s : State := sLatch
  let h : Hdr := hOwn
  let args : List Byte := ag 4 [(0, 2, 0x8000), (2, 2, 0x20)]
  s.accepts (requestRx h 6 args) ∧
    argsFixed args 4 = true ∧
    s.start.state = StartState.ready ∧
    fieldAt (argsOf args) 0 1 = 0 ∧
    s.safety.offLatch = true ∧
    s.confirms s.safety.rindOkMs s.safety.rindCauses = true ∧
    s.confirms s.safety.spOkMs s.safety.spCauses = true ∧
    s.sp.running = true) ∧
  (let s : State := { sLatch with safety := { sLatch.safety with spOkMs := 3 } }
  let h : Hdr := hOwn
  let args : List Byte := ag 4 [(0, 2, 0x8000), (2, 2, 0x20)]
  s.accepts (requestRx h 6 args) ∧
    argsFixed args 4 = true ∧
    s.start.state = StartState.ready ∧
    fieldAt (argsOf args) 0 1 = 0 ∧
    s.safety.offLatch = true ∧
    (s.confirms s.safety.rindOkMs s.safety.rindCauses = false ∨ s.confirms s.safety.spOkMs s.safety.spCauses = false)) := by
  refine ⟨?_, ?_, ?_⟩ <;> decide +kernel
theorem wit_LatchPointAppliesReadyCommits :
  (let s : State := sNorm
  s.gridRuns = true ∧
    s.modeAt s.grid.nextG = none) ∧
  (let s : State := spanned (cm sG fun c => { c with pending := [cmt 0 [(1, d1)]] })
  let c : Commit := cmt 0 [(1, d1)]
  let n : ℕ := 1
  let d : Desc := d1
  s.gridRuns = true ∧
    s.modeAt s.grid.nextG = none ∧
    s.comp.pending = [c] ∧
    c.await = false ∧
    c.group = 0 ∧
    c.due ≤ s.grid.nextG ∧
    c.copies = [(n, d)] ∧
    n < s.layers.length ∧
    (s.layer n).ready d = true) ∧
  (let s : State := cm sClr fun c => { c with pending := [cmt 0 [(1, d1)]] }
  let c : Commit := cmt 0 [(1, d1)]
  let n : ℕ := 1
  let d : Desc := d1
  s.gridRuns = true ∧
    s.modeAt s.grid.nextG = none ∧
    s.comp.pending = [c] ∧
    c.await = false ∧
    c.group = 0 ∧
    c.due ≤ s.grid.nextG ∧
    c.copies = [(n, d)] ∧
    (s.layer n).ready d = false ∧
    c.defers + 1 < (s.env n).staleN) := by
  refine ⟨?_, ?_, ?_⟩ <;> decide +kernel
theorem wit_CutoffPreparesTheHandover :
  (let s : State := cm sClr fun c => { c with pending := [cmt 0 [(1, d1)]] }
  s.gridRuns = true ∧
    ((s.elapse (s.cyclesTo0 (s.cutoffOf s.grid.nextG))).elapse
      ((s.elapse (s.cyclesTo0 (s.cutoffOf s.grid.nextG))).cyclesTo0
        (s.cutoffOf s.grid.nextG))).timeTiles.clearable =
  true ∧
    (∃ c ∈ s.comp.pending, c.await = false ∧ c.due ≤ s.grid.nextG) ∧
    s.safety.handover = false) ∧
  (let s : State := sNorm
  s.gridRuns = true ∧
    s.comp.pending = [] ∧
    s.leg.slot0 = none ∧
    s.leg.slot1 = none) ∧
  (let s : State := sNorm
  s.gridRuns = true) ∧
  (let s : State := sNorm
  let n : ℕ := 63
  s.gridRuns = true ∧
    s.grid.timed = false ∧
    n < 64 ∧
    s.tileOn n = true) ∧
  (let s : State := gr sG fun g => { g with mode := 1 }
  let n : ℕ := 63
  s.gridRuns = true ∧
    s.grid.timed = false ∧
    n < 64 ∧
    s.tileOn n = true ∧
    s.nextPeriod ≠ s.pwmPeriod) ∧
  (let s : State := sf sClr fun x => { x with handover := true }
  s.safety.handover = true) := by
  refine ⟨?_, ?_, ?_, ?_, ?_, ?_⟩ <;> decide +kernel
theorem wit_ScanStepsAdvanceTheWindow :
  (let s : State := full sG 0
  s.inWindow = true) ∧
  (let s : State := full sG 0
  s.inWindow = true ∧
    s.stretched = false) ∧
  (let s : State := sNorm
  s.inWindow = false) := by
  refine ⟨?_, ?_, ?_⟩ <;> decide +kernel
theorem wit_SegmentsReachTheLatches :
  (let s : State := sNorm
  let n : Fin 64 := 3
  let hdr : BitVec 32 := BitVec.ofNat 32 (hd 9 7 false)
  let codes : List (BitVec 12) := codes1
  let crc : BitVec 16 := lcrc
  s.MemoryWf ∧
    s.tileOn ↑n = true ∧
    headerOk 1 hdr.toNat = true ∧
    codes.length = 128 ∧
    s.svc.perturb = [] ∧
    lineCrc (List.map BitVec.toNat codes) = crc) ∧
  (let s : State := sNorm
  let n : Fin 64 := 3
  let hdr : BitVec 32 := BitVec.ofNat 32 (hd 9 7 false)
  let codes : List (BitVec 12) := codes1
  let crc : BitVec 16 := lcrc + 1
  s.MemoryWf ∧
    s.tileOn ↑n = true ∧
    headerOk 1 hdr.toNat = true ∧
    codes.length = 128 ∧
    s.svc.perturb = [] ∧
    lineCrc (List.map BitVec.toNat codes) ≠ crc) ∧
  (let s : State := sNorm
  let n : Fin 64 := 3
  let hdr : BitVec 32 := BitVec.ofNat 32 (hd 9 7 false)
  let codes : List (BitVec 12) := []
  s.tileOn ↑n = true ∧
    (headerOk 1 hdr.toNat = false ∨ codes.length ≠ 128)) ∧
  (let s : State := { rd (full sG 128) with quads := [] }
  let n : Fin 64 := 3
  s.tileOn ↑n = false) ∧
  (let s : State := { gr sG (fun g => { g with step := 128 }) with quads := (sG.modQuad 1 fun k => { k with heldSegs := [(8, 3), (9, 4)], fresh := true }).quads }
  let q : Fin 4 := 1
  s.quadReady ↑q = true ∧
    (s.quad ↑q).heldSegs ≠ [] ∧
    s.grid.step = 128) := by
  refine ⟨?_, ?_, ?_, ?_, ?_⟩ <;> decide +kernel
theorem wit_ReadbacksAndRereads :
  (let s : State := rd (full sG 128)
  let n : Fin 64 := 3
  let w : BitVec 48 := w1
  let x : SegRec := rec1
  let rest : List SegRec := [rec0, rec1]
  rbCrcOk w.toNat = true ∧
    bitsOf w.toNat 44 4 = 1 ∧
    s.sp.running = true ∧
    takeRec (↑n) s.rb.expect = (some x, rest) ∧
    rbReason x w.toNat = none ∧
    s.rb.fault = [] ∧
    s.safety.spCauses.getLsbD cReadback = false) ∧
  (let s : State := rd (full sG 128)
  let n : Fin 64 := 3
  let w : BitVec 48 := w2
  let x : SegRec := rec1
  let rest : List SegRec := [rec0, rec1]
  let r : ℕ := 2
  rbCrcOk w.toNat = true ∧
    bitsOf w.toNat 44 4 = 1 ∧
    s.sp.running = true ∧
    takeRec (↑n) s.rb.expect = (some x, rest) ∧
    rbReason x w.toNat = some r ∧
    Sparse.get false s.rb.miss (128 * x.tile + x.row) = false ∧
    s.rb.fault = [] ∧
    s.safety.spCauses.getLsbD cReadback = false) ∧
  (let s : State := rbk (rd sNorm) (fun r => { r with miss := [(128 * 3 + 9, true)] })
  let n : Fin 64 := 3
  let w : BitVec 48 := w2
  let x : SegRec := rec1
  let rest : List SegRec := [rec0, rec1]
  let r : ℕ := 2
  rbCrcOk w.toNat = true ∧
    bitsOf w.toNat 44 4 = 1 ∧
    s.sp.running = true ∧
    takeRec (↑n) s.rb.expect = (some x, rest) ∧
    rbReason x w.toNat = some r ∧
    Sparse.get false s.rb.miss (128 * x.tile + x.row) = true) ∧
  (let w : BitVec 48 := w1 + 1
  rbCrcOk w.toNat = false) ∧
  (let s : State := rd (full sG 128)
  let x : SegRec := rec0
  let rest : List SegRec := [rec1, rec1]
  s.rb.expect = x :: rest ∧
    s.sp.running = true ∧
    s.tileOn x.tile = true) ∧
  (let s : State := { rd (full sG 128) with quads := [] }
  let x : SegRec := rec0
  let rest : List SegRec := [rec1, rec1]
  s.rb.expect = x :: rest ∧
    s.tileOn x.tile = false) ∧
  (let s : State := rd (gr sG fun g => { g with kind := .transition })
  s.grid.kind = FrameKind.transition) ∧
  (let s : State := full sG 128
  s.grid.step = 128 ∧
    s.grid.kind = FrameKind.full) ∧
  (let s : State := keep sG 128
  s.grid.step = 128 ∧
    (s.grid.kind = FrameKind.keepAlive ∨ s.grid.kind = FrameKind.idle)) ∧
  (let s : State := rd (full sG 128)
  s.rb.checked ≠ 0 ∧
    s.sp.running = true) ∧
  (let s : State := rbk (full sG 128) (fun r => { r with reported := [(5, lineCrc (List.replicate 128 0))] })
  let x : ℕ × BitVec 16 := (5, lineCrc (List.replicate 128 0))
  (s.grid.kind = FrameKind.full ∨ s.grid.kind = FrameKind.keepAlive) ∧
    s.grid.step = 128 ∧
    s.sp.running = true ∧
    nextReported s.rb.rot s.rb.reported = some x ∧
    s.segPoison s.grid.lastFull (tileY (x.1 / 128) + x.1 % 128) (x.1 / 128) = false) := by
  refine ⟨?_, ?_, ?_, ?_, ?_, ?_, ?_, ?_, ?_, ?_, ?_⟩ <;> decide +kernel
theorem wit_ControlWordsAndTileCurrent :
  (let s : State := sf sNorm (fun x => { x with cmds := [c2], paint := .dark })
  let n : Fin 64 := 3
  let w : BitVec 96 := ctl 1 (50 <<< 80 ||| 3 <<< 72)
  s.tileOn ↑n = true ∧
    ctlOp w = 1 ∧
    headerOk 2 (s.ctlHeader (↑n) 4).toNat = true) ∧
  (let s : State := sf sNorm (fun x => { x with cmds := [c2], paint := .dark })
  let n : Fin 64 := 3
  let w : BitVec 96 := ctl 2 (30000000 <<< 60 ||| 7 <<< 54)
  s.tileOn ↑n = true ∧
    ctlOp w = 2 ∧
    headerOk 2 (s.ctlHeader (↑n) 8).toNat = true) ∧
  (let s : State := sf sNorm (fun x => { x with cmds := [c2], paint := .dark })
  let n : Fin 64 := 3
  let w : BitVec 96 := ctl 3 (12345 <<< 64)
  s.tileOn ↑n = true ∧
    ctlOp w = 3 ∧
    headerOk 2 (s.ctlHeader (↑n) 12).toNat = true) ∧
  (let s : State := sf sNorm (fun x => { x with cmds := [c2], paint := .dark })
  let n : Fin 64 := 3
  let w : BitVec 96 := ctl 0x45 (99 <<< 78 ||| 300 <<< 66)
  s.tileOn ↑n = true ∧
    ctlOp w = 69 ∧
    headerOk 2 (s.ctlHeader (↑n) 276).toNat = true) ∧
  (let s : State := { tl sNorm 3 (fun x => { x with ctlHead := [(4, 5)] }) with grid := { sNorm.grid with step := 128, nextL := 10^9 } }
  let n : Fin 64 := 3
  let w : BitVec 96 := ctl 1 (50 <<< 80 ||| 3 <<< 72)
  s.tileOn ↑n = true ∧
    ctlOp w = 1 ∧
    headerOk 2 (s.ctlHeader (↑n) 4).toNat = false) ∧
  (let s : State := State.reset
  let n : Fin 64 := 3
  s.tileOn ↑n = false) ∧
  (let s : State := sf sNorm (fun x => { x with cmds := [c2], paint := .dark })
  let n : Fin 64 := 3
  s.tileOn ↑n = true) ∧
  (let tgt : ℕ := 255
  tgt < 256) ∧
  (let x : Tile := { applied := 3, ovrNew := true, frac := 200 }
  let tgt : ℕ := 255
  tgt < 256 ∧
    x.ovrNew = true) ∧
  (let s : State := sf sNorm (fun x => { x with cmds := [c2], paint := .dark })
  let n : Fin 64 := 3
  let v : BitVec 32 := 0
  v.toNat % 256 ≤ s.fusedCeil ↑n ∧
    (s.tile ↑n).req.toNat ≠ v.toNat % 256) ∧
  (let s : State := sf sNorm (fun x => { x with cmds := [c2], paint := .dark })
  let n : Fin 64 := 3
  let v : BitVec 32 := 160
  v.toNat % 256 ≤ s.fusedCeil ↑n ∧
    (s.tile ↑n).req.toNat = v.toNat % 256) ∧
  (let s : State := sf sNorm (fun x => { x with cmds := [c2], paint := .dark })
  let n : ℕ := 200
  s.tileOn n = false) ∧
  (let s : State := sf sNorm (fun x => { x with cmds := [c2], paint := .dark })
  let n : ℕ := 0
  s.tileOn n = true) := by
  refine ⟨?_, ?_, ?_, ?_, ?_, ?_, ?_, ?_, ?_, ?_, ?_, ?_, ?_⟩ <;> decide +kernel
theorem wit_BusCommandsAndFillSweeps :
  (let s : State := sf sNorm (fun x => { x with cmds := [c2], paint := .dark })
  let q : Fin 4 := 3
  let w : BitVec 64 := quadWord 1 5 false 3 40 2 90 0x123
  (s.quad ↑q).powered = true ∧
    qValid w = true ∧
    qAll w = false ∧
    qCmd w = 1 ∧
    (s.tile (tileOf (↑q) (qTile w))).held.length < 8 ∧
    (qRect w).x0 ≤ (qRect w).x1 ∧
    (qRect w).y0 ≤ (qRect w).y1) ∧
  (let s : State := sf sNorm (fun x => { x with cmds := [c2], paint := .dark })
  let q : Fin 4 := 3
  let w : BitVec 64 := quadWord 1 5 false 3 2 2 90 0x123
  (s.quad ↑q).powered = true ∧
    qValid w = true ∧
    qAll w = false ∧
    qCmd w = 1 ∧
    (s.tile (tileOf (↑q) (qTile w))).held.length < 8 ∧
    ((qRect w).x1 < (qRect w).x0 ∨ (qRect w).y1 < (qRect w).y0)) ∧
  (let s : State := tl (tl sNorm 3 fun x => { x with held := [⟨3, 40, 2, 90, 7⟩, ⟨1, 5, 2, 90, 9⟩] }) 5 (fun x => { x with held := List.replicate 8 ⟨3, 40, 2, 90, 7⟩, localSrc := true, applied := 200 })
  let q : Fin 4 := 0
  let w : BitVec 64 := quadWord 1 5 false 3 40 2 90 0x123
  (s.quad ↑q).powered = true ∧
    qValid w = true ∧
    qAll w = false ∧
    qCmd w = 1 ∧
    8 ≤ (s.tile (tileOf (↑q) (qTile w))).held.length) ∧
  (let s : State := sf sNorm (fun x => { x with cmds := [c2], paint := .dark })
  let q : Fin 4 := 3
  let w : BitVec 64 := quadWord 2 5 false 0 0 0 0 0x800
  (s.quad ↑q).powered = true ∧
    qValid w = true ∧
    qAll w = false ∧
    qCmd w = 2) ∧
  (let s : State := sf sNorm (fun x => { x with cmds := [c2], paint := .dark })
  let q : Fin 4 := 3
  let w : BitVec 64 := quadWord 3 5 false 0 0 0 0 0xC00
  (s.quad ↑q).powered = true ∧
    qValid w = true ∧
    qAll w = false ∧
    qCmd w = 3) ∧
  (let s : State := sf sNorm (fun x => { x with cmds := [c2], paint := .dark })
  let q : Fin 4 := 3
  let w : BitVec 64 := quadWord 4 5 false 0 0 0 0 0x800
  (s.quad ↑q).powered = true ∧
    qValid w = true ∧
    qAll w = false ∧
    qCmd w = 4 ∧
    (s.tile (tileOf (↑q) (qTile w))).localSrc ≠ bitOf (qArg w) 11) ∧
  (let s : State := tl (tl sNorm 3 fun x => { x with held := [⟨3, 40, 2, 90, 7⟩, ⟨1, 5, 2, 90, 9⟩] }) 5 (fun x => { x with held := List.replicate 8 ⟨3, 40, 2, 90, 7⟩, localSrc := true, applied := 200 })
  let q : Fin 4 := 0
  let w : BitVec 64 := quadWord 4 5 false 0 0 0 0 0x800
  (s.quad ↑q).powered = true ∧
    qValid w = true ∧
    qAll w = false ∧
    qCmd w = 4 ∧
    (s.tile (tileOf (↑q) (qTile w))).localSrc = bitOf (qArg w) 11) ∧
  (let s : State := sf sNorm (fun x => { x with cmds := [c2], paint := .dark })
  let q : Fin 4 := 3
  let w : BitVec 64 := quadWord 5 5 false 0 0 0 0 0
  (s.quad ↑q).powered = true ∧
    qValid w = true ∧
    qAll w = false ∧
    qCmd w = 5) ∧
  (let s : State := sf sNorm (fun x => { x with cmds := [c2], paint := .dark })
  let q : Fin 4 := 3
  let w : BitVec 64 := quadWord 1 5 false 3 40 2 90 0x123
  (s.quad ↑q).powered = true ∧
    qValid w = true ∧
    qCmd w = 1) ∧
  (let s : State := sf sNorm (fun x => { x with cmds := [c2], paint := .dark })
  let q : Fin 4 := 3
  let w : BitVec 64 := quadWord 2 5 false 0 0 0 0 0x800
  (s.quad ↑q).powered = true ∧
    qValid w = true ∧
    qCmd w = 2) ∧
  (let s : State := sf sNorm (fun x => { x with cmds := [c2], paint := .dark })
  let q : Fin 4 := 3
  let w : BitVec 64 := quadWord 6 5 false 0 0 0 0 0
  (s.quad ↑q).powered = true ∧
    qValid w = false) ∧
  (let s : State := State.reset
  let q : Fin 4 := 3
  (s.quad ↑q).powered = false) ∧
  (let s : State := tl (tl sNorm 3 fun x => { x with held := [⟨3, 40, 2, 90, 7⟩, ⟨1, 5, 2, 90, 9⟩] }) 5 (fun x => { x with held := List.replicate 8 ⟨3, 40, 2, 90, 7⟩, localSrc := true, applied := 200 })
  let n : Fin 64 := 3
  s.MemoryWf ∧
    s.tileOn ↑n = true ∧
    (s.tile ↑n).held ≠ []) := by
  refine ⟨?_, ?_, ?_, ?_, ?_, ?_, ?_, ?_, ?_, ?_, ?_, ?_, ?_⟩ <;> decide +kernel
theorem wit_AnswersEndTheRindsCommands :
  (let s : State := mk sNorm [c2]
  let q : Fin 4 := 0
  let a : BitVec 16 := an 5 false
  let c : QuadCmd := c2
  let rest : List QuadCmd := []
  s.safety.cmds = c :: rest ∧
    c.quad = ↑q ∧
    s.safety.paint ≠ Paint.dark ∧
    bitsOf a.toNat 0 4 = bitsOf a.toNat 12 4 ^^^ bitsOf a.toNat 8 4 ^^^ bitsOf a.toNat 4 4 ∧
    qAll c.word = false ∧
    qTile c.word = bitsOf a.toNat 12 4 ∧
    bitOf a.toNat 11 = false) ∧
  (let s : State := mk sNorm [c3]
  let q : Fin 4 := 0
  let a : BitVec 16 := an 15 false
  let c : QuadCmd := c3
  let rest : List QuadCmd := []
  s.safety.cmds = c :: rest ∧
    c.quad = ↑q ∧
    s.safety.paint ≠ Paint.dark ∧
    bitsOf a.toNat 0 4 = bitsOf a.toNat 12 4 ^^^ bitsOf a.toNat 8 4 ^^^ bitsOf a.toNat 4 4 ∧
    qAll c.word = true ∧
    bitsOf a.toNat 12 4 = 15 ∧
    bitOf a.toNat 11 = false) ∧
  (let s : State := mk sNorm [c2]
  let q : Fin 4 := 0
  let a : BitVec 16 := an 5 true
  let c : QuadCmd := c2
  let rest : List QuadCmd := []
  s.safety.cmds = c :: rest ∧
    c.quad = ↑q ∧
    s.safety.paint ≠ Paint.dark ∧
    bitsOf a.toNat 0 4 = bitsOf a.toNat 12 4 ^^^ bitsOf a.toNat 8 4 ^^^ bitsOf a.toNat 4 4 ∧
    (qAll c.word = true ∨ qTile c.word = bitsOf a.toNat 12 4) ∧
    bitOf a.toNat 11 = true) ∧
  (let a : BitVec 16 := an 5 false + 1
  bitsOf a.toNat 0 4 ≠ bitsOf a.toNat 12 4 ^^^ bitsOf a.toNat 8 4 ^^^ bitsOf a.toNat 4 4) ∧
  (let s : State := sf sNorm (fun x => { x with cmds := [c2], paint := .dark })
  let q : Fin 4 := 0
  let c : QuadCmd := c2
  let rest : List QuadCmd := []
  s.safety.cmds = c :: rest ∧
    c.quad = ↑q ∧
    c.resent = false) ∧
  (let s : State := mk sNorm [c2r]
  let q : Fin 4 := 0
  let c : QuadCmd := c2r
  let rest : List QuadCmd := []
  s.safety.cmds = c :: rest ∧
    c.quad = ↑q ∧
    c.resent = true ∧
    s.safety.paint ≠ Paint.dark) ∧
  (let s : State := sf sNorm (fun x => { x with cmds := [c2], paint := .dark })
  let q : Fin 4 := 0
  let a : BitVec 16 := an 5 false
  let c : QuadCmd := c2
  s.safety.cmds = [c] ∧
    c.quad = ↑q ∧
    s.safety.paint = Paint.dark ∧
    s.zones.blankQuads.getLsbD ↑q = false ∧
    bitsOf a.toNat 0 4 = bitsOf a.toNat 12 4 ^^^ bitsOf a.toNat 8 4 ^^^ bitsOf a.toNat 4 4 ∧
    (qAll c.word = true ∧ bitsOf a.toNat 12 4 = 15 ∨ qAll c.word = false ∧ qTile c.word = bitsOf a.toNat 12 4) ∧
    bitOf a.toNat 11 = false) := by
  refine ⟨?_, ?_, ?_, ?_, ?_, ?_, ?_⟩ <;> decide +kernel
theorem wit_PowerOfQuadrantsAndDomains :
  (let s : State := far (qd sNorm 0 fun x => { x with lit := false, forced := false })
  let q : Fin 4 := 3
  (s.quad ↑q).powered = true ∧
    (s.quad ↑q).darkFrom + 1000000 * s.drive.qdarkMs ≤ s.now1 ∧
    (s.quad ↑q).lit = false ∧
    (s.quad ↑q).forced = false) ∧
  (let s : State := sf sNorm (fun x => { x with cmds := [c2], paint := .dark })
  let q : Fin 4 := 3
  (s.quad ↑q).powered = true ∧
    (s.now1 < (s.quad ↑q).darkFrom + 1000000 * s.drive.qdarkMs ∨ (s.quad ↑q).lit = true ∨ (s.quad ↑q).forced = true)) ∧
  (let s : State := qd sNorm 0 (fun x => { x with granted := true, lit := false, forced := false })
  let q : Fin 4 := 0
  (s.quad ↑q).granted = true ∧
    (s.quad ↑q).powered = true ∧
    (s.quad ↑q).lit = false ∧
    (s.quad ↑q).forced = false) ∧
  (let s : State := State.reset
  let q : Fin 4 := 3
  (s.quad ↑q).powered = false) ∧
  (let s : State := qd sNorm 3 (fun x => { x with powered := true, ready := false, waking := true })
  let q : Fin 4 := 3
  (s.quad ↑q).waking = true ∧
    (s.quad ↑q).powered = true ∧
    s.safety.paint = Paint.none) ∧
  (let s : State := { sNorm with zones := { sNorm.zones with blankQuads := 9 } }
  let q : Fin 4 := 3
  s.zones.blankQuads.getLsbD ↑q = true ∧
    s.safety.paint = Paint.none) ∧
  (let s : State := sf { sNorm with start := { sNorm.start with state := .serviceOnly } } (fun x => { x with state := .fallback, lbreq := true })
  s.mpRuns = true ∧
    s.mayDrop 3 = true ∧
    s.power.pd3 = true) ∧
  (let s : State := sf sNorm (fun x => { x with cmds := [c2], paint := .dark })
  s.mpRuns = true ∧
    s.power.pd2 = true) ∧
  (let s : State := { frz (pw sNorm fun p => { p with pd3 := false }) with store := { sNorm.store with init0 := false } }
  s.mpRuns = true ∧
    s.mayDrop 4 = true ∧
    s.power.pd4 = true ∧
    (s.mp.ready = false ∨ s.store.init0 = false)) ∧
  (let s : State := frz (pw sNorm fun p => { p with pd3 := false })
  s.mpRuns = true ∧
    s.mayDrop 4 = true ∧
    s.power.pd4 = true) ∧
  (let s : State := frz (pw sNorm fun p => { p with pd3 := false })
  s.mpRuns = true ∧
    s.mayDrop 5 = true ∧
    s.power.pd5 = true) ∧
  (let s : State := sf sNorm (fun x => { x with cmds := [c2], paint := .dark })
  let pd : Fin 11 := 3
  s.mpRuns = true ∧
    3 ≤ ↑pd ∧
    ↑pd ≤ 5 ∧
    s.mayDrop ↑pd = false) ∧
  (let s : State := sf sNorm (fun x => { x with cmds := [c2], paint := .dark })
  let pd : Fin 11 := 0
  s.mpRuns = true ∧
    (↑pd < 2 ∨ ↑pd = 10)) ∧
  (let s : State := sf sNorm (fun x => { x with cmds := [c2], paint := .dark })
  s.mpRuns = true) ∧
  (let s : State := State.reset
  s.mpRuns = false) := by
  refine ⟨?_, ?_, ?_, ?_, ?_, ?_, ?_, ?_, ?_, ?_, ?_, ?_, ?_, ?_, ?_⟩ <;> decide +kernel
theorem wit_DiagnosisWordsAtTheTile :
  (let s : State := sf sNorm (fun x => { x with cmds := [c2], paint := .dark })
  let n : Fin 64 := 3
  let w : BitVec 96 := ctl 0x40 (9 <<< 81 ||| 77 <<< 69 ||| 8 <<< 57)
  s.tileOn ↑n = true ∧
    ctlOp w = 64 ∧
    headerOk 2 (s.ctlHeader (↑n) 256).toNat = true) ∧
  (let s : State := sf sNorm (fun x => { x with cmds := [c2], paint := .dark })
  let n : Fin 64 := 3
  let w : BitVec 96 := ctl 0x41 (9 <<< 81 ||| 1 <<< 79 ||| 0xF0F <<< 47)
  s.tileOn ↑n = true ∧
    ctlOp w = 65 ∧
    headerOk 2 (s.ctlHeader (↑n) (260 + bitsOf w.toNat 79 2)).toNat = true) ∧
  (let s : State := sf sNorm (fun x => { x with cmds := [c2], paint := .dark })
  let n : Fin 64 := 3
  let w : BitVec 96 := ctl 0x42 (cyc4000 <<< 64)
  s.tileOn ↑n = true ∧
    ctlOp w = 66 ∧
    headerOk 2 (s.ctlHeader (↑n) 264).toNat = true) ∧
  (let s : State := sf sNorm (fun x => { x with cmds := [c2], paint := .dark })
  let n : Fin 64 := 3
  let w : BitVec 96 := ctl 0x43 (4 <<< 85)
  s.tileOn ↑n = true ∧
    ctlOp w = 67 ∧
    headerOk 2 (s.ctlHeader (↑n) 268).toNat = true ∧
    bitsOf w.toNat 85 3 = 4) ∧
  (let s : State := sf sNorm (fun x => { x with cmds := [c2], paint := .dark })
  let n : Fin 64 := 3
  let w : BitVec 96 := ctl 0x44 (9 <<< 81)
  s.tileOn ↑n = true ∧
    ctlOp w = 68 ∧
    headerOk 2 (s.ctlHeader (↑n) 272).toNat = true) := by
  refine ⟨?_, ?_, ?_, ?_, ?_⟩ <;> decide +kernel
theorem wit_MeasuredPeriodsFeedTheFaultMap :
  (let s : State := ms sNorm { m1 with dirty := true }
  let n : Fin 64 := 3
  let m : Meas := { m1 with dirty := true }
  (s.tile ↑n).meas = some m ∧
    m.dirty = true) ∧
  (let s : State := ms sNorm { m1 with row := 8 }
  let n : Fin 64 := 3
  let m : Meas := { m1 with row := 8 }
  (s.tile ↑n).meas = some m ∧
    m.dirty = false ∧
    m.row ≠ (s.tile ↑n).sweepRow) ∧
  (let s : State := ms sNorm m1
  let n : Fin 64 := 3
  let m : Meas := m1
  (s.tile ↑n).meas = some m ∧
    m.dirty = false ∧
    m.row = (s.tile ↑n).sweepRow) ∧
  (let s : State := dg sNorm (fun d => { d with fails := [(8*5+1, 1), (8*200+2, 1)] })
  let p : ℕ := 200
  let cause : ℕ := 2
  Sparse.get 0 s.diag.fails (8 * p + cause) = 1 ∧
    cause ≠ 0 ∧
    s.mapBlocked p = false ∧
    s.mapped p = false) ∧
  (let s : State := dg sNorm (fun d => { d with fails := [(8*5+1, 1), (8*200+2, 1)] })
  let p : ℕ := 200
  let cause : ℕ := 2
  Sparse.get 0 s.diag.fails (8 * p + cause) = 1 ∧
    cause ≠ 0 ∧
    s.mapBlocked p = false ∧
    s.mapped p = false ∧
    s.diag.list.length < listDepth) ∧
  (let s : State := sf sNorm (fun x => { x with cmds := [c2], paint := .dark })
  let p : ℕ := 0
  let cause : ℕ := 0
  Sparse.get 0 s.diag.fails (8 * p + cause) = 0) := by
  refine ⟨?_, ?_, ?_, ?_, ?_, ?_⟩ <;> decide +kernel
theorem wit_DiagnosisSchedulesAndGapTests :
  (let s : State := { (tl (tl sNorm 3 fun x => { x with sweepRow := 9 }) 63 fun x => { x with start := 10^14 }) with grid := { sNorm.grid with step := 128, nextL := 3 } }
  let n : Fin 64 := 3
  s.quadReady (quadOfTile ↑n) = true ∧
    s.grid.step = 128 ∧
    s.power.pd3 = true ∧
    (s.tile ↑n).sweepRow < 128 ∧
    s.slotFits ↑n = false) ∧
  (let s : State := { tl sNorm 3 (fun x => { x with ctlHead := [(4, 5)] }) with grid := { sNorm.grid with step := 128, nextL := 10^9 } }
  let n : Fin 64 := 3
  s.quadReady (quadOfTile ↑n) = true ∧
    s.grid.step = 128 ∧
    s.power.pd3 = true ∧
    (s.tile ↑n).sweepRow < 128 ∧
    s.slotFits ↑n = true) ∧
  (let s : State := sf sNorm (fun x => { x with cmds := [c2], paint := .dark })
  let n : Fin 64 := 3
  s.quadReady (quadOfTile ↑n) = true ∧
    s.power.pd3 = true ∧
    (tilesOfQuad (quadOfTile ↑n)).any s.gapBusy = false) ∧
  (let s : State := tl sNorm 5 (fun x => { x with gap := some 10 })
  let n : Fin 64 := 3
  s.quadReady (quadOfTile ↑n) = true ∧
    s.power.pd3 = true ∧
    (tilesOfQuad (quadOfTile ↑n)).any s.gapBusy = true ∧
    s.diag.gapOrder.contains ↑n = false) ∧
  (let s : State := sf sNorm (fun x => { x with cmds := [c2], paint := .dark })
  let n : Fin 64 := 3
  (s.tile ↑n).overdue = false) ∧
  (let s : State := dg sNorm (fun d => { d with delta := [(5, 1, false), (7, 2, true)] })
  s.linkUp = true ∧
    s.isLegacy = false ∧
    s.diag.fullDue = false ∧
    s.diag.delta ≠ [] ∧
    s.queued 4 +
  List.foldl (fun x1 x2 => x1 + x2) 0
    (List.map TxPkt.size (s.mapPackets false (List.map (fun x => mapEntry x.1 x.2.1 x.2.2) s.diag.delta))) ≤
  queueDepth 4) ∧
  (let s : State := big sNorm
  s.linkUp = true ∧
    s.isLegacy = false ∧
    s.diag.fullDue = false ∧
    s.diag.delta ≠ [] ∧
    queueDepth 4 <
  s.queued 4 +
  List.foldl (fun x1 x2 => x1 + x2) 0
    (List.map TxPkt.size (s.mapPackets false (List.map (fun x => mapEntry x.1 x.2.1 x.2.2) s.diag.delta)))) ∧
  (let s : State := states28
  let n : Fin 64 := 3
  let g : ℕ := 2
  (s.tile ↑n).gap = some g) ∧
  (let s : State := states29
  let n : Fin 64 := 3
  let g : ℕ := 2
  (s.tile ↑n).gap = some g ∧
    s.isCut ↑n = false ∧
    1 ≤ (s.tile ↑n).gapFails ∧
    s.safety.switchFault.getLsbD ↑n = false) ∧
  (let s : State := sf sNorm (fun x => { x with switchClosed := 0x28, cuts := [(3, 1)] })
  let n : ℕ := 3
  n < 64 ∧
    s.safety.switchClosed.getLsbD n = true ∧
    s.isCut n = true) := by
  refine ⟨?_, ?_, ?_, ?_, ?_, ?_, ?_, ?_, ?_, ?_⟩ <;> decide +kernel
theorem wit_ReadingsOfSupplyAndSensors :
  (let s : State := sf sNorm (fun x => { x with cmds := [c2], paint := .dark })
  s.drive.cl ≤ 255) ∧
  (let s : State := sf sNorm (fun x => { x with cmds := [c2], paint := .dark })
  let ma : ℕ := 16001
  16000 < ma ∧
    s.drive.overcurrent = false) ∧
  (let ma : ℕ := 0
  ma ≤ 16000) ∧
  (let s : State := sf sNorm (fun x => { x with cmds := [c2], paint := .dark })
  let mv : ℕ := 0
  s.drive.low = false ∧
    mv < 3300) ∧
  (let s : State := dv sNorm (fun d => { d with low := true, cl := 100, overcurrent := true })
  let mv : ℕ := 3350
  s.drive.low = true ∧
    3350 ≤ mv) ∧
  (let s : State := sf sNorm (fun x => { x with cmds := [c2], paint := .dark })
  let mv : ℕ := 3320
  (s.drive.low = false ∧ 3300 ≤ mv ∨ s.drive.low = true ∧ mv < 3350)) ∧
  (let s : State := sf sNorm (fun x => { x with cmds := [c2], paint := .dark })
  let mv : ℕ := 0
  s.start.state ≠ StartState.serviceOnly ∨
  decide ((if s.drive.present = true then 2900 else 3000) ≤ mv) = s.drive.present) ∧
  (let s : State := sf { sNorm with start := { sNorm.start with state := .serviceOnly } } (fun x => { x with state := .fallback, lbreq := true })
  let mv : ℕ := 3299
  s.start.state = StartState.serviceOnly ∧
    decide ((if s.drive.present = true then 2900 else 3000) ≤ mv) ≠ s.drive.present ∧
    s.safety.state = SafeState.fallback) ∧
  (let s : State := sf sNorm (fun x => { x with cmds := [c2], paint := .dark })
  let n : Fin 64 := 3
  let raw : BitVec 16 := an 5 false
  s.tileOn ↑n = true ∧
    raw ≠ 0) ∧
  (let s : State := State.reset
  let n : Fin 64 := 3
  s.tileOn ↑n = false) ∧
  (let raw : BitVec 16 := an 5 false
  raw ≠ 0) ∧
  (let s : State := sf sNorm (fun x => { x with cmds := [c2], paint := .dark })
  s.overridden 69 = none) := by
  refine ⟨?_, ?_, ?_, ?_, ?_, ?_, ?_, ?_, ?_, ?_, ?_, ?_⟩ <;> decide +kernel
theorem wit_RegisterWritesActAsTheirCommands :
  (let s : State := sleg
  let v : BitVec 32 := 0
  s.start.pers = Personality.legacy ∧
    v.toNat % 65536 ≤ 32768) ∧
  (let s : State := sNorm
  let v : BitVec 32 := 0
  (s.start.pers ≠ Personality.legacy ∨ 32768 < v.toNat % 65536)) ∧
  (let s : State := sNorm
  s.mpRuns = true) ∧
  (let s : State := sNorm
  let b : Fin 16 := 0
  s.mpRuns = true ∧
    s.wordOff (768 + ↑b) = false) ∧
  (let s : State := { sNorm with power := { sNorm.power with pd4 := false } }
  let b : Fin 16 := 0
  s.mpRuns = true ∧
    s.wordOff (768 + ↑b) = true) ∧
  (let s : State := State.reset
  s.mpRuns = false) := by
  refine ⟨?_, ?_, ?_, ?_, ?_, ?_⟩ <;> decide +kernel
theorem wit_ArbitersFollowTheirSlotTables :
  (let i : ℕ := 0
  i % 8 = 0) ∧
  (let i : ℕ := 63
  i < 64) ∧
  (let s : State := bk sNorm 0 (fun k => { k with reqs := reqsX, ptr := 3 })
  let b : Fin 16 := 0
  let o : ℕ := 3
  let r : StoreReq := wr 3 5
  s.groupReady (↑b / 8) = true ∧
    s.link.waiting = [] ∧
    (s.bank ↑b).owner = none ∧
    (s.bank ↑b).freeze = false ∧
    (s.bank ↑b).swap = false ∧
    (s.bank ↑b).slotOwner (s.bank ↑b).ptr = some o ∧
    (s.bank ↑b).request o = some r) ∧
  (let s : State := bk sNorm 0 (fun k => { k with reqs := [wr 4 3], ptr := 7 })
  let b : Fin 16 := 0
  let m : ℕ := 4
  s.groupReady (↑b / 8) = true ∧
    s.link.waiting = [] ∧
    (s.bank ↑b).owner = none ∧
    (s.bank ↑b).freeze = false ∧
    (s.bank ↑b).swap = false ∧
    (∀ (o : ℕ), (s.bank ↑b).slotOwner (s.bank ↑b).ptr = some o → (s.bank ↑b).request o = none) ∧
    (s.bank ↑b).idleWinner = some m) ∧
  (let s : State := bk sNorm 0 (fun k => { k with reqs := reqsX, owner := some 5, ptr := 2 })
  let b : Fin 16 := 0
  let o : ℕ := 5
  s.groupReady (↑b / 8) = true ∧
    s.link.waiting = [] ∧
    (s.bank ↑b).owner = some o ∧
    (s.bank ↑b).scrubFix = none ∧
    (s.bank ↑b).request o = none) ∧
  (let s : State := bk sNorm 0 (fun k => { k with reqs := reqsX, owner := some 3, ptr := 2 })
  let b : Fin 16 := 0
  let o : ℕ := 3
  s.groupReady (↑b / 8) = true ∧
    s.link.waiting = [] ∧
    (s.bank ↑b).owner = some o ∧
    (s.bank ↑b).scrubFix = none ∧
    (s.bank ↑b).request o ≠ none) ∧
  (let s : State := bk sNorm 0 (fun k => { k with owner := some 5, scrubFix := some 5, ptr := 2 })
  let b : Fin 16 := 0
  let o : ℕ := 5
  let row : ℕ := 5
  s.groupReady (↑b / 8) = true ∧
    s.link.waiting = [] ∧
    (s.bank ↑b).owner = some o ∧
    (s.bank ↑b).scrubFix = some row) ∧
  (let s : State := bk sNorm 0 (fun k => { k with freeze := true, reqs := reqsX })
  let b : Fin 16 := 0
  s.groupReady (↑b / 8) = true ∧
    s.link.waiting = [] ∧
    (s.bank ↑b).owner = none ∧
    (s.bank ↑b).reqs ≠ [] ∧
    (s.bank ↑b).freeze = true) ∧
  (let s : State := sNorm
  let b : Fin 16 := 0
  s.groupReady (↑b / 8) = true ∧
    s.link.waiting = [] ∧
    (s.bank ↑b).owner = none ∧
    (s.bank ↑b).reqs = []) ∧
  (let s : State := sNorm
  let b : Fin 16 := 0
  (s.bank ↑b).swap = false) ∧
  (let s : State := bk sNorm 0 (fun k => { k with swap := true, ptr := 0, shadow := [(3, 5)] })
  let b : Fin 16 := 0
  (s.bank ↑b).swap = true) ∧
  (let k : Bank := { ptr := 0, swap := true, active := [(3, 5), (9, 2)], shadow := [(1, 3)] }
  k.swap = true ∧
    k.ptr = 0) ∧
  (let k : Bank := { ptr := 5, swap := true }
  k.swap = true ∧
    k.ptr ≠ 0) ∧
  (let s : State := sNorm
  s.link.waiting = []) ∧
  (let s : State := bk sNorm 0 (fun k => { k with reqs := reqsX, owner := some 3, ptr := 2 })
  let b : Fin 16 := 0
  let o : ℕ := 3
  (s.bank ↑b).owner = some o ∧
    s.link.waiting = []) ∧
  (let s : State := bk sNorm 0 (fun k => { k with reqs := reqsX, owner := some 3, ptr := 2 })
  let b : Fin 16 := 0
  let o : ℕ := 3
  (s.bank ↑b).owner = some o ∧
    s.link.waiting = [] ∧
    o ≠ 8 ∧
    o ≠ 9) ∧
  (let s : State := sNorm
  let b : Fin 16 := 0
  (s.bank ↑b).owner = none) ∧
  (let s : State := sNorm
  let b : Fin 16 := 0
  (s.bank ↑b).overdue = false) ∧
  (let s : State := bk (bk sNorm 0 (fun k => { k with overdue := true })) 9 (fun k => { k with overdue := true })
  let b : Fin 16 := 0
  (s.bank ↑b).overdue = true) := by
  refine ⟨?_, ?_, ?_, ?_, ?_, ?_, ?_, ?_, ?_, ?_, ?_, ?_, ?_, ?_, ?_, ?_, ?_, ?_, ?_⟩ <;> decide +kernel
theorem wit_StoreRequestsAndInitialisation :
  (let s : State := sBring
  let b : Fin 16 := 0
  let r : StoreReq := wr 1 5
  s.requesterOn r.who = true ∧
    s.groupPower (↑b / 8) = true ∧
    s.link.waiting = [] ∧
    s.permitted (↑b) r = false ∧
    s.groupReady (↑b / 8) = false) ∧
  (let s : State := { sNorm with power := { sNorm.power with pd4 := false } }
  let b : Fin 16 := 0
  let r : StoreReq := wr 1 5
  s.requesterOn r.who = true ∧
    s.groupPower (↑b / 8) = false ∧
    s.link.waiting = []) ∧
  (let s : State := State.reset
  let r : StoreReq := wr 1 5
  s.requesterOn r.who = false) ∧
  (let s : State := sBring
  let b : Fin 16 := 0
  let r : StoreReq := rdq 0 5
  s.requesterOn r.who = true ∧
    s.groupPower (↑b / 8) = true ∧
    s.link.waiting = [] ∧
    s.permitted (↑b) r = true ∧
    s.groupReady (↑b / 8) = false) ∧
  (let s : State := bk sNorm 0 (fun k => { k with reqs := reqsX, ptr := 3 })
  let b : Fin 16 := 0
  let o : ℕ := 3
  let row : ℕ := 5
  let w : BitVec 256 := 0x0123456789ABCDEF0011223344556677
  let rel : Bool := false
  s.MemoryWf ∧
    s.groupReady (↑b / 8) = true ∧
    s.link.waiting = [] ∧
    (s.bank ↑b).owner = none ∧
    (s.bank ↑b).freeze = false ∧
    (s.bank ↑b).swap = false ∧
    (s.bank ↑b).slotOwner (s.bank ↑b).ptr = some o ∧
    (s.bank ↑b).request o =
  some { who := o, write := true, rows := [row], mask := 15, data := [w], lock := false, release := rel } ∧
    o ≠ 10) ∧
  (let s : State := { sNorm with store := { sNorm.store with init1 := false, cells := [(0, 5), (0x900000, 7)] } }
  let g : Fin 2 := 1
  s.groupPower ↑g = true ∧
    s.groupInit ↑g = false ∧
    s.start.state ≠ StartState.bringUp ∧
    (s.start.state ≠ StartState.ready ∨ ↑g = 1) ∧
    s.link.waiting = []) ∧
  (let s : State := sNorm
  let g : Fin 2 := 0
  (s.groupPower ↑g = false ∨ s.groupInit ↑g = true)) := by
  refine ⟨?_, ?_, ?_, ?_, ?_, ?_, ?_⟩ <;> decide +kernel
theorem wit_JudgementFollowsTheVote :
  (let s : State := sNorm
  s.safety.offLatch = false ∧
    s.safety.state.off = false ∧
    s.vote = 0) ∧
  (let s : State := deg (rc sNorm [cSwitch])
  s.safety.offLatch = false ∧
    s.safety.state.off = false ∧
    s.vote = 1) ∧
  (let s : State := deg (rc sNorm [cClock])
  s.vote = 2) ∧
  (let s : State := sLatch
  s.safety.offLatch = true) ∧
  (let s : State := off sNorm
  s.safety.state.off = true) ∧
  (let s : State := sNorm
  s.rindRuns = true ∧
    s.clk.crystal = true ∧
    s.sp.running = true ∧
    s.safety.rindCauses.getLsbD cSpWatchdog = false) ∧
  (let s : State := sf sNorm (fun x => { x with spMiss := 2 })
  s.rindRuns = true ∧
    s.clk.crystal = true ∧
    2 ≤ s.safety.spMiss) ∧
  (let s : State := deg sNorm
  s.safety.state = SafeState.degraded ∧
    s.bothNormal = true) ∧
  (let s : State := deg sNorm
  s.safety.state = SafeState.degraded ∧
    s.rindRuns = true) ∧
  (let s : State := deg (rc sNorm [cSwitch])
  s.rindFull ≠ s.spFull ∧
    s.safety.disagree = false) ∧
  (let s : State := sNorm
  s.sp.running = true ∧
    s.safety.voteBad = false) := by
  refine ⟨?_, ?_, ?_, ?_, ?_, ?_, ?_, ?_, ?_, ?_, ?_⟩ <;> decide +kernel
theorem wit_FaultsLeadToTheOffClass :
  (let s : State := { sNorm with link := { sNorm.link with holdRun := true } }
  s.link.holdRun = true ∧
    s.rindRuns = true) ∧
  (let s : State := sNorm
  s.safety.copy.isSome = true ∧
    s.safety.crcBad = false ∧
    s.rindRuns = true) ∧
  (let s : State := sNorm
  let b : Bool := false
  s.safety.clockFault.getLsbD (b2n b) = false ∧
    s.rindRuns = true) ∧
  (let s : State := sNorm
  s.safety.oscFault = false ∧
    s.sp.running = true) ∧
  (let s : State := sNorm
  let active : Bool := true
  s.rindRuns = true ∧
    s.safety.lbreq ≠ active) := by
  refine ⟨?_, ?_, ?_, ?_, ?_⟩ <;> decide +kernel
theorem wit_LimiterTicksAndStalls :
  (let s : State := sNorm
  s.rindRuns = true ∧
    s.zones.diffRun = 0) ∧
  (let s : State := zn sNorm (fun z => { z with diffRun := 1, sameRun := 1 })
  s.sp.running = true ∧
    s.zones.diffRun = 1 ∧
    s.zones.sameRun = 1) ∧
  (let s : State := zn sNorm (fun z => { z with stall := some stl })
  let x : Stall := stl
  s.zones.stall = some x ∧
    s.rindRuns = true ∧
    s.unscanned x = []) ∧
  (let s : State := zn sNorm (fun z => { z with stall := some stl2 })
  let x : Stall := stl2
  s.zones.stall = some x ∧
    s.rindRuns = true ∧
    s.unscanned x ≠ [] ∧
    x.capped = true) ∧
  (let s : State := zn sNorm (fun z => { z with stall := some stl3, stalls := [sNorm.clk.tb3, sNorm.clk.tb3] })
  let x : Stall := stl3
  s.zones.stall = some x ∧
    s.rindRuns = true ∧
    s.unscanned x ≠ [] ∧
    x.capped = false) ∧
  (let s : State := rc sNorm [cStall]
  s.safety.rindCauses.getLsbD cStall = true) := by
  refine ⟨?_, ?_, ?_, ?_, ?_, ?_⟩ <;> decide +kernel
theorem wit_WatchdogsBiteAndRestart :
  (let s : State := sNorm
  let dt : ℕ := 12000000
  (s.elapse dt).mpWatched = true ∧
    (s.elapse dt).mp.ready = true ∧
    inWindow 25 100 ((s.elapse dt).now1 - (s.elapse dt).mp.lastServ) = true) ∧
  (let s : State := sNorm
  let dt : ℕ := 0
  (s.elapse dt).mpWatched = true ∧
    (s.elapse dt).mp.ready = true ∧
    inWindow 25 100 ((s.elapse dt).now1 - (s.elapse dt).mp.lastServ) = false) ∧
  (let s : State := sNorm
  s.mpWatched = true) ∧
  (let s : State := { sNorm with mp := { sNorm.mp with ready := false } }
  s.mpWatched = true ∧
    s.mp.ready = false ∧
    s.mpLoaded = true ∧
    s.start.state = StartState.ready ∧
    s.link.waiting = []) ∧
  (let s : State := { sNorm with mp := { ready := false, code := none } }
  s.mpLoaded = false) ∧
  (let s : State := { ck sNorm (fun c => { c with tb1 := 50000000 * nsUnit, tb3 := 12000000 }) with mp := { sNorm.mp with ready := true, bites := [1000, 2000] }, sp := { sNorm.sp with wordDone := true, bites := [5, 6] } }
  s.sp.running = true ∧
    s.sp.wordDone = true ∧
    s.rindRuns = true ∧
    inWindow 5 20 (s.clk.tb3 - s.sp.lastServ) = true) ∧
  (let s : State := { sNorm with sp := { sNorm.sp with wordDone := true }, clk := { sNorm.clk with tb3 := 30000000 } }
  s.sp.running = true ∧
    s.sp.wordDone = true ∧
    s.rindRuns = true ∧
    inWindow 5 20 (s.clk.tb3 - s.sp.lastServ) = false) ∧
  (let s : State := sNorm
  let v : BitVec 8 := 1
  v ≠ s.sp.wdSeq) ∧
  (let s : State := sNorm
  s.sp.running = true ∧
    s.rindRuns = true) ∧
  (let s : State := { sNorm with sp := { sNorm.sp with running := false, bites := [5] } }
  s.sp.running = false ∧
    s.sp.heldOff = false ∧
    s.sp.bites ≠ [] ∧
    s.link.waiting = []) ∧
  (let s : State := sNorm
  let n : ℕ := 1
  s.sp.running = true ∧
    n ≠ s.sp.beat) ∧
  (let s : State := { sNorm with sp := { sNorm.sp with beat := 3, stalled := 2 } }
  let n : ℕ := 3
  s.sp.running = true ∧
    n = s.sp.beat ∧
    2 ≤ s.sp.stalled ∧
    s.sp.beatFault = false) := by
  refine ⟨?_, ?_, ?_, ?_, ?_, ?_, ?_, ?_, ?_, ?_, ?_, ?_⟩ <;> decide +kernel
theorem wit_HeatPolicyAndHardCuts :
  (let s : State := sNorm
  s.mp.ready = true) ∧
  (let s : State := State.reset
  s.mp.ready = false) ∧
  (let fp : ℕ := 0
  fp ≤ fxOne) ∧
  (let fp : ℕ := 0
  let mv : ℕ := 0
  let ma : ℕ := 0
  fp ≤ fxOne ∧
    mv * ma * 10 ≤ 9 * min (12000 * mv) 40000000) ∧
  (let s : State := { sNorm with policy := { sNorm.policy with tiles := [(3, { shut := true, tj := 100, cutLatch := true, cutTimes := [0, 0] })], cuts := [(3, { cut := true, srcs := [3] }), (64, { cut := true, srcs := [64, 68] })] } }
  let n : Fin 64 := 3
  s.mp.ready = true ∧
    (s.heat ↑n).shut = true ∧
    (s.heat ↑n).tj < ofS124 s.img.thermal.retryC) ∧
  (let s : State := hot sNorm 3000
  let g : Fin 68 := 63
  s.cutDecides ↑g ≠ [] ∧
    (s.hcut ↑g).cut = false) ∧
  (let s : State := sNorm
  let g : Fin 68 := 0
  s.cutDecides ↑g = []) ∧
  (let s : State := { sNorm with policy := { sNorm.policy with tiles := [(3, { shut := true, tj := 100, cutLatch := true, cutTimes := [0, 0] })], cuts := [(3, { cut := true, srcs := [3] }), (64, { cut := true, srcs := [64, 68] })] } }
  let g : Fin 68 := 64
  (s.hcut ↑g).cut = true ∧
    (∀ x ∈ (s.hcut ↑g).srcs, s.readsHot x coolRaw = false)) ∧
  (let s : State := sNorm
  let kind : Fin 7 := 1
  s.MemoryWf ∧
    ↑kind ≠ 0 ∧
    s.sp.running = true ∧
    (∀ c ∈ s.flash.recs, c.1 < heatBase ∨ heatBase + 8192 ≤ c.1) ∧
    s.spFits 64 1 = true) := by
  refine ⟨?_, ?_, ?_, ?_, ?_, ?_, ?_, ?_, ?_⟩ <;> decide +kernel
theorem wit_AffinageChargesAndSaves :
  (let s : State := unl2 sNorm
  s.mp.ready = true) ∧
  (let s : State := unl2 sNorm
  s.MemoryWf ∧
    s.store.flips = [] ∧
    s.svc.perturb = []) ∧
  (let s : State := unl2 sNorm
  let k : ℕ := 0
  let j : ℕ := 1
  s.MemoryWf ∧
    s.store.flips = [] ∧
    s.svc.perturb = [] ∧
    j ≠ k) ∧
  (let s : State := unl2 sNorm
  s.mp.ready = true ∧
    s.groupReady 0 = true ∧
    (∀ n < 64, s.isHeld n = false ∨ s.isCut n = true)) ∧
  (let s : State := unl2 sNorm
  s.mp.ready = true ∧
    s.groupReady 0 = true) ∧
  (let s : State := State.reset
  s.mp.ready = false) ∧
  (let s : State := nv (af sNorm fun a => { a with deferred := true }) (fun n => { n with erase := 0, prog := 10, spProg := 0 })
  s.mp.ready = true ∧
    s.groupReady 0 = true ∧
    s.eraseFits 64 = false) ∧
  (let s : State := unl2 sNorm
  s.mp.ready = true ∧
    s.groupReady 0 = true ∧
    s.eraseFits 64 = true ∧
    affBody + 64 ≤ s.nvmRefill.nvm.prog) ∧
  (let s : State := af sNorm (fun a => { a with deferred := true })
  s.mp.ready = true ∧
    s.groupReady 0 = true ∧
    s.affin.deferred = true) ∧
  (let s : State := unl2 sNorm
  s.affin.deferred = false) ∧
  (let s : State := unl2 sNorm
  let n : BitVec 23 := 0
  s.mp.ready = true ∧
    n.toNat ≤ s.nvmRefill.nvm.prog) ∧
  (let s : State := unl2 sNorm
  let n : BitVec 23 := 0x7FFFFF
  s.mp.ready = true ∧
    s.nvmRefill.nvm.prog < n.toNat) := by
  refine ⟨?_, ?_, ?_, ?_, ?_, ?_, ?_, ?_, ?_, ?_, ?_, ?_⟩ <;> decide +kernel
theorem wit_FlashCommandsAndRecords :
  (let s : State := unl2 sNorm
  let c : FlashCmd := cX
  s.cmdAllowed c = false) ∧
  (let s : State := unl2 sNorm
  let c : FlashCmd := cP
  s.cmdAllowed c = true ∧
    s.cmdFits c = true ∧
    s.flash.cur = none) ∧
  (let s : State := fl sNorm (fun f => { f with cur := some jI, wait := [jI] })
  let c : FlashCmd := cP
  s.cmdAllowed c = true ∧
    s.cmdFits c = true ∧
    s.flash.cur ≠ none) ∧
  (let s : State := nv (af sNorm fun a => { a with deferred := true }) (fun n => { n with erase := 0, prog := 10, spProg := 0 })
  let c : FlashCmd := cE
  s.cmdAllowed c = true ∧
    s.cmdFits c = false) ∧
  (let s : State := fl sNorm (fun f => { f with cur := some jI, wait := [jI] })
  let c : FlashCmd := cI
  c.writer = 2 ∧
    s.svc.state ≠ SvcState.unlocked) ∧
  (let s : State := fl sNorm (fun f => { f with cur := some { cmd := cP } })
  let c : FlashCmd := cP
  s.MemoryWf ∧
    s.flash.cur = some { cmd := c } ∧
    25165824 ≤ c.addr ∧
    c.erase = false ∧
    (∀ i < c.data.length, s.flash.byte (c.addr + i) = 255)) ∧
  (let s : State := fl sNorm (fun f => { f with cur := some { cmd := cE }, recs := [(0x1E00005, 3), (0x1E01005, 3)] })
  let c : FlashCmd := cE
  s.MemoryWf ∧
    s.flash.cur = some { cmd := c } ∧
    25165824 ≤ c.addr ∧
    c.erase = true) ∧
  (let s : State := fl sNorm (fun f => { f with cur := some { jI with more := 0 }, wait := [{ cmd := cP }] })
  let c : FlashJob := { jI with more := 0 }
  let d : FlashJob := { cmd := cP }
  let l : List FlashJob := []
  let m : List FlashJob := []
  s.flash.cur = some c ∧
    c.more = 0 ∧
    s.flash.wait = l ++ d :: m ∧
    1 ≤ d.cmd.writer ∧
    d.cmd.writer ≤ 3 ∧
    (∀ x ∈ l, d.cmd.writer < x.cmd.writer) ∧
    (∀ x ∈ m, d.cmd.writer ≤ x.cmd.writer)) ∧
  (let s : State := fl sNorm (fun f => { f with cur := some jI, wait := [jI] })
  let j : FlashJob := jI
  s.flash.cur = some j ∧
    0 < j.more ∧
    (∀ x ∈ s.flash.wait, 2 ≤ x.cmd.writer) ∧
    j.cmd.writer = 2) ∧
  (let s : State := fl sNorm (fun f => { f with cur := some { jI with more := 0 }, wait := [{ cmd := cP }] })
  let j : FlashJob := { jI with more := 0 }
  s.flash.cur = some j ∧
    j.more = 0 ∧
    j.op ≠ 0) ∧
  (let s : State := unl2 sNorm
  let a : ℕ := 2^30
  let bs : List Byte := []
  s.MemoryWf ∧
    25165824 ≤ a ∧
    s.eraseFits 0 = true ∧
    (s.payErase 0).progFits bs.length = true ∧
    (∀ i < bs.length, s.flash.byte (a + i) = 255)) ∧
  (let s : State := nv (af sNorm fun a => { a with deferred := true }) (fun n => { n with erase := 0, prog := 10, spProg := 0 })
  let a : ℕ := 2^30
  s.MemoryWf ∧
    25165824 ≤ a ∧
    s.eraseFits 1 = false) ∧
  (let s : State := unl2 sNorm
  s.start.outcome.isSome = true ∧
    s.start.logged = false) ∧
  (let s : State := State.reset
  (s.start.outcome = none ∨ s.start.logged = true)) ∧
  (let s : State := unl2 sNorm
  s.diag.mapDirty = false) ∧
  (let s : State := unl2 sNorm
  s.mp.ready = true ∧
    s.histLast = none) := by
  refine ⟨?_, ?_, ?_, ?_, ?_, ?_, ?_, ?_, ?_, ?_, ?_, ?_, ?_, ?_, ?_, ?_⟩ <;> decide +kernel
theorem wit_EventsAreReportedInOrder :
  (let s : State := ev sNorm (fun e => { e with ring := evs })
  s.start.pers ≠ Personality.legacy ∧
    (∃ e ∈ s.ev.ring, e.pkt = 0)) ∧
  (let s : State := sLeg
  s.start.pers = Personality.legacy) ∧
  (let s : State := unl2 sNorm
  let code : ℕ := 0
  let key : ℕ := 0
  (∀ w ∈ s.ev.windows, ¬(fun w => w.code = BitVec.ofNat 16 code ∧ w.key = key) w)) ∧
  (let s : State := ev sNorm (fun e => { e with windows := [wnd, { wnd with key := 1, count := 0 }] })
  let code : ℕ := 257
  let key : ℕ := 0
  (∃ w ∈ s.ev.windows, (fun w => w.code = BitVec.ofNat 16 code ∧ w.key = key) w)) ∧
  (let s : State := ev sNorm (fun e => { e with windows := [wnd, { wnd with key := 1, count := 0 }] })
  let code : ℕ := 257
  let key : ℕ := 0
  let i : ℕ := 0
  let w : Window := wnd
  (∃ w ∈ s.ev.windows, (fun w => w.code = BitVec.ofNat 16 code ∧ w.key = key) w) ∧
    s.ev.windows[i]? = some w ∧
    (fun w => w.code = BitVec.ofNat 16 code ∧ w.key = key) w) ∧
  (let s : State := ev sNorm (fun e => { e with windows := [wnd, { wnd with key := 1, count := 0 }] })
  let code : ℕ := 257
  let key : ℕ := 1
  let i : ℕ := 0
  let w : Window := wnd
  (∃ w ∈ s.ev.windows, (fun w => w.code = BitVec.ofNat 16 code ∧ w.key = key) w) ∧
    s.ev.windows[i]? = some w ∧
    ¬(fun w => w.code = BitVec.ofNat 16 code ∧ w.key = key) w) ∧
  (let s : State := ev sNorm (fun e => { e with windows := [{ wnd with count := 0 }, { wnd with key := 1 }] })
  let code : BitVec 16 := 0x0101
  let key : ℕ := 0
  let w : Window := { wnd with count := 0 }
  List.find? (fun x => decide (x.code = code) && decide (x.key = key)) s.ev.windows = some w ∧
    w.count = 0) ∧
  (let s : State := ev sNorm (fun e => { e with windows := [wnd, { wnd with key := 1, count := 0 }] })
  let code : BitVec 16 := 0x0101
  let key : ℕ := 0
  let w : Window := wnd
  List.find? (fun x => decide (x.code = code) && decide (x.key = key)) s.ev.windows = some w ∧
    w.count ≠ 0) ∧
  (let s : State := unl2 sNorm
  let data : List (ℕ × ℕ) := []
  s.mp.ready = true ∧
    List.foldl (fun x1 x2 => x1 + x2) 0 (List.map Event.size s.ev.ring) + (16 + 4 * dataWords data) ≤ 16384) := by
  refine ⟨?_, ?_, ?_, ?_, ?_, ?_, ?_, ?_, ?_⟩ <;> decide +kernel
theorem wit_LegacyWritesTakeEffect :
  (let s : State := sLeg
  let dt : ℕ := 0
  let f : T512Frame := fr 1 4 [5]
  let v : Byte := 5
  (s.elapse dt).takesFrame f ∧
    f.payload = [v] ∧
    f.arg.toNat < 128 ∧
    ¬(f.arg.toNat = 4 ∧ BitVec.getLsbD v 7 = true)) ∧
  (let s : State := sLeg
  let dt : ℕ := 0
  let f : T512Frame := fr 1 0x80 [5]
  (s.elapse dt).takesFrame f ∧
    (f.payload = [] ∨ 128 < f.arg.toNat + f.payload.length)) ∧
  (let s : State := sLeg
  let dt : ℕ := 0
  let f : T512Frame := fr 1 4 [0x80]
  let v : Byte := 0x80
  (s.elapse dt).takesFrame f ∧
    f.arg = 4 ∧
    f.payload = [v] ∧
    BitVec.getLsbD v 7 = true) ∧
  (let s : State := sLeg
  let f : T512Frame := fr 1 0x0D [3, 1]
  let lo : Byte := 3
  let hi : Byte := 1
  s.takesFrame f ∧
    f.arg = 13 ∧
    f.payload = [lo, hi]) := by
  refine ⟨?_, ?_, ?_, ?_⟩ <;> decide +kernel
theorem wit_LegacyReadsAnswerAndAct :
  (let s : State := sLeg
  let f : T512Frame := fr 1 4 [5]
  let n : Byte := 5
  s.takesFrame f ∧
    f.payload = [n] ∧
    1 ≤ BitVec.toNat n ∧
    BitVec.toNat n ≤ 128 ∧
    f.arg.toNat + BitVec.toNat n ≤ 128) ∧
  (let i : ℕ := 7
  i < 8 ∧
    i ≠ 1 ∧
    i ≠ 2) ∧
  (let s : State := sLeg
  let a : ℕ := 0xB
  let v : ℕ := 0
  (a = 11 ∧ v = min 65535 s.failedBlocks.length ∨ a = 13 ∧ v = s.faultIdx ∨ a = 15 ∧ v = s.faultEntry)) ∧
  (let s : State := lg sLeg (fun l => { l with snap := [5, 700, 3], regs := [(0x0D, 1), (4, 0x02), (0x40, 7)], status := 0xFF, errCnt := 7, hi := [(0x0B, 9)] })
  let k : ℕ := 700
  s.leg.snap[s.faultIdx]? = some k) ∧
  (let s : State := sLeg
  s.leg.snap.length ≤ s.faultIdx) ∧
  (let a : ℕ := 4
  (a = 4 ∨ a = 5 ∨ a = 8 ∨ a = 9 ∨ a = 10 ∨ 64 ≤ a ∧ a ≤ 127)) := by
  refine ⟨?_, ?_, ?_, ?_, ?_, ?_⟩ <;> decide +kernel
theorem wit_LinesAndShowMoveTheRows :
  (let s : State := sLeg
  let dt : ℕ := 0
  let f : T512Frame := fr 1 5 (row 0)
  let n : ℕ := 1
  (s.elapse dt).takesFrame f ∧
    (s.elapse dt).MemoryWf ∧
    f.payload.length = 512 * n ∧
    1 ≤ n ∧
    n ≤ 8 ∧
    f.arg.toNat + n ≤ 128 ∧
    (s.elapse dt).power.pd4 = true ∧
    (s.elapse dt).power.pd5 = true ∧
    (s.elapse dt).storeBlocked ((s.elapse dt).regionBase 5 + 512 * f.arg.toNat)
  ((s.elapse dt).regionBase 5 + 512 * f.arg.toNat + 196608 + 512 * n) =
  false ∧
    ¬((s.elapse dt).isReady = true ∧ f.arg.toNat + n = 128 ∧ BitVec.getLsbD ((s.elapse dt).legReg 4) 1 = true)) ∧
  (let s : State := { sLeg with start := { sLeg.start with state := .bringUp, pers := .unlatched } }
  let dt : ℕ := 0
  let f : T512Frame := fr 1 0 []
  (s.elapse dt).takesFrame f ∧
    f.arg = 0 ∧
    f.payload = [] ∧
    (s.elapse dt).isReady = false) ∧
  (let s : State := sLeg
  let dt : ℕ := 0
  let f : T512Frame := fr 1 0 []
  (s.elapse dt).takesFrame f ∧
    f.arg = 0 ∧
    f.payload = [] ∧
    (s.elapse dt).isReady = true) := by
  refine ⟨?_, ?_, ?_⟩ <;> decide +kernel
theorem wit_LegacyFramesAreAnswered :
  (let s : State := sLeg
  let f : T512Frame := fr 1 4 [5]
  s.takesFrame f ∧
    f.payload.length ≤ 4096) ∧
  (let s : State := sLeg
  let ty : BitVec 8 := 0
  let f : T512Frame := fr 1 4 [5]
  s.takesFrame f ∧
    (ty = 0 ∨ 5 < ty.toNat)) ∧
  (let s : State := lg sLeg (fun l => { l with lastSeq := some 1, lastReply := some { type := 0x81, seq := 1, payload := [0] } })
  let f : T512Frame := fr 1 4 [5]
  let r : T512Reply := { type := 0x81, seq := 1, payload := [0] }
  s.legacyUp = true ∧
    s.mp.ready = true ∧
    s.link.waiting = [] ∧
    s.leg.lastSeq = some f.seq ∧
    s.leg.lastReply = some r ∧
    f.payload.length ≤ 360448) ∧
  (let s : State := lg sLeg (fun l => { l with lastSeq := some 1, lastReply := some { type := 0x81, seq := 1, payload := [0] } })
  let noRoom : Bool := false
  let q : BitVec 8 := 1
  s.legacyUp = true ∧
    s.leg.lastSeq = some q ∧
    (noRoom = true ∨ s.leg.badRun < 4)) ∧
  (let s : State := lg sLeg (fun l => { l with badRun := 4, lastSeq := some 1 })
  let q : BitVec 8 := 1
  s.legacyUp = true ∧
    s.leg.lastSeq = some q ∧
    s.leg.badRun = 4) ∧
  (let s : State := { sLeg with portA := { sLeg.portA with st := .exchange } }
  let n : ℕ := 0
  s.portA.framing = 2 ∧
    s.portA.st = LState.exchange ∧
    s.leg.hsRx + n < 16) ∧
  (let s : State := { sLeg with portA := { sLeg.portA with st := .exchange } }
  let n : ℕ := 0x40
  s.portA.framing = 2 ∧
    s.portA.st = LState.exchange ∧
    16 ≤ s.leg.hsRx + n) ∧
  (let s : State := sLeg
  let n : ℕ := 4
  s.legacyUp = true ∧
    4 ≤ n) := by
  refine ⟨?_, ?_, ?_, ?_, ?_, ?_, ?_, ?_⟩ <;> decide +kernel
theorem wit_SelfTestsAndTestPort :
  (let s : State := sv (sf sUp fun x => { x with state := .dark, lbreq := false }) (fun v => { v with state := .unlocked, path := 2 })
  let q : SvcSrc := .uart
  let args : List Byte := ag 6 [(0,1,0),(1,1,5),(2,1,3),(4,2,1000)]
  s.serves q 304 args ∧
    argsFixed args 6 = true ∧
    s.sessionOn q ∧
    fieldAt (argsOf args) 0 1 ≤ 1 ∧
    1 ≤ fieldAt (argsOf args) 1 1 ∧
    fieldAt (argsOf args) 1 1 ≤ 15 ∧
    1 ≤ fieldAt (argsOf args) 2 1 ∧
    fieldAt (argsOf args) 2 1 ≤ 3 ∧
    1 ≤ fieldAt (argsOf args) 4 2 ∧
    fieldAt (argsOf args) 4 2 ≤ 1000 ∧
    s.selftestAllowed = true) ∧
  (let s : State := sv sNorm (fun v => { v with state := .unlocked, path := 2 })
  let q : SvcSrc := .uart
  let args : List Byte := ag 6 [(0,1,0),(1,1,5),(2,1,3),(4,2,1000)]
  s.serves q 304 args ∧
    argsFixed args 6 = true ∧
    s.sessionOn q ∧
    fieldAt (argsOf args) 0 1 ≤ 1 ∧
    1 ≤ fieldAt (argsOf args) 1 1 ∧
    fieldAt (argsOf args) 1 1 ≤ 15 ∧
    1 ≤ fieldAt (argsOf args) 2 1 ∧
    fieldAt (argsOf args) 2 1 ≤ 3 ∧
    1 ≤ fieldAt (argsOf args) 4 2 ∧
    fieldAt (argsOf args) 4 2 ≤ 1000 ∧
    s.selftestAllowed = false) ∧
  (let s : State := { sUp with portA := { sUp.portA with st := .loopback, loopback := 2 }, selfTest := { running := true, lanes := 5 } }
  s.portA.st = LState.loopback ∧
    s.selfTest.running = true) ∧
  (let s : State := State.reset
  (s.portA.st ≠ LState.loopback ∨ s.selfTest.running = false)) ∧
  (let s : State := State.reset
  s.start.testEn = false ∧
    s.portA.st = LState.off) ∧
  (let s : State := sNorm
  s.start.testEn = false ∧
    s.portA.st ≠ LState.off) ∧
  (let s : State := st sFuse (fun x => { x with testEn := true })
  s.start.testEn = true) ∧
  (let s : State := State.reset
  (s.start.testEn = false ∨ s.start.vlog = false)) ∧
  (let s : State := st sFuse (fun x => { x with testEn := true })
  s.start.testEn = true ∧
    s.start.vlog = true) ∧
  (let p : Tap := {}
  p.st < 16) ∧
  (let p : Tap := { st := 4 }
  p.st = 4 ∧
    p.boundary = false) ∧
  (let p : Tap := { st := 3, ir := 0 }
  let k : ℕ := 11
  p.st = 3 ∧
    p.boundary = true ∧
    k < 12) := by
  refine ⟨?_, ?_, ?_, ?_, ?_, ?_, ?_, ?_, ?_, ?_, ?_, ?_⟩ <;> (first | decide +kernel | (dsimp only [State.serves]; decide +kernel))
theorem wit_CommandsCompleteWithTheirEffect :
  (let s : State := unl2 sNorm
  s.gridRuns = true) ∧
  (let s : State := sLeg
  let v : BitVec 32 := 0
  s.start.pers = Personality.legacy ∧
    v.toNat % 65536 ≤ 32768) ∧
  (let s : State := unl2 sNorm
  s.mpRuns = true) ∧
  (let s : State := unl2 sNorm
  let v : BitVec 32 := 5
  s.mpRuns = true ∧
    s.store.wlock = false ∧
    1 ≤ v.toNat % 128 ∧
    v.toNat % 128 ≤ 100) ∧
  (let s : State := unl2 sNorm
  let v : BitVec 32 := 1000
  s.mpRuns = true ∧
    s.drive.qlock = false ∧
    100 ≤ v.toNat % 65536 ∧
    v.toNat % 65536 ≤ 60000) ∧
  (let s : State := ev sNorm (fun e => { e with ring := evs })
  let l : List Event := []
  let m : List Event := evs.drop 1
  let e : Event := { code := 5, seq := 1 }
  s.start.pers ≠ Personality.legacy ∧
    s.ev.ring = l ++ e :: m ∧
    (∀ x ∈ l, x.pkt ≠ 0) ∧
    e.pkt = 0 ∧
    e.size ≤ 4088) ∧
  (let s : State := ev sNorm (fun e => { e with windows := [wnd, { wnd with key := 1, count := 0 }] })
  let code : BitVec 16 := 0x0101
  let key : ℕ := 0
  let w : Window := wnd
  List.find? (fun x => decide (x.code = code) && decide (x.key = key)) s.ev.windows = some w) ∧
  (let s : State := unl2 sNorm
  s.mp.ready = true ∧
    s.groupReady 0 = true ∧
    s.MemoryWf ∧
    s.store.flips = [] ∧
    s.svc.perturb = []) ∧
  (let s : State := nv (af sNorm fun a => { a with deferred := true }) (fun n => { n with erase := 0, prog := 10, spProg := 0 })
  s.mp.ready = true ∧
    s.groupReady 0 = true ∧
    s.affin.deferred = true ∧
    s.eraseFits 64 = false) ∧
  (let s : State := af sNorm (fun a => { a with deferred := true })
  s.mp.ready = true ∧
    s.groupReady 0 = true ∧
    s.affin.deferred = true ∧
    s.eraseFits 64 = true ∧
    affBody + 64 ≤ s.nvmRefill.nvm.prog) ∧
  (let s : State := sLeg
  let f : T512Frame := frr 1 3 [1]
  let n : Byte := 1
  s.takesFrame f ∧
    f.payload = [n] ∧
    1 ≤ BitVec.toNat n ∧
    BitVec.toNat n ≤ 128 ∧
    f.arg.toNat + BitVec.toNat n ≤ 128) := by
  refine ⟨?_, ?_, ?_, ?_, ?_, ?_, ?_, ?_, ?_, ?_, ?_⟩ <;> decide +kernel
theorem wit_TheRindClampOnlyLowers :
  (let k : ClampSet := {}
  let x : ℕ := 0
  let y : ℕ := 255
  y < k.row (x / 64)) ∧
  (let k : ClampSet := {}
  let c : ℕ := 0
  let x : ℕ := 0
  let y : ℕ := 0
  c ≤ k.cap ∧
    (y < k.row (x / 64) → c ≤ k.above) ∧
    (∀ z ∈ k.zones, z.2.covers x y = true → c ≤ z.2.lim)) ∧
  (let c : ℕ := 0
  let d : ℕ := 0
  c ≤ d) := by
  refine ⟨?_, ?_, ?_⟩ <;> decide +kernel
theorem wit_StepRunsFront :
    ({ State.reset with pending := [.vlogValid, .mpReady] } : State).pending = Instr.vlogValid :: [.mpReady] ∧ State.reset.pending = [] := by
  decide
theorem wit_TimeIsDisciplinedFromOutside_leader :
    let s : State := { sNorm with start := { sNorm.start with addr0 := false, addr1 := false } }
    (s.elapse 25).lampLeader = true := by decide +kernel
theorem wit_RequestsAreAnsweredAndBound_status :
    let s : State := sNorm
    let args : List Byte := ag 4 [(0, 2, 0x8010), (2, 2, 1)]
    s.accepts (requestRx hOwn 1 args) ∧ argsFixed args 4 = true ∧ 0 < fieldAt (argsOf args) 2 2 ∧ fieldAt (argsOf args) 2 2 ≤ 1022 ∧
      fieldAt (argsOf args) 0 2 % 4096 + fieldAt (argsOf args) 2 2 ≤ 0x1000 ∧
      (s.admitted (requestRx hOwn 1 args)).statusData (fieldAt (argsOf args) 0 2 % 4096) (fieldAt (argsOf args) 2 2) ≠ none := by
  decide +kernel
theorem wit_TheOffLatchHoldsThroughEveryStep :
    let s : State := { sLatch with pending := [.lbreq true] }
    s.LatchHolds ∧ s.safety.offLatch = true ∧ (match step s with | .next _ => true | _ => false) = true := by decide +kernel
theorem wit_MemoryStaysCanonicalThroughEveryStep :
    let s : State := { sW with pending := [.lossOfVlog] }
    s.MemoryWf ∧ s.store.cells ≠ [] ∧ (match step s with | .next _ => true | _ => false) = true := by decide +kernel
theorem wit_CommitsStayBoundedThroughEveryStep :
    let s : State := { cm sG (fun c => { c with pending := List.replicate 8 aw }) with pending := [.latchPoint] }
    s.CommitsBounded ∧ s.comp.pending.length = 8 ∧ (match step s with | .next _ => true | _ => false) = true := by decide +kernel
theorem wit_SegmentsReachTheLatches_wake :
    let s : State := { gr sG (fun g => { g with step := 128 }) with
      quads := (sG.modQuad 3 fun k => { k with heldSegs := [(8, 3), (9, 4)], fresh := true }).quads }
    s.quadReady 3 = true ∧ (s.quad 3).heldSegs ≠ [] ∧ s.grid.step = 128 := by decide +kernel
theorem wit_FlashCommandsAndRecords_history :
    let s : State := sNorm.histSector 0 1
    s.mp.ready = true ∧ s.histLast = some (0, 1) ∧ s.histFree 0 = some (histBase + 128) := by decide +kernel
theorem readBytes_length (s : State) (h : s.store.flips = []) (a n : Nat) : (s.readBytes a n).length = n := by
  simp [State.readBytes, h, Store.bytes]
theorem mapBody_length (s : State) (h : s.diag.list = []) (h' : s.store.flips = []) : s.mapBody.length = 196608 := by
  unfold State.mapBody
  rw [List.length_append, List.length_append, readBytes_length s h', List.length_replicate, h, List.flatMap_nil, List.length_nil]
  norm_num [mapBytes, listDepth]
def sMap : State := { sNorm with diag := { mapDirty := true } }
def sMapPoor : State := { sMap with nvm := { erase := 1, prog := 10 } }
theorem wit_FlashCommandsAndRecords_map :
    sMap.mp.ready = true ∧ sMap.diag.mapDirty = true ∧ sMap.groupReady 0 = true ∧
      sMap.budgetAllows (1 + ceilDiv sMap.mapBody.length 4096) (sMap.mapBody.length + 64) = true := by
  rw [mapBody_length sMap rfl rfl]; decide +kernel
theorem wit_FlashCommandsAndRecords_mapPoor :
    sMapPoor.mp.ready = true ∧ sMapPoor.diag.mapDirty = true ∧ sMapPoor.groupReady 0 = true ∧
      sMapPoor.budgetAllows (1 + ceilDiv sMapPoor.mapBody.length 4096) (sMapPoor.mapBody.length + 64) = false := by
  rw [mapBody_length sMapPoor rfl rfl]; decide +kernel

end Sys2Proof.Tests
end

section
/-!
PROOFS. The MP's register bridge (13 R362): where an address of it leads, and what a register write or a bad access is as
a command (O38).
-/
namespace Sys2Proof.Machine

/-! ### Outcomes -/

@[simp] theorem landed_next (s t : State) : landed s (.next t) = t := rfl

/-- Landing loses nothing of an outcome that is a next state. -/
theorem next_landed (s : State) {o : Host.Outcome State Fault Refusal} (h : ∃ t, o = .next t) : .next (landed s o) = o := by
  obtain ⟨t, rfl⟩ := h
  rfl

theorem execSlotShadowWrite_answers (b : Fin 16) (j : Fin 8) (v : BitVec 32) (s : State) :
    ∃ t, execSlotShadowWrite b j v s = .next t := by
  unfold execSlotShadowWrite
  split
  · exact ⟨_, rfl⟩
  · exact ⟨_, rfl⟩

/-! ### The MP's accesses as commands -/

theorem exec_registerWrite {s : State} (run : s.mpRuns = true) (a : BitVec 20) (v : BitVec 32) :
    exec (.registerWrite a v) s = .next (s.bridgeWrite a.toNat v) := by
  simp [exec, execRegisterWrite, run]

/-- A register write at an address given by its number. -/
theorem exec_registerWrite_ofNat {s : State} (run : s.mpRuns = true) {n : Nat} (hn : n < 2 ^ 20) (v : BitVec 32) :
    exec (.registerWrite (BitVec.ofNat 20 n) v) s = .next (s.bridgeWrite n v) := by
  rw [exec_registerWrite run, BitVec.toNat_ofNat, Nat.mod_eq_of_lt hn]

theorem exec_registerWrite_heldOff {s : State} (held : s.mpRuns = false) (a : BitVec 20) (v : BitVec 32) :
    exec (.registerWrite a v) s = .next s := by
  simp [exec, execRegisterWrite, held]

theorem exec_mpBadAccess {s : State} (run : s.mpRuns = true) (a : BitVec 32) :
    exec (.mpBadAccess a) s = .next (s.badAccess a.toNat) := by
  simp [exec, execMpBadAccess, run]

theorem exec_mpBadAccess_heldOff {s : State} (held : s.mpRuns = false) (a : BitVec 32) :
    exec (.mpBadAccess a) s = .next s := by
  simp [exec, execMpBadAccess, held]

/-! ### The pages of the bridge (Table 13.1) -/

theorem State.bridgeWrite_storePage (s : State) {addr : Nat} (h : addr < 0x2000) (v : BitVec 32) :
    s.bridgeWrite addr v = s.writeStorePage addr v := by
  simp only [State.bridgeWrite, Nat.div_eq_of_lt h]

theorem State.bridgeWrite_drivePage (s : State) {off : Nat} (h : off < 0x2000) (v : BitVec 32) :
    s.bridgeWrite (0x2000 + off) v = s.writeDrivePage off (0x2000 + off) v := by
  have page : (0x2000 + off) / 0x2000 = 1 := by omega
  have rest : (0x2000 + off) % 0x2000 = off := by omega
  simp only [State.bridgeWrite, page, rest]

theorem State.bridgeWrite_diagCtrl (s : State) (v : BitVec 32) :
    s.bridgeWrite 0x4000 v = landed s (execDiagCtrlWrite v s) := rfl

/-- Above the last page no address is a register's. -/
theorem State.bridgeWrite_noRegister (s : State) {addr : Nat} (h : 0xE000 ≤ addr) (v : BitVec 32) :
    s.bridgeWrite addr v = s.badAccess addr := by
  obtain ⟨k, page⟩ : ∃ k, addr / 0x2000 = k + 7 := ⟨addr / 0x2000 - 7, by omega⟩
  simp only [State.bridgeWrite, page]

/-! ### Registers of the store page and the drive page (Tables 6.4 and 9.8) -/

theorem State.writeStorePage_arbStat (s : State) (b : Fin 16) (v : BitVec 32) :
    s.writeStorePage (0x100 * b.val + 4) v =
      if s.wordOff (0x300 + b.val) then s.badAccess (0x100 * b.val + 4) else s.writeArbStat b v := by
  have notWdog : 0x100 * b.val + 4 ≠ 0x1000 := by omega
  have bank : (0x100 * b.val + 4) / 0x100 = b.val := by omega
  have rest : (0x100 * b.val + 4) % 0x100 = 4 := by omega
  simp [State.writeStorePage, notWdog, bank, rest]

theorem State.writeStorePage_slotShadow (s : State) (b : Fin 16) (j : Fin 8) (v : BitVec 32) :
    s.writeStorePage (0x100 * b.val + 0x30 + 4 * j.val) v = landed s (execSlotShadowWrite b j v s) := by
  have notWdog : 0x100 * b.val + 0x30 + 4 * j.val ≠ 0x1000 := by omega
  have bank : (0x100 * b.val + 0x30 + 4 * j.val) / 0x100 = b.val := by omega
  have rest : (0x100 * b.val + 0x30 + 4 * j.val) % 0x100 = 0x30 + 4 * j.val := by omega
  have inRange : 0x30 + 4 * j.val < 0x50 ∧ (0x30 + 4 * j.val) % 4 = 0 := by omega
  have notArb : 0x30 + 4 * j.val ≠ 4 := by omega
  simp [State.writeStorePage, notWdog, bank, rest, inRange, notArb, Nat.mod_eq_of_lt j.isLt]

theorem State.writeDrivePage_drvTile (s : State) (n : Fin 64) (addr : Nat) (v : BitVec 32) :
    s.writeDrivePage (4 * n.val) addr v = landed s (execDrvTileWrite n v s) := by
  have aligned : 4 * n.val % 4 = 0 := by omega
  have inRange : 4 * n.val < 0x100 := by omega
  simp [State.writeDrivePage, aligned, inRange, Nat.mod_eq_of_lt n.isLt]

/-! ### Register writes that are other commands -/

theorem exec_registerWrite_drvTile {s : State} (run : s.mpRuns = true) (n : Fin 64) (v : BitVec 32) :
    exec (.registerWrite (BitVec.ofNat 20 (0x2000 + 4 * n.val)) v) s = exec (.drvTileWrite n v) s := by
  rw [exec_registerWrite_ofNat run (by omega), s.bridgeWrite_drivePage (by omega), s.writeDrivePage_drvTile]
  exact next_landed s ⟨_, rfl⟩

theorem exec_registerWrite_diagCtrl {s : State} (run : s.mpRuns = true) (v : BitVec 32) :
    exec (.registerWrite 0x4000 v) s = exec (.diagCtrlWrite v) s := by
  have number : (0x4000 : BitVec 20).toNat = 0x4000 := rfl
  rw [exec_registerWrite run, number, s.bridgeWrite_diagCtrl]
  exact next_landed s ⟨_, rfl⟩

theorem exec_registerWrite_slotShadow {s : State} (run : s.mpRuns = true) (b : Fin 16) (j : Fin 8) (v : BitVec 32) :
    exec (.registerWrite (BitVec.ofNat 20 (0x100 * b.val + 0x30 + 4 * j.val)) v) s = exec (.slotShadowWrite b j v) s := by
  rw [exec_registerWrite_ofNat run (by omega), s.bridgeWrite_storePage (by omega), s.writeStorePage_slotShadow]
  exact next_landed s (execSlotShadowWrite_answers b j v s)

/-- ARB_STAT with the bank's domain on and off (R399). -/
theorem exec_registerWrite_arbStat {s : State} (run : s.mpRuns = true) (b : Fin 16) (v : BitVec 32) :
    exec (.registerWrite (BitVec.ofNat 20 (0x100 * b.val + 4)) v) s =
      .next (if s.wordOff (0x300 + b.val) then s.badAccess (0x100 * b.val + 4) else s.writeArbStat b v) := by
  rw [exec_registerWrite_ofNat run (by omega), s.bridgeWrite_storePage (by omega), s.writeStorePage_arbStat]

/-! ### DRV_STRIPE -/

/-- A stripe scale in range in the legacy personality reaches the scales of the next latch point (R259). -/
theorem exec_drvStripeWrite_taken {s : State} (leg : s.start.pers = .legacy) (c : Fin 64) {v : BitVec 32}
    (le : v.toNat % 65536 ≤ 0x8000) :
    exec (.drvStripeWrite c v) s = .next { s with out := { s.out with
      stripeNext := s.out.stripeNext.set 0x8000 c (v.toNat % 65536)
      stripeDirty := s.out.stripeDirty || s.out.stripeNext.get 0x8000 c ≠ v.toNat % 65536 } } := by
  simp [exec, execDrvStripeWrite, leg, le]

theorem exec_drvStripeWrite_ignored {s : State} (c : Fin 64) {v : BitVec 32}
    (out : s.start.pers ≠ .legacy ∨ 0x8000 < v.toNat % 65536) : exec (.drvStripeWrite c v) s = .next s := by
  rcases out with native | beyond
  · simp [exec, execDrvStripeWrite, native]
  · simp [exec, execDrvStripeWrite, Nat.not_le.mpr beyond]

/-- Settles O38: each address is led through its page of the bridge to the command that its register has. -/
theorem registerWritesActAsTheirCommands : Obligations.RegisterWritesActAsTheirCommands := by
  refine ⟨fun s c v leg le => ⟨_, exec_drvStripeWrite_taken leg c le, rfl, rfl, rfl⟩,
    fun s c v out => exec_drvStripeWrite_ignored c out,
    fun s v n run => exec_registerWrite_drvTile run n v,
    fun s v run => exec_registerWrite_diagCtrl run v,
    fun s v b j run => exec_registerWrite_slotShadow run b j v,
    fun s v b run on => ?arbStatOn, fun s v b run off => ?arbStatOff, fun s v run => ?noRegister,
    fun s a run => exec_mpBadAccess run a,
    fun s a b v held => ⟨exec_registerWrite_heldOff held a v, exec_mpBadAccess_heldOff held b⟩⟩
  case arbStatOn => rw [exec_registerWrite_arbStat run, on]; rfl
  case arbStatOff => rw [exec_registerWrite_arbStat run, off]; rfl
  case noRegister =>
    have number : (0xFFFFC : BitVec 20).toNat = 0xFFFFC := rfl
    rw [exec_registerWrite run, number, s.bridgeWrite_noRegister (by norm_num)]
    rfl

end Sys2Proof.Machine
end

section
/-!
PROOFS. Reads after a change in place, of a sparse map in any form and of a canonical one (log 48), and rules for loops.
-/
namespace Sys2Proof

/-- Dropping a key leaves the reads of every other key. -/
theorem Sparse.get_drop_other {α : Type} (d : α) (m : Sparse α) {j k : Nat} (h : j ≠ k) : (m.drop k).get d j = m.get d j := by
  induction m with
  | nil => rfl
  | cons e m ih =>
    obtain ⟨i, w⟩ := e
    unfold Sparse.drop
    split
    case isTrue => rw [Sparse.get, if_neg (by omega)]
    case isFalse => rw [Sparse.get, Sparse.get, ih]

/-- A change in place leaves the reads of every other key, in whatever form the map is. -/
theorem Sparse.get_modify_other {α : Type} [DecidableEq α] (d : α) (m : Sparse α) {j k : Nat} (f : α → α) (h : j ≠ k) :
    (m.modify d k f).get d j = m.get d j := by
  unfold Sparse.modify Sparse.set
  split
  · exact Sparse.get_drop_other d m h
  · rw [Sparse.get_put, if_neg h]

/-- A change in place to a value that is listed reads as that value, in whatever form the map is. -/
theorem Sparse.get_modify_listed {α : Type} [DecidableEq α] (d : α) (m : Sparse α) {k : Nat} {f : α → α} (h : f (m.get d k) ≠ d) :
    (m.modify d k f).get d k = f (m.get d k) := by
  unfold Sparse.modify Sparse.set
  rw [if_neg h, Sparse.get_put, if_pos rfl]

/-- In a canonical map a change in place reads as the new value. -/
theorem Sparse.get_modify {α : Type} [DecidableEq α] (d : α) (m : Sparse α) {k : Nat} (f : α → α) (h : Sparse.wf d m = true) :
    (m.modify d k f).get d k = f (m.get d k) := by
  unfold Sparse.modify
  rw [Sparse.get_set d m k k _ h, if_pos rfl]

end Sys2Proof

namespace Sys2Proof.Machine

/-! ### Reads of quadrants, tiles and banks -/

/-- In a canonical map of quadrants a quadrant reads as it was changed. -/
theorem State.quad_modQuad {s : State} (canonical : Sparse.wf {} s.quads = true) (q : Nat) (f : Quad → Quad) :
    (s.modQuad q f).quad q = f (s.quad q) := Sparse.get_modify ({} : Quad) s.quads f canonical

/-- A quadrant that is changed to another value than the default reads as that value. -/
theorem State.quad_modQuad_listed {s : State} {q : Nat} {f : Quad → Quad} (h : f (s.quad q) ≠ {}) :
    (s.modQuad q f).quad q = f (s.quad q) := Sparse.get_modify_listed ({} : Quad) s.quads h

theorem State.tile_modTile_listed {s : State} {n : Nat} {f : Tile → Tile} (h : f (s.tile n) ≠ {}) :
    (s.modTile n f).tile n = f (s.tile n) := Sparse.get_modify_listed ({} : Tile) s.tiles h

theorem State.tile_modTile_other (s : State) {m n : Nat} (f : Tile → Tile) (h : m ≠ n) : (s.modTile n f).tile m = s.tile m :=
  Sparse.get_modify_other ({} : Tile) s.tiles f h

/-- In a canonical map of banks a bank reads as it was changed. -/
theorem State.bank_modBank {s : State} (canonical : Sparse.wf {} s.banks = true) (b : Nat) (f : Bank → Bank) :
    (s.modBank b f).bank b = f (s.bank b) := Sparse.get_modify ({} : Bank) s.banks f canonical

theorem State.bank_modBank_other (s : State) {a b : Nat} (f : Bank → Bank) (h : a ≠ b) : (s.modBank b f).bank a = s.bank a :=
  Sparse.get_modify_other ({} : Bank) s.banks f h

/-! ### Loops -/

/-- What every round of a loop leaves of a state, the loop leaves. -/
theorem State.forEach_leaves {α : Type} {g : State → α} {f : State → Nat → State} (h : ∀ u x, g (f u x) = g u) (s : State)
    (xs : List Nat) : g (s.forEach xs f) = g s :=
  State.forEach_keeps (R := fun s t => g t = g s) (fun _ => rfl) (fun _ _ _ a b => b.trans a) f h xs s

/-- What holds of one number after a loop that reaches it: every round keeps `I`, the number's own round makes `P` under it, and
the other rounds keep `P`. -/
theorem State.forEach_reaches {I P : State → Prop} {f : State → Nat → State} {n : Nat} (keep : ∀ u x, I u → I (f u x))
    (make : ∀ u, I u → P (f u n)) (stay : ∀ u x, x ≠ n → P u → P (f u x)) {xs : List Nat} (mem : n ∈ xs) {s : State} (start : I s) :
    P (s.forEach xs f) := by
  have hold : ∀ (xs : List Nat) (u : State), I u → P u → P (u.forEach xs f) := by
    intro xs
    induction xs with
    | nil => exact fun _ _ p => p
    | cons x xs ih =>
      intro u i p
      by_cases same : x = n
      · exact ih _ (keep u x i) (same ▸ make u i)
      · exact ih _ (keep u x i) (stay u x same p)
  induction xs generalizing s with
  | nil => exact absurd mem List.not_mem_nil
  | cons x xs ih =>
    by_cases same : n = x
    · exact hold xs _ (keep s x start) (same ▸ make s start)
    · exact ih ((List.mem_cons.mp mem).resolve_left same) (keep s x start)

end Sys2Proof.Machine
end

section
/-!
PROOFS. The initialisation of a bank group (06 R172, R188): what it does where nothing is put into the group, and where the statement
on it fails (O40).
-/
namespace Sys2Proof.Machine

/-- The store with a bank group zeroed and marked initialised. -/
def Store.initialised (m : Store) (g : Nat) : Store :=
  if g = 0 then { m.clearGroup g with init0 := true } else { m.clearGroup g with init1 := true }

/-- The banks of a group take their shadow tables. -/
def State.wakeBanks (s : State) (g : Nat) : State := s.forEach (groupBanks g) fun u b => u.modBank b Bank.woken

theorem State.serveWaiting_idle {s : State} (idle : s.link.waiting = []) : s.serveWaiting = s := by
  unfold State.serveWaiting
  rw [idle, List.foldl_nil, ← idle]

theorem State.wakeBanks_besideBanks (s : State) (g : Nat) : s.wakeBanks g = { s with banks := (s.wakeBanks g).banks } :=
  State.forEach_keeps (R := fun s t => t = { s with banks := t.banks }) (fun _ => rfl)
    (fun _ _ _ first second => second.trans (by rw [first])) _ (fun _ _ => rfl) _ s

/-- Outside BRING_UP, and but for a wake of group 0, nothing is put into an initialised group (R188). -/
theorem State.fillGroup_none {s : State} {g : Nat} (notStart : s.start.state ≠ .bringUp) (noWake : s.start.state ≠ .ready ∨ g = 1)
    (map : List Byte) : s.fillGroup g map = s := by
  rcases noWake with notReady | second
  · simp [State.fillGroup, notStart, notReady]
  · simp [State.fillGroup, notStart, second]

/-- Where nothing is put into it, the initialisation of a group zeroes it and wakes its banks. -/
theorem exec_bankInitDone {s : State} {g : Fin 2} (power : s.groupPower g = true) (fresh : s.groupInit g = false)
    (notStart : s.start.state ≠ .bringUp) (noWake : s.start.state ≠ .ready ∨ g.val = 1) (idle : s.link.waiting = []) :
    exec (.bankInitDone g) s = .next (({ s with store := s.store.initialised g } : State).wakeBanks g) := by
  let zeroed : State := { s with store := s.store.initialised g }
  have woken := zeroed.wakeBanks_besideBanks g
  have start : (zeroed.wakeBanks g).start = s.start := by rw [woken]
  have waiting : (zeroed.wakeBanks g).link.waiting = [] := by rw [woken]; exact idle
  have run : exec (.bankInitDone g) s =
      .next ((zeroed.wakeBanks g).fillGroup g (s.store.bytes (s.regionBase 2) mapBytes)).serveWaiting :=
    if_neg (by simp [power, fresh])
  rw [run, State.fillGroup_none (by rwa [start]) (by rwa [start]), State.serveWaiting_idle waiting]

/-- In a canonical map of banks every bank of the group is woken, and the others stay. -/
theorem State.bank_forEach_woken {s : State} (canonical : Sparse.wf {} s.banks = true) {bs : List Nat} (once : bs.Nodup) (b : Nat) :
    (s.forEach bs fun u b => u.modBank b Bank.woken).bank b = if b ∈ bs then (s.bank b).woken else s.bank b := by
  induction bs generalizing s with
  | nil => rfl
  | cons c bs ih =>
    obtain ⟨notAgain, once⟩ := List.nodup_cons.mp once
    rw [State.forEach_cons, ih (s := s.modBank c Bank.woken) (Sparse.wf_modify {} s.banks c Bank.woken canonical) once]
    by_cases same : b = c
    · subst same
      rw [if_neg notAgain, if_pos List.mem_cons_self]
      exact State.bank_modBank canonical b Bank.woken
    · simp [s.bank_modBank_other Bank.woken same, same]

/-- In a canonical map of banks the banks of an initialised group are woken: the shadow tables, FREEZE clear, no lock, the requests
that waited. -/
theorem exec_bankInitDone_banks {s : State} {g : Fin 2} (canonical : Sparse.wf {} s.banks = true) (power : s.groupPower g = true)
    (fresh : s.groupInit g = false) (notStart : s.start.state ≠ .bringUp) (noWake : s.start.state ≠ .ready ∨ g.val = 1)
    (idle : s.link.waiting = []) :
    ∃ t, exec (.bankInitDone g) s = .next t ∧ ∀ i, i < 8 → t.bank (8 * g + i) = (s.bank (8 * g + i)).woken := by
  refine ⟨_, exec_bankInitDone power fresh notStart noWake idle, fun i lt => ?_⟩
  have once : (groupBanks g).Nodup := List.nodup_range.map fun _ _ same => Nat.add_left_cancel same
  have mem : 8 * g.val + i ∈ groupBanks g := List.mem_map.mpr ⟨i, List.mem_range.mpr lt, rfl⟩
  exact (State.bank_forEach_woken (s := { s with store := s.store.initialised g }) canonical once _).trans (if_pos mem)

/-- Bank 0 frozen in a powered group, in a state outside the canonical form: the bank is listed twice. -/
def frozenTwice : State := { power := { pd4 := true }, banks := [(0, { freeze := true }), (0, { freeze := true })] }

/-- Refutes O40, by its clause on the banks of an initialised group: a woken bank with empty tables is the default value, which
removes the entry, so that in `frozenTwice` the second entry of bank 0, frozen still, is the one that reads. In a canonical map of
banks that clause holds (`exec_bankInitDone_banks`). -/
theorem not_storeRequestsAndInitialisation : ¬ Obligations.StoreRequestsAndInitialisation := by
  rintro ⟨-, -, -, -, -, init, -⟩
  obtain ⟨t, run, -, -, -, banks, -⟩ := init frozenTwice 0 rfl rfl (by decide) (.inl (by decide)) rfl
  obtain ⟨-, thawed, -⟩ := banks 0 (by decide)
  rw [exec_bankInitDone rfl rfl (by decide) (.inl (by decide)) rfl] at run
  cases run
  exact absurd thawed (by decide)

end Sys2Proof.Machine
end

section
/-!
PROOFS. Answers to the Rind's quadrant commands (11 R328): the last answer of a quadrant that is painted dark (01 R37), and where
the statement on it fails (O32).
-/
namespace Sys2Proof.Machine

theorem findCmd_front {q : Nat} {p : BitVec 64 → Bool} {c : QuadCmd} {rest : List QuadCmd} (bus : c.quad = q) (hit : p c.word = true) :
    findCmd q p (c :: rest) = some 0 := by
  simp [findCmd, List.findIdx?_cons, bus, hit]

/-- The good answer that ends the oldest command of a quadrant. -/
theorem exec_commandAnswer_last {s : State} {q : Fin 4} {a : BitVec 16} {c : QuadCmd} {rest : List QuadCmd}
    (front : s.safety.cmds = c :: rest) (bus : c.quad = q.val)
    (chk : bitsOf a.toNat 0 4 = (bitsOf a.toNat 12 4 ^^^ bitsOf a.toNat 8 4) ^^^ bitsOf a.toNat 4 4)
    (last : (qAll c.word = true ∧ bitsOf a.toNat 12 4 = 15) ∨ (qAll c.word = false ∧ qTile c.word = bitsOf a.toNat 12 4))
    (ack : bitOf a.toNat 11 = false) : exec (.commandAnswer q a) s = .next (s.cmdDone q 0) := by
  have hit : (qAll c.word || qTile c.word = bitsOf a.toNat 12 4) = true := by
    rcases last with ⟨all, -⟩ | ⟨-, tile⟩
    · simp [all]
    · simp [tile]
  have found := findCmd_front (rest := rest) (p := fun w => qAll w || qTile w = bitsOf a.toNat 12 4) bus hit
  have noneOpen : ¬ (qAll c.word = true ∧ bitsOf a.toNat 12 4 ≠ 15) := by
    rcases last with ⟨-, tile⟩ | ⟨one, -⟩
    · simp [tile]
    · simp [one]
  show execCommandAnswer q a s = _
  simp [execCommandAnswer, chk, front, found, ack, noneOpen]

/-- With no command of a quadrant left that is painted dark, its power-force line falls and nothing else changes than what a
switch-off of the service-only state waits for (R37). -/
theorem State.cmdDone_dark {s : State} {q : Nat} {c : QuadCmd} (only : s.safety.cmds = [c]) (dark : s.safety.paint = .dark)
    (unblanked : s.zones.blankQuads.getLsbD q = false) :
    s.cmdDone q 0 = ({ s with safety := { s.safety with cmds := [] } } : State).modQuad q fun k =>
      { k with forced := false, granted := k.granted || (k.powered && s.start.state = .serviceOnly) } := by
  simp [State.cmdDone, State.darkDone, only, dark, unblanked]

/-- Where the map of quadrants is canonical the last answer releases the power-force line of a quadrant that is painted dark. -/
theorem exec_commandAnswer_dark {s : State} {q : Fin 4} {a : BitVec 16} {c : QuadCmd} (canonical : Sparse.wf {} s.quads = true)
    (only : s.safety.cmds = [c]) (bus : c.quad = q.val) (dark : s.safety.paint = .dark)
    (unblanked : s.zones.blankQuads.getLsbD q = false)
    (chk : bitsOf a.toNat 0 4 = (bitsOf a.toNat 12 4 ^^^ bitsOf a.toNat 8 4) ^^^ bitsOf a.toNat 4 4)
    (last : (qAll c.word = true ∧ bitsOf a.toNat 12 4 = 15) ∨ (qAll c.word = false ∧ qTile c.word = bitsOf a.toNat 12 4))
    (ack : bitOf a.toNat 11 = false) :
    ∃ t, exec (.commandAnswer q a) s = .next t ∧ (t.quad q).forced = false := by
  refine ⟨_, exec_commandAnswer_last only bus chk last ack, ?_⟩
  rw [State.cmdDone_dark only dark unblanked, State.quad_modQuad]
  exact canonical

/-- Quadrant 0 with its power-force line asserted, its last command of DARK unanswered, in a state outside the canonical form: the
quadrant is listed twice. -/
def forcedTwice : State :=
  { quads := [(0, { forced := true }), (0, { forced := true })], safety := { cmds := [{}], paint := .dark } }

/-- Refutes O32, by its clause on a quadrant that is painted dark: the quadrant with its line released is the default value, which
removes the entry, so that in `forcedTwice` the second entry of quadrant 0, its line asserted still, is the one that reads. In a
canonical map of quadrants that clause holds (`exec_commandAnswer_dark`). -/
theorem not_answersEndTheRindsCommands : ¬ Obligations.AnswersEndTheRindsCommands := by
  rintro ⟨-, -, -, dark⟩
  obtain ⟨t, run, -, released, -⟩ := dark forcedTwice 0 0 {} rfl rfl rfl (by decide) (by decide) (.inr (by decide)) (by decide)
  rw [exec_commandAnswer_last rfl rfl (by decide) (.inr (by decide)) (by decide)] at run
  cases run
  exact absurd released (by decide)

end Sys2Proof.Machine
end

section
/-!
PROOFS. Power of quadrants and domains (01 R36, R37, 09 R262 to R266; O33).
-/
namespace Sys2Proof.Machine

/-! ### Quadrants -/

theorem exec_offReq_granted {s : State} {q : Fin 4} (on : (s.quad q).powered = true)
    (dark : (s.quad q).darkFrom + 1000000 * s.drive.qdarkMs ≤ s.now1) (unlit : (s.quad q).lit = false)
    (free : (s.quad q).forced = false) :
    exec (.offReq q) s = .next ((s.modQuad q fun x => { x with offReq := true }).modQuad q fun x => { x with granted := true }) := by
  simp [exec, execOffReq, on, dark, unlit, free]

theorem exec_offReq_refused {s : State} {q : Fin 4} (on : (s.quad q).powered = true)
    (cause : s.now1 < (s.quad q).darkFrom + 1000000 * s.drive.qdarkMs ∨ (s.quad q).lit = true ∨ (s.quad q).forced = true) :
    exec (.offReq q) s = .next ((s.modQuad q fun x => { x with offReq := true }).raise 0x0C05 [(1, 2), (4, qpwrAddr)]) := by
  rcases cause with early | lit | forced
  · simp [exec, execOffReq, on, Nat.not_le.mpr early, State.badSwitch]
  · simp [exec, execOffReq, on, lit, State.badSwitch]
  · simp [exec, execOffReq, on, forced, State.badSwitch]

/-- All of a state but what its tiles hold. -/
def State.besideTiles (s : State) : State := { s with tiles := [] }

/-- All of a state but what its tiles and the thermal unit hold. -/
def State.besideSensors (s : State) : State := { s with tiles := [], thermal := {} }

theorem State.eq_of_besideTiles {s t : State} (h : t.besideTiles = s.besideTiles) : t = { s with tiles := t.tiles } :=
  calc t
    _ = { t.besideTiles with tiles := t.tiles } := rfl
    _ = { s with tiles := t.tiles } := by rw [h]; rfl

theorem State.eq_of_besideSensors {s t : State} (h : t.besideSensors = s.besideSensors) :
    t = { s with tiles := t.tiles, thermal := t.thermal } :=
  calc t
    _ = { t.besideSensors with tiles := t.tiles, thermal := t.thermal } := rfl
    _ = { s with tiles := t.tiles, thermal := t.thermal } := by rw [h]; rfl

/-- A quadrant whose switch opens loses its latches and what its tiles hold (R264). -/
theorem State.dropQuad_besideSensors (s : State) (q : Nat) :
    (s.dropQuad q).besideSensors = ((s.modQuad q fun k => { k with
      powered := false, ready := false, on := false, granted := false, waking := false, fresh := false, heldSegs := []
      answers := [] }).clearLatches q).besideSensors :=
  State.forEach_leaves (g := State.besideSensors) (by intros; rfl) _ _

theorem exec_quadOff {s : State} {q : Fin 4} (granted : (s.quad q).granted = true) (on : (s.quad q).powered = true)
    (unlit : (s.quad q).lit = false) (free : (s.quad q).forced = false) :
    exec (.quadOff q) s = .next ((s.dropQuad q).raise 0x0603 [(1, q.val)]) :=
  if_pos (by simp [granted, on, unlit, free])

/-- What the quadrant's switch-off changes. -/
theorem exec_quadOff_frame {s : State} {q : Fin 4} (granted : (s.quad q).granted = true) (on : (s.quad q).powered = true)
    (unlit : (s.quad q).lit = false) (free : (s.quad q).forced = false) :
    ∃ t, exec (.quadOff q) s = .next t ∧ t.latches = s.latches.filter (fun x => quadOfTile (tileOfPixel x.1) ≠ q.val) ∧
      t.quads = (s.modQuad q fun k => { k with
        powered := false, ready := false, on := false, granted := false, waking := false, fresh := false, heldSegs := []
        answers := [] }).quads ∧
      t.ev = (s.raise 0x0603 [(1, q.val)]).ev ∧
      t = { s with latches := t.latches, quads := t.quads, tiles := t.tiles, thermal := t.thermal, ev := t.ev } := by
  refine ⟨_, exec_quadOff granted on unlit free, ?_⟩
  have dropped := State.eq_of_besideSensors (s.dropQuad_besideSensors q)
  generalize s.dropQuad q = u at dropped
  rw [dropped]
  exact ⟨rfl, rfl, rfl, rfl⟩

/-- A quadrant whose switch closes (Table 9.5). -/
def Quad.closed (k : Quad) : Quad :=
  { k with powered := true, waking := true, ready := false, on := false, granted := false, heldSegs := [] }

/-- A quadrant that is off and wakes (R265): powered, not ready, its latches 0, event 0x0604. -/
theorem State.wake_of_off {s : State} {q : Nat} (off : (s.quad q).powered = false) :
    ((s.wake q).quad q).powered = true ∧ ((s.wake q).quad q).waking = true ∧ ((s.wake q).quad q).ready = false ∧
      (s.wake q).latches = s.latches.filter (fun x => quadOfTile (tileOfPixel x.1) ≠ q) ∧
      (s.wake q).ev = (s.raise 0x0604 [(1, q)]).ev ∧
      s.wake q = { s with quads := (s.wake q).quads, latches := (s.wake q).latches, ev := (s.wake q).ev } := by
  have woken : s.wake q = (s.closeSwitch q).raise 0x0604 [(1, q)] := if_neg (by simp [off])
  have quad : ((s.closeSwitch q).raise 0x0604 [(1, q)]).quad q = (s.quad q).closed :=
    State.quad_modQuad_listed (s := s) (f := Quad.closed) fun same => Bool.noConfusion (congrArg Quad.powered same)
  rw [woken, quad]
  exact ⟨rfl, rfl, rfl, rfl, rfl, rfl⟩

/-- What the end of a wake brings to a tile: its ceiling, its request and its timing (Table 9.5). -/
def State.TileAwake (s : State) (n : Nat) (x : Tile) : Prop :=
  x.ceil = some (BitVec.ofNat 8 (min (s.fusedCeil n) s.drive.cl)) ∧ x.tgt = x.req ∧ x.period = BitVec.ofNat 28 s.pwmPeriod ∧
    x.align = some (s.alignAt s.grid.lastL s.pwmPeriod n)

theorem State.tileAwake_congr {s u : State} (h : u.besideTiles = s.besideTiles) (n : Nat) (x : Tile) :
    u.TileAwake n x ↔ s.TileAwake n x := by
  show u.besideTiles.TileAwake n x ↔ s.besideTiles.TileAwake n x
  rw [h]

theorem State.tileAwake_wakeTile (s : State) (n : Nat) : s.TileAwake n ((s.wakeTile n).tile n) := by
  unfold State.wakeTile
  rw [State.tile_modTile_listed fun same => by cases congrArg Tile.ceil same]
  exact ⟨rfl, rfl, rfl, rfl⟩

theorem State.tileAwake_forEach {s : State} {q n : Nat} (mem : n ∈ tilesOfQuad q) :
    s.TileAwake n ((s.forEach (tilesOfQuad q) State.wakeTile).tile n) :=
  State.forEach_reaches (f := State.wakeTile) (I := fun u => u.besideTiles = s.besideTiles)
    (P := fun u => s.TileAwake n (u.tile n)) (fun _ _ h => h) (fun u h => (State.tileAwake_congr h n _).mp (u.tileAwake_wakeTile n))
    (fun u _ other awake => (u.tile_modTile_other _ other.symm).symm ▸ awake) mem rfl

/-- QUAD_READY with nothing painted. -/
theorem exec_quadReady {s : State} {q : Fin 4} (waking : (s.quad q).waking = true) (on : (s.quad q).powered = true)
    (unpainted : s.safety.paint = .none) :
    exec (.quadReady q) s = .next ((s.modQuad q fun x => { x with ready := true, on := true, waking := false, fresh := true }).forEach
      (tilesOfQuad q) State.wakeTile) := by
  let ready := s.modQuad q fun x => { x with ready := true, on := true, waking := false, fresh := true }
  let woken := ready.forEach (tilesOfQuad q) State.wakeTile
  have run : exec (.quadReady q) s = .next (woken.paintQuad q) := if_pos (by simp [waking, on])
  have rest : woken.besideTiles = ready.besideTiles := State.forEach_leaves (g := State.besideTiles) (by intros; rfl) _ _
  have none : woken.safety.paint = .none := by
    rw [State.eq_of_besideTiles rest]
    exact unpainted
  rw [run, State.paintQuad, none]
  exact congrArg _ (ite_self _)

/-- What the end of a quadrant's wake changes (R265). -/
theorem exec_quadReady_frame {s : State} {q : Fin 4} (waking : (s.quad q).waking = true) (on : (s.quad q).powered = true)
    (unpainted : s.safety.paint = .none) :
    ∃ t, exec (.quadReady q) s = .next t ∧
      t.quads = (s.modQuad q fun x => { x with ready := true, on := true, waking := false, fresh := true }).quads ∧
      (∀ n ∈ tilesOfQuad q, s.TileAwake n (t.tile n)) ∧ t = { s with quads := t.quads, tiles := t.tiles } := by
  let ready := s.modQuad q fun x => { x with ready := true, on := true, waking := false, fresh := true }
  have awake : ∀ n ∈ tilesOfQuad q, s.TileAwake n ((ready.forEach (tilesOfQuad q) State.wakeTile).tile n) :=
    fun _ mem => ready.tileAwake_forEach mem
  have rest : (ready.forEach (tilesOfQuad q) State.wakeTile).besideTiles = ready.besideTiles :=
    State.forEach_leaves (g := State.besideTiles) (by intros; rfl) _ _
  refine ⟨_, exec_quadReady waking on unpainted, (congrArg State.quads rest :), awake, ?_⟩
  have frame := State.eq_of_besideTiles rest
  change ready.forEach (tilesOfQuad q) State.wakeTile = _
  generalize ready.forEach (tilesOfQuad q) State.wakeTile = t at frame
  rw [frame]
  rfl

/-- The power-force line after a stall blanking falls unless the Rind paints (R37). -/
theorem exec_powerForceRelease_unpainted {s : State} {q : Fin 4} (blanked : s.zones.blankQuads.getLsbD q = true)
    (unpainted : s.safety.paint = .none) :
    exec (.powerForceRelease q) s = .next (({ s with zones := { s.zones with
      blankQuads := setBit s.zones.blankQuads q false } } : State).modQuad q fun k => { k with forced := false }) := by
  simp [exec, execPowerForceRelease, blanked, unpainted]

/-! ### Credits (R129, R140) -/

/-- All of a state but the credits and what goes with their return. -/
def State.besideCredits (s : State) : State :=
  { s with link := { s.link with credits := [], lcbs := [] }, linkB := { s.linkB with wait := [], sent := [] } }

@[simp] theorem State.besideCredits_freeCredits (s : State) (vc n len : Nat) :
    (s.freeCredits vc n len).besideCredits = s.besideCredits := by
  rw [State.freeCredits_frame]
  rfl

theorem State.linkB_freeCredits (s : State) (vc n len : Nat) : (s.freeCredits vc n len).linkB = s.linkB := by
  rw [State.freeCredits_frame]

theorem State.freeForwarded_cases (s : State) (ps : List FwdPkt) :
    (s.freeForwarded ps).besideCredits = s.besideCredits ∧ (s.freeForwarded ps).linkB = s.linkB := by
  refine List.foldlRecOn (motive := fun t : State => t.besideCredits = s.besideCredits ∧ t.linkB = s.linkB) ps _ ⟨rfl, rfl⟩ ?_
  rintro t ⟨rest, linkB⟩ p -
  split
  · exact ⟨rest, linkB⟩
  · exact ⟨(t.besideCredits_freeCredits ..).trans rest, (t.linkB_freeCredits ..).trans linkB⟩

theorem State.freeShared_cases (s : State) (w : Wait) :
    (s.freeShared w).besideCredits = s.besideCredits ∧ (s.linkB.wait = [] → (s.freeShared w).linkB.wait = []) := by
  have free : (s.freeCredits w.vc w.credits w.bytes).besideCredits = s.besideCredits ∧
      (s.linkB.wait = [] → (s.freeCredits w.vc w.credits w.bytes).linkB.wait = []) :=
    ⟨s.besideCredits_freeCredits .., fun none => (s.linkB_freeCredits ..).symm ▸ none⟩
  unfold State.freeShared
  split
  · exact free
  · dsimp only
    split
    · exact ⟨rfl, fun none => by rw [none]; rfl⟩
    · exact free

theorem State.eq_of_besideCredits {s t : State} (h : t.besideCredits = s.besideCredits) :
    t = { s with
      link := { s.link with credits := t.link.credits, lcbs := t.link.lcbs }
      linkB := { s.linkB with wait := t.linkB.wait, sent := t.linkB.sent } } :=
  calc t
    _ = { t.besideCredits with
          link := { t.besideCredits.link with credits := t.link.credits, lcbs := t.link.lcbs }
          linkB := { t.besideCredits.linkB with wait := t.linkB.wait, sent := t.linkB.sent } } := rfl
    _ = { s with
          link := { s.link with credits := t.link.credits, lcbs := t.link.lcbs }
          linkB := { s.linkB with wait := t.linkB.wait, sent := t.linkB.sent } } := by rw [h]; rfl

/-! ### Power domains (R36, Table 1.8) -/

section
variable {s : State} (run : s.mpRuns = true)
include run

theorem exec_powerDomainRequest_off {pd : Fin 11} (low : 2 ≤ pd.val) (high : pd.val ≤ 5) (may : s.mayDrop pd = true)
    {t : State} (drop : s.dropDomain pd = t) : exec (.powerDomainRequest pd false) s = .next t := by
  simp [exec, execPowerDomainRequest, run, low, high, may, drop]

theorem exec_powerDomainRequest_mayNot {pd : Fin 11} (low : 2 ≤ pd.val) (high : pd.val ≤ 5) (mayNot : s.mayDrop pd = false) :
    exec (.powerDomainRequest pd false) s = .next (s.raise 0x0C05 [(1, 2), (4, Config.freeNat 10 pd)]) := by
  simp [exec, execPowerDomainRequest, run, low, high, mayNot, State.badSwitch, switchAddr]

theorem exec_powerDomainRequest_on {pd : Fin 11} (low : 2 ≤ pd.val) (high : pd.val ≤ 5) :
    exec (.powerDomainRequest pd true) s = .next (s.raiseDomain pd) := by
  simp [exec, execPowerDomainRequest, run, low, high]

/-- PD0, PD1 and PD10 are not the MP's to switch. -/
theorem exec_powerDomainRequest_fixed {pd : Fin 11} (fixed : pd.val < 2 ∨ pd.val = 10) (on : Bool) :
    exec (.powerDomainRequest pd on) s = .next (s.raise 0x0C05 [(1, 2), (4, Config.freeNat 10 pd)]) := by
  have notGroup : ¬ (2 ≤ pd.val ∧ pd.val ≤ 5) := by omega
  have notQuad : ¬ (6 ≤ pd.val ∧ pd.val ≤ 9) := by omega
  simp [exec, execPowerDomainRequest, run, notGroup, notQuad, State.badSwitch, switchAddr]

theorem exec_powerDomainRequest_quad (q : Fin 4) (on : Bool) :
    exec (.powerDomainRequest ⟨6 + q.val, by omega⟩ on) s = if on then exec (.wakeReq q) s else exec (.offReq q) s := by
  have quad : quadDomain (6 + q.val) = q := Fin.ext (by simp only [quadDomain]; omega)
  have notGroup : ¬ (2 ≤ 6 + q.val ∧ 6 + q.val ≤ 5) := by omega
  have isQuad : 6 ≤ 6 + q.val ∧ 6 + q.val ≤ 9 := by omega
  simp [exec, execPowerDomainRequest, run, notGroup, isQuad, quad]

end

theorem exec_powerDomainRequest_heldOff {s : State} (held : s.mpRuns = false) (pd : Fin 11) (on : Bool) :
    exec (.powerDomainRequest pd on) s = .next s := by
  simp [exec, execPowerDomainRequest, held]

/-- PD3 goes off: its contents are lost, and the credits of what stood in its queues return. -/
theorem State.dropPd3_cases (s : State) :
    let t := s.dropPd3
    t.power = { s.power with pd3 := false } ∧ t.cvu = [] ∧ t.layers = s.layers.map (fun l => { l with run := none, chk := none }) ∧
      t.out = { s.out with lut := [], lutGone := some s.free } ∧
      t.link.tqs = [] ∧ t.link.blocked = [] ∧ t.link.waiting = [] ∧ t.linkB.wait = [] ∧
      t = { s with power := t.power, cvu := t.cvu, layers := t.layers, out := t.out, diag := s.diag.unpowered, link := t.link,
                   linkB := t.linkB, free := s.free + 1 } := by
  let lost : State := { s with
    power := { s.power with pd3 := false }, cvu := [], layers := s.layers.map fun l => { l with run := none, chk := none }
    out := { s.out with lut := [], lutGone := some s.free }, diag := s.diag.unpowered
    link := { s.link with tqs := [], blocked := [], starved := [], waiting := [] }, linkB := { s.linkB with wait := [] } }
  let returned := (s.link.waiting.foldl State.freeShared lost).freeForwarded s.linkB.wait
  have dropped : s.dropPd3 = returned.drawn := rfl
  have shared : (s.link.waiting.foldl State.freeShared lost).besideCredits = lost.besideCredits ∧
      (s.link.waiting.foldl State.freeShared lost).linkB.wait = [] := by
    refine List.foldlRecOn (motive := fun t : State => t.besideCredits = lost.besideCredits ∧ t.linkB.wait = []) _ _ ⟨rfl, rfl⟩ ?_
    rintro t ⟨rest, none⟩ w -
    obtain ⟨freed, still⟩ := t.freeShared_cases w
    exact ⟨freed.trans rest, still none⟩
  obtain ⟨forwarded, linkB⟩ := (s.link.waiting.foldl State.freeShared lost).freeForwarded_cases s.linkB.wait
  have none : returned.linkB.wait = [] := linkB ▸ shared.2
  have rest := State.eq_of_besideCredits (forwarded.trans shared.1)
  dsimp only
  rw [dropped]
  change returned = _ at rest
  generalize returned = t at rest none
  rw [rest] at none ⊢
  exact ⟨rfl, rfl, rfl, rfl, rfl, rfl, rfl, none, rfl⟩

/-- PD2 goes off: port B is held down, and what it held of forwarded packets is gone (R140). -/
theorem State.dropPd2_cases (s : State) :
    let t := s.dropPd2
    t.power = { s.power with pd2 := false } ∧ t.portB = s.portB.toOff ∧ t.linkB.wait = [] ∧ t.linkB.sent = [] ∧
      t = { s with power := t.power, portB := t.portB, link := t.link, linkB := t.linkB } := by
  let off : State := { s with power := { s.power with pd2 := false } }
  have dropped : s.dropPd2 = { off.dropForwarded with portB := s.portB.toOff } := rfl
  let empty : State := { off with linkB := { off.linkB with
    wait := [], sent := [], left := [], txSeq := 0, expSeq := 0, rev := 0, replayCount := 0, nakCount := 0
    unacked := 0, nakFor := none, failRun := 0, lcbs := [], replayNext := none, granted := [], credits := [] } }
  have freed : off.dropForwarded = empty.freeForwarded (off.linkB.sent ++ off.linkB.wait) := rfl
  obtain ⟨rest, linkB⟩ := empty.freeForwarded_cases (off.linkB.sent ++ off.linkB.wait)
  rw [← freed] at rest linkB
  have frame := State.eq_of_besideCredits rest
  dsimp only
  rw [dropped]
  generalize off.dropForwarded = t at frame linkB
  rw [frame] at linkB ⊢
  exact ⟨rfl, rfl, congrArg LinkB.wait linkB, congrArg LinkB.sent linkB, rfl⟩

/-- PD4 goes off without a save where the MP or the group is not ready. -/
theorem State.dropPd4_unsaved {s : State} (unready : s.mp.ready = false ∨ s.store.init0 = false) :
    s.dropPd4 = { s with power := { s.power with pd4 := false }, store := { s.store with init0 := false } } := by
  have noSave : (s.mp.ready && s.groupReady 0) = false := by
    rcases unready with mp | group
    · simp [mp]
    · simp [State.groupReady, group]
  simp [State.dropPd4, noSave]

/-- Settles O33: the quadrants' switching by the lemmas on OFF_REQ, QUAD_OFF, WAKE_REQ and QUAD_READY, the domains' by those on
what each of them loses. -/
theorem powerOfQuadrantsAndDomains : Obligations.PowerOfQuadrantsAndDomains := by
  refine ⟨fun s q on => ⟨exec_offReq_granted on, exec_offReq_refused on⟩,
    fun s q granted on unlit free => exec_quadOff_frame granted on unlit free,
    fun s q => ⟨rfl, State.wake_of_off⟩,
    fun s q waking on unpainted => exec_quadReady_frame waking on unpainted,
    fun s q blanked unpainted => exec_powerForceRelease_unpainted blanked unpainted,
    fun s run => ⟨?pd3Off, ?pd2Off, ?pd4Unsaved, ?pd4Off, ?pd5Off, fun pd low high => ?mayNot,
      fun pd fixed on => exec_powerDomainRequest_fixed run fixed on, ?pd2On, ?pd3On, ?pd4On, ?pd5On,
      fun q => ⟨exec_powerDomainRequest_quad run q true, exec_powerDomainRequest_quad run q false⟩⟩,
    fun s pd on held => exec_powerDomainRequest_heldOff held pd on⟩
  case pd3Off =>
    exact fun may on =>
      ⟨_, exec_powerDomainRequest_off run (pd := 3) (by decide) (by decide) may (if_pos on), s.dropPd3_cases⟩
  case pd2Off =>
    exact fun on => ⟨_, exec_powerDomainRequest_off run (pd := 2) (by decide) (by decide) rfl (if_pos on), s.dropPd2_cases⟩
  case pd4Unsaved =>
    exact fun may on unready => exec_powerDomainRequest_off run (pd := 4) (by decide) (by decide) may
      ((if_pos on).trans (State.dropPd4_unsaved unready))
  case pd4Off =>
    exact fun may on => ⟨_, exec_powerDomainRequest_off run (pd := 4) (by decide) (by decide) may (if_pos on), rfl, rfl⟩
  case pd5Off =>
    exact fun may on => exec_powerDomainRequest_off run (pd := 5) (by decide) (by decide) may (if_pos on)
  case mayNot => exact fun mayNot => exec_powerDomainRequest_mayNot run (by omega) high mayNot
  case pd2On => exact exec_powerDomainRequest_on run (pd := 2) (by decide) (by decide)
  case pd3On => exact exec_powerDomainRequest_on run (pd := 3) (by decide) (by decide)
  case pd4On => exact exec_powerDomainRequest_on run (pd := 4) (by decide) (by decide)
  case pd5On => exact exec_powerDomainRequest_on run (pd := 5) (by decide) (by decide)

end Sys2Proof.Machine
end

section
/-!
PROOFS. Faults and lines that move the safety state (11 R314 to R331; O42).
-/
namespace Sys2Proof.Machine

/-! ### Painting -/

/-- All of a state but what the tile cuts, the quadrant commands and the painting write. -/
def State.besidePaint (s : State) : State :=
  { s with
    safety := { s.safety with held := 0, handover := false, paint := .none, cuts := [], inhSwitch := false, cmds := [] }
    quads := [], latches := [], ev := {} }

@[simp] theorem State.besidePaint_raise (s : State) (code : Nat) (d : List (Nat × Nat)) :
    (s.raise code d).besidePaint = s.besidePaint := rfl

@[simp] theorem State.besidePaint_modQuad (s : State) (q : Nat) (f : Quad → Quad) :
    (s.modQuad q f).besidePaint = s.besidePaint := rfl

@[simp] theorem State.besidePaint_closeSwitch (s : State) (q : Nat) : (s.closeSwitch q).besidePaint = s.besidePaint := rfl

@[simp] theorem State.besidePaint_sendCmd (s : State) (q : Nat) (w : BitVec 64) (stall : Bool) :
    (s.sendCmd q w stall).besidePaint = s.besidePaint := rfl

/-- A conditional change that keeps the rest when it acts keeps it. -/
theorem State.besidePaint_cond (s : State) (c : Bool) {f : State → State} (h : ∀ u, (f u).besidePaint = u.besidePaint) :
    (s.cond c f).besidePaint = s.besidePaint := by
  cases c
  · rfl
  · exact h s

theorem State.besidePaint_forEach (s : State) (xs : List Nat) {f : State → Nat → State}
    (h : ∀ u x, (f u x).besidePaint = u.besidePaint) : (s.forEach xs f).besidePaint = s.besidePaint := State.forEach_leaves h s xs

@[simp] theorem State.besidePaint_wake (s : State) (q : Nat) : (s.wake q).besidePaint = s.besidePaint := by
  unfold State.wake
  split <;> simp

@[simp] theorem State.besidePaint_withdrawOff (s : State) (q : Nat) : (s.withdrawOff q).besidePaint = s.besidePaint :=
  State.besidePaint_cond _ _ fun _ => State.besidePaint_cond _ _ fun _ => rfl

@[simp] theorem State.besidePaint_forceOn (s : State) (q : Nat) : (s.forceOn q).besidePaint = s.besidePaint := by
  simp [State.forceOn]

@[simp] theorem State.besidePaint_sendFill (s : State) (q x0 x1 y0 y1 code : Nat) (stall : Bool) :
    (s.sendFill q x0 x1 y0 y1 code stall).besidePaint = s.besidePaint :=
  State.besidePaint_forEach _ _ fun u t => by dsimp only; split <;> simp

@[simp] theorem State.besidePaint_paintBeam (s : State) (q : Nat) : (s.paintBeam q).besidePaint = s.besidePaint :=
  State.besidePaint_forEach _ _ fun _ _ =>
    (State.besidePaint_cond _ _ fun _ => State.besidePaint_sendFill ..).trans
      (State.besidePaint_cond _ _ fun _ => State.besidePaint_sendFill ..)

@[simp] theorem State.besidePaint_paintQuad (s : State) (q : Nat) : (s.paintQuad q).besidePaint = s.besidePaint := by
  unfold State.paintQuad
  split
  · rfl
  · cases s.safety.paint with
    | none => rfl
    | beam => exact s.besidePaint_paintBeam q
    | dark => rfl

@[simp] theorem State.besidePaint_repaint (s : State) : s.repaint.besidePaint = s.besidePaint :=
  State.besidePaint_forEach _ _ State.besidePaint_paintQuad

@[simp] theorem State.besidePaint_checkInh (s : State) : s.checkInh.besidePaint = s.besidePaint :=
  State.besidePaint_cond _ _ fun _ => rfl

@[simp] theorem State.besidePaint_setCut (s : State) (t row : Nat) (on : Bool) :
    (s.setCut t row on).besidePaint = s.besidePaint := by
  unfold State.setCut
  dsimp only
  split
  · rfl
  · rw [State.besidePaint_checkInh]
    exact State.besidePaint_cond _ _ fun _ => rfl

@[simp] theorem State.besidePaint_startPaint (s : State) (beam : Bool) : (s.startPaint beam).besidePaint = s.besidePaint :=
  calc (s.startPaint beam).besidePaint
    _ = _ := State.besidePaint_forEach _ _ State.besidePaint_paintQuad
    _ = _ := State.besidePaint_forEach _ _ fun _ _ => State.besidePaint_cond _ _ fun _ => State.besidePaint_forceOn ..
    _ = _ := State.besidePaint_forEach _ _ fun _ _ => State.besidePaint_setCut ..
    _ = s.besidePaint := rfl

/-! ### The effective state and the causes (R314, R315, Table 11.6) -/

/-- All of a state but what a change of the effective state writes. -/
def State.besideChange (s : State) : State :=
  { s.besidePaint with safety := { s.besidePaint.safety with state := .dark, degMs := 0 }, grid := {}, zones := {} }

/-- All of a state but what the judgement writes. -/
def State.besideJudge (s : State) : State :=
  { s.besideChange with safety := { s.besideChange.safety with offLatch := false, rindCauses := 0 } }

/-- All of a state but what the rise or fall of a cause writes. -/
def State.besideCauses (s : State) : State :=
  { s.besideJudge with safety := { s.besideJudge.safety with spCauses := 0, rindOkMs := 0, spOkMs := 0 } }

theorem State.besideChange_of_besidePaint {s t : State} (h : t.besidePaint = s.besidePaint) : t.besideChange = s.besideChange :=
  (congrArg State.besideChange h :)

theorem State.besideJudge_of_besideChange {s t : State} (h : t.besideChange = s.besideChange) : t.besideJudge = s.besideJudge :=
  (congrArg State.besideJudge h :)

theorem State.besideCauses_of_besideJudge {s t : State} (h : t.besideJudge = s.besideJudge) : t.besideCauses = s.besideCauses :=
  (congrArg State.besideCauses h :)

/-- What the rise or fall of a cause never writes. -/
theorem State.keeps_of_besideCauses {s t : State} (h : t.besideCauses = s.besideCauses) :
    t.link = s.link ∧ t.store = s.store ∧ t.comp = s.comp ∧ t.safety.firstNormal = s.safety.firstNormal ∧
      t.safety.lbreq = s.safety.lbreq ∧ t.safety.romParams = s.safety.romParams ∧ t.safety.crcBad = s.safety.crcBad ∧
      t.safety.clockFault = s.safety.clockFault ∧ t.safety.oscFault = s.safety.oscFault :=
  ⟨(congrArg State.link h :), (congrArg State.store h :), (congrArg State.comp h :), (congrArg (·.safety.firstNormal) h :),
    (congrArg (·.safety.lbreq) h :), (congrArg (·.safety.romParams) h :), (congrArg (·.safety.crcBad) h :),
    (congrArg (·.safety.clockFault) h :), (congrArg (·.safety.oscFault) h :)⟩

/-- A state that has just entered an effective state, before anything is painted or cut for it (R316). -/
def State.entered (s : State) (n : SafeState) : State :=
  (({ s with safety := { s.safety with state := n, degMs := 0 }, grid := { s.grid with change := true } } : State).raise 0x0801
    [(1, stateNum s.safety.state), (1, stateNum n), (4, s.allCauses.toNat)]).runLimiter 0

/-- A change of the effective state is the entry and what painting writes. -/
theorem State.changeState_entered {s : State} {n : SafeState} (h : s.safety.state ≠ n) :
    (s.changeState n).besidePaint = (s.entered n).besidePaint := by
  have changed : s.changeState n = if n.off then (s.entered n).startPaint ((s.entered n).beamDue n)
      else (s.entered n).forEach (List.range 64) fun w i => w.setCut i kDark false := if_neg h
  rw [changed]
  split
  · exact State.besidePaint_startPaint ..
  · exact State.besidePaint_forEach _ _ fun u i => u.besidePaint_setCut i kDark false

/-- A change of the effective state arrives there and writes nothing else than such a change may. -/
theorem State.changeState_cases (s : State) (n : SafeState) :
    (s.changeState n).safety.state = n ∧ (s.changeState n).besideChange = s.besideChange := by
  by_cases same : s.safety.state = n
  · have stays : s.changeState n = s := if_pos same
    rw [stays]
    exact ⟨same, rfl⟩
  · have painted := State.changeState_entered same
    exact ⟨(congrArg (·.safety.state) painted :), (State.besideChange_of_besidePaint painted :)⟩

/-- The off latch after a judgement (R314). -/
def State.latchNext (s : State) : Bool :=
  s.safety.offLatch || (s.safety.firstNormal && (2 ≤ s.vote || (s.safety.state.off && s.vote ≠ 0)))

/-- The effective state after a judgement (R314, R315). -/
def State.stateNext (s : State) : SafeState :=
  if s.latchNext || s.safety.state.off || 2 ≤ s.vote then s.offState
  else if s.vote = 1 then .degraded else s.safety.state

/-- In the off class two causes end (Table 11.6). -/
def State.endCauses (s : State) : State :=
  if s.safety.state.off then
    { s with safety := { s.safety with rindCauses := setBit (setBit s.safety.rindCauses cDegTime false) cCapStall false } }
  else s

theorem State.endCauses_cases (s : State) :
    s.endCauses.safety.state = s.safety.state ∧ s.endCauses.safety.offLatch = s.safety.offLatch ∧
      s.endCauses.besideJudge = s.besideJudge ∧
      s.endCauses.safety.rindCauses.getLsbD cLinkHold = s.safety.rindCauses.getLsbD cLinkHold := by
  unfold State.endCauses
  split
  · refine ⟨rfl, rfl, rfl, ?_⟩
    simp [setBit, cDegTime, cCapStall, cLinkHold]
  · exact ⟨rfl, rfl, rfl, rfl⟩

/-- A judgement brings the state and the latch that follow from the vote, keeps the cause of the link hold, and writes nothing
else than a judgement may. -/
theorem State.judge_cases (s : State) :
    s.judge.safety.state = s.stateNext ∧ s.judge.safety.offLatch = s.latchNext ∧ s.judge.besideJudge = s.besideJudge ∧
      s.judge.safety.rindCauses.getLsbD cLinkHold = s.safety.rindCauses.getLsbD cLinkHold := by
  let latched : State := { s with safety := { s.safety with offLatch := s.latchNext } }
  obtain ⟨state, rest⟩ := latched.changeState_cases s.stateNext
  obtain ⟨endState, endLatch, endRest, endHold⟩ := (latched.changeState s.stateNext).endCauses_cases
  have judged : s.judge = (latched.changeState s.stateNext).endCauses := rfl
  rw [judged, endState, endLatch, endRest, endHold]
  exact ⟨state, (congrArg (·.safety.offLatch) rest :), (State.besideJudge_of_besideChange rest :),
    (congrArg (·.safety.rindCauses.getLsbD cLinkHold) rest :)⟩

theorem State.offState_off (s : State) : s.offState.off = true := by
  unfold State.offState
  split <;> rfl

/-- A vote of the off class, and the off class itself, lead to the off class. -/
theorem State.stateNext_off {s : State} (h : 2 ≤ s.vote ∨ s.safety.state.off = true) : s.stateNext = s.offState :=
  if_pos (by rcases h with h | h <;> simp [h])

theorem State.offState_ne_normal (s : State) : s.offState ≠ .normal := by
  unfold State.offState
  split <;> exact SafeState.noConfusion

/-- A vote other than NORMAL ends NORMAL. -/
theorem State.stateNext_ne_normal {s : State} (h : s.vote ≠ 0) : s.stateNext ≠ .normal := by
  unfold State.stateNext
  split
  case isTrue => exact s.offState_ne_normal
  case isFalse inClass =>
    have degraded : s.vote = 1 := by
      simp only [Bool.or_eq_true, decide_eq_true_eq, not_or] at inClass
      omega
    rw [if_pos degraded]
    exact SafeState.noConfusion

/-- A cause rises or falls and a judgement follows: nothing else of the state has changed before it than the causes, the times of
NORMAL requests, and the event of R318. -/
theorem State.setCause_cases (s : State) (rind : Bool) (row : Nat) (on : Bool) :
    ∃ v : State, s.setCause rind row on = v.judge ∧ v.besideCauses = s.besideCauses ∧ v.safety.state = s.safety.state ∧
      v.safety.offLatch = s.safety.offLatch ∧
      v.safety.rindCauses = (if rind then setBit s.safety.rindCauses row on else s.safety.rindCauses) ∧
      v.safety.spCauses = (if rind then s.safety.spCauses else setBit s.safety.spCauses row on) := by
  refine ⟨_, rfl, ?_⟩
  -- The event, where one is raised, writes none of what is read here.
  cases rind
  · simp only [State.cond_read, Bool.false_eq_true, if_false]
    split <;> exact ⟨rfl, rfl, rfl, rfl, rfl⟩
  · simp only [State.cond_read, if_true]
    split <;> exact ⟨rfl, rfl, rfl, rfl, rfl⟩

theorem State.besideCauses_setCause (s : State) (rind : Bool) (row : Nat) (on : Bool) :
    (s.setCause rind row on).besideCauses = s.besideCauses := by
  obtain ⟨v, judged, rest, -⟩ := s.setCause_cases rind row on
  obtain ⟨-, -, others, -⟩ := v.judge_cases
  rw [judged, State.besideCauses_of_besideJudge others, rest]

/-- The vote is no lower than the Rind's own request (R315). -/
theorem State.rindOwn_le_vote (s : State) : s.rindOwn ≤ s.vote := Nat.le_max_left ..

theorem getLsbD_setBit_same {w : Nat} (v : BitVec w) {i : Nat} (h : i < w) (b : Bool) : (setBit v i b).getLsbD i = b := by
  cases b <;> simp [setBit, h]

/-- The Rind's causes of the off class (Table 11.6). -/
def offCauses : List Nat := [cLinkHold, cDegTime, cClock, cSpWatchdog, cStuckFull, cDisagree, cCapStall]

theorem State.rindOwn_of_offCause {s : State} {row : Nat} (off : row ∈ offCauses) (set : s.safety.rindCauses.getLsbD row = true) :
    s.rindOwn = 2 :=
  if_pos (List.any_eq_true.mpr ⟨row, off, set⟩)

theorem State.rindOwn_of_safetyCrc {s : State} (set : s.safety.rindCauses.getLsbD cSafetyCrc = true) : s.rindOwn ≠ 0 := by
  unfold State.rindOwn
  simp only [hasAny, List.any_cons, set]
  split <;> simp

/-- A cause of the off class at the Rind leads to the off class, and to the latch once NORMAL has been reached (R314). -/
theorem State.setCause_off (s : State) {row : Nat} (off : row ∈ offCauses) :
    (s.setCause true row true).safety.state.off = true ∧
      (s.safety.firstNormal = true → (s.setCause true row true).safety.offLatch = true) := by
  obtain ⟨v, judged, rest, -, -, causes, -⟩ := s.setCause_cases true row true
  obtain ⟨state, latch, -⟩ := v.judge_cases
  have inMask : row < 19 := (by decide : ∀ i ∈ offCauses, i < 19) row off
  have vote : 2 ≤ v.vote := by
    rw [← State.rindOwn_of_offCause off (s := v) (by rw [causes, if_pos rfl]; exact getLsbD_setBit_same _ inMask _)]
    exact v.rindOwn_le_vote
  obtain ⟨-, -, -, normal, -⟩ := State.keeps_of_besideCauses rest
  rw [judged, state, latch, State.stateNext_off (.inl vote)]
  refine ⟨v.offState_off, fun first => ?_⟩
  simp [State.latchNext, vote, normal.trans first]

/-! ### The commands -/

/-- Faults that assert FAULT_N by themselves (R331). -/
theorem State.faultN_of_fault {s : State}
    (fault : s.safety.crcBad = true ∨ s.safety.clockFault ≠ 0 ∨ s.safety.oscFault = true) : s.faultN = true := by
  rcases fault with bad | clock | osc
  · simp [State.faultN, bad]
  · simp [State.faultN, show s.safety.clockFault ≠ 0#2 from clock]
  · simp [State.faultN, osc]

theorem State.setCause_linkHold_cleared (s : State) (off : s.safety.state.off = true) :
    (s.setCause true cLinkHold false).safety.state.off = true ∧
      (s.setCause true cLinkHold false).safety.rindCauses.getLsbD cLinkHold = false ∧
      (s.safety.offLatch = true → (s.setCause true cLinkHold false).safety.offLatch = true) := by
  obtain ⟨v, judged, -, kept, keptLatch, causes, -⟩ := s.setCause_cases true cLinkHold false
  obtain ⟨state, latch, -, hold⟩ := v.judge_cases
  rw [judged, state, latch, hold, causes, if_pos rfl, State.stateNext_off (.inr (by rw [kept, off]))]
  refine ⟨v.offState_off, getLsbD_setBit_same _ (by decide) _, fun latched => ?_⟩
  simp [State.latchNext, keptLatch, latched]

/-- The end of a link hold (R101): the off class, with the latch once NORMAL has been reached, and the cause gone. -/
theorem exec_linkHoldExpiry {s : State} (hold : s.link.holdRun = true) (runs : s.rindRuns = true) :
    ∃ t, exec .linkHoldExpiry s = .next t ∧ t.link = { s.link with holdRun := false } ∧ t.safety.state.off = true ∧
      t.safety.rindCauses.getLsbD cLinkHold = false ∧ (s.safety.firstNormal = true → t.safety.offLatch = true) ∧ t.store = s.store := by
  let ended : State := { s with link := { s.link with holdRun := false } }
  have run : exec .linkHoldExpiry s = .next (ended.pulseCause cLinkHold) := if_pos (by simp [hold, runs])
  obtain ⟨off, latch⟩ := ended.setCause_off (row := cLinkHold) (by decide)
  obtain ⟨stays, cleared, keeps⟩ := (ended.setCause true cLinkHold true).setCause_linkHold_cleared off
  have rest : (ended.pulseCause cLinkHold).besideCauses = ended.besideCauses :=
    (State.besideCauses_setCause ..).trans (State.besideCauses_setCause ..)
  obtain ⟨link, store, -⟩ := State.keeps_of_besideCauses rest
  exact ⟨_, run, link, stays, cleared, fun first => keeps (latch first), store⟩

/-- A corrupt parameter copy (R329): the ROM parameters, and NORMAL ends. -/
theorem exec_safetyCrcCheck {s : State} (copy : s.safety.copy.isSome = true) (good : s.safety.crcBad = false)
    (runs : s.rindRuns = true) :
    ∃ t, exec (.safetyCrcCheck true) s = .next t ∧ t.safety.romParams = true ∧ t.safety.crcBad = true ∧ t.rindP = romSafety ∧
      t.safety.state ≠ .normal ∧ t.faultN = true := by
  let rom : State := { s with safety := { s.safety with romParams := true, crcBad := true } }
  let u := rom.setCause true cSafetyCrc true
  let t := u.cond (s.safety.paint = .beam && u.safety.paint = .beam) State.repaint
  have run : exec (.safetyCrcCheck true) s = .next t := if_pos (by simp [copy, good, runs])
  obtain ⟨v, judged, -, -, -, causes, -⟩ := rom.setCause_cases true cSafetyCrc true
  have vote : v.vote ≠ 0 := by
    have := State.rindOwn_of_safetyCrc (s := v) (by rw [causes, if_pos rfl]; exact getLsbD_setBit_same _ (by decide) _)
    have := v.rindOwn_le_vote
    omega
  have painted : t.besidePaint = u.besidePaint := State.besidePaint_cond _ _ State.besidePaint_repaint
  have rest : t.besideCauses = rom.besideCauses :=
    (State.besideCauses_of_besideJudge (State.besideJudge_of_besideChange (State.besideChange_of_besidePaint painted))).trans
      (State.besideCauses_setCause ..)
  obtain ⟨-, -, -, -, -, params, bad, -⟩ := State.keeps_of_besideCauses rest
  obtain ⟨judgedState, -⟩ := v.judge_cases
  have state : t.safety.state = v.stateNext := calc
    _ = u.safety.state := (congrArg (·.safety.state) painted :)
    _ = v.judge.safety.state := by rw [← judged]
    _ = v.stateNext := judgedState
  exact ⟨t, run, params, bad, if_pos params, state ▸ State.stateNext_ne_normal vote, State.faultN_of_fault (.inl bad)⟩

/-- A clock fault (R30): the off class. -/
theorem exec_clockFault {s : State} {tile : Bool} (first : s.safety.clockFault.getLsbD (b2n tile) = false) (runs : s.rindRuns = true) :
    ∃ t, exec (.clockFault tile) s = .next t ∧ t.safety.clockFault.getLsbD (b2n tile) = true ∧ t.safety.state.off = true ∧
      t.faultN = true := by
  let noted : State := { s with safety := { s.safety with clockFault := setBit s.safety.clockFault (b2n tile) true } }
  let t := (noted.raise 0x080F [(1, b2n tile)]).setCause true cClock true
  have run : exec (.clockFault tile) s = .next t := if_neg (by simp [first, runs])
  obtain ⟨off, -⟩ := (noted.raise 0x080F [(1, b2n tile)]).setCause_off (row := cClock) (by decide)
  obtain ⟨-, -, -, -, -, -, -, kept, -⟩ := State.keeps_of_besideCauses
    ((noted.raise 0x080F [(1, b2n tile)]).besideCauses_setCause true cClock true)
  have bit : t.safety.clockFault.getLsbD (b2n tile) = true := by
    rw [kept]
    exact getLsbD_setBit_same _ (by cases tile <;> decide) _
  have some : t.safety.clockFault ≠ 0 := fun zero => by simp [zero] at bit
  exact ⟨t, run, bit, off, State.faultN_of_fault (.inr (.inl some))⟩

/-- An oscillator fault (Table 11.1): the SP requests the off class. -/
theorem exec_oscillatorCheck {s : State} (first : s.safety.oscFault = false) (runs : s.sp.running = true) :
    ∃ t, exec (.oscillatorCheck true) s = .next t ∧ t.safety.oscFault = true ∧ t.spOwn = 2 ∧ t.faultN = true := by
  let noted : State := ({ s with safety := { s.safety with oscFault := true } } : State).raise 0x080F [(1, 2)]
  have run : exec (.oscillatorCheck true) s = .next (noted.setCause false cOsc true) := if_pos (by simp [first, runs])
  obtain ⟨-, -, -, -, -, -, -, -, osc⟩ := State.keeps_of_besideCauses (noted.besideCauses_setCause false cOsc true)
  obtain ⟨v, judged, -, -, -, -, causes⟩ := noted.setCause_cases false cOsc true
  have own : v.judge.spOwn = 2 := by
    obtain ⟨-, -, others, -⟩ := v.judge_cases
    have kept : v.judge.safety.spCauses = v.safety.spCauses := (congrArg (·.safety.spCauses) others :)
    have set : v.judge.safety.spCauses.getLsbD cOsc = true := by
      rw [kept, causes, if_neg Bool.false_ne_true]
      exact getLsbD_setBit_same _ (by decide) _
    exact if_pos (by simp [hasAny, set])
  exact ⟨_, run, osc, judged ▸ own, State.faultN_of_fault (.inr (.inr osc))⟩

/-- A change of LBREQ (R321): in the off class it decides between FALLBACK and DARK. -/
theorem exec_lbreq {s : State} {active : Bool} (runs : s.rindRuns = true) (change : s.safety.lbreq ≠ active) :
    ∃ t, exec (.lbreq active) s = .next t ∧ t.safety.lbreq = active ∧
      (s.safety.state.off = true → t.safety.state = if active then .fallback else .dark) ∧
      t.store = s.store ∧ t.link = s.link ∧ t.comp = s.comp := by
  let moved : State := ({ s with safety := { s.safety with lbreq := active } } : State).raise 0x080C [(1, b2n active)]
  have run : exec (.lbreq active) s = .next moved.judge := if_neg (by simp [runs, change])
  obtain ⟨state, -, rest, -⟩ := moved.judge_cases
  obtain ⟨link, store, comp, -, lbreq, -⟩ := State.keeps_of_besideCauses (State.besideCauses_of_besideJudge rest)
  exact ⟨_, run, lbreq, fun off => state.trans (State.stateNext_off (.inr off)), store, link, comp⟩

/-- A stopped safety oscillator stands the Rind still, so that every cut line is low (R299). -/
theorem dark_of_oscStopped {s : State} (stopped : s.safety.oscStopped = true) : s.dark := by
  intro t _
  simp [State.isCut, State.rindRuns, stopped]

/-- Settles O42: each fault raises a cause, and a judgement of the vote follows it. -/
theorem faultsLeadToTheOffClass : Obligations.FaultsLeadToTheOffClass :=
  ⟨fun _ hold runs => exec_linkHoldExpiry hold runs, fun _ copy good runs => exec_safetyCrcCheck copy good runs, fun _ => rfl,
    fun _ _ first runs => exec_clockFault first runs, fun _ first runs => exec_oscillatorCheck first runs,
    fun _ => ⟨rfl, dark_of_oscStopped rfl⟩, fun _ _ runs change => exec_lbreq runs change⟩

end Sys2Proof.Machine
end

section
/-!
PROOFS. What the operations of the model keep: the fuses (02 R48) and the canonical form of the memory (log 48), and, where `core`
holds, the image in force, the thermal unit, the readbacks, the MP and the personality. One lemma for an operation that several
meanings share, in the order of the model's files. Each proof has the operation's own shape: `.ite` where it branches, `.cond` and
`.forEach` where it repeats a step, `.set` where it updates fields, and the lemma of an operation that it calls; what writes the
memory rests on the laws of the store and the flash.
-/
namespace Sys2Proof.Machine

/-- From `s` to `u` the fuses stay (R48), and the memory stays in canonical form (log 48); what does not load an image, take a reading,
latch the personality or restart the MP keeps, with `core`, the image in force, the thermal unit, the readbacks, the MP and the
personality too. -/
structure Kept (core : Prop) (s u : State) : Prop where
  fuse : u.fuse = s.fuse
  wf : s.MemoryWf → u.MemoryWf
  core : core → u.img = s.img ∧ u.thermal = s.thermal ∧ u.rb = s.rb ∧ u.mp = s.mp ∧ u.start.pers = s.start.pers

/-- Whatever state an outcome reaches has kept as much of `s`. -/
def Lands (core : Prop) (s : State) (o : Host.Outcome State Fault Refusal) : Prop := ∀ t, o = .next t → Kept core s t

section
variable {core : Prop} {s u v : State}

/-! ### Rules for the forms that operations are built of -/

theorem Kept.refl (s : State) : Kept core s s := ⟨rfl, id, fun _ => ⟨rfl, rfl, rfl, rfl, rfl⟩⟩

section
variable {pending : List Instr} {start : Start} {img : Params} {power : Power} {portA portB : Port} {selfTest : SelfTest}
  {link : Link} {linkB : LinkB} {clk : Clocks} {sync : Sync} {grid : Grid} {store : Store} {banks : Sparse Bank}
  {layers : List Layer} {comp : Comp} {out : Out} {tiles : Sparse Tile} {quads : Sparse Quad} {drive : Drive} {diag : Diag}
  {rb : Readback} {cvu : Sparse Cvu} {zones : Zones} {safety : Safety} {thermal : Thermal} {policy : Policy} {affin : Affin}
  {nvm : Nvm} {mp : Mp} {sp : Sp} {svc : Service} {leg : Legacy} {ev : Events} {tap : Tap} {free : Nat}

/-- Any new values of the fields that are not spoken of. -/
theorem Kept.set (h : Kept core s u) : Kept core s { u with
    pending, power, portA, portB, selfTest, link, linkB, clk, sync, grid, banks, layers, comp, out, tiles, quads,
    drive, diag, cvu, zones, safety, policy, affin, nvm, sp, svc, leg, ev, tap, free } := ⟨h.fuse, h.wf, h.core⟩

/-- The same, and a new start with the personality of the old. -/
theorem Kept.setStart (h : Kept core s u) (pers : start.pers = u.start.pers) : Kept core s { u with
    pending, start, power, portA, portB, selfTest, link, linkB, clk, sync, grid, banks, layers, comp, out, tiles, quads,
    drive, diag, cvu, zones, safety, policy, affin, nvm, sp, svc, leg, ev, tap, free } :=
  ⟨h.fuse, h.wf, fun on => (h.core on).imp_right (.imp_right (.imp_right (.imp_right pers.trans)))⟩

/-- Any new values of every field but the fuses and the memory. -/
theorem Kept.setWide (h : Kept False s u) : Kept False s { u with
    pending, start, img, power, portA, portB, selfTest, link, linkB, clk, sync, grid, banks, layers, comp, out, tiles, quads,
    drive, diag, rb, cvu, zones, safety, thermal, policy, affin, nvm, mp, sp, svc, leg, ev, tap, free } :=
  ⟨h.fuse, h.wf, False.elim⟩

/-- New values of the other fields, and a change of the store that keeps its canonical form. -/
theorem Kept.setStore (h : Kept core s u) (keep : Sparse.wf 0 u.store.cells = true → Sparse.wf 0 store.cells = true)
    (pers : start.pers = u.start.pers := by rfl) : Kept core s { u with
      pending, start, power, portA, portB, selfTest, link, linkB, clk, sync, grid, store, banks, layers, comp, out, tiles, quads,
      drive, diag, cvu, zones, safety, policy, affin, nvm, sp, svc, leg, ev, tap, free } :=
  ⟨h.fuse, fun wf => (h.wf wf).imp_left keep, fun on => (h.core on).imp_right (.imp_right (.imp_right (.imp_right pers.trans)))⟩

/-- The same, and a change of the store that leaves its cells. -/
theorem Kept.setWideStore (h : Kept False s u) (cells : store.cells = u.store.cells) : Kept False s { u with
      pending, start, img, power, portA, portB, selfTest, link, linkB, clk, sync, grid, store, banks, layers, comp, out, tiles, quads,
      drive, diag, rb, cvu, zones, safety, thermal, policy, affin, nvm, mp, sp, svc, leg, ev, tap, free } :=
  ⟨h.fuse, fun wf => (h.wf wf).imp_left fun canonical => cells ▸ canonical, False.elim⟩

/-- New values of the other fields, and a change of the flash controller that changes no byte. -/
theorem Kept.setFlash {flash : Flash} (h : Kept core s u)
    (bytes : flash.recs = u.flash.recs ∧ flash.slotA = u.flash.slotA ∧ flash.slotB = u.flash.slotB)
    (pers : start.pers = u.start.pers := by rfl) : Kept core s { u with
      pending, start, flash, power, portA, portB, selfTest, link, linkB, clk, sync, grid, banks, layers, comp, out, tiles, quads,
      drive, diag, cvu, zones, safety, policy, affin, nvm, sp, svc, leg, ev, tap, free } := by
  obtain ⟨recs, slotA, slotB⟩ := bytes
  refine ⟨h.fuse, fun wf => ?_, fun on => (h.core on).imp_right (.imp_right (.imp_right (.imp_right pers.trans)))⟩
  obtain ⟨inStore, inRecs, inA, inB, inLatches⟩ := h.wf wf
  exact ⟨inStore, recs ▸ inRecs, slotA ▸ inA, slotB ▸ inB, inLatches⟩

end

/-- An operation that writes the memory, and nothing else that is spoken of. -/
theorem Kept.write (h : Kept core s u) (wf : u.MemoryWf → v.MemoryWf)
    (rest : v.fuse = u.fuse ∧ v.img = u.img ∧ v.thermal = u.thermal ∧ v.rb = u.rb ∧ v.mp = u.mp ∧ v.start.pers = u.start.pers) :
    Kept core s v := by
  obtain ⟨fuse, img, thermal, rb, mp, pers⟩ := rest
  refine ⟨fuse.trans h.fuse, fun start => wf (h.wf start), fun on => ?_⟩
  obtain ⟨imgKept, thermalKept, rbKept, mpKept, persKept⟩ := h.core on
  exact ⟨img.trans imgKept, thermal.trans thermalKept, rb.trans rbKept, mp.trans mpKept, pers.trans persKept⟩

theorem Kept.ite {c : Prop} [Decidable c] (yes : Kept core s u) (no : Kept core s v) : Kept core s (if c then u else v) := by
  split
  · exact yes
  · exact no

theorem Kept.dite {c : Prop} [Decidable c] {f : c → State} {g : ¬ c → State} (yes : ∀ x, Kept core s (f x))
    (no : ∀ x, Kept core s (g x)) : Kept core s (if x : c then f x else g x) := by
  split
  · exact yes _
  · exact no _

theorem Kept.cond {c : Bool} {f : State → State} (h : Kept core s u) (step : ∀ {v}, Kept core s v → Kept core s (f v)) :
    Kept core s (u.cond c f) :=
  .ite (step h) h

theorem Kept.foldl {α : Type} {xs : List α} {f : State → α → State} (h : Kept core s u)
    (step : ∀ {v x}, Kept core s v → Kept core s (f v x)) : Kept core s (xs.foldl f u) := by
  induction xs generalizing u with
  | nil => exact h
  | cons x xs ih => exact ih (step h)

theorem Kept.forEach {xs : List Nat} {f : State → Nat → State} (h : Kept core s u)
    (step : ∀ {v n}, Kept core s v → Kept core s (f v n)) : Kept core s (u.forEach xs f) :=
  .foldl h step

theorem Lands.next (h : Kept core s u) : Lands core s (.next u) := fun _ same => Host.Outcome.next.inj same ▸ h

theorem Lands.ite {c : Prop} [Decidable c] {o p : Host.Outcome State Fault Refusal} (yes : Lands core s o) (no : Lands core s p) :
    Lands core s (if c then o else p) := by
  split
  · exact yes
  · exact no

theorem Kept.landed {o : Host.Outcome State Fault Refusal} (h : Kept core s u) (lands : Lands core s o) :
    Kept core s (landed u o) := by
  cases o with
  | next t => exact lands t rfl
  | fault => exact h
  | refused => exact h

/-! ### Flags -/

theorem Kept.setFlag {i : Nat} (h : Kept core s u) : Kept core s (u.setFlag i) := .set h

/-! ### Ops -/

theorem Kept.modTile {t : Nat} {f : Tile → Tile} (h : Kept core s u) : Kept core s (u.modTile t f) := .set h
theorem Kept.modBank {b : Nat} {f : Bank → Bank} (h : Kept core s u) : Kept core s (u.modBank b f) := .set h
theorem Kept.modQuad {q : Nat} {f : Quad → Quad} (h : Kept core s u) : Kept core s (u.modQuad q f) := .set h
theorem Kept.modLayer {n : Nat} {f : Layer → Layer} (h : Kept core s u) : Kept core s (u.modLayer n f) := .set h

theorem Kept.modPort {p : PortId} {f : Port → Port} (h : Kept core s u) : Kept core s (u.modPort p f) := by
  unfold State.modPort
  split
  · exact .set h
  · exact .set h

theorem Kept.drawn (h : Kept core s u) : Kept core s u.drawn := .set h
theorem Kept.raise {code : Nat} {data : List (Nat × Nat)} (h : Kept core s u) : Kept core s (u.raise code data) := .set h

theorem Kept.raiseRatedN {code key n : Nat} {data : List (Nat × Nat)} (h : Kept core s u) :
    Kept core s (u.raiseRatedN code key n data) :=
  .ite (.set h) (.set (.raise h))

theorem Kept.raiseRated {code key : Nat} {data : List (Nat × Nat)} (h : Kept core s u) :
    Kept core s (u.raiseRated code key data) :=
  .raiseRatedN h

theorem Kept.regrid (h : Kept core s u) : Kept core s u.regrid := .ite (.ite (.set h) (.raise (.set (.set h)))) h
theorem Kept.elapse {n : Nat} (h : Kept core s u) : Kept core s (u.elapse n) := .ite h (.regrid (.set h))
theorem Kept.sendAck (h : Kept core s u) : Kept core s u.sendAck := .set (.set h)
theorem Kept.sendNak (h : Kept core s u) : Kept core s u.sendNak := .ite h (.set (.set h))
theorem Kept.emit {p : PortId} {bs : List Blk} {cs : List (BitVec 9)} (h : Kept core s u) :
    Kept core s (u.emit p bs cs) := .modPort h
theorem Kept.flushLcbs (h : Kept core s u) : Kept core s u.flushLcbs := .ite h (.emit (.set h))
theorem Kept.sendCredit {vc : Nat} (h : Kept core s u) : Kept core s (u.sendCredit vc) := .ite h (.set (.set h))

theorem Kept.freeCredits {vc n len : Nat} (h : Kept core s u) : Kept core s (u.freeCredits vc n len) :=
  .ite h (.ite (.sendCredit (.set h)) (.set h))

theorem Kept.enqueue {q : Nat} {p : TxPkt} (h : Kept core s u) : Kept core s (u.enqueue q p) := .ite (.set h) (.set h)

theorem Kept.reply {hd : Hdr} {type opcode status : Nat} {data : List Byte} (h : Kept core s u) :
    Kept core s (u.reply hd type opcode
    status data) :=
  .ite h (.ite (.enqueue h) (.set h))

theorem Kept.setContext {n : Nat} {bs : List Byte} (h : Kept core s u) : Kept core s (u.setContext n bs) := .set h
theorem Kept.checkRun {n : Nat} (h : Kept core s u) : Kept core s (u.checkRun n) := .modLayer (.cond h fun h => .raise (.set h))

theorem Kept.restoreFor {vc type : Nat} (h : Kept core s u) : Kept core s (u.restoreFor vc type) :=
  .cond h fun h => .modLayer (.cond h fun h => .raise (.set h))

theorem Kept.contentFail {hd : Hdr} {vc type opcode status cause len : Nat} (h : Kept core s u) :
    Kept core s (u.contentFail hd vc type
    opcode status cause len) :=
  .ite (.reply (.restoreFor (.ite (.set h) (.freeCredits (.set (.set h)))))) (.raiseRated (.restoreFor (.ite (.set h)
    (.freeCredits (.set (.set h))))))

theorem Kept.linkPass (h : Kept core s u) : Kept core s u.linkPass := .ite (.sendAck (.set h)) (.set h)
theorem Kept.linkOther {q : BitVec 12} (h : Kept core s u) : Kept core s (u.linkOther q) := .ite (.sendAck h) (.sendNak h)

theorem Kept.deliver {i : Instr} {p : Rx} {credits : Nat} {consume : State → State} (h : Kept core s u)
    (step : ∀ {v}, Kept core s v →
    Kept core s (consume v)) : Kept core s (u.deliver i p credits consume) :=
  .ite (.set h) (.freeCredits (step h))

theorem Kept.deliverShared {i : Instr} {p : Rx} {n : Nat} {consume : State → State} (h : Kept core s u)
    (step : ∀ {v}, Kept core s v →
    Kept core s (consume v)) : Kept core s (u.deliverShared i p n consume) :=
  .ite (.set (.set h)) (step (.set h))

theorem Kept.route {i : Instr} {p : Rx} {consume : State → State} (h : Kept core s u)
    (step : ∀ {v}, Kept core s v → Kept core s (consume v)) :
    Kept core s (u.route i p consume) :=
  .ite (.ite (.deliverShared (.set h) step) (.deliver (.set h) step)) (.ite (.deliver (.set h) step) (.ite (.set (.set h))
    (.raiseRated (.freeCredits (.set h)))))

theorem Kept.content {i : Instr} {p : Rx} {consume : State → State} (h : Kept core s u)
    (step : ∀ {v}, Kept core s v → Kept core s (consume v))
    : Kept core s (u.content i p consume) :=
  .ite (.raiseRated (.set h)) (.ite (.contentFail h) (.ite (.contentFail h) (.ite (.contentFail h) (.ite (.contentFail h)
    (.route h step)))))

/-! ### LegReg -/

theorem Kept.legStatus {bit : Nat} (h : Kept core s u) : Kept core s (u.legStatus bit) := .ite (.set h) h

theorem Kept.setTemp {t : Int} (h : Kept core s u) : Kept core s (u.setTemp t) := by
  unfold State.setTemp
  exact .cond (.cond (.set h) .legStatus) .legStatus

/-! ### Nvm -/

theorem Kept.flashProgram {a : Nat} {bs : List Byte} (h : Kept core s u) : Kept core s (u.flashProgram a bs) :=
  h.write (u.memoryWf_flashProgram a bs) (by unfold State.flashProgram; dsimp only; split <;> exact ⟨rfl, rfl, rfl, rfl, rfl, rfl⟩)

theorem Kept.flashErase {a : Nat} (h : Kept core s u) : Kept core s (u.flashErase a) :=
  h.write (u.memoryWf_flashErase a) (by unfold State.flashErase; dsimp only; split <;> exact ⟨rfl, rfl, rfl, rfl, rfl, rfl⟩)

theorem Kept.flashEraseMany {a n : Nat} (h : Kept core s u) : Kept core s (u.flashEraseMany a n) := .forEach h .flashErase
theorem Kept.setNvm {v : Nvm} (h : Kept core s u) : Kept core s (u.setNvm v) := .set h
theorem Kept.nvmRefill (h : Kept core s u) : Kept core s u.nvmRefill := .setNvm h
theorem Kept.nvmRefused {bytes : Nat} (h : Kept core s u) : Kept core s (u.nvmRefused bytes) := .raiseRatedN (.setNvm h)
theorem Kept.payProg {n : Nat} (h : Kept core s u) : Kept core s (u.payProg n) := .setNvm h
theorem Kept.payErase {n : Nat} (h : Kept core s u) : Kept core s (u.payErase n) := .setNvm h
theorem Kept.doReserve {n : Nat} (h : Kept core s u) : Kept core s (u.doReserve n) :=
  .ite (.setNvm (.nvmRefill h)) (.setNvm (.nvmRefill h))

theorem Kept.reservedWrite {a : Nat} {bs : List Byte} {erase : Bool} (h : Kept core s u) :
    Kept core s (u.reservedWrite a bs erase) :=
  .ite (.flashProgram (.cond (.setNvm h) .flashErase)) (.nvmRefill h)

theorem Kept.mpWrite {a : Nat} {bs : List Byte} {erase : Bool} (h : Kept core s u) : Kept core s (u.mpWrite a bs erase) :=
  .ite (.nvmRefused (.nvmRefill h)) (.ite (.nvmRefused (.nvmRefill h)) (.flashProgram (.cond (.payProg (.payErase h))
    .flashErase)))

theorem Kept.payCmd {c : FlashCmd} (h : Kept core s u) : Kept core s (u.payCmd c) :=
  .ite h (.ite (.setNvm h) (.ite (.payErase h) (.payProg h)))

/-- What the controller's queue holds is no byte of the flash. -/
theorem Flash.take_bytes (f : Flash) (j : FlashJob) :
    (f.take j).recs = f.recs ∧ (f.take j).slotA = f.slotA ∧ (f.take j).slotB = f.slotB := by
  unfold Flash.take
  split <;> exact ⟨rfl, rfl, rfl⟩

theorem Flash.turn_bytes (f : Flash) : f.turn.recs = f.recs ∧ f.turn.slotA = f.slotA ∧ f.turn.slotB = f.slotB := by
  unfold Flash.turn
  split <;> exact ⟨rfl, rfl, rfl⟩

theorem State.setNvm_flash (s : State) (v : Nvm) : (s.setNvm v).flash = s.flash := rfl

theorem State.payCmd_flash (s : State) (c : FlashCmd) : (s.payCmd c).flash = s.flash := by
  unfold State.payCmd
  split
  · rfl
  split
  · exact s.setNvm_flash _
  split
  · exact s.setNvm_flash _
  · exact s.setNvm_flash _

theorem Lands.flashCommand {c : FlashCmd} (h : Kept core s u) : Lands core s (execFlashCommand c u) :=
  .ite (.next (.raise h)) (.ite (.next (.setFlash (.payCmd h) (by rw [State.payCmd_flash]; exact u.flash.take_bytes _)))
    (.next (.cond (.nvmRefill h) .nvmRefused)))

theorem Kept.flashDo {c : FlashCmd} (h : Kept core s u) : Kept core s (u.flashDo c) := .ite (.flashErase h) (.flashProgram h)
theorem Kept.imageOp {opcode slot result : Nat} (h : Kept core s u) : Kept core s (u.imageOp opcode slot result) := .raise h

theorem Kept.jobDone {j : FlashJob} (h : Kept core s u) : Kept core s (u.jobDone j) :=
  .ite (.setFlash h (Flash.turn_bytes _)) (.cond (.setFlash h (Flash.turn_bytes _)) .imageOp)

theorem Lands.flashCommandDone (h : Kept core s u) : Lands core s (execFlashCommandDone u) := by
  unfold execFlashCommandDone
  split
  · exact .next h
  · exact .next (.jobDone (.flashDo h))

theorem Kept.finishFlash (h : Kept core s u) : Kept core s u.finishFlash := by
  unfold State.finishFlash
  split
  · exact .setFlash h ⟨rfl, rfl, rfl⟩
  · exact .setFlash (.flashDo h) ⟨rfl, rfl, rfl⟩

theorem Kept.flashQueue {j : FlashJob} (h : Kept core s u) : Kept core s (u.flashQueue j) := .setFlash h (u.flash.take_bytes j)
theorem Kept.settleJob {j : FlashJob} (h : Kept core s u) : Kept core s (u.settleJob j) :=
  .ite (.flashEraseMany h) (.flashProgram h)
theorem Kept.settled (h : Kept core s u) : Kept core s u.settled := .foldl h .settleJob

/-! ### Limiter -/

theorem Kept.runLimiter {dt : Nat} (h : Kept core s u) : Kept core s (u.runLimiter dt) := .set h

/-! ### Power -/

theorem Kept.badSwitch {addr : Nat} (h : Kept core s u) : Kept core s (u.badSwitch addr) := .raise h

/-- The latches of a quadrant leave the map. -/
theorem Kept.latchesFiltered {p : Nat × BitVec 13 → Bool} (h : Kept core s u) :
    Kept core s { u with latches := u.latches.filter p } :=
  h.write (fun ⟨store, recs, slotA, slotB, latches⟩ => ⟨store, recs, slotA, slotB, Sparse.wf_filter _ _ _ latches⟩)
    ⟨rfl, rfl, rfl, rfl, rfl, rfl⟩

theorem Kept.closeSwitch {q : Nat} (h : Kept core s u) : Kept core s (u.closeSwitch q) :=
  .latchesFiltered (.modQuad h)

theorem Kept.wake {q : Nat} (h : Kept core s u) : Kept core s (u.wake q) := .ite h (.raise (.closeSwitch h))
theorem Kept.withdrawOff {q : Nat} (h : Kept core s u) : Kept core s (u.withdrawOff q) :=
  .cond h fun h => .cond (.modQuad h) .badSwitch

theorem Kept.setLit {q : Nat} {on : Bool} (h : Kept core s u) : Kept core s (u.setLit q on) :=
  .cond (.modQuad h) fun h => .wake (.withdrawOff h)

theorem Kept.litOnAccept (h : Kept core s u) : Kept core s u.litOnAccept := .forEach h fun h => .ite (.setLit h) h
theorem Kept.litAtLatch (h : Kept core s u) : Kept core s u.litAtLatch := .forEach h .setLit

/-! ### Safe -/

theorem Kept.sendCmd {q : Nat} {w : BitVec 64} {stall : Bool} (h : Kept core s u) : Kept core s (u.sendCmd q w stall) := .set h
theorem Kept.sendSource {q : Nat} {localSrc : Bool} (h : Kept core s u) : Kept core s (u.sendSource q localSrc) := .sendCmd h

theorem Kept.sendFill {q x0 x1 y0 y1 code : Nat} {stall : Bool} (h : Kept core s u) :
    Kept core s (u.sendFill q x0 x1 y0 y1 code stall) :=
  .forEach h fun h => .ite h (.sendCmd h)

theorem Kept.checkInh (h : Kept core s u) : Kept core s u.checkInh := .cond (.set h) .raise

theorem Kept.setCut {t row : Nat} {on : Bool} (h : Kept core s u) : Kept core s (u.setCut t row on) :=
  .ite h (.checkInh (.cond (.set h) .raise))

theorem Kept.paintBeam {q : Nat} (h : Kept core s u) : Kept core s (u.paintBeam q) :=
  .forEach (.sendCmd (.sendSource h)) fun h => .cond (.cond h .sendFill) .sendFill

theorem Kept.paintQuad {q : Nat} (h : Kept core s u) : Kept core s (u.paintQuad q) := by
  refine .ite h ?_
  split
  · exact h
  · exact .paintBeam h
  · exact .sendCmd h

theorem Kept.startPaint {beam : Bool} (h : Kept core s u) : Kept core s (u.startPaint beam) :=
  .forEach (.forEach (.forEach (.set h) .setCut) fun h => .cond h fun h => .wake (.withdrawOff (.modQuad h))) .paintQuad

theorem Kept.repaint (h : Kept core s u) : Kept core s u.repaint := .forEach h .paintQuad
theorem Kept.paintAnew (h : Kept core s u) : Kept core s u.paintAnew := .ite h (.ite (.repaint h) (.startPaint h))

theorem Kept.changeState {n : SafeState} (h : Kept core s u) : Kept core s (u.changeState n) :=
  .ite h (.ite (.startPaint (.runLimiter (.raise (.set h)))) (.forEach (.runLimiter (.raise (.set h))) .setCut))

theorem Kept.judge (h : Kept core s u) : Kept core s u.judge := .ite (.set (.changeState (.set h))) (.changeState (.set h))

theorem Kept.setCause {rind : Bool} {row : Nat} {on : Bool} (h : Kept core s u) : Kept core s (u.setCause rind row on) :=
  .judge (.cond (.ite (.set (.ite (.set h) (.set h))) (.set (.ite (.set h) (.set h)))) .raise)

/-! ### Tiles -/

theorem Kept.rowTouched {t row : Nat} {mask : BitVec 128} (h : Kept core s u) : Kept core s (u.rowTouched t row mask) := by
  unfold State.rowTouched
  split
  · exact .ite (.modTile h) h
  · exact h

/-- A block of latch writes whose pixels rise. -/
theorem Kept.latchesMerged {ws : List (Nat × BitVec 13)} (h : Kept core s u) (rising : ws.Pairwise fun a b => a.1 < b.1) :
    Kept core s { u with latches := Sparse.merge 0 ws u.latches } :=
  h.write (fun ⟨store, recs, slotA, slotB, latches⟩ => ⟨store, recs, slotA, slotB, Sparse.wf_merge 0 ws _ rising latches⟩)
    ⟨rfl, rfl, rfl, rfl, rfl, rfl⟩

theorem Kept.writeRow {t row : Nat} {codes : List (BitVec 12)} (h : Kept core s u) : Kept core s (u.writeRow t row codes) :=
  .rowTouched (.latchesMerged h (pairwise_mapIdx _ (codes.take 128) fun _ c => latchWord c))

theorem Kept.sendCtl {t key w : Nat} (h : Kept core s u) : Kept core s (u.sendCtl t key w) := .ite (.modTile h) h

theorem Kept.onWord {t key op : Nat} {w : BitVec 96} {seg : Option Nat} {row sig : Nat} {f : Tile → Tile} (h :
    Kept core s u) : Kept
    core s (u.onWord t key op w seg row sig f) :=
  .ite h (.ite (.modTile h) (.modTile h))

theorem Kept.onCtl {t op : Nat} {w : BitVec 96} {f : Tile → Tile} (h : Kept core s u) :
    Kept core s (u.onCtl t op w f) := .onWord h
theorem Kept.setRequest {t q : Nat} (h : Kept core s u) : Kept core s (u.setRequest t q) :=
  .cond (.cond (.modTile h) .sendCtl) .raiseRated
theorem Lands.drvTileWrite {t : Fin 64} {v : BitVec 32} (h : Kept core s u) :
    Lands core s (execDrvTileWrite t v u) := .next (.setRequest h)

theorem Kept.busCommand {cmd q : Nat} {w : BitVec 64} {nak : Tile → Bool} {f : State → Nat → State} (h : Kept core s u)
    (step : ∀ {v
    n}, Kept core s v → Kept core s (f v n)) : Kept core s (u.busCommand cmd q w nak f) :=
  .ite h (.forEach (.modQuad h) fun h => .modQuad (.ite h (step h)))

/-- A sweep writes a row of a tile from its left to its right. -/
theorem sweepRowWrites_rising (t row : Nat) (held : List Rect) : (sweepRowWrites t row held).Pairwise fun a b => a.1 < b.1 := by
  unfold sweepRowWrites
  dsimp only
  split
  · exact .nil
  · refine List.Pairwise.filterMap _ (R := (· < ·)) (fun i j lt a ha b hb => ?_) List.pairwise_lt_range
    obtain ⟨-, -, rfl⟩ := Option.map_eq_some_iff.mp ha
    obtain ⟨-, -, rfl⟩ := Option.map_eq_some_iff.mp hb
    exact Nat.add_lt_add_left lt _

/-- The writes of a tile's row lie on that row. -/
theorem mem_sweepRowWrites {t row : Nat} {held : List Rect} {e : Nat × BitVec 13} (mem : e ∈ sweepRowWrites t row held) :
    ∃ col < 128, e.1 = tilePixel t row col := by
  unfold sweepRowWrites at mem
  dsimp only at mem
  split at mem
  · exact absurd mem List.not_mem_nil
  · obtain ⟨col, inRow, found⟩ := List.mem_filterMap.mp mem
    obtain ⟨-, -, rfl⟩ := Option.map_eq_some_iff.mp found
    exact ⟨col, List.mem_range.mp inRow, rfl⟩

/-- A sweep writes a tile from its first row to its last. -/
theorem sweepWrites_rising (t : Nat) (held : List Rect) {rows : List Nat} (rising : rows.Pairwise (· < ·)) :
    (rows.flatMap fun row => sweepRowWrites t row held).Pairwise fun a b => a.1 < b.1 := by
  rw [List.pairwise_flatMap]
  refine ⟨fun row _ => sweepRowWrites_rising t row held, rising.imp fun {i j} lt a ha b hb => ?_⟩
  obtain ⟨c, lo, left⟩ := mem_sweepRowWrites ha
  obtain ⟨d, -, right⟩ := mem_sweepRowWrites hb
  rw [left, right]
  unfold tilePixel
  omega

theorem Lands.fillSweepDone {t : Fin 64} (h : Kept core s u) : Lands core s (execFillSweepDone t u) := by
  have painted (ws : List Nat) (rising : ws.Pairwise (· < ·)) := h.latchesMerged (sweepWrites_rising t (u.tile t).held rising)
  refine .ite (.next h) (.next (.modTile ?_))
  have swept := painted _ (List.Pairwise.filter (fun row => !(u.tile t).wrote.getLsbD row) (List.pairwise_lt_range (n := 128)))
  split
  · exact .rowTouched swept
  · exact swept

theorem Kept.darkDone {q : Nat} (h : Kept core s u) : Kept core s (u.darkDone q) := .ite (.modQuad h) h

theorem Kept.cmdFailed {q i : Nat} (h : Kept core s u) : Kept core s (u.cmdFailed q i) :=
  .ite (.set h) (.darkDone (.raise (.forEach (.set h) .setCut)))

theorem Lands.commandAnswer {q : Fin 4} {a : BitVec 16} (h : Kept core s u) : Lands core s (execCommandAnswer q a u) := by
  refine .ite (.next h) ?_
  split
  · exact .next h
  · exact .ite (.next (.cmdFailed h)) (.ite (.next h) (.next (.darkDone (.set h))))

theorem Lands.commandTimeout {q : Fin 4} (h : Kept core s u) : Lands core s (execCommandTimeout q u) := by
  unfold execCommandTimeout
  split
  · exact .next h
  · exact .next (.cmdFailed h)

theorem Lands.vledLow {mv : Nat} (h : Kept core s u) : Lands core s (execVledLow mv u) :=
  .ite (.next (.raiseRated (.forEach (.set h) fun h => .ite (.modTile h) h))) (.ite (.next (.raiseRated (.set h))) (.next h))

theorem Lands.offReq {q : Fin 4} (h : Kept core s u) : Lands core s (execOffReq q u) :=
  .ite (.next (.modQuad h)) (.ite (.next (.modQuad (.modQuad h))) (.next (.badSwitch (.modQuad h))))

theorem Lands.wakeReq {q : Fin 4} (h : Kept core s u) : Lands core s (execWakeReq q u) := .next (.wake (.modQuad h))

theorem Lands.drvStripeWrite {c : Fin 64} {v : BitVec 32} (h : Kept core s u) : Lands core s (execDrvStripeWrite c v u) :=
  .ite (.next (.set h)) (.next h)

/-! ### Heat -/

theorem Kept.moduleBand (h : Kept False s u) : Kept False s u.moduleBand := by
  unfold State.moduleBand
  exact .ite h (.raise (.setWide h))

theorem Kept.updateBand {t : Nat} (h : Kept False s u) : Kept False s (u.updateBand t) :=
  .ite h (.moduleBand (.cond (.setWide h) fun h => .sendCtl (.sendCtl h)))

theorem Kept.trustStep {t : Nat} {ready : Bool} (h : Kept False s u) : Kept False s (u.trustStep t ready) := by
  unfold State.trustStep
  dsimp only
  split
  · exact .setWide h
  · exact .setWide h
  · exact .ite (.raise (.setWide h)) (.ite (.raise (.setWide h)) (.setWide h))
  · exact .ite (.raise (.setWide h)) (.ite (.raise (.setWide h)) (.setWide h))

theorem Kept.commonMode {q : Nat} (h : Kept False s u) : Kept False s (u.commonMode q) := by
  unfold State.commonMode
  dsimp only
  split
  · exact h
  · exact .ite (.raise (.setWide h)) (.ite (.raise (.setWide h)) (.setWide h))

theorem Lands.quadSensorSample {q : Fin 4} {raw : BitVec 16} (h :
    Kept False s u) : Lands False s (execQuadSensorSample q raw u) :=
  .next (.forEach (.ite (.setWide (.setWide h)) (.ite (.raise (.setWide (.setWide h))) (.commonMode (.setWide (.setWide h))))) .updateBand)

theorem Kept.modHeat {t : Nat} {f : Heat → Heat} (h : Kept core s u) : Kept core s (u.modHeat t f) := .set h

theorem Kept.countShutdown {t : Nat} (h : Kept core s u) : Kept core s (u.countShutdown t) :=
  .ite (.raise (.setFlag (.modHeat (.modHeat h)))) (.modHeat h)

theorem Kept.policyTile {mv ma t : Nat} (h : Kept core s u) : Kept core s (u.policyTile mv ma t) :=
  .ite (.countShutdown (.legStatus (.raise (.modHeat (.cond (.modHeat h) .raiseRated))))) (.cond (.modHeat h) .raiseRated)

theorem Lands.mpPolicyTick {mv ma : Nat} {branch : List Nat} (h :
    Kept core s u) : Lands core s (execMpPolicyTick mv ma branch u) :=
  .ite (.next h) (.next (.forEach (.cond (.set (.forEach (.set h) .policyTile)) .raise) .setRequest))

theorem Kept.cutTile {t : Nat} (h : Kept core s u) : Kept core s (u.cutTile t) :=
  .cond (.cond (.setCut (.modHeat h)) fun h => .raise (.setFlag h)) .countShutdown

/-! ### Memory -/

theorem Kept.eccPoison {g : Nat} (h : Kept core s u) : Kept core s (u.eccPoison g) := .raise (.setStore h id)

theorem Kept.eccGranule {g : Nat} (h : Kept core s u) : Kept core s (u.eccGranule g) :=
  .ite (.raiseRated (.modBank h)) (.ite (.eccPoison h) h)

theorem Kept.eccHits {gs : List Nat} (h : Kept core s u) : Kept core s (u.eccHits gs) := .forEach h .eccGranule
theorem Kept.eccRead {a n : Nat} (h : Kept core s u) : Kept core s (u.eccRead a n) := .ite h (.forEach h .eccGranule)

theorem Kept.granuleWritten {g : Nat} (h : Kept core s u) : Kept core s (u.granuleWritten g) :=
  by
  rw [State.granuleWritten_cells]
  exact .setStore h id

theorem Kept.storeBytes {a : Nat} {bs : List Byte} (h : Kept core s u) : Kept core s (u.storeBytes a bs) :=
  h.write (u.memoryWf_storeBytes a bs) (by rw [State.storeBytes_cells]; exact ⟨rfl, rfl, rfl, rfl, rfl, rfl⟩)

theorem Kept.loadBytes {a : Nat} {bs : List Byte} (h : Kept core s u) : Kept core s (u.loadBytes a bs) :=
  h.write (u.memoryWf_loadBytes a bs) (by rw [State.loadBytes_cells]; exact ⟨rfl, rfl, rfl, rfl, rfl, rfl⟩)

/-! ### Affinage -/

theorem Kept.healCounter {k : Nat} (h : Kept core s u) : Kept core s (u.healCounter k) :=
  .ite (.raise (.raise (.setStore (.loadBytes h) id))) h

theorem Kept.healAll (h : Kept core s u) : Kept core s u.healAll := .ite h (.forEach (.eccRead h) .healCounter)

theorem Kept.chargeBlock {k sigma units w : Nat} (h : Kept core s u) : Kept core s (u.chargeBlock k sigma units w) :=
  .ite (.set h) (.ite (.raise (.set (.storeBytes (.healCounter (.eccRead (.set h)))))) (.storeBytes (.healCounter (.eccRead
    (.set h)))))

theorem Kept.compensate {t : Nat} {p : TilePred} (h : Kept core s u) : Kept core s (u.compensate t p) :=
  .cond (.modHeat h) fun h => .raise (.setFlag h)

theorem Kept.predict {ps : List TilePred} (h : Kept core s u) : Kept core s (u.predict ps) := .set (.forEach h .compensate)
theorem Kept.affReport {ps : List TilePred} (h : Kept core s u) :
    Kept core s (u.affReport ps) := .set (.forEach (.enqueue h) .enqueue)
theorem Kept.reportAtLinkUp (h : Kept core s u) : Kept core s u.reportAtLinkUp := .cond h fun h => .affReport (.healAll h)

theorem Kept.writeCopy {a seq magic : Nat} {body : List Byte} (h : Kept core s u) : Kept core s (u.writeCopy a seq magic body) :=
  .flashProgram (.flashProgram (.flashEraseMany h))

theorem Kept.saveCopy {magic : Nat} {as : List Nat} {body : List Byte} (h : Kept core s u) :
    Kept core s (u.saveCopy magic as body) :=
  .ite (.writeCopy (.payProg (.payErase h))) (.nvmRefused (.nvmRefill h))

theorem Kept.restoreErases (h : Kept core s u) : Kept core s u.restoreErases := by
  unfold State.restoreErases
  split
  · exact .setFlash h ⟨rfl, rfl, rfl⟩
  · exact .setFlash h ⟨rfl, rfl, rfl⟩

theorem Kept.writeSave (h : Kept core s u) : Kept core s u.writeSave :=
  .affReport (.predict (.saveCopy (.raise (.set (.flashProgram (.flashProgram (.flashEraseMany (.healAll h))))))))

theorem Kept.affSave (h : Kept core s u) : Kept core s u.affSave :=
  .ite (.raise (.set (.nvmRefused (.nvmRefill h)))) (.ite (.writeSave (.setNvm (.doReserve (.payErase h)))) (.raise (.set
    (.nvmRefused (.doReserve h)))))

theorem Kept.restoreCounters (h : Kept core s u) : Kept core s u.restoreCounters := by
  unfold State.restoreCounters
  split
  · exact .loadBytes h
  · exact .loadBytes h

theorem Kept.affRestore (h : Kept core s u) : Kept core s u.affRestore := by
  refine .predict ?_
  split
  · exact .raise (.set (.restoreCounters h))
  · exact .raise (.set (.restoreCounters h))

/-! ### Arbiter -/

theorem Kept.arrive {b : Nat} {reqs : List StoreReq} (h : Kept core s u) : Kept core s (u.arrive b reqs) :=
  .foldl h fun h => .ite (.cond (.modBank h) .raise) (.ite (.modBank h) (.raiseRated (.modBank h)))

theorem Kept.scrub {b : Nat} (h : Kept core s u) : Kept core s (u.scrub b) := by
  unfold State.scrub
  split
  · exact .ite (.eccRead (.modBank h)) (.modBank (.modBank h))
  · exact .modBank (.eccRead h)

theorem Kept.transfer {b : Nat} {r : StoreReq} (h : Kept core s u) : Kept core s (u.transfer b r) :=
  .ite (.scrub h) (.ite (.modBank (.foldl h fun h => .forEach h .storeBytes)) (.modBank (.forEach h .eccRead)))

theorem Kept.grantReq {b m : Nat} {idle : Bool} (h : Kept core s u) : Kept core s (u.grantReq b m idle) := by
  unfold State.grantReq
  split
  · exact h
  · exact .transfer (.modBank h)

theorem Kept.arbitrate {b : Nat} (h : Kept core s u) : Kept core s (u.arbitrate b) := by
  unfold State.arbitrate
  dsimp only
  split
  · split
    · exact .foldl (.modBank h) .granuleWritten
    · exact .ite (.grantReq h) (.modBank h)
  · refine .ite (.modBank h) (.ite (.modBank h) ?_)
    split
    · refine .ite (.grantReq (.modBank h)) ?_
      split
      · exact .grantReq (.modBank h)
      · exact .modBank h
    · split
      · exact .grantReq (.modBank h)
      · exact .modBank h

theorem Lands.slotShadowWrite {b : Fin 16} {j : Fin 8} {v : BitVec 32} (h :
    Kept core s u) : Lands core s (execSlotShadowWrite b j v u) :=
  .ite (.next (.raise (.modBank h))) (.next (.modBank h))

theorem Lands.swap {b : Fin 16} (h : Kept core s u) : Lands core s (execSwap b u) := .next (.modBank h)

theorem Kept.breakLock {b o : Nat} {gone kept : List StoreReq} (h : Kept core s u) : Kept core s (u.breakLock b o gone kept) :=
  .setFlag (.modBank h)

/-! ### Scan -/

theorem Kept.injectSpent {y : Nat} (h : Kept core s u) : Kept core s (u.injectSpent y) := .set h
theorem Kept.keepRow {y : Nat} (h : Kept core s u) : Kept core s (u.keepRow y) := .ite h (.storeBytes h)

theorem Kept.rowLights {y : Nat} {codes : List Nat} (h : Kept core s u) : Kept core s (u.rowLights y codes) :=
  .cond (.cond h .modQuad) .modQuad

theorem Kept.fullRow {residue : List Nat} {y : Nat} (h : Kept core s u) : Kept core s (u.fullRow residue y) :=
  .ite (.set (.keepRow (.eccHits (.cond h .injectSpent)))) (.rowLights (.storeBytes (.eccHits (.cond h .injectSpent))))

theorem Kept.keepAliveRow {residue : List Nat} {y : Nat} (h : Kept core s u) : Kept core s (u.keepAliveRow residue y) :=
  .ite (.set (.eccRead (.cond h .injectSpent))) (.eccRead (.cond h .injectSpent))

theorem Kept.chargeStep {step' : Nat} (h : Kept core s u) : Kept core s (u.chargeStep step') :=
  .ite h (.forEach h fun h => .forEach h .chargeBlock)

theorem Kept.released {x : SegRec} {codes : List Nat} (h : Kept False s u) :
    Kept False s (u.released x codes) := .modTile (.setWide (.setWide h))

theorem Kept.releaseSeg {whole : List Nat} {step' t : Nat} (h : Kept False s u) : Kept False s (u.releaseSeg whole step' t) :=
  .ite h (.ite h (.ite (.modQuad h) (.released h)))

theorem Kept.judgeLines (h : Kept core s u) : Kept core s u.judgeLines :=
  .ite (.ite (.setCause (.set (.set h))) (.set h)) (.ite (.setCause (.raise (.setFlag (.set (.raise (.set h)))))) (.raise (.set
    h)))

theorem Kept.stepDone {step' : Nat} (h : Kept core s u) : Kept core s (u.stepDone step') :=
  .ite (.judgeLines (.ite (.setStore (.set (.chargeStep h)) id) (.set (.chargeStep h)))) (.set (.chargeStep h))

theorem Kept.starve {bank : Nat} (h : Kept core s u) : Kept core s (u.starve bank) :=
  .stepDone (.ite (.ite (.forEach h .keepRow) h) (.raise (.setFlag (.set (.ite (.forEach h .keepRow) h)))))

theorem Lands.scanStepRelease {residueRows : List Nat} (h : Kept False s u) :
    Lands False s (execScanStepRelease residueRows u) := by
  refine .ite (.next h) (.ite (.next (.starve h)) ?_)
  split
  · exact .next (.starve h)
  · exact .next (.stepDone (.forEach (.forEach h fun h => .ite (.fullRow h) (.keepAliveRow h)) .releaseSeg))

theorem Lands.rowSegment {t : Fin 64} {hdr : BitVec 32} {codes : List (BitVec 12)} {crc : BitVec 16} (h :
    Kept core s u) : Lands core s
    (execRowSegment t hdr codes crc u) :=
  .ite (.next h) (.ite (.next (.modTile h)) (.next (.modTile (.cond (.ite (.writeRow (.cond h .set)) (.cond h .set)) .set))))

/-! ### Diagnosis -/

theorem Kept.setMapped {p : Nat} {on : Bool} (h : Kept core s u) : Kept core s (u.setMapped p on) := .storeBytes (.eccRead h)

theorem Kept.blockUpdate {k : Nat} (h : Kept core s u) : Kept core s (u.blockUpdate k) :=
  .ite h (.cond (.cond (.set h) fun h => .raise (.legStatus h)) .raise)

theorem Kept.stuckChange {p : Nat} {enters : Bool} (h : Kept core s u) : Kept core s (u.stuckChange p enters) :=
  .ite (.set h) (.ite (.set h) (.setCause h))

theorem Kept.listCause {p : Nat} (h : Kept core s u) : Kept core s (u.listCause p) := .ite (.set h) (.ite h (.raise (.set h)))

theorem Kept.enterMap {p cause : Nat} (h : Kept core s u) : Kept core s (u.enterMap p cause) :=
  .blockUpdate (.cond (.listCause (.set (.raise (.setMapped h)))) .stuckChange)

theorem Kept.leaveMap {p cause : Nat} (h : Kept core s u) : Kept core s (u.leaveMap p cause) :=
  .blockUpdate (.cond (.set (.raise (.setMapped h))) .stuckChange)

theorem Kept.measured {p cause : Nat} {fail : Bool} (h : Kept core s u) : Kept core s (u.measured p cause fail) :=
  .ite (.ite (.set h) (.ite (.cond (.set h) .eccRead) (.enterMap (.set h)))) (.ite (.set h) (.ite (.set (.set h)) (.ite (.cond
    (.set (.set h)) .eccRead) (.leaveMap (.set (.set h))))))

theorem Kept.stallGood {f : BitVec 16} {key : Nat} (h : Kept core s u) : Kept core s (u.stallGood f key) := by
  unfold State.stallGood
  split
  · exact .ite (.set h) h
  · exact h

theorem Kept.judgeGood {x : SegRec} (h : Kept False s u) : Kept False s (u.judgeGood x) :=
  .cond (.stallGood (.setWide (.setWide h))) .setCause

theorem Kept.judgeBad {x : SegRec} {reason : Nat} {sig : BitVec 16} (h : Kept False s u) :
    Kept False s (u.judgeBad x reason sig) :=
  .cond (.ite (.raise (.setFlag (.setWide (.setWide h)))) (.raiseRated (.setWide (.setWide h)))) .setCause

theorem Lands.readback {t : Fin 64} {w : BitVec 48} (h : Kept False s u) : Lands False s (execReadback t w u) := by
  refine .ite (.next h) ?_
  split
  · exact .next h
  · refine .next ?_
    split
    · exact .judgeGood (.setWide h)
    · exact .cond (.judgeBad (.setWide h)) .setWide

theorem Lands.readbackTimeout (h : Kept False s u) : Lands False s (execReadbackTimeout u) := by
  unfold execReadbackTimeout
  split
  · exact .next h
  · exact .next (.ite (.judgeBad (.setWide h)) (.setWide h))

theorem Kept.resend {key : Nat} (h : Kept False s u) : Kept False s (u.resend key) :=
  .ite (.eccRead h) (.modTile (.setWide (.eccRead h)))

theorem Lands.crcGenCheck (h : Kept False s u) : Lands False s (execCrcGenCheck u) := by
  refine .ite (.next h) ?_
  split
  · exact .next h
  · exact .ite (.next (.judgeBad (.setWide (.eccRead h)))) (.ite (.next (.setWide (.eccRead h))) (.next (.setCause (.raise (.setFlag
      (.setWide (.setWide (.eccRead h))))))))

theorem Kept.sendResult {t cause start : Nat} (h : Kept core s u) : Kept core s (u.sendResult t cause start) := .sendCtl h

theorem Kept.takeResult {t cause start : Nat} (h : Kept core s u) : Kept core s (u.takeResult t cause start) := by
  unfold State.takeResult
  dsimp only
  split
  · exact .ite (.sendResult (.forEach h .measured)) (.cond (.forEach h .measured) .sendResult)
  · exact .cond (.forEach h .measured) .sendResult

theorem Kept.rowMeasured {t : Nat} (h : Kept core s u) : Kept core s (u.rowMeasured t) := .ite (.modTile h) (.set (.modTile h))

theorem Lands.measPeriodEnd {t : Fin 64} {opens shorts stuck : BitVec 128} (h :
    Kept core s u) : Lands core s (execMeasPeriodEnd t opens
    shorts stuck u) := by
  unfold execMeasPeriodEnd
  split
  · exact .next h
  · exact .ite (.next (.modTile h)) (.next (.sendResult (.cond (.modTile h) .rowMeasured)))

theorem Kept.nextGap {q : Nat} (h : Kept core s u) : Kept core s (u.nextGap q) := by
  unfold State.nextGap
  split
  · exact .sendCtl (.set h)
  · exact h

theorem Kept.switchFault {t : Nat} {closed : Bool} (h : Kept core s u) : Kept core s (u.switchFault t closed) :=
  .checkInh (.setCause (.raise (.set h)))

theorem Lands.diagMapReport (h : Kept core s u) : Lands core s (execDiagMapReport u) :=
  .ite (.next h) (.ite (.next (.ite h (.set (.foldl (.cond h fun h => .set (.foldl h .enqueue)) .enqueue)))) (.ite (.next h)
    (.ite (.next (.set h)) (.next (.set (.foldl h .enqueue))))))

theorem Lands.diagCtrlWrite {v : BitVec 32} (h : Kept core s u) : Lands core s (execDiagCtrlWrite v u) := .next (.set h)

/-! ### Link -/

theorem Kept.freeForwarded {ps : List FwdPkt} (h : Kept core s u) : Kept core s (u.freeForwarded ps) :=
  .foldl h fun h => .ite h (.freeCredits h)

theorem Kept.dropForwarded (h : Kept core s u) : Kept core s u.dropForwarded := .freeForwarded (.set h)
theorem Kept.portBDown {cause : Nat} (h : Kept core s u) : Kept core s (u.portBDown cause) := .raise (.set (.dropForwarded h))
theorem Kept.holdPortB (h : Kept core s u) : Kept core s u.holdPortB := .set (.dropForwarded h)
theorem Kept.startPortB (h : Kept core s u) : Kept core s u.startPortB := .ite (.set h) h
theorem Kept.roleConflict {p : PortId} (h : Kept core s u) : Kept core s (u.roleConflict p) := .ite h (.raise (.modPort h))
theorem Kept.toDeskew {p : PortId} (h : Kept core s u) : Kept core s (u.toDeskew p) := .ite (.modPort h) h
theorem Kept.endSession (h : Kept core s u) : Kept core s u.endSession := .ite (.set (.raise h)) h
theorem Kept.tbGo {n : TbState} (h : Kept core s u) : Kept core s (u.tbGo n) := .ite h (.raise (.set h))
theorem Kept.tbHold (h : Kept core s u) : Kept core s u.tbHold := .ite (.tbGo (.set h)) h
theorem Kept.latchByFraming (h : Kept False s u) : Kept False s u.latchByFraming := .ite (.raise (.setWide h)) h

theorem Kept.linkUpNow (h : Kept False s u) : Kept False s u.linkUpNow :=
  .startPortB (.ite (.latchByFraming (.raise (.setWide h))) (.raise (.setWide h)))

theorem Kept.linkLost (h : Kept core s u) : Kept core s u.linkLost :=
  .cond (.cond (.cond (.set (.tbHold (.holdPortB (.set h)))) .raise) .raise) .endSession

theorem Kept.linkDown {cause : Nat} (h : Kept core s u) : Kept core s (u.linkDown cause) := .raise (.set (.linkLost h))

theorem Kept.startRepair {surviving : BitVec 4} {cause : Nat} (h : Kept core s u) : Kept core s (u.startRepair surviving cause) :=
  .ite (.linkDown h) (.flushLcbs (.sendNak (.set (.set h))))

theorem Kept.laneLost {lane : Nat} {squelchLost : Bool} (h : Kept core s u) : Kept core s (u.laneLost lane squelchLost) :=
  .ite (.set h) (.ite (.startRepair (.set h)) (.set h))

theorem Kept.linkFailed {why : LinkFail} {seq : BitVec 12} (h : Kept core s u) : Kept core s (u.linkFailed why seq) :=
  .ite (.linkDown (.set h)) (.sendNak (.set h))

theorem Kept.receive {i : Instr} {p : Rx} {consume : State → State} (h : Kept core s u)
    (step : ∀ {v}, Kept core s v → Kept core s (consume v))
    : Kept core s (u.receive i p consume) :=
  .ite h (.ite (.restoreFor (.linkFailed h)) (.ite (.restoreFor (.linkOther h)) (.ite (.restoreFor (.linkFailed h)) (.content
    (.linkPass h) step))))

theorem Kept.freeShared {w : Wait} (h : Kept core s u) : Kept core s (u.freeShared w) := by
  unfold State.freeShared
  split
  · exact .freeCredits h
  · exact .ite (.set h) (.freeCredits h)

theorem Kept.sendAckB (h : Kept core s u) : Kept core s u.sendAckB := .set (.set h)
theorem Kept.sendNakB (h : Kept core s u) : Kept core s u.sendNakB := .ite h (.set (.set h))
theorem Kept.linkOtherB {q : BitVec 12} (h : Kept core s u) : Kept core s (u.linkOtherB q) := .ite (.sendAckB h) (.sendNakB h)

theorem Kept.linkFailedB {why : LinkFail} {seq : BitVec 12} (h : Kept core s u) : Kept core s (u.linkFailedB why seq) :=
  .ite (.portBDown (.set h)) (.sendNakB (.set h))

theorem Kept.freeCreditsB {vc n : Nat} (h : Kept core s u) : Kept core s (u.freeCreditsB vc n) :=
  .ite (.set (.set (.set h))) (.set h)

/-! ### Schedule -/

theorem Kept.schedLate {w : Int} (h : Kept core s u) : Kept core s (u.schedLate w) := .raise (.setFlag h)

theorem Kept.bindTime {w : Int} (h : Kept core s u) : Kept core s (u.bindTime w).1 := by
  unfold State.bindTime
  split
  · exact .schedLate h
  · exact h

theorem Kept.rebindPours (h : Kept core s u) : Kept core s u.rebindPours := .foldl h fun h => .ite h (.set (.bindTime h))
theorem Kept.afterStep (h : Kept core s u) : Kept core s u.afterStep := .regrid (.rebindPours (.ite (.set (.set h)) h))

theorem Kept.stepTb0 {off : Int} (h : Kept core s u) : Kept core s (u.stepTb0 off) :=
  .ite h (.afterStep (.raise (.set (.cond (.set h) .set))))

/-! ### Latch -/

theorem Kept.markChange (h : Kept core s u) : Kept core s u.markChange := .set h

theorem Kept.applyCommit {c : Commit} (h : Kept core s u) : Kept core s (u.applyCommit c) :=
  .markChange (.raise (.set (.foldl h fun h => .cond (.modLayer h) .raise)))

theorem Kept.markStale {n : Nat} (h : Kept core s u) : Kept core s (u.markStale n) := .ite h (.raise (.setFlag (.modLayer h)))

theorem Kept.one {g : Nat} {p : Pass} {c : Commit} (h : Kept core s p.s) : Kept core s (p.one g c).s := by
  unfold Pass.one
  split
  · exact h
  split
  · exact h
  split
  · split
    · exact h
    · exact h
  dsimp only
  split
  · exact .applyCommit h
  split
  · exact h
  split
  · exact .raise (.setFlag h)
  · exact .forEach (.raise (.raise (.setFlag h))) .markStale

theorem Kept.pass {g : Nat} {p : Pass} {cs : List Commit} (h : Kept core s p.s) : Kept core s (cs.foldl (Pass.one g) p).s := by
  induction cs generalizing p with
  | nil => exact h
  | cons c cs ih => exact ih (.one h)

theorem Kept.pourMiss {group : Nat} (h : Kept core s u) : Kept core s (u.pourMiss group) := .raise (.setFlag h)
theorem Kept.judgeStale (h : Kept core s u) : Kept core s u.judgeStale := by
  unfold State.judgeStale
  exact .cond h .setCause

theorem Kept.commitsAt {g : Nat} (h : Kept core s u) : Kept core s (u.commitsAt g).1 :=
  .judgeStale (.foldl (.set (.pass (.forEach h .pourMiss))) .raise)

theorem Kept.showSlot {slot1 : Bool} (h : Kept core s u) : Kept core s (u.showSlot slot1) :=
  .markChange (.raise (.legStatus (.set (.set h))))

theorem Kept.showsAt {g : Nat} (h : Kept core s u) : Kept core s (u.showsAt g).1 := .cond (.cond h .showSlot) .showSlot
theorem Kept.lightAt {g : Nat} (h : Kept core s u) : Kept core s (u.lightAt g) := .cond (.cond (.set h) .set) .set

theorem Kept.requestsAt {g : Nat} (h : Kept core s u) : Kept core s (u.requestsAt g) := by
  unfold State.requestsAt
  dsimp only
  split
  · refine .set ?_
    split
    · exact .raise (.cond (.set (.set h)) .markChange)
    · exact .set h
  · split
    · exact .raise (.cond (.set (.set h)) .markChange)
    · exact .set h

theorem Kept.dropModes {g : Nat} (h : Kept core s u) : Kept core s (u.dropModes g) := .set h
theorem Kept.fadesAt (h : Kept core s u) : Kept core s u.fadesAt := .cond (.set h) .markChange

theorem Kept.swapSet (h : Kept core s u) : Kept core s u.swapSet := by
  unfold State.swapSet
  split
  · exact h
  · exact .ite (.set h) (.markChange (.set h))

theorem Kept.eachReady {f : State → Nat → State} (h : Kept core s u)
    (step : ∀ {v n}, Kept core s v → Kept core s (f v n)) : Kept core s
    (u.eachReady f) :=
  .forEach h fun h => .cond h step

theorem Kept.withdraw (h : Kept core s u) : Kept core s u.withdraw := .eachReady (.set h) .sendSource
theorem Kept.takeOver (h : Kept core s u) : Kept core s u.takeOver :=
  .changeState (.forEach (.eachReady (.set h) .sendCmd) .modQuad)

theorem Kept.handoverAt {applied : Bool} (h : Kept core s u) : Kept core s (u.handoverAt applied) :=
  .ite h (.ite (.takeOver h) (.withdraw h))

theorem Kept.sendTiming {p : Nat} {set : Bool} (h : Kept core s u) : Kept core s (u.sendTiming p set) :=
  .forEach h fun h => .sendCtl (.cond h .sendCtl)

theorem Kept.timeTiles (h : Kept core s u) : Kept core s u.timeTiles := .ite h (.sendTiming (.set h))
theorem Kept.pwmRow (h : Kept core s u) : Kept core s u.pwmRow := .cond (.set h) .raise

theorem Kept.decideKind {m : ModeP} {trans : Bool} (h : Kept False s u) : Kept False s (u.decideKind m trans) :=
  .cond (.cond (.setWide h) .raise) .raise

theorem Kept.mergeShows {g : Nat} (h : Kept core s u) : Kept core s (u.mergeShows g) := by
  unfold State.mergeShows
  split
  · exact .set (.set h)
  · exact .set h

theorem Kept.carryOver {g g' : Nat} (h : Kept core s u) : Kept core s (u.carryOver g g') :=
  .mergeShows (.set (.foldl (.set h) fun h => .set (.bindTime h)))

theorem Kept.nextGrid {g l : Nat} (h : Kept core s u) : Kept core s (u.nextGrid g l) := .set h
theorem Kept.stripesAt (h : Kept core s u) : Kept core s u.stripesAt := .ite (.raise (.markChange (.set h))) h
theorem Kept.wakesAt (h : Kept core s u) : Kept core s u.wakesAt := .forEach h fun h => .ite (.markChange (.modQuad h)) h
theorem Kept.spansAt (h : Kept core s u) : Kept core s u.spansAt := .set h

theorem Kept.applyAt {g : Nat} (h : Kept core s u) : Kept core s (u.applyAt g) :=
  .lightAt (.requestsAt (.handoverAt (.showsAt (.commitsAt h))))

theorem Kept.latchNow (h : Kept False s u) : Kept False s u.latchNow := by
  unfold State.latchNow
  dsimp only
  split
  · exact .ite (.decideKind (.spansAt (.wakesAt (.stripesAt (.litAtLatch (.fadesAt (.pwmRow (.cond (.raise (.carryOver (.set
      (.setWide (.dropModes h))))) .withdraw)))))))) (.decideKind (.spansAt (.swapSet (.wakesAt (.litAtLatch (.fadesAt (.pwmRow
      (.stripesAt (.applyAt (.nextGrid (.setWide (.dropModes h))))))))))))
  · exact .decideKind (.spansAt (.swapSet (.wakesAt (.litAtLatch (.fadesAt (.pwmRow (.stripesAt (.applyAt (.nextGrid (.set
      (.dropModes h)))))))))))

theorem Lands.cutoff (h : Kept core s u) : Lands core s (execCutoff u) :=
  .ite (.next h) (.ite (.next (.eachReady (.set (.timeTiles (.elapse (.elapse h)))) .sendSource)) (.next (.timeTiles (.elapse
    (.elapse h)))))

theorem Lands.lampsyncEdge {dt : Nat} (h : Kept core s u) : Lands core s (execLampsyncEdge dt u) :=
  .ite (.next (.elapse h)) (.ite (.next (.set (.elapse h))) (.next (.cond (.regrid (.set (.set (.elapse h)))) .raise)))

/-! ### LegEnter -/

theorem Kept.enterLegacy (h : Kept core s u) : Kept core s u.enterLegacy := .raise (.runLimiter (.set (.set (.set h))))
theorem Kept.latchAndEnter (h : Kept False s u) : Kept False s u.latchAndEnter :=
  .ite (.enterLegacy (.latchByFraming h)) (.latchByFraming h)

/-! ### Surfaces -/

theorem Kept.stagingBad {vc a : Nat} (h : Kept core s u) : Kept core s (u.stagingBad vc a) := .raise (.setStore h id)

theorem Kept.takeWrite {n off : Nat} {data : List Byte} {corrected : Nat} {bad : List Nat} (h : Kept core s u) :
    Kept core s (u.takeWrite
    n off data corrected bad) :=
  .set (.modLayer (.cond (.setStore (.cond (.cond (.cond (.checkRun h) .raiseRated) .raise) .storeBytes) id) fun h => .forEach h
    .stagingBad))

theorem Kept.takeComplete {hd : Hdr} {n : Nat} {payload : List Byte} {a : Stamp} (h : Kept core s u) :
    Kept core s (u.takeComplete hd n
    payload a) :=
  .ite (.reply (.modLayer (.checkRun h))) (.ite (.reply (.modLayer (.checkRun h))) (.ite (.reply (.modLayer (.checkRun h)))
    (.ite (.reply (.modLayer (.modLayer (.checkRun h)))) (.raise (.reply (.modLayer (.checkRun h)))))))

theorem Kept.takeDescriptor {hd : Hdr} {payload : List Byte} (h : Kept core s u) : Kept core s (u.takeDescriptor hd payload) :=
  .ite (.reply h) (.ite (.reply h) (.ite (.reply h) (.reply (.modLayer h))))

theorem Kept.takeCommit {hd : Hdr} {payload : List Byte} {a : Stamp} (h : Kept core s u) :
    Kept core s (u.takeCommit hd payload a) :=
  .ite (.reply h) (.cond (.reply (.litOnAccept (.set h))) fun h => .raise (.setFlag h))

theorem Kept.takePour {hd : Hdr} {payload : List Byte} {now : Nat} (h : Kept core s u) :
    Kept core s (u.takePour hd payload now) :=
  .ite (.reply h) (.ite (.reply h) (.ite (.reply h) (.ite (.raise h) (.set (.bindTime (.cond h .raise))))))

/-! ### Legacy -/

theorem Kept.legWrite {due a : Nat} {v : Byte} (h : Kept core s u) : Kept core s (u.legWrite due a v) :=
  .ite (.raise (.forEach (.set h) .set)) (.ite h (.ite (.set (.cond (.set h) .set)) (.cond (.set h) .set)))

theorem Kept.latchHi {a v : Nat} (h : Kept core s u) : Kept core s (u.latchHi a v) := .set h
theorem Kept.nextFault (h : Kept core s u) : Kept core s u.nextFault := .set (.set h)
theorem Kept.readLow {a v : Nat} (h : Kept core s u) : Kept core s (u.readLow a v).1 := .latchHi h

theorem Kept.legRead {a : Nat} (h : Kept core s u) : Kept core s (u.legRead a).1 := by
  simp only [State.legRead, apply_ite Prod.fst]
  exact .ite h (.ite h (.ite (.set h) (.ite h (.ite h (.ite (.readLow h) (.ite (.readLow h) (.ite (.readLow h) (.ite h
    (.ite (.nextFault h) (.ite h (.ite (.set h) (.ite h h))))))))))))

theorem Kept.legReads {first count : Nat} (h : Kept core s u) : Kept core s (u.legReads first count).1 := by
  unfold State.legReads
  have round (is : List Nat) (p : State × List Byte) (h : Kept core s p.1) :
      Kept core s (is.foldl (fun p i => ((p.1.legRead (first + i)).1, p.2 ++ [(p.1.legRead (first + i)).2])) p).1 := by
    induction is generalizing p with
    | nil => exact h
    | cons i is ih => exact ih _ (.legRead h)
  exact round _ _ h

theorem Kept.sendT512 {r : T512Reply} (h : Kept core s u) : Kept core s (u.sendT512 r) := .emit (.set h)
theorem Kept.answerT512 {r : T512Reply} (h : Kept core s u) : Kept core s (u.answerT512 r) := .sendT512 (.set h)

theorem Kept.ackT512 {type : Nat} {f : T512Frame} {status : Nat} (h : Kept core s u) : Kept core s (u.ackT512 type f status) :=
  .cond (.answerT512 h) .raise

theorem Kept.takeShow {seq : Byte} {a : Stamp} (h : Kept core s u) : Kept core s (u.takeShow seq a) :=
  .cond (.set (.set h)) fun h => .raise (.setFlag h)

theorem Kept.takeRegWrite {f : T512Frame} {arrival : Stamp} (h : Kept core s u) : Kept core s (u.takeRegWrite f arrival) :=
  .ite (.ackT512 (.foldl h .legWrite)) (.ackT512 h)

theorem Kept.takeRegRead {f : T512Frame} (h : Kept core s u) : Kept core s (u.takeRegRead f) :=
  .ite (.answerT512 (.legReads h)) (.ackT512 h)

theorem Kept.takeLines {f : T512Frame} {a : Stamp} (h : Kept core s u) : Kept core s (u.takeLines f a) :=
  .ite (.ackT512 (.cond (.forEach h fun h => .cond (.set h) .storeBytes) .takeShow)) (.ackT512 h)

theorem Kept.takeShowFrame {f : T512Frame} {a : Stamp} (h : Kept core s u) : Kept core s (u.takeShowFrame f a) :=
  .ite (.ackT512 h) (.ite (.ackT512 h) (.ackT512 (.takeShow h)))

theorem Kept.takeFrame {type : Nat} {f : T512Frame} {a : Stamp} (h : Kept core s u) : Kept core s (u.takeFrame type f a) := by
  refine .ite ?_ (.ite (.takeRegWrite (.set h)) (.ite (.takeRegRead (.set h)) (.ite (.takeLines (.set h)) (.ite (.takeShowFrame
      (.set h)) (.ite (.ite (.answerT512 (.set h)) (.ackT512 (.set h))) (.ackT512 (.set h)))))))
  split
  · exact .sendT512 h
  · exact h

theorem Kept.nakFrame {noRoom : Bool} (h : Kept core s u) : Kept core s (u.nakFrame noRoom) :=
  .ite (.linkDown (.raiseRated (.sendT512 (.legStatus (.set (.cond h .drawn)))))) (.raiseRated (.sendT512 (.legStatus (.set
    (.cond h .drawn)))))

theorem Kept.frameIn {i : Instr} {type : Nat} {f : T512Frame} (h : Kept core s u) : Kept core s (u.frameIn i type f) :=
  .ite h (.ite (.nakFrame h) (.ite (.set (.set h)) (.takeFrame (.set h))))

theorem Lands.hs {sets : Nat} (h : Kept False s u) : Lands False s (execHs sets u) :=
  .ite (.next h) (.ite (.ite (.next (.setWide h)) (.next (.ite (.setWide (.cond (.linkUpNow h) .enterLegacy)) (.cond (.linkUpNow h)
    .enterLegacy)))) (.ite (.next (.linkDown h)) (.next h)))

/-! ### Channels -/

theorem Kept.zoneRejected {seq cause : Nat} (h : Kept core s u) : Kept core s (u.zoneRejected seq cause) := .raise h

theorem Kept.dropCand {cause : Nat} (h : Kept core s u) : Kept core s (u.dropCand cause) := by
  unfold State.dropCand
  split
  · exact .zoneRejected (.set h)
  · exact h

theorem Kept.takePlain {hd : Hdr} {payload : List Byte} (h : Kept core s u) : Kept core s (u.takePlain hd payload) := by
  unfold State.takePlain
  dsimp only
  split
  · exact .reply (.set (.dropCand (.cond h .dropCand)))
  · exact .zoneRejected (.reply (.set (.dropCand (.cond h .dropCand))))

theorem Kept.confirmList {z : ZoneList} (h : Kept core s u) : Kept core s (u.confirmList z) :=
  .runLimiter (.foldl (.raise (.set h)) fun h => .cond h .raise)

theorem Kept.takeCompl {hd : Hdr} {payload : List Byte} (h : Kept core s u) : Kept core s (u.takeCompl hd payload) := by
  unfold State.takeCompl
  dsimp only
  split
  · exact .zoneRejected (.reply (.cond h .dropCand))
  · split
    · exact .dropCand (.reply (.cond h .dropCand))
    · exact .ite (.reply (.confirmList (.cond h .dropCand))) (.dropCand (.reply (.cond h .dropCand)))

theorem Kept.tickCuts (h : Kept core s u) : Kept core s u.tickCuts := .forEach h fun h => .setCut (.setCut h)
theorem Kept.foundDiff (h : Kept core s u) : Kept core s u.foundDiff := .cond (.raiseRated (.set h)) .setCause

theorem Kept.compareTick (h : Kept core s u) : Kept core s u.compareTick :=
  .ite (.foundDiff (.set h)) (.ite (.setCause (.set (.set h))) (.set h))

theorem Kept.blank {rs : List (Nat × Nat × Nat × Nat)} (h : Kept core s u) : Kept core s (u.blank rs) :=
  .forEach h fun h => .ite h (.foldl (.set (.modQuad h)) .sendFill)

theorem Lands.stallBlank (h : Kept core s u) : Lands core s (execStallBlank u) := by
  unfold execStallBlank
  split
  · exact .next h
  · exact .ite (.next (.set h)) (.ite (.next (.setCause (.set h))) (.next (.cond (.set (.raise (.blank (.set h)))) .setCause)))

theorem Kept.recoverNow (h : Kept core s u) : Kept core s u.recoverNow.1 := by
  unfold State.recoverNow
  split
  · exact h
  · split
    · exact .raise h
    · exact .raise (.drawn (.set h))

/-! ### Lanes -/

theorem Kept.toSweep {p : PortId} (h : Kept core s u) : Kept core s (u.toSweep p) := by
  unfold State.toSweep
  split
  · exact .set h
  · exact .set h

theorem Kept.sendPhase {p : PortId} {phases : List Nat} (h : Kept core s u) : Kept core s (u.sendPhase p phases) := .modPort h

theorem Lands.receiverDetectionDone {p : PortId} {lane : Fin 4} {r : Detect} (h :
    Kept core s u) : Lands core s (execReceiverDetectionDone
    p lane r u) := by
  unfold execReceiverDetectionDone
  split
  · exact .ite (.next (.ite (.toSweep (.set h)) (.set (.set h)))) (.ite (.next (.set (.set h))) (.next (.set h)))
  · exact .ite (.next (.ite (.toSweep (.cond (.set h) .raise)) (.ite (.set (.cond (.set h) .raise)) (.cond (.set h) .raise))))
      (.next (.cond (.set h) .raise))

theorem Lands.squelchClose {p : PortId} {lane : Fin 4} (h : Kept core s u) : Lands core s (execSquelchClose p lane u) := by
  unfold execSquelchClose
  split
  · exact .next (.laneLost h)
  · exact .next (.ite (.portBDown (.set h)) (.set h))

theorem Lands.commaAligned {p : PortId} {lane : Fin 4} {t512 : Bool} (h :
    Kept core s u) : Lands core s (execCommaAligned p lane t512 u)
    := by
  refine .ite (.ite (.next (.modPort h)) ?_) (.next h)
  split
  · exact .next (.ite (.modPort h) (.modPort (.modPort h)))
  · exact .ite (.ite (.next (.set (.modPort h))) (.next (.ite (.modPort h) (.raise (.setStart (.modPort h) rfl))))) (.ite (.next (.set
      (.modPort h))) (.next (.ite (.modPort h) (.raise (.setStart (.modPort h) rfl)))))

theorem Lands.laneFault {p : PortId} {lane : Fin 4} (h : Kept core s u) : Lands core s (execLaneFault p lane u) := by
  unfold execLaneFault
  split
  · exact .next (.laneLost h)
  · exact .next (.ite (.portBDown (.set h)) (.set h))

theorem Kept.loopEvent {kind : Nat} {started : Bool} (h : Kept core s u) : Kept core s (u.loopEvent kind started) := .raise h

theorem Kept.startLoopback {kind lane : Nat} (h : Kept core s u) : Kept core s (u.startLoopback kind lane) :=
  .loopEvent (.set (.linkLost h))

theorem Kept.conflictB (h : Kept core s u) : Kept core s u.conflictB := .roleConflict (.modPort h)

theorem Lands.tsA {p : PortId} {lane : Fin 4} {w0 : BitVec 64} (h : Kept core s u) : Lands core s (execTsA p lane w0 u) := by
  refine .ite (.next (.modPort (.toDeskew h))) ?_
  split
  · exact .ite (.ite (.next (.conflictB (.toDeskew h))) (.next (.set (.toDeskew h)))) (.next (.toDeskew h))
  · exact .ite (.next (.toDeskew h)) (.ite (.next (.roleConflict (.toDeskew h))) (.ite (.next (.linkDown (.toDeskew h))) (.ite
      (.next (.startLoopback (.set (.toDeskew h)))) (.next (.set (.toDeskew h))))))

theorem Lands.tsB {p : PortId} {blocks : List (Fin 4 × Nat × BitVec 64)} (h :
    Kept core s u) : Lands core s (execTsB p blocks u) := by
  unfold execTsB
  dsimp only
  split
  · split
    · exact .next (.modPort (.toDeskew h))
    · exact .ite (.next (.modPort (.toDeskew h))) (.ite (.next (.conflictB (.modPort (.toDeskew h)))) (.next (.set (.modPort
        (.toDeskew h)))))
  · exact .ite (.next (.modPort (.toDeskew h))) (.ite (.next (.roleConflict (.modPort (.toDeskew h)))) (.ite (.next (.set
      (.modPort (.toDeskew h)))) (.next (.modPort (.toDeskew h)))))

theorem Lands.tsEnd {p : PortId} {blocks : List (Fin 4 × BitVec 64)} (h :
    Kept core s u) : Lands core s (execTsEnd p blocks u) := by
  unfold execTsEnd
  dsimp only
  split
  · split
    · exact .next (.modPort h)
    · exact .ite (.next (.conflictB (.modPort h))) (.ite (.next (.modPort h)) (.ite (.next (.set (.modPort h))) (.ite (.next (.set (.modPort h)))
        (.next (.modPort h)))))
  · exact .ite (.ite (.next (.set (.set h))) (.next (.raise (.sendPhase (.set (.set h)))))) (.next (.set (.modPort h)))

/-! ### TimeSync -/

theorem Kept.syncDiscard {cause : Nat} (h : Kept core s u) : Kept core s (u.syncDiscard cause) := .raise h

theorem Kept.takeSync {payload : List Byte} {rx : Stamp} (h : Kept core s u) : Kept core s (u.takeSync payload rx) :=
  .ite (.syncDiscard h) (.set (.cond h .syncDiscard))

theorem Kept.delayDue {t1 t2 cs : Int} (h : Kept core s u) : Kept core s (u.delayDue t1 t2 cs) :=
  .ite (.set h) (.ite (.set (.enqueue (.set h))) (.set (.set h)))

theorem Kept.afterAccept {off : Int} {epochStep : Bool} (h : Kept core s u) : Kept core s (u.afterAccept off epochStep) := by
  unfold State.afterAccept
  dsimp only
  split
  · exact .tbGo h
  · exact .tbGo h
  · exact .ite (.tbGo h) (.set h)
  · exact .ite (.tbGo h) h

theorem Kept.stepSample {off : Int} {y : SyncRx} {ep : BitVec 8} {epochStep : Bool} (h : Kept core s u) :
    Kept core s (u.stepSample off y
    ep epochStep) :=
  .afterAccept (.set (.stepTb0 h))

theorem Kept.sample {off : Int} {y : SyncRx} {ep : BitVec 8} (h : Kept core s u) : Kept core s (u.sample off y ep) :=
  .ite (.stepSample (.cond h .raise)) (.ite (.ite (.stepSample (.cond h .raise)) (.syncDiscard (.set (.cond h .raise))))
    (.afterAccept (.set (.cond (.set (.cond h .raise)) .raise))))

theorem Kept.takeFollowUp {payload : List Byte} {rx : Stamp} (h : Kept core s u) : Kept core s (u.takeFollowUp payload rx) := by
  unfold State.takeFollowUp
  split
  · exact h
  · exact .ite h (.delayDue (.ite (.set h) (.sample (.set h))))

theorem Kept.takeDelayResp {payload : List Byte} {rx : Stamp} (h : Kept core s u) : Kept core s (u.takeDelayResp payload rx) := by
  unfold State.takeDelayResp
  split
  · exact h
  · exact .ite h (.ite (.syncDiscard (.set h)) (.ite (.syncDiscard (.set h)) (.ite (.syncDiscard (.set h)) (.set (.set h)))))

theorem Lands.syncPairTimeout {delay : Bool} (h : Kept core s u) : Lands core s (execSyncPairTimeout delay u) :=
  .ite (.ite (.next (.syncDiscard (.set h))) (.next h)) (.ite (.next (.syncDiscard (.set h))) (.next h))

theorem Lands.tsevtCapture {dt : Nat} (h : Kept core s u) : Lands core s (execTsevtCapture dt u) :=
  .ite (.next (.elapse h)) (.ite (.next (.raiseRated (.set (.elapse h)))) (.next (.raise (.set (.elapse h)))))

/-! ### Requests -/

theorem Kept.answerReq {hd : Hdr} {opcode status : Nat} {data : List Byte} (h : Kept core s u) :
    Kept core s (u.answerReq hd opcode status
    data) :=
  .reply h

theorem Kept.takeStatusRead {hd : Hdr} {args : List Byte} (h : Kept core s u) : Kept core s (u.takeStatusRead hd args) := by
  refine .ite (.answerReq h) ?_
  split
  · exact .answerReq h
  · exact .cond (.answerReq h) .set

theorem Kept.takeModeSelect {hd : Hdr} {args : List Byte} {arrival : Stamp} (h : Kept core s u) :
    Kept core s (u.takeModeSelect hd args
    arrival) :=
  .ite (.answerReq h) (.ite (.answerReq h) (.ite (.answerReq h) (.answerReq (.set h))))

theorem Kept.takeProfileSelect {hd : Hdr} {args : List Byte} {arrival : Stamp} (h : Kept core s u) :
    Kept core s (u.takeProfileSelect hd
    args arrival) :=
  .ite (.answerReq h) (.ite (.answerReq h) (.ite (.answerReq h) (.ite (.answerReq h) (.answerReq (.litOnAccept (.set h))))))

theorem Kept.takeMasterDimmer {hd : Hdr} {args : List Byte} {arrival : Stamp} (h : Kept core s u) :
    Kept core s (u.takeMasterDimmer hd
    args arrival) :=
  .ite (.answerReq h) (.ite (.answerReq h) (.ite (.answerReq h) (.answerReq (.litOnAccept (.set h)))))

theorem Kept.takeAddrSet {hd : Hdr} {args : List Byte} (h : Kept core s u) : Kept core s (u.takeAddrSet hd args) :=
  .ite (.answerReq h) (.ite (.answerReq h) (.ite h (.ite (.answerReq h) (.set (.ite (.enqueue h) (.set h))))))

theorem Kept.takeRecover {hd : Hdr} {args : List Byte} (h : Kept core s u) : Kept core s (u.takeRecover hd args) :=
  .ite (.answerReq h) (.ite (.answerReq h) (.ite (.answerReq h) (.answerReq (.recoverNow h))))

theorem Kept.takeEcho {hd : Hdr} {args : List Byte} (h : Kept core s u) : Kept core s (u.takeEcho hd args) :=
  .ite (.answerReq h) (.answerReq h)

/-! ### Service -/

theorem Kept.answerSvc {q : SvcSrc} {opcode status : Nat} {data : List Byte} (h : Kept core s u) :
    Kept core s (u.answerSvc q opcode
    status data) := by
  unfold State.answerSvc
  split
  · exact .reply h
  · exact .set h

theorem Kept.service {i : Instr} {q : SvcSrc} {opcode : Nat} {args : List Byte} {who : Nat} {consume : State → State} (h : Kept
    core s u) (step : ∀ {v}, Kept core s v → Kept core s (consume v)) : Kept core s (u.service i q opcode args who consume) := by
  unfold State.service
  split
  · exact .receive h step
  · exact .ite h (.ite (.set h) (step h))

theorem Kept.takeUnlockReq {q : SvcSrc} {args : List Byte} (h : Kept core s u) : Kept core s (u.takeUnlockReq q args) :=
  .ite (.answerSvc h) (.ite (.answerSvc h) (.ite (.answerSvc h) (.answerSvc (.set (.drawn h)))))

theorem Kept.takeUnlockResp {q : SvcSrc} {args : List Byte} (h : Kept core s u) : Kept core s (u.takeUnlockResp q args) := by
  refine .ite (.answerSvc h) (.ite (.answerSvc h) ?_)
  split
  · exact .answerSvc h
  · exact .ite (.answerSvc h) (.ite (.answerSvc (.raise (.set h))) (.answerSvc (.raise (.set h))))

theorem Kept.takeSessionEnd {q : SvcSrc} {args : List Byte} (h : Kept core s u) : Kept core s (u.takeSessionEnd q args) :=
  .ite (.answerSvc h) (.ite (.answerSvc h) (.answerSvc (.ite (.set h) (.endSession h))))

theorem Kept.takeImageErase {q : SvcSrc} {args : List Byte} (h : Kept core s u) : Kept core s (u.takeImageErase q args) := by
  refine .ite (.answerSvc h) (.ite (.answerSvc h) (.ite (.answerSvc h) ?_))
  split
  · exact .answerSvc h
  · exact .ite (.answerSvc h) (.answerSvc (.setStart (.flashQueue h) rfl))

theorem Kept.takeImageWrite {q : SvcSrc} {args : List Byte} (h : Kept core s u) : Kept core s (u.takeImageWrite q args) := by
  refine .ite (.answerSvc h) (.ite (.answerSvc h) (.ite (.answerSvc h) ?_))
  split
  · exact .answerSvc h
  · exact .ite (.answerSvc h) (.ite (.answerSvc h) (.answerSvc (.flashQueue h)))

theorem Kept.takeImageCheck {q : SvcSrc} {args : List Byte} (h : Kept core s u) : Kept core s (u.takeImageCheck q args) := by
  refine .ite (.answerSvc h) (.ite (.answerSvc h) ?_)
  split
  · exact .answerSvc h
  · exact .answerSvc (.imageOp h)

theorem Kept.takeImageRead {q : SvcSrc} {args : List Byte} (h : Kept core s u) : Kept core s (u.takeImageRead q args) := by
  refine .ite (.answerSvc h) (.ite (.answerSvc h) ?_)
  split
  · exact .answerSvc h
  · exact .ite (.answerSvc h) (.answerSvc h)

theorem Kept.takeRecordRead {q : SvcSrc} {args : List Byte} (h : Kept core s u) : Kept core s (u.takeRecordRead q args) := by
  refine .ite (.answerSvc h) (.ite (.answerSvc h) ?_)
  split
  · exact .answerSvc h
  · exact .ite (.answerSvc h) (.answerSvc h)

theorem Kept.takeSelftest {q : SvcSrc} {args : List Byte} (h : Kept core s u) : Kept core s (u.takeSelftest q args) :=
  .ite (.answerSvc h) (.ite (.answerSvc h) (.ite (.answerSvc h) (.ite (.answerSvc h) (.set (.startLoopback (.endSession
    (.answerSvc h)))))))

theorem Kept.writeCvu {n : Nat} {v : BitVec 32} (h : Kept core s u) : Kept core s (u.writeCvu n v) :=
  .ite (.modLayer h) (.ite (.modLayer h) (.set h))

theorem Kept.takePerturbSet {q : SvcSrc} {args : List Byte} (h : Kept core s u) : Kept core s (u.takePerturbSet q args) :=
  .ite (.answerSvc h) (.ite (.answerSvc h) (.ite (.answerSvc h) (.answerSvc (.raise (.ite (.writeCvu h) (.set h))))))

theorem Kept.takePerturbClear {q : SvcSrc} {args : List Byte} (h : Kept core s u) : Kept core s (u.takePerturbClear q args) :=
  .ite (.answerSvc h) (.ite (.answerSvc h) (.ite (.answerSvc h) (.answerSvc (.cond h fun h => .raise (.set h)))))

theorem Kept.takePerturbStatus {q : SvcSrc} {args : List Byte} (h : Kept core s u) : Kept core s (u.takePerturbStatus q args) :=
  .ite (.answerSvc h) (.ite (.answerSvc h) (.answerSvc h))

theorem Kept.clearEnded (h : Kept core s u) : Kept core s u.clearEnded := .ite h (.ite (.raise (.set h)) (.foldl (.set h) .raise))
theorem Kept.testEnLow (h : Kept core s u) : Kept core s u.testEnLow :=
  .ite (.modPort (.loopEvent (.loopEvent (.setStart h rfl)))) (.setStart h rfl)

theorem Lands.unknownOpcode {src : OpSrc} {opcode : BitVec 16} {args : List Byte} (h :
    Kept core s u) : Lands core s (execUnknownOpcode
    src opcode args u) := by
  unfold execUnknownOpcode
  split
  · exact .next (.receive h .answerReq)
  · exact .next (.service h .answerSvc)

/-! ### Resume -/

theorem Kept.consumeFrame {a : Stamp} {b : Instr} (h : Kept core s u) : Kept core s (u.consumeFrame a b) := by
  unfold State.consumeFrame
  split
  · exact .takeFrame h
  · exact .takeFrame h
  · exact .takeFrame h
  · exact .takeFrame h
  · exact .takeFrame h
  · exact .takeFrame h
  · exact .takeFrame h
  · exact .takeFrame h
  · exact .takeFrame h
  · exact .takeFrame h
  · exact .takeFrame h
  · exact .takeFrame h
  · exact h

theorem Kept.consumeService {a : Stamp} {b : Instr} (h : Kept core s u) : Kept core s (u.consumeService a b) := by
  unfold State.consumeService
  split
  · exact .takeSelftest h
  · exact .takeUnlockReq h
  · exact .takeUnlockResp h
  · exact .takeSessionEnd h
  · exact .takeImageErase h
  · exact .takeImageWrite h
  · exact .takeImageCheck h
  · exact .takeImageRead h
  · exact .takeRecordRead h
  · exact .takePerturbSet h
  · exact .takePerturbClear h
  · exact .takePerturbStatus h
  · exact .answerSvc h
  · exact .consumeFrame h

theorem Kept.consumeLater {w : Wait} (h : Kept core s u) : Kept core s (u.consumeLater w) := by
  unfold State.consumeLater
  split
  · exact .takeWrite h
  · exact .takeComplete h
  · exact .takeDescriptor h
  · exact .takeCommit h
  · exact .takePour h
  · exact .takePlain h
  · exact .takeCompl h
  · exact .takeSync h
  · exact .takeFollowUp h
  · exact .takeDelayResp h
  · exact .takeStatusRead h
  · exact .takeModeSelect h
  · exact .takeProfileSelect h
  · exact .takeMasterDimmer h
  · exact .takeAddrSet h
  · exact .takeRecover h
  · exact .takeEcho h
  · exact .answerReq h
  · exact .consumeService h

theorem Kept.serveOne {w : Wait} (h : Kept core s u) : Kept core s (u.serveOne w) := .ite (.set h) (.freeShared (.consumeLater h))
theorem Kept.serveWaiting (h : Kept core s u) : Kept core s u.serveWaiting := .foldl (.set h) .serveOne
theorem Kept.mpIsReady (h : Kept False s u) : Kept False s u.mpIsReady := .foldl (.setWide (.setWide (.setWide h))) .enqueue

/-! ### Banks -/

theorem Lands.freeze {b : Fin 16} {on : Bool} (h : Kept core s u) :
    Lands core s (execFreeze b on u) := .next (.serveWaiting (.modBank h))

theorem Lands.lockBroken {b : Fin 16} (h : Kept core s u) : Lands core s (execLockBroken b u) := by
  unfold execLockBroken
  dsimp only
  split
  · exact .next h
  · exact .next (.serveWaiting (.raise (.breakLock h)))

theorem Lands.arbWatchdog {b : Fin 16} (h : Kept core s u) : Lands core s (execArbWatchdog b u) := by
  unfold execArbWatchdog
  dsimp only
  split
  · exact .next h
  · exact .next (.serveWaiting (.raise (.modBank (.breakLock h))))

/-! ### Quads -/

theorem Kept.clearLatches {q : Nat} (h : Kept core s u) : Kept core s (u.clearLatches q) := h.latchesFiltered

theorem Kept.dropQuad {q : Nat} (h : Kept False s u) : Kept False s (u.dropQuad q) :=
  .forEach (.clearLatches (.modQuad h)) fun h => .setWide (.modTile h)

/-! ### Registers -/

theorem Kept.badAccess {addr : Nat} (h : Kept core s u) : Kept core s (u.badAccess addr) := .raise h

theorem Kept.writeArbCtrl {b : Fin 16} {v : BitVec 32} (h : Kept core s u) : Kept core s (u.writeArbCtrl b v) :=
  .cond (.landed h (.freeze h)) fun h => .landed h (.swap h)

theorem Kept.writeWdog {v : BitVec 32} (h : Kept core s u) : Kept core s (u.writeWdog v) := .ite h (.setStore h id)

theorem Kept.writeStorePage {addr : Nat} {v : BitVec 32} (h : Kept core s u) : Kept core s (u.writeStorePage addr v) :=
  .ite (.writeWdog h) (.dite (fun _ => .ite (.writeArbCtrl h) (.ite (.ite (.badAccess h) (.modBank h)) (.ite (.landed h
    (.slotShadowWrite h)) (.ite h (.badAccess h))))) fun _ => .badAccess h)

theorem Kept.writeQpwr {v : BitVec 32} (h : Kept core s u) : Kept core s (u.writeQpwr v) :=
  .foldl h fun h => .ite (.landed h (.offReq h)) (.ite (.landed h (.wakeReq h)) h)

theorem Kept.writeDrivePage {off addr : Nat} {v : BitVec 32} (h : Kept core s u) : Kept core s (u.writeDrivePage off addr v) :=
  .ite (.badAccess h) (.ite (.landed h (.drvTileWrite h)) (.ite (.writeQpwr h) (.ite (.ite h (.set h)) (.ite h (.ite (.landed h
    (.drvStripeWrite h)) (.badAccess h))))))

theorem Kept.writeCvuPage {off addr : Nat} {v : BitVec 32} (h : Kept core s u) : Kept core s (u.writeCvuPage off addr v) :=
  .ite (.badAccess h) (.ite (.ite (.set h) h) (.set h))

theorem Kept.writeNvmPage {off addr : Nat} {v : BitVec 32} (h : Kept core s u) : Kept core s (u.writeNvmPage off addr v) :=
  .ite (.doReserve h) (.ite h (.badAccess h))

theorem Kept.bridgeWrite {addr : Nat} {v : BitVec 32} (h : Kept core s u) : Kept core s (u.bridgeWrite addr v) := by
  unfold State.bridgeWrite
  dsimp only
  split
  · exact .writeStorePage h
  · exact .writeDrivePage h
  · exact .ite (.landed h (.diagCtrlWrite h)) (.badAccess h)
  · exact .writeCvuPage h
  · exact .ite (.badAccess h) (.set h)
  · exact .writeNvmPage h
  · exact h
  · exact .badAccess h

theorem Kept.mpRead {addr : Nat} (h : Kept core s u) : Kept core s (u.mpRead addr).1 := by
  unfold State.mpRead
  split
  · exact .badAccess h
  · exact .ite (.setNvm (.nvmRefill h)) h

/-! ### Telemetry -/

theorem Lands.eventRateWindow {code : BitVec 16} {key : Nat} (h :
    Kept core s u) : Lands core s (execEventRateWindow code key u) := by
  unfold execEventRateWindow
  dsimp only
  split
  · exact .next h
  · exact .ite (.next (.set h)) (.next (.set (.raise h)))

theorem Kept.restoreList (h : Kept core s u) : Kept core s u.restoreList := by
  unfold State.restoreList
  split
  · exact .set h
  · exact .set h

theorem Kept.restoreMap (h : Kept core s u) : Kept core s u.restoreMap := .restoreList (.loadBytes h)

theorem Lands.telemetryHistory (h : Kept core s u) : Lands core s (execTelemetryHistory u) := by
  refine .ite (.next h) ?_
  split
  · exact .next (.mpWrite h)
  · split
    · exact .next (.mpWrite h)
    · exact .next (.mpWrite h)

/-! ### Domains -/

theorem Kept.loadPart {g a : Nat} {bs : List Byte} (h : Kept core s u) : Kept core s (u.loadPart g a bs) := .ite (.loadBytes h) h

theorem Kept.loadImage {g : Nat} (h : Kept core s u) : Kept core s (u.loadImage g) := by
  unfold State.loadImage
  split
  · exact h
  · exact .ite (.ite (.setStore h (u.store.wf_fill _ _ _)) h) (.loadPart (.loadPart h))

theorem Kept.startRestore (h : Kept core s u) : Kept core s u.startRestore := .restoreErases (.affRestore (.restoreMap h))

theorem Kept.fillGroup {g : Nat} {map : List Byte} (h : Kept core s u) : Kept core s (u.fillGroup g map) :=
  .ite (.cond (.loadImage h) .startRestore) (.ite (.restoreCounters (.loadBytes (.loadImage h))) h)

theorem Lands.bankInitDone {g : Fin 2} (h : Kept core s u) : Lands core s (execBankInitDone g u) := by
  have zeroed : Kept core s { u with store := if g.val = 0 then { u.store.clearGroup g with init0 := true }
      else { u.store.clearGroup g with init1 := true } } :=
    .setStore h fun wf => by
      split
      · exact u.store.wf_clearGroup g wf
      · exact u.store.wf_clearGroup g wf
  exact .ite (.next h) (.next (.serveWaiting (.fillGroup (.forEach zeroed .modBank))))

theorem Kept.dropPd3 (h : Kept core s u) : Kept core s u.dropPd3 := .drawn (.freeForwarded (.foldl (.set h) .freeShared))
theorem Kept.dropPd4 (h : Kept core s u) : Kept core s u.dropPd4 := .setStore (.cond h .affSave) id
theorem Kept.dropPd5 (h : Kept core s u) : Kept core s u.dropPd5 := .setStore h id

theorem Kept.dropDomain {pd : Nat} (h : Kept core s u) : Kept core s (u.dropDomain pd) := by
  unfold State.dropDomain
  split
  · exact .cond h fun h => .holdPortB (.set h)
  · exact .cond h .dropPd3
  · exact .cond h .dropPd4
  · exact .cond h .dropPd5
  · exact h

theorem Kept.raiseDomain {pd : Nat} (h : Kept core s u) : Kept core s (u.raiseDomain pd) := by
  unfold State.raiseDomain
  split
  · exact .startPortB (.set h)
  · exact .set h
  · exact .set h
  · exact .set h
  · exact h

theorem Lands.powerDomainRequest {pd : Fin 11} {on : Bool} (h : Kept core s u) : Lands core s (execPowerDomainRequest pd on u) :=
  .ite (.next h) (.ite (.ite (.next (.raiseDomain h)) (.ite (.next (.dropDomain h)) (.next (.badSwitch h)))) (.ite (.ite
    (.wakeReq h) (.offReq h)) (.next (.badSwitch h))))

/-! ### Protocol -/

theorem Lands.capOffer {payload : List Byte} (h : Kept core s u) : Lands core s (execCapOffer payload u) :=
  .ite (.ite (.next (.roleConflict h)) (.next (.ite (.raise (.set (.set h))) (.set (.set h))))) (.next h)

theorem Lands.capAnswer {payload : List Byte} (h : Kept core s u) : Lands core s (execCapAnswer payload u) :=
  .ite (.ite (.next (.conflictB h)) (.ite (.next h) (.ite (.next h) (.next (.ite (.raise (.raise (.set h))) (.raise (.set
    h))))))) (.next h)

theorem Lands.packetLinkFail {p : PortId} {why : LinkFail} {seq : BitVec 12} (h :
    Kept core s u) : Lands core s (execPacketLinkFail p why
    seq u) := by
  unfold execPacketLinkFail
  split
  · exact .next (.ite h (.ite (.ite h (.linkOther h)) (.linkFailed h)))
  · exact .next (.ite h (.ite (.ite h (.linkOtherB h)) (.linkFailedB h)))

theorem Lands.packetDiscard {hd : Hdr} {up : Bool} {vc : Fin 32} {type : BitVec 8} {len : Nat} (h : Kept core s u) : Lands core s
    (execPacketDiscard hd up vc type len u) := by
  refine .ite (.next h) (.ite (.next (.restoreFor (.linkFailed h))) (.ite (.next (.restoreFor (.linkOther h))) (.ite (.next
      (.restoreFor (.linkFailed h))) (.ite (.next (.raiseRated (.set (.linkPass h)))) ?_))))
  split
  · exact .next (.contentFail (.linkPass h))
  · exact .next h

theorem Kept.ackB {q : BitVec 12} (h : Kept core s u) : Kept core s (u.ackB q) := .ite h (.freeForwarded (.set h))

theorem Lands.ack {p : PortId} {seq : BitVec 12} (h : Kept core s u) : Lands core s (execAck p seq u) := by
  unfold execAck
  split
  · exact .next (.ite (.ite (.set h) h) h)
  · exact .next (.ite (.ackB h) h)

theorem Lands.nak {p : PortId} {seq : BitVec 12} (h : Kept core s u) : Lands core s (execNak p seq u) := by
  unfold execNak
  split
  · exact .ite (.next h) (.ite (.next (.ite (.set h) h)) (.ite (.next (.set (.ite (.set h) h))) (.ite (.next (.linkDown (.ite
      (.set h) h))) (.next (.set (.set (.ite (.set h) h)))))))
  · exact .ite (.next h) (.ite (.next (.ackB h)) (.ite (.next (.set (.ackB h))) (.ite (.next (.portBDown (.ackB h))) (.next
      (.set (.set (.ackB h)))))))

theorem Lands.credit {p : PortId} {vc : Fin 32} {total : BitVec 11} (h :
    Kept core s u) : Lands core s (execCredit p vc total u) := by
  unfold execCredit
  split
  · exact .ite (.next (.set h)) (.next h)
  · exact .ite (.next (.set h)) (.next h)

theorem Kept.onTimer {due : PortId → Bool} {f : PortId → State → State} (h : Kept core s u)
    (step : ∀ {n v}, Kept core s v → Kept core s (f n
    v)) : Kept core s (u.onTimer due f) :=
  .ite (step (.drawn h)) (.ite (step h) (.ite (step h) h))

theorem Lands.ackTimer (h : Kept core s u) : Lands core s (execAckTimer u) := by
  exact .next (.onTimer h fun h => by split; exacts [.sendAck h, .sendAckB h])

theorem Lands.creditReturnTimer {resend : Bool} (h : Kept core s u) : Lands core s (execCreditReturnTimer resend u) := by
  exact .next (.onTimer h fun h => .forEach h fun h => by split; exacts [.sendCredit h, .set (.set h)])

theorem Kept.replayEndA (h : Kept core s u) : Kept core s u.replayEndA := by
  unfold State.replayEndA
  split
  · exact h
  · exact .ite (.linkDown h) (.set (.set h))

theorem Kept.replayEndB (h : Kept core s u) : Kept core s u.replayEndB := by
  unfold State.replayEndB
  split
  · exact h
  · exact .ite (.portBDown h) (.set (.set h))

theorem Lands.replayTimer (h : Kept core s u) : Lands core s (execReplayTimer u) := by
  exact .next (.onTimer h fun h => by split; exacts [.replayEndA h, .replayEndB h])

theorem Kept.tqPop {q : Nat} (h : Kept core s u) : Kept core s (u.tqPop q) :=
  .ite (.set h) (.ite (.freeCreditsB (.ite (.set h) (.set (.set h)))) (.ite (.set h) (.set (.set h))))

theorem Kept.sendUp {p : TxPkt} (h : Kept core s u) : Kept core s (u.sendUp p) := .ite (.set (.set (.emit h))) (.set (.emit h))

theorem Kept.resendUp {n : BitVec 12} (h : Kept core s u) : Kept core s (u.resendUp n) := by
  unfold State.resendUp
  split
  · exact .set h
  · exact .sendUp (.set h)

theorem Kept.sendNew {q : Nat} {p : TxPkt} (h : Kept core s u) :
    Kept core s (u.sendNew q p) := .sendUp (.setContext (.set (.tqPop h)))

theorem Lands.tqTransmit (h : Kept core s u) : Lands core s (execTqTransmit u) := by
  refine .ite (.next h) ?_
  dsimp only
  split
  · exact .next (.resendUp (.flushLcbs h))
  · split
    · exact .next (.flushLcbs h)
    · split
      · exact .next (.flushLcbs h)
      · exact .next (.sendNew (.flushLcbs h))

theorem Kept.sendDown {p : FwdPkt} (h : Kept core s u) : Kept core s (u.sendDown p) := .emit (.setContext h)

theorem Kept.resendB {n : BitVec 12} (h : Kept core s u) : Kept core s (u.resendB n) := by
  unfold State.resendB
  split
  · exact .set h
  · exact .sendDown (.set h)

theorem Lands.forwardPortB {dt : Nat} (h : Kept core s u) : Lands core s (execForwardPortB dt u) := by
  refine .ite (.next (.elapse h)) ?_
  split
  · exact .next (.resendB (.ite (.elapse h) (.emit (.set (.elapse h)))))
  · split
    · exact .next (.ite (.elapse h) (.emit (.set (.elapse h))))
    · exact .next (.ite (.sendDown (.set (.ite (.elapse h) (.emit (.set (.elapse h)))))) (.ite (.elapse h) (.emit (.set (.elapse
        h)))))

theorem Lands.portBUpstream {hd : UpHdr} {vc : Fin 32} {type : BitVec 8} {payload : List Byte} (h : Kept core s u) : Lands core s
    (execPortBUpstream hd vc type payload u) :=
  .ite (.next h) (.ite (.next (.linkFailedB h)) (.ite (.next (.linkOtherB h)) (.ite (.next (.raiseRated (.set (.ite (.ite
    (.sendAckB (.set h)) (.set h)) (.freeCreditsB (.set (.ite (.sendAckB (.set h)) (.set h)))))))) (.ite (.next (.raiseRated
    (.set (.ite (.sendAckB (.set h)) (.set h))))) (.next (.enqueue (.set (.ite (.sendAckB (.set h)) (.set h)))))))))

/-! ### Supervision -/

theorem Kept.cyclePd10 (h : Kept False s u) : Kept False s u.cyclePd10 :=
  .cond (.setWide (.ite (.finishFlash h) (.raise (.setWide (.finishFlash h))))) .restoreMap

theorem Kept.reloadFw (h : Kept False s u) : Kept False s u.reloadFw := by
  unfold State.reloadFw
  split
  · exact h
  · exact .cond h .setWide

theorem Kept.restartMp (h : Kept False s u) : Kept False s u.restartMp := .setWide (.reloadFw (.cyclePd10 h))

theorem Kept.mpBite (h : Kept False s u) : Kept False s u.mpBite :=
  .ite (.raise (.setWide (.cyclePd10 (.setWide (.setCause (.raise h)))))) (.restartMp (.setWide (.setCause (.raise h))))

theorem Kept.mpReload (h : Kept core s u) : Kept core s u.mpReload :=
  .cond h fun h => .cond (.restoreList (.restoreErases h)) fun h => .predict (.healAll h)

theorem Lands.mpRestartReady (h : Kept False s u) : Lands False s (execMpRestartReady u) :=
  .ite (.next h) (.next (.cond (.serveWaiting (.setWide (.raise (.setCause (.mpIsReady (.mpReload h)))))) .reportAtLinkUp))

theorem Kept.spBite (h : Kept core s u) : Kept core s u.spBite := .runLimiter (.set (.setCause (.set h)))

/-! ### Startup -/

theorem Kept.putFlash {a : Nat} {bs : List Byte} (h : Kept core s u) : Kept core s { u with flash := u.flash.put a bs } :=
  h.write (fun ⟨store, recs, slotA, slotB, latches⟩ =>
    have ⟨recs, slotA, slotB⟩ := u.flash.wf_put a bs ⟨recs, slotA, slotB⟩
    ⟨store, recs, slotA, slotB, latches⟩) ⟨rfl, rfl, rfl, rfl, rfl, rfl⟩

theorem Kept.tearFlash (h : Kept core s u) : Kept core s u.tearFlash := by
  unfold State.tearFlash
  split
  · exact h
  · exact .drawn (.putFlash (.ite (.flashErase h) h))

theorem Kept.setReason {i : SlotId} {r : Nat} (h : Kept core s u) : Kept core s (u.setReason i r) := by
  unfold State.setReason
  split
  · exact .setStart h rfl
  · exact .setStart h rfl

theorem Kept.reject {i : SlotId} {r : Nat} (h : Kept core s u) : Kept core s (u.reject i r) := .raise (.setReason h)
theorem Kept.startPortA (h : Kept core s u) : Kept core s u.startPortA := .cond (.set h) fun h => .loopEvent (.startLoopback h)

theorem Kept.enterServiceOnly (h : Kept False s u) : Kept False s u.enterServiceOnly :=
  .ite (.paintAnew (.startPortA (.set (.raise (.mpIsReady (.set (.setWideStore h rfl))))))) (.forEach (.paintAnew (.startPortA (.set
    (.raise (.mpIsReady (.set (.setWideStore h rfl))))))) .modQuad)

theorem Kept.tryNext {order : List SlotId} (h : Kept False s u) : Kept False s (u.tryNext order) := by
  unfold State.tryNext
  split
  · exact .enterServiceOnly h
  · exact .setWide h

theorem Kept.retryRead (h : Kept core s u) : Kept core s u.retryRead := .setFlash h ⟨rfl, rfl, rfl⟩

theorem Lands.flashReadFail (h : Kept False s u) : Lands False s (execFlashReadFail u) := by
  unfold execFlashReadFail
  dsimp only
  split
  · split
    · exact .next h
    · exact .ite (.next (.retryRead h)) (.ite (.next (.tryNext (.reject (.drawn h)))) (.next (.retryRead (.drawn h))))
  · exact .ite (.next h) (.ite (.next (.retryRead h)) (.ite (.next (.setWide (.drawn h))) (.next (.retryRead (.drawn h)))))
  · exact .next h

theorem Kept.loadComposer {x : Slot} (h : Kept core s u) : Kept core s (u.loadComposer x) := .set h
theorem Kept.startGrid (h : Kept core s u) : Kept core s u.startGrid := .regrid (.set h)
theorem Kept.takeSafety {p : SafetyP} (h : Kept core s u) : Kept core s (u.takeSafety p) := .cond (.set (.set h)) .setCause
theorem Kept.keepCeils (h : Kept core s u) : Kept core s u.keepCeils := .forEach h .sendCmd
theorem Kept.sendThreshs (h : Kept core s u) : Kept core s u.sendThreshs := .forEach h .sendCtl
theorem Kept.powerQuads (h : Kept core s u) : Kept core s u.powerQuads := .forEach h fun h => .cond h .closeSwitch
theorem Kept.adopt {i : SlotId} (h : Kept False s u) : Kept False s (u.adopt i) := .setWide h
theorem Kept.told {i : SlotId} (h : Kept core s u) : Kept core s (u.told i) := .raise (.setReason h)
theorem Kept.fillReady (h : Kept core s u) : Kept core s u.fillReady := .forEach h .fillGroup

theorem Kept.bringUp {i : SlotId} (h : Kept False s u) : Kept False s (u.bringUp i) :=
  .fillReady (.sendThreshs (.keepCeils (.repaint (.startPortA (.startGrid (.powerQuads (.loadComposer (.takeSafety (.told
    (.adopt h))))))))))

theorem Kept.stripped {x : Slot} (h : Kept core s u) : Kept core s (u.stripped x) :=
  .ite (.forEach h .set) (.ite h (.foldl h .setContext))

theorem Lands.slotChecksDone (h : Kept False s u) : Lands False s (execSlotChecksDone u) := by
  unfold execSlotChecksDone
  split
  · exact .next h
  · exact .ite (.next h) (.ite (.next (.bringUp (.stripped h))) (.next (.tryNext (.reject (.stripped h)))))

theorem Kept.enterReady (h : Kept False s u) : Kept False s u.enterReady := .raise (.drawn (.setWideStore h rfl))

theorem Lands.mpReady (h : Kept False s u) : Lands False s (execMpReady u) :=
  .ite (.next h) (.next (.cond (.startPortB (.enterReady (.serveWaiting (.mpIsReady (.cond (.latchAndEnter (.cond h fun h =>
    .predict (.healAll h))) fun h => .ite (.setWide h) h))))) .reportAtLinkUp))

theorem Kept.resetCore (h : Kept False s u) : Kept False s u.resetCore :=
  ⟨h.fuse, fun wf => (h.wf wf).imp (fun _ => rfl) fun ⟨recs, slotA, slotB, _⟩ => ⟨recs, slotA, slotB, rfl⟩, False.elim⟩

theorem Lands.nresetLow (h : Kept False s u) : Lands False s (execNresetLow u) :=
  .ite (.next h) (.next (.ite (.repaint (.keepCeils (.cond (.resetCore (.finishFlash h)) .raise))) (.changeState (.keepCeils
    (.cond (.resetCore (.finishFlash h)) .raise)))))

theorem Kept.clearHeld (h : Kept core s u) : Kept core s u.clearHeld := .checkInh (.forEach (.set h) fun h => .setCut (.setCut h))

/-! ### Idle -/

theorem Kept.idle (h : Kept core s u) : Kept core s u.idle := .serveWaiting (.toDeskew (.toDeskew (.elapse (.set h))))

/-! ### Step -/

theorem Kept.withFetchWord {nbits w : Nat} (h : Kept core s u) : Kept core s (u.withFetchWord nbits w) := by
  unfold State.withFetchWord
  split
  · exact .set h
  · exact h

/-! ### Every command -/

/-- Every command but those that write the fuses (R48) keeps them, and the canonical form: each as its meaning is built. -/
theorem exec_lands (c : Instr) (notRollback : c ≠ .rollback) (notLoss : c ≠ .lossOfVlog) (h :
    Kept False s u) : Lands False s (exec c u) := by
  cases c with
  | vlogValid => exact .next (.ite h (.setWide h))
  | lossOfVlog => exact absurd rfl notLoss
  | safePllLocked => exact .ite (.next h) (.next (.forEach (.setWide (.setWide h)) .setCut))
  | fuseReadDone => exact .ite (.next (.setWide (.cond (.setWide h) .raise))) (.ite (.next (.cond (.setWide h) .raise)) (.next h))
  | headersChecked => exact .ite (.next h) (.next (.tryNext (.setWide (.cond (.cond h .reject) .reject))))
  | flashReadFail => exact .flashReadFail h
  | slotChecksDone => exact .slotChecksDone h
  | mpReady => exact .mpReady h
  | bringupTimeout => exact .ite (.next h) (.next (.ite (.restartMp (.raise (.setWide h))) (.setWide (.raise (.setWide h)))))
  | rollback => exact absurd rfl notRollback
  | nresetLow => exact .nresetLow h
  | nresetHigh => exact .ite (.next h) (.next (.setWide (.clearHeld (.setWide h))))
  | stuckReset => exact .ite (.next h) (.next (.raise (.setFlag (.setWide h))))
  | startLogWrite => exact .ite (.next h) (.next (.setWide (.mpWrite h)))
  | receiverDetectionDone => exact .receiverDetectionDone h
  | squelchOpen => exact .ite (.next (.toSweep (.modPort h))) (.ite (.next (.modPort (.modPort h))) (.next (.modPort h)))
  | squelchClose => exact .squelchClose h
  | sweepDwellEnd => exact .ite (.ite (.next (.setWide h)) (.ite (.next (.setWide h)) (.next (.setWide h)))) (.next h)
  | bitLock => exact .ite (.next h) (.ite (.next h) (.ite (.next (.modPort (.modPort h))) (.next (.modPort h))))
  | commaAligned => exact .commaAligned h
  | blockLock => exact .ite (.ite (.next (.toDeskew (.modPort (.modPort h)))) (.next (.modPort h))) (.next h)
  | laneFault => exact .laneFault h
  | trainingTimeout => exact .next (.ite (.modPort h) h)
  | backoffElapsed => exact .next (.ite (.modPort h) h)
  | tsA => exact .tsA h
  | farEndLoopbackEnd => exact .next (.ite (.loopEvent (.setWide h)) h)
  | tsB => exact .tsB h
  | tsEnd => exact .tsEnd h
  | repair => exact .next (.ite (.setWide h) h)
  | repairTimeout => exact .next (.ite (.linkDown h) h)
  | idleEnter => exact .ite (.next (.ite (.setWide (.sendPhase (.setWide h))) (.setWide h))) (.next h)
  | wake => exact .ite (.next (.ite (.setWide (.setWide h)) (.setWide h))) (.next h)
  | wakeEnd => exact .ite (.next (.ite (.linkDown (.setWide h)) (.ite (.setWide h) (.startRepair (.setWide h))))) (.next h)
  | backLaneIdleEntry => exact .next (.ite (.setWide (.sendPhase h)) h)
  | backLaneWake => exact .next (.ite (.setWide h) h)
  | backLaneDetect => exact .ite (.next (.ite (.linkDown (.setWide h)) (.setWide h))) (.next h)
  | linkSelftest => exact .next (.service h .takeSelftest)
  | selftestEnd => exact .ite (.next (.loopEvent (.setWide h))) (.next h)
  | capOffer => exact .capOffer h
  | capConfirm => exact .ite (.next (.reportAtLinkUp (.linkUpNow (.setWide h)))) (.next h)
  | capAnswer => exact .capAnswer h
  | packetLinkFail => exact .packetLinkFail h
  | packetDiscard => exact .packetDiscard h
  | ack => exact .ack h
  | nak => exact .nak h
  | credit => exact .credit h
  | ackTimer => exact .ackTimer h
  | creditReturnTimer => exact .creditReturnTimer h
  | replayTimer => exact .replayTimer h
  | tqTransmit => exact .tqTransmit h
  | tqStarvation => exact .next (.ite (.setWide h) h)
  | forwardPortB => exact .forwardPortB h
  | portBUpstream => exact .portBUpstream h
  | write => exact .next (.receive h .takeWrite)
  | surfaceComplete => exact .next (.receive (.elapse h) .takeComplete)
  | descriptor => exact .next (.receive h .takeDescriptor)
  | commit => exact .next (.receive (.elapse h) .takeCommit)
  | pour => exact .next (.receive (.elapse h) .takePour)
  | awaitExpired => exact .ite (.next (.raise (.setWide h))) (.next h)
  | zonePlain => exact .next (.receive h .takePlain)
  | zoneCompl => exact .next (.receive h .takeCompl)
  | candidateExpiry => exact .next (.dropCand h)
  | sync => exact .next (.receive (.elapse h) .takeSync)
  | followUp => exact .next (.receive (.elapse h) .takeFollowUp)
  | delayResp => exact .next (.receive (.elapse h) .takeDelayResp)
  | syncPairTimeout => exact .syncPairTimeout h
  | tb0Holdover => exact .next (.tbHold h)
  | statusRead => exact .next (.receive h .takeStatusRead)
  | modeSelect => exact .next (.receive (.elapse h) .takeModeSelect)
  | profileSelect => exact .next (.receive (.elapse h) .takeProfileSelect)
  | masterDimmer => exact .next (.receive (.elapse h) .takeMasterDimmer)
  | addrSet => exact .next (.receive h .takeAddrSet)
  | safetyRecover => exact .next (.receive h .takeRecover)
  | echo => exact .next (.receive h .takeEcho)
  | unknownOpcode => exact .unknownOpcode h
  | unlockReq => exact .next (.service h .takeUnlockReq)
  | unlockResp => exact .next (.service h .takeUnlockResp)
  | sessionEnd => exact .next (.service h .takeSessionEnd)
  | imageErase => exact .next (.service h .takeImageErase)
  | imageWrite => exact .next (.service h .takeImageWrite)
  | imageCheck => exact .next (.service h .takeImageCheck)
  | imageRead => exact .next (.service h .takeImageRead)
  | recordRead => exact .next (.service h .takeRecordRead)
  | perturbSet => exact .next (.service h .takePerturbSet)
  | perturbClear => exact .next (.service h .takePerturbClear)
  | perturbStatus => exact .next (.service h .takePerturbStatus)
  | perturbOff => exact .next (.clearEnded (.cond h .testEnLow))
  | uartGapTimeout => exact .next (.setWide h)
  | challengeTimeout => exact .next (.ite (.raise (.setWide h)) h)
  | sessionIdleTimeout => exact .next (.serveWaiting (.endSession h))
  | lockoutEnd => exact .next (.ite (.setWide h) h)
  | tsevtCapture => exact .tsevtCapture h
  | lampsyncEdge => exact .lampsyncEdge h
  | lampsyncLoss => exact .ite (.next (.raise (.regrid (.setWide h)))) (.next h)
  | latchPoint => exact .next (.ite (.latchNow (.timeTiles (.elapse h))) h)
  | cutoff => exact .cutoff h
  | handoverAlign => exact .next (.ite (.sendTiming h) h)
  | scanStepRelease => exact .scanStepRelease h
  | scanoutStarved => exact .next (.ite (.starve h) h)
  | rowSegment => exact .rowSegment h
  | readback => exact .readback h
  | readbackTimeout => exact .readbackTimeout h
  | reread => exact .ite (.next h) (.next (.forEach (.ite (.setWide h) (.forEach (.setWide h) .resend)) .sendCtl))
  | readbackPacket => exact .ite (.next h) (.next (.setWide (.setContext (.setWide h))))
  | crcGenCheck => exact .crcGenCheck h
  | tilePeriodBoundary => exact .ite (.next (.modTile h)) (.next h)
  | curSet => exact .next (.onCtl h)
  | pwmSet => exact .next (.onCtl h)
  | align => exact .next (.onCtl h)
  | meas => exact .next (.onWord h)
  | tampAllow => exact .next (.onWord h)
  | switchGap => exact .next (.onCtl h)
  | result => exact .next (.ite (.takeResult (.onWord h)) (.onWord h))
  | parityScan => exact .next (.ite (.forEach (.onWord h) .measured) (.onWord h))
  | thresh => exact .next (.onCtl h)
  | measPeriodEnd => exact .measPeriodEnd h
  | gapPulseEnd => exact .ite (.next h) (.next (.sendResult (.nextGap (.cond (.modTile h) .switchFault))))
  | diagRowSlot => exact .ite (.next h) (.next (.forEach (.sendCtl h) fun h => .cond h .sendCtl))
  | gapTestDue => exact .ite (.next h) (.ite (.next (.setWide h)) (.next (.sendCtl h)))
  | sweepOverdue => exact .ite (.next h) (.next (.raise (.modTile h)))
  | diagMapReport => exact .diagMapReport h
  | diagCtrlWrite => exact .diagCtrlWrite h
  | drvTileWrite => exact .drvTileWrite h
  | offReq => exact .offReq h
  | wakeReq => exact .wakeReq h
  | quadOff => exact .ite (.next (.raise (.dropQuad h))) (.next h)
  | quadReady => exact .ite (.next (.paintQuad (.forEach (.modQuad h) .modTile))) (.next h)
  | wakeCatchup => exact .ite (.next h) (.next (.raise (.modQuad (.foldl h fun h => .ite h (.released h)))))
  | drvStripeWrite => exact .drvStripeWrite h
  | powerDomainRequest => exact .powerDomainRequest h
  | powerForceRelease => exact .ite (.next (.ite (.modQuad (.setWide h)) (.darkDone (.setWide h)))) (.next h)
  | fillRect => exact .next (.busCommand h fun h => .ite h (.modTile h))
  | setCeil => exact .next (.busCommand h .modTile)
  | setOverride => exact .next (.busCommand h .modTile)
  | setSource => exact .next (.busCommand h fun h => .ite h (.raise (.modTile h)))
  | quadStatus => exact .next (.busCommand h id)
  | fillSweepDone => exact .fillSweepDone h
  | commandAnswer => exact .commandAnswer h
  | commandTimeout => exact .commandTimeout h
  | moduleLimitUpdate => exact .next (.cond (.forEach (.setWide h) fun h => .cond h .sendCmd) .raise)
  | overcurrent => exact .ite (.next (.raise (.raise (.setWide h)))) (.next h)
  | vledLow => exact .vledLow h
  | vledPresent => exact .next (.cond (.setWide h) .paintAnew)
  | arbiterDecision => exact .next (.serveWaiting (.ite (.arbitrate (.arrive h)) (.arrive h)))
  | slotShadowWrite => exact .slotShadowWrite h
  | swap => exact .swap h
  | freeze => exact .freeze h
  | arbWatchdog => exact .arbWatchdog h
  | lockBroken => exact .lockBroken h
  | bankInitDone => exact .bankInitDone h
  | scrubOverdue => exact .next (.ite h (.raise (.modBank h)))
  | lbreq => exact .ite (.next h) (.next (.judge (.raise (.setWide h))))
  | limiterTick => exact .ite (.next h) (.next (.tickCuts (.compareTick (.runLimiter (.setWide h)))))
  | setMismatch => exact .next (.ite (.foundDiff h) h)
  | requestWord => exact .ite (.next h) (.next (.setWide (.judge (.cond (.setWide h) .setCause))))
  | normalAgreement => exact .next (.ite (.changeState h) h)
  | degTimeout => exact .next (.ite (.setCause (.raise h)) h)
  | channelDisagree => exact .ite (.next h) (.next (.setCause (.raise (.setFlag (.setWide h)))))
  | voteMismatch => exact .ite (.next h) (.next (.raise (.setWide h)))
  | stallBlank => exact .stallBlank h
  | stallRequestExpiry => exact .next (.ite (.setCause h) h)
  | linkHoldExpiry => exact .ite (.next (.setCause (.setCause (.setWide h)))) (.next h)
  | safetyCrcCheck => exact .ite (.next (.cond (.setCause (.setWide h)) .repaint)) (.next h)
  | clockFault => exact .ite (.next h) (.next (.setCause (.raise (.setWide h))))
  | oscillatorCheck => exact .ite (.next (.setCause (.raise (.setWide h)))) (.next h)
  | mpWatchdogService => exact .ite (.next (.elapse h)) (.ite (.next (.setWide (.elapse h))) (.next (.mpBite (.elapse h))))
  | mpWatchdog => exact .next (.ite (.mpBite h) h)
  | mpRestartReady => exact .mpRestartReady h
  | spWatchdogService => exact .ite (.next h) (.ite (.next (.setWide h)) (.next (.spBite h)))
  | spWatchdog => exact .next (.ite (.spBite h) h)
  | spRestarted => exact .ite (.next h) (.next (.serveWaiting (.raise (.setWide h))))
  | rindHeartbeat => exact .ite (.next h) (.ite (.next (.setCause (.raise (.setWide (.setWide h))))) (.next (.setWide h)))
  | mpBadAccess => exact .next (.ite (.badAccess h) h)
  | tileSensorSample => exact .ite (.next h) (.next (.setTemp (.updateBand (.trustStep (.setWide (.setWide h))))))
  | quadSensorSample => exact .quadSensorSample h
  | dieSensorSample => exact .next (.setWide h)
  | ntcSample => exact .next (.cond (.setWide (.setWide h)) .raise)
  | mpPolicyTick => exact .mpPolicyTick h
  | shutdownRetry => exact .ite (.next (.raise (.modHeat h))) (.next h)
  | hardCut => exact .ite (.next h) (.next (.forEach (.legStatus (.raise (.setWide h))) .cutTile))
  | hardCutRelease => exact .ite (.next h) (.next (.forEach (.raise (.setWide h)) .setCut))
  | heatRecordWrite => exact .ite (.next h) (.next (.reservedWrite h))
  | affWWrite => exact .ite (.next h) (.next (.setWide h))
  | fillCharge => exact .ite (.next h) (.next (.forEach h fun h => .forEach h .chargeBlock))
  | affinageSave => exact .next (.ite (.affSave h) h)
  | saveDeferred => exact .next (.ite (.affSave h) h)
  | reserve => exact .next (.ite (.doReserve h) h)
  | flashCommand => exact .flashCommand h
  | flashCommandDone => exact .flashCommandDone h
  | faultMapSave => exact .ite (.next h) (.next (.setWide (.saveCopy h)))
  | telemetryHistory => exact (Lands.telemetryHistory h :)
  | eventPacket => exact .ite (.next h) (.next (.setWide h))
  | eventRateWindow => exact .eventRateWindow h
  | registerWrite => exact .next (.ite (.bridgeWrite h) h)
  | hs => exact .hs h
  | regWrite => exact .next (.frameIn (.elapse h))
  | regRead => exact .next (.frameIn h)
  | lines => exact .next (.frameIn (.elapse h))
  | showRows => exact .next (.frameIn (.elapse h))
  | legacyEcho => exact .next (.frameIn h)
  | frameNak => exact .next (.ite (.nakFrame h) h)
  | frameRejected => exact .next (.frameIn h)
  | softReset => exact .next (.frameIn (.elapse h))
  | faultIdxWrite => exact .next (.frameIn h)
  | faultEntryRead => exact .next (.frameIn h)
  | legacyStatusRead => exact .next (.frameIn h)
  | linkErrCntRead => exact .next (.frameIn h)
  | lowByteRead => exact .next (.frameIn h)
  | crystalPllLocked => exact .ite (.next h) (.next (.cond (.setWide (.setWide h)) .raise))
  | testEnHigh => exact .ite (.next h) (.next (.cond (.setWide h) fun h => .loopEvent (.startLoopback h)))
  | testAccessPort => exact .ite (.next h) (.next (.cond (.setWide h) .drawn))
  | safetyOscillatorStop => exact .next (.setWide h)

end

end Sys2Proof.Machine
end

section
/-!
PROOFS. The memory stays canonical over every step (O56), and what outlasts a loss of power (02 R48, 16 R419; O5).
-/
namespace Sys2Proof.Machine

/-! ### The commands that write the fuses -/

/-- ROLLBACK while an advance runs: one step is blown, event 0x0B05 (R48). -/
theorem exec_rollback {s : State} (rolling : s.start.rolling = true) :
    exec .rollback s = .next (({ s with
      fuse := { s.fuse with rollback := s.fuse.rollback + 1 }
      start := { s.start with rolling := decide (s.fuse.rollback + 1 < s.img.secVer) } } : State).raise
        0x0B05 [(1, s.fuse.rollback + 1)]) :=
  if_neg (by simp [rolling])

theorem exec_rollback_idle {s : State} (idle : s.start.rolling = false) : exec .rollback s = .next s :=
  if_pos (by simp [idle])

/-- What LOSS_OF_VLOG leaves, before a free value is drawn for a step in progress. -/
def State.afterLoss (s : State) : State :=
  { State.reset with
    pending := s.pending, free := s.tearFlash.free, flash := s.tearFlash.flash.kept
    fuse := { s.fuse with rollback := s.fuseAfterLoss }
    start := { addr0 := s.start.addr0, addr1 := s.start.addr1, testEn := s.start.testEn }
    svc := { fails := s.svc.fails, lockRec := s.svc.lockRec } }

theorem exec_lossOfVlog (s : State) : exec .lossOfVlog s = .next (s.afterLoss.cond s.start.rolling State.drawn) := rfl

/-- A loss of power tears at most the flash command in progress: the flash stays canonical, and all else is as reset. -/
theorem State.memoryWf_afterLoss {s : State} (wf : s.MemoryWf) : s.afterLoss.MemoryWf := by
  obtain ⟨-, recs, slotA, slotB, -⟩ := (Kept.tearFlash (core := False) (.refl s)).wf wf
  exact ⟨rfl, recs, slotA, slotB, rfl⟩

theorem State.fuseAfterLoss_cases (s : State) :
    s.fuseAfterLoss = s.fuse.rollback ∨ (s.start.rolling = true ∧ s.fuseAfterLoss = s.fuse.rollback + 1) := by
  unfold State.fuseAfterLoss
  split
  case isTrue rolling =>
    rcases Nat.mod_two_eq_zero_or_one (s.freeVal 8) with even | odd
    · exact .inl (by rw [even, Nat.add_zero])
    · exact .inr ⟨rolling, by rw [odd]⟩
  case isFalse => exact .inl rfl

/-! ### The canonical form over every step (O56) -/

theorem exec_memoryWf {c : Instr} {s t : State} (wf : s.MemoryWf) (run : exec c s = .next t) : t.MemoryWf := by
  by_cases rollback : c = .rollback
  · subst rollback
    by_cases rolling : s.start.rolling = true
    · cases (exec_rollback rolling).symm.trans run
      exact wf
    · cases (exec_rollback_idle (Bool.eq_false_iff.mpr rolling)).symm.trans run
      exact wf
  by_cases loss : c = .lossOfVlog
  · subst loss
    cases (exec_lossOfVlog s).symm.trans run
    rw [State.cond_read State.MemoryWf]
    split <;> exact State.memoryWf_afterLoss wf
  exact (exec_lands c rollback loss (.refl s) t run).wf wf

/-- Settles O56: the front command lands in canonical memory, and so do the clocks of an idle step. -/
theorem memoryStaysCanonicalThroughEveryStep : Obligations.MemoryStaysCanonicalThroughEveryStep := by
  intro s t wf run
  unfold step at run
  split at run
  case h_1 =>
    cases run
    exact (Kept.idle (core := False) (.refl s)).wf wf
  case h_2 c rest _ => exact exec_memoryWf (s := { s with pending := rest }) wf run

/-! ### Rollback steps and a loss of power (O5) -/

theorem exec_lossOfVlog_quiet {s : State} (noCommand : s.flash.cur = none) (still : s.start.rolling = false) :
    exec .lossOfVlog s = .next { State.reset with
      pending := s.pending, free := s.free, fuse := s.fuse
      flash := { slotA := s.flash.slotA, slotB := s.flash.slotB, recs := s.flash.recs }
      start := { addr0 := s.start.addr0, addr1 := s.start.addr1, testEn := s.start.testEn }
      svc := { fails := s.svc.fails, lockRec := s.svc.lockRec } } := by
  have untorn : s.tearFlash = s := by simp [State.tearFlash, noCommand]
  have kept : s.fuseAfterLoss = s.fuse.rollback := by simp [State.fuseAfterLoss, still]
  rw [exec_lossOfVlog, still, State.cond_false, State.afterLoss, untorn, kept]
  rfl

/-- Every command but ROLLBACK and a loss of power leaves the fuses (R48). -/
theorem exec_fuse_kept {c : Instr} {s t : State} (rollback : c ≠ .rollback) (loss : c ≠ .lossOfVlog) (run : exec c s = .next t) :
    t.fuse = s.fuse := (exec_lands c rollback loss (.refl s) t run).fuse

/-- A command writes of the fuses the security version alone, by at most one step. -/
theorem exec_fuse_step {c : Instr} {s t : State} (run : exec c s = .next t) :
    ∃ f, t.fuse = { s.fuse with rollback := f } ∧ (f = s.fuse.rollback ∨ f = s.fuse.rollback + 1) := by
  by_cases rollback : c = .rollback
  · subst rollback
    by_cases rolling : s.start.rolling = true
    · cases (exec_rollback rolling).symm.trans run
      exact ⟨_, rfl, .inr rfl⟩
    · cases (exec_rollback_idle (Bool.eq_false_iff.mpr rolling)).symm.trans run
      exact ⟨_, rfl, .inl rfl⟩
  by_cases loss : c = .lossOfVlog
  · subst loss
    cases (exec_lossOfVlog s).symm.trans run
    refine ⟨s.fuseAfterLoss, ?_, s.fuseAfterLoss_cases.imp id And.right⟩
    rw [State.cond_read State.fuse]
    split <;> rfl
  exact ⟨_, exec_fuse_kept rollback loss run, .inl rfl⟩

/-- Settles O5: a step of ROLLBACK or of a loss of power is the only write of the fuses, by the frame of every other command. -/
theorem fusesAndFlashOutlastPower : Obligations.FusesAndFlashOutlastPower := by
  refine ⟨fun _ rolling => exec_rollback rolling, fun _ noCommand still => exec_lossOfVlog_quiet noCommand still, fun s rolling => ?torn,
    fun c s t run => ?grows⟩
  case torn =>
    refine ⟨s.afterLoss.drawn, ?_, s.fuseAfterLoss_cases.imp id And.right, rfl, rfl, rfl⟩
    rw [exec_lossOfVlog, rolling, State.cond_true]
  case grows =>
    obtain ⟨f, write, step⟩ := exec_fuse_step run
    have version : t.fuse.rollback = f := congrArg Fuse.rollback write
    exact ⟨version ▸ write, by omega, by omega, fun rollback loss => exec_fuse_kept rollback loss run⟩

end Sys2Proof.Machine
end

section
/-!
PROOFS. What reset leaves (O58), and the start from VLOG to SELECT (02 R69, 16 R419; O2).
-/
namespace Sys2Proof.Machine

/-! ### The tile cuts -/

/-- While the Rind does not run every cut line is low (R299). -/
theorem State.isCut_of_rindStill {s : State} (still : s.rindRuns = false) (n : Nat) : s.isCut n = true := by
  simp [State.isCut, still]

theorem State.isCut_of_reason {s : State} {n : Nat} (cut : s.safety.cuts.get 0 n ≠ 0) : s.isCut n = true :=
  Bool.or_eq_true_iff.mpr (.inr (decide_eq_true cut))

/-- Settles O58: reset is a closed state, and with the Rind at rest every tile is dark. -/
theorem resetIsDarkAndEmpty : Obligations.ResetIsDarkAndEmpty :=
  ⟨State.memoryWf_reset, fun latched => Bool.noConfusion latched, Nat.zero_le _, fun n _ => State.isCut_of_rindStill rfl n, rfl, rfl,
    rfl, rfl, rfl, rfl, rfl, rfl⟩

/-- All of a state but the tile cuts and what goes with their change. -/
def State.besideCuts (s : State) : State := { s with safety := { s.safety with cuts := [], inhSwitch := false }, ev := {} }

theorem State.eq_of_besideCuts {s t : State} (h : t.besideCuts = s.besideCuts) :
    t = { s with safety := { s.safety with cuts := t.safety.cuts, inhSwitch := t.safety.inhSwitch }, ev := t.ev } :=
  calc t
    _ = { t.besideCuts with
          safety := { t.besideCuts.safety with cuts := t.safety.cuts, inhSwitch := t.safety.inhSwitch }, ev := t.ev } := rfl
    _ = { s with safety := { s.safety with cuts := t.safety.cuts, inhSwitch := t.safety.inhSwitch }, ev := t.ev } := by rw [h]; rfl

/-- The judgement of the shorted switches writes no cut. -/
theorem State.checkInh_cases (s : State) :
    s.checkInh.safety.cuts = s.safety.cuts ∧ s.checkInh.besideCuts = s.besideCuts := by
  unfold State.checkInh State.cond
  dsimp only
  split <;> exact ⟨rfl, rfl⟩

/-- A change of one reason of a tile's cut: the reasons of that tile, and nothing else than goes with it. -/
theorem State.setCut_cases (s : State) (n row : Nat) (on : Bool) :
    (s.setCut n row on).safety.cuts =
        (if setBit (s.safety.cuts.get 0 n) row on = s.safety.cuts.get 0 n then s.safety.cuts
        else s.safety.cuts.set 0 n (setBit (s.safety.cuts.get 0 n) row on)) ∧
      (s.setCut n row on).besideCuts = s.besideCuts := by
  unfold State.setCut
  dsimp only
  split
  · exact ⟨rfl, rfl⟩
  · obtain ⟨cuts, rest⟩ := State.checkInh_cases (({ s with safety := { s.safety with
        cuts := s.safety.cuts.set 0 n (setBit (s.safety.cuts.get 0 n) row on) } } : State).cond
      (decide ((s.safety.cuts.get 0 n = 0) ≠ (setBit (s.safety.cuts.get 0 n) row on = 0)))
      fun x => x.raise 0x0807 [(1, n), (1, b2n on), (1, row)])
    rw [cuts, rest]
    unfold State.cond
    split <;> exact ⟨rfl, rfl⟩

theorem setBit_dark_ne_zero {w : Nat} (v : BitVec (w + 1)) : setBit v kDark true ≠ 0 := fun zero => by
  have set : (setBit v kDark true).getLsbD kDark = true := getLsbD_setBit_same v (Nat.succ_pos w) true
  simp [zero] at set

/-- A tile cut for DARK is cut, whatever else the state holds. -/
theorem State.cuts_setCut_same (s : State) (n : Nat) : (s.setCut n kDark true).safety.cuts.get 0 n ≠ 0 := by
  rw [(s.setCut_cases n kDark true).1]
  split
  next same => exact same ▸ setBit_dark_ne_zero _
  next =>
    have set := Sparse.get_modify_listed 0 s.safety.cuts (k := n) (f := fun old => setBit old kDark true) (setBit_dark_ne_zero _)
    exact fun zero => setBit_dark_ne_zero _ (set.symm.trans zero)

theorem State.cuts_setCut_other (s : State) {m n : Nat} (row : Nat) (on : Bool) (h : m ≠ n) :
    (s.setCut n row on).safety.cuts.get 0 m = s.safety.cuts.get 0 m := by
  rw [(s.setCut_cases n row on).1]
  split
  · rfl
  · exact Sparse.get_modify_other (f := fun old => setBit old row on) 0 s.safety.cuts h

/-- Every tile cut for DARK. -/
def State.cutAll (s : State) : State := s.forEach (List.range 64) fun v i => v.setCut i kDark true

theorem State.cutAll_cases (s : State) :
    (∀ n < 64, s.cutAll.isCut n = true) ∧ s.cutAll.besideCuts = s.besideCuts := by
  refine ⟨fun n inRange => ?_, State.forEach_leaves (g := State.besideCuts) (fun u i => (u.setCut_cases i kDark true).2) _ _⟩
  unfold State.cutAll
  exact State.isCut_of_reason <|
    State.forEach_reaches (f := fun v i => v.setCut i kDark true) (I := fun _ => True) (P := fun u => u.safety.cuts.get 0 n ≠ 0)
      (fun _ _ h => h) (fun u _ => u.cuts_setCut_same n)
      (fun u i other cut => (u.cuts_setCut_other kDark true other.symm).symm ▸ cut) (List.mem_range.mpr inRange) trivial

/-! ### From VLOG to SELECT -/

/-- The state of the Rind's first moment, before its cut lines fall (R299, R319). -/
def State.rindAwake (s : State) : State :=
  let t := s.initLimiters romSafety []
  { t with
    start := { t.start with state := .fuseRead, at3 := 0 }
    clk := { t.clk with safe := true, tb3 := 0 }
    zones := { t.zones with active := t.zones.work, pending := none }
    safety := { t.safety with held := BitVec.allOnes 64, paint := .dark } }

theorem exec_safePllLocked {s : State} (vlog : s.start.vlog = true) (on : s.start.state = .powerOn)
    (runs : s.safety.oscStopped = false) : exec .safePllLocked s = .next s.rindAwake.cutAll :=
  if_neg (by simp [vlog, on, runs])

/-- The event of a failed fuse row does not read what the start has noted of it. -/
theorem exec_fuseReadDone {s : State} (read : s.start.state = .fuseRead) (bad : Bool) :
    exec (.fuseReadDone bad) s = .next { s with
      start := { s.start with fuseBad := bad, state := .select }
      power := { s.power with pd3 := true, pd4 := true, pd5 := true, pd10 := true }
      ev := if bad then (s.raise 0x0B08 []).ev else s.ev } := by
  have run : exec (.fuseReadDone bad) s =
      .next ((({ s with start := { s.start with fuseBad := bad } } : State).cond bad fun v => v.raise 0x0B08 []).toSelect) :=
    if_pos read
  rw [run]
  cases bad <;> rfl

/-- The crystal's first moment. -/
def State.crystalOn (s : State) : State :=
  { s with
    clk := { s.clk with crystal := true, tb0 := 0, tb1 := 0, epoch := 0 }
    sp := { s.sp with running := true, lastServ := s.clk.tb3 }
    svc := { s.svc with state := if s.svc.lockRec then .lockout else .locked }
    start := { s.start with inhTold := true } }

theorem exec_crystalPllLocked {s : State} (select : s.start.state = .select) (first : s.clk.crystal = false) :
    exec .crystalPllLocked s = .next (s.crystalOn.cond (!s.start.inhTold) fun v => v.raise 0x0808 [(1, 2)]) :=
  if_neg (by simp [select, first])

/-- Settles O2: each command's next state is its effect; the loop over the cut lines by what one cut keeps. -/
theorem powerOnLeadsToSelect : Obligations.PowerOnLeadsToSelect := by
  refine ⟨fun s off => ?vlog, fun s vlog on runs => ?safe, fun bad s read => ⟨_, exec_fuseReadDone read bad, rfl, rfl, rfl, rfl⟩,
    fun s select first => ⟨_, exec_crystalPllLocked select first, ?crystal⟩⟩
  case vlog => simp [exec, execVlogValid, off]
  case safe =>
    obtain ⟨cut, rest⟩ := s.rindAwake.cutAll_cases
    have frame := State.eq_of_besideCuts rest
    refine ⟨_, exec_safePllLocked vlog on runs, ?_⟩
    generalize s.rindAwake.cutAll = t at cut frame
    rw [frame] at cut ⊢
    exact ⟨rfl, rfl, cut, rfl, rfl, rfl, rfl, rfl⟩
  case crystal =>
    cases s.start.inhTold <;> exact ⟨rfl, rfl, rfl, rfl⟩

end Sys2Proof.Machine
end

section
/-!
PROOFS. The module flash (02 R41, 13 R368, R369): what its bytes read after a program and an erase, and what its commands do.
-/
namespace Sys2Proof.Machine

/-! ### Bytes of a canonical map -/

/-- The values from a key on, of a map whose keys begin there. -/
theorem spanFrom_eq_map_get (d : Byte) (k n : Nat) (m : Sparse Byte) (rising : m.Pairwise fun a b => a.1 < b.1)
    (begins : ∀ e ∈ m, k ≤ e.1) : spanFrom d k n m = (List.range n).map fun i => Sparse.get d m (k + i) := by
  induction n generalizing k m with
  | zero => cases m <;> rfl
  | succ n ih =>
    rw [List.range_succ_eq_map, List.map_cons, List.map_map]
    have shift : ((fun i => Sparse.get d m (k + i)) ∘ Nat.succ) = fun i => Sparse.get d m (k + 1 + i) := by
      funext i
      exact congrArg (Sparse.get d m) (by omega)
    rw [shift]
    cases m with
    | nil => exact congrArg (d :: ·) (ih (k + 1) [] .nil fun _ h => absurd h List.not_mem_nil)
    | cons e m =>
      obtain ⟨i, v⟩ := e
      obtain ⟨after, rest⟩ := List.pairwise_cons.mp rising
      by_cases here : i = k
      · subst here
        have tail : (fun j => Sparse.get d ((i, v) :: m) (i + 1 + j)) = fun j => Sparse.get d m (i + 1 + j) := by
          funext j
          exact if_neg (by omega)
        rw [tail, spanFrom, if_pos rfl, ih (i + 1) m rest after]
        exact congrArg (· :: _) (if_pos rfl).symm
      · have above : ∀ x ∈ (i, v) :: m, k + 1 ≤ x.1 := fun x mem => by
          rcases List.mem_cons.mp mem with rfl | mem
          · exact Nat.lt_of_le_of_ne (begins _ (List.mem_cons_self ..)) (Ne.symm here)
          · exact Nat.lt_of_le_of_lt (begins _ (List.mem_cons_self ..)) (after x mem)
        rw [spanFrom, if_neg here, ih (k + 1) _ rising above]
        exact congrArg (· :: _) (Sparse.get_lt d _ (k + 0) above).symm

theorem sparseSpan_eq_map_get {d : Byte} {m : Sparse Byte} (wf : Sparse.wf d m = true) (k n : Nat) :
    sparseSpan d k n m = (List.range n).map fun i => Sparse.get d m (k + i) := by
  obtain ⟨rising, -⟩ := (Sparse.wf_iff d m).mp wf
  rw [sparseSpan, spanFrom_eq_map_get d k n _ (rising.sublist (List.dropWhile_sublist _)) (Sparse.dropWhile_lt m k rising)]
  exact List.map_congr_left fun i _ => Sparse.get_dropWhile d m k (k + i) (Nat.le_add_right k i)

/-- The bytes of a block by their addresses. -/
theorem find_mapIdx_block (a j : Nat) (bs : List Byte) :
    (bs.mapIdx fun i b => (a + i, b)).find? (fun e => e.1 = j) =
      if a ≤ j ∧ j < a + bs.length then some (j, bs.getD (j - a) 0) else none := by
  induction bs generalizing a with
  | nil => exact (if_neg (by simp)).symm
  | cons b bs ih =>
    have shift : (bs.mapIdx fun i b => (a + (i + 1), b)) = bs.mapIdx fun i b => (a + 1 + i, b) := by
      congr 1
      funext i b
      rw [Nat.add_assoc, Nat.add_comm 1 i]
    rw [List.mapIdx_cons, shift, List.find?_cons, ih]
    by_cases here : j = a
    · subst here
      simp
    · rw [decide_eq_false (p := a + 0 = j) (by omega)]
      by_cases inside : a + 1 ≤ j ∧ j < a + 1 + bs.length
      · rw [if_pos inside, if_pos (by simp; omega), show j - a = j - (a + 1) + 1 by omega, List.getD_cons_succ]
      · rw [if_neg inside, if_neg (by simp; omega)]

/-- A block of bytes put into a canonical map: its addresses read the block, every other as before. -/
theorem Sparse.get_merge_block {d : Byte} {m : Sparse Byte} (wf : Sparse.wf d m = true) (a j : Nat) (bs : List Byte) :
    (Sparse.merge d (bs.mapIdx fun i b => (a + i, b)) m).get d j =
      if a ≤ j ∧ j < a + bs.length then bs.getD (j - a) 0 else m.get d j := by
  rw [Sparse.get_merge d _ m j (pairwise_mapIdx a bs fun _ b => b) ((Sparse.wf_iff d m).mp wf).1, find_mapIdx_block]
  by_cases inside : a ≤ j ∧ j < a + bs.length
  · rw [if_pos inside, if_pos inside]
  · rw [if_neg inside, if_neg inside]

/-- What a filter leaves of a map reads as before where it lets the key pass, and as the default elsewhere. -/
theorem Sparse.get_filter_key {α : Type} (d : α) (m : Sparse α) (keep : Nat → Bool) (j : Nat) :
    Sparse.get d (m.filter fun c => keep c.1) j = if keep j then m.get d j else d := by
  induction m with
  | nil => exact (ite_self d).symm
  | cons e m ih =>
    obtain ⟨i, v⟩ := e
    rw [List.filter_cons]
    by_cases kept : keep i = true
    · rw [if_pos kept]
      by_cases here : i = j
      · simp [Sparse.get, here ▸ kept, here]
      · simp only [Sparse.get, if_neg here, ih]
    · rw [if_neg kept, ih]
      by_cases here : i = j
      · simp [← here, kept]
      · simp only [Sparse.get, if_neg here]

/-! ### Bytes of the flash -/

theorem Flash.byte_record (f : Flash) {a : Nat} (record : 0x1800000 ≤ a) : f.byte a = f.recs.get 0xFF a := by
  rw [Flash.byte, if_neg (by omega), if_neg (by omega)]

/-- Below the record regions the bytes are the slots'. -/
theorem Flash.byte_slots {f g : Flash} (slotA : g.slotA = f.slotA) (slotB : g.slotB = f.slotB) {j : Nat} (low : j < 0x1800000) :
    g.byte j = f.byte j := by
  simp only [Flash.byte, slotA, slotB, if_pos low]

/-- A span of the flash reads byte by byte, whether it is kept as a map or not. -/
theorem Flash.bytes_eq_map_byte {f : Flash} (wf : Sparse.wf 0xFF f.recs = true) (a n : Nat) :
    f.bytes a n = (List.range n).map fun i => f.byte (a + i) := by
  unfold Flash.bytes
  split
  next record =>
    rw [sparseSpan_eq_map_get wf]
    exact List.map_congr_left fun i _ => (f.byte_record (by omega)).symm
  next => rfl

/-- Bytes put into a record region: they read there, and every other byte of the flash as before. -/
theorem Flash.byte_put_record {f : Flash} (wf : Sparse.wf 0xFF f.recs = true) {a : Nat} (record : 0x1800000 ≤ a) (bs : List Byte)
    (j : Nat) : (f.put a bs).byte j = if a ≤ j ∧ j < a + bs.length then bs.getD (j - a) 0 else f.byte j := by
  have put : f.put a bs = { f with recs := Sparse.merge 0xFF (bs.mapIdx fun i b => (a + i, b)) f.recs } := by
    unfold Flash.put
    rw [if_neg (by omega), if_neg (by omega)]
  rw [put]
  by_cases low : j < 0x1800000
  · rw [if_neg (by omega)]
    exact Flash.byte_slots (f := f) (by rfl) (by rfl) low
  · rw [Flash.byte_record _ (Nat.le_of_not_lt low), f.byte_record (Nat.le_of_not_lt low)]
    exact Sparse.get_merge_block wf a j bs

/-- On erased bytes a program leaves what it programs. -/
theorem mapIdx_programmed_erased (draw : Nat) (bs : List Byte) :
    ((List.replicate bs.length 0xFF).zip bs).mapIdx (fun i p => programmed draw i p.1 p.2) = bs := by
  apply List.ext_getElem
  · simp
  · intro i h _
    simp [programmed]

/-- A program of erased flash (R369): the bytes are put, and nothing is drawn. -/
theorem State.flashProgram_erased {s : State} (wf : Sparse.wf 0xFF s.flash.recs = true) {a : Nat} {bs : List Byte}
    (erased : ∀ i, i < bs.length → s.flash.byte (a + i) = 0xFF) :
    s.flashProgram a bs = { s with flash := s.flash.put a bs } := by
  have old : s.flash.bytes a bs.length = List.replicate bs.length 0xFF := by
    rw [Flash.bytes_eq_map_byte wf]
    refine List.eq_replicate_iff.mpr ⟨by simp, fun b mem => ?_⟩
    obtain ⟨i, inside, rfl⟩ := List.mem_map.mp mem
    exact erased i (List.mem_range.mp inside)
  unfold State.flashProgram
  dsimp only
  rw [old, mapIdx_programmed_erased, if_pos (by simp)]

/-- The flash after a sector's erase. -/
def Flash.erased (f : Flash) (a : Nat) : Flash :=
  let g : Flash :=
    if a < 0xC00000 then { f with slotA := f.slotA.eraseSector (a / 4096) }
    else if a < 0x1800000 then { f with slotB := f.slotB.eraseSector (a / 4096 - 3072) }
    else { f with recs := f.recs.filter fun c => c.1 / 4096 ≠ a / 4096 }
  { g with erases := f.erases.set 0 (a / 4096) (f.erases.get 0 (a / 4096) + 1) }

/-- An erase changes the flash, and the wear that it may report. -/
theorem State.flashErase_frame (s : State) (a : Nat) :
    (s.flashErase a).flash = s.flash.erased a ∧
      s.flashErase a = { s with
        flash := (s.flashErase a).flash, affin := (s.flashErase a).affin, ev := (s.flashErase a).ev } := by
  unfold State.flashErase
  dsimp only
  split <;> exact ⟨rfl, rfl⟩

/-- A record sector that is erased reads 0xFF, every byte of another sector as before. -/
theorem Flash.byte_erased_record (f : Flash) {a : Nat} (record : 0x1800000 ≤ a) (j : Nat) :
    (f.erased a).byte j = if j / 4096 = a / 4096 then 0xFF else f.byte j := by
  have erased : f.erased a = { f with
      recs := f.recs.filter fun c => c.1 / 4096 ≠ a / 4096
      erases := f.erases.set 0 (a / 4096) (f.erases.get 0 (a / 4096) + 1) } := by
    unfold Flash.erased
    rw [if_neg (by omega), if_neg (by omega)]
  rw [erased]
  by_cases low : j < 0x1800000
  · rw [if_neg (by omega)]
    exact Flash.byte_slots (f := f) (by rfl) (by rfl) low
  · rw [Flash.byte_record _ (Nat.le_of_not_lt low), f.byte_record (Nat.le_of_not_lt low)]
    have filtered := Sparse.get_filter_key 0xFF f.recs (fun k => decide (k / 4096 ≠ a / 4096)) j
    refine filtered.trans ?_
    by_cases sector : j / 4096 = a / 4096 <;> simp [sector]

/-! ### Budgets and what the flash's operations leave (R368, R369) -/

/-- All of a state but what the flash, its budgets and their reports write. -/
def State.besideFlash (s : State) : State := { s with flash := {}, nvm := {}, affin := {}, ev := {}, free := 0 }

theorem State.besideFlash_flashErase (s : State) (a : Nat) : (s.flashErase a).besideFlash = s.besideFlash :=
  (congrArg State.besideFlash (s.flashErase_frame a).2 :)

theorem State.besideFlash_flashProgram (s : State) (a : Nat) (bs : List Byte) : (s.flashProgram a bs).besideFlash = s.besideFlash := by
  unfold State.flashProgram
  dsimp only
  split <;> rfl

theorem State.besideFlash_writeCopy (s : State) (a seq magic : Nat) (body : List Byte) :
    (s.writeCopy a seq magic body).besideFlash = s.besideFlash :=
  (State.besideFlash_flashProgram ..).trans <| (State.besideFlash_flashProgram ..).trans <|
    State.forEach_leaves (g := State.besideFlash) (f := fun t i => t.flashErase (a + 4096 * i))
      (fun u i => u.besideFlash_flashErase (a + 4096 * i)) s _

/-- A command's price changes the budgets alone. -/
theorem State.payCmd_setNvm (s : State) (c : FlashCmd) : ∃ v, s.payCmd c = s.setNvm v := by
  unfold State.payCmd
  split
  · exact ⟨s.nvm, rfl⟩
  split
  · exact ⟨_, rfl⟩
  split
  · exact ⟨_, rfl⟩
  · exact ⟨_, rfl⟩

/-- A rated event changes the event memory alone. -/
theorem State.raiseRatedN_ev (s : State) (code key n : Nat) (data : List (Nat × Nat)) :
    ∃ e, s.raiseRatedN code key n data = { s with ev := e } := by
  unfold State.raiseRatedN
  dsimp only
  split
  · exact ⟨_, rfl⟩
  · exact ⟨_, rfl⟩

/-- A refusal for want of budget changes the budgets and what is reported. -/
theorem State.nvmRefused_writes (s : State) (bytes : Nat) : ∃ v e, s.nvmRefill.nvmRefused bytes = { s with nvm := v, ev := e } := by
  obtain ⟨v, refilled⟩ : ∃ v, s.nvmRefill = s.setNvm v := ⟨_, rfl⟩
  rw [refilled]
  obtain ⟨e, raised⟩ := State.raiseRatedN_ev
    ((s.setNvm v).setNvm { v with refused := sat16 (v.refused + 1) }) 0x0C04 0 bytes []
  exact ⟨_, e, raised⟩

theorem State.besideFlash_setNvm (s : State) (v : Nvm) : (s.setNvm v).besideFlash = s.besideFlash := rfl

theorem State.besideFlash_payErase (s : State) (n : Nat) : (s.payErase n).besideFlash = s.besideFlash := s.besideFlash_setNvm _
theorem State.besideFlash_payProg (s : State) (n : Nat) : (s.payProg n).besideFlash = s.besideFlash := s.besideFlash_setNvm _

/-- A copy that is saved writes the flash, the budgets and what they report. -/
theorem State.besideFlash_saveCopy (s : State) (magic : Nat) (as : List Nat) (body : List Byte) :
    (s.saveCopy magic as body).besideFlash = s.besideFlash := by
  unfold State.saveCopy
  dsimp only
  split
  · rw [State.besideFlash_writeCopy, State.besideFlash_payProg, State.besideFlash_payErase]
  · obtain ⟨v, e, refused⟩ := s.nvmRefused_writes (body.length + 64)
    rw [refused]
    rfl

/-! ### The queue of commands (R368) -/

/-- The first waiting command of the highest priority. -/
theorem nextFlash_priority {l m : List FlashJob} {d : FlashJob} (low : 1 ≤ d.cmd.writer) (high : d.cmd.writer ≤ 3)
    (before : ∀ x ∈ l, d.cmd.writer < x.cmd.writer) (after : ∀ x ∈ m, d.cmd.writer ≤ x.cmd.writer) :
    nextFlash (l ++ d :: m) = some l.length := by
  have none_of_lower : ∀ w < d.cmd.writer, (l ++ d :: m).findIdx? (fun j => j.cmd.writer = w) = none := fun w lower =>
    List.findIdx?_eq_none_iff.mpr fun x mem => by
      rcases List.mem_append.mp mem with mem | mem
      · exact decide_eq_false (Nat.ne_of_gt (Nat.lt_trans lower (before x mem)))
      rcases List.mem_cons.mp mem with rfl | mem
      · exact decide_eq_false (Nat.ne_of_gt lower)
      · exact decide_eq_false (Nat.ne_of_gt (Nat.lt_of_lt_of_le lower (after x mem)))
  have first : (l ++ d :: m).findIdx? (fun j => j.cmd.writer = d.cmd.writer) = some l.length := by
    rw [List.findIdx?_append, List.findIdx?_eq_none_iff.mpr fun x mem => decide_eq_false (Nat.ne_of_gt (before x mem))]
    rw [List.findIdx?_cons, if_pos (decide_eq_true rfl)]
    exact (congrArg some (Nat.zero_add _) :)
  unfold nextFlash
  obtain one | two | three : d.cmd.writer = 1 ∨ d.cmd.writer = 2 ∨ d.cmd.writer = 3 := by omega
  · simp only [one] at first
    simp only [List.findSome?_cons, first]
  · simp only [two] at first none_of_lower
    simp only [List.findSome?_cons, none_of_lower 1 (by decide), first]
  · simp only [three] at first none_of_lower
    simp only [List.findSome?_cons, none_of_lower 1 (by decide), none_of_lower 2 (by decide), first]

/-- The controller takes the first waiting command of the highest priority. -/
theorem Flash.turn_priority {f : Flash} {l m : List FlashJob} {d : FlashJob} (wait : f.wait = l ++ d :: m)
    (low : 1 ≤ d.cmd.writer) (high : d.cmd.writer ≤ 3) (before : ∀ x ∈ l, d.cmd.writer < x.cmd.writer)
    (after : ∀ x ∈ m, d.cmd.writer ≤ x.cmd.writer) : f.turn = { f with cur := some d, wait := l ++ m } := by
  unfold Flash.turn
  rw [wait, nextFlash_priority low high before after]
  simp [List.eraseIdx_append_of_length_le]

theorem Flash.byte_turn (f : Flash) (a : Nat) : f.turn.byte a = f.byte a := by
  obtain ⟨recs, slotA, slotB⟩ := f.turn_bytes
  simp only [Flash.byte, recs, slotA, slotB]

theorem Flash.put_queue (f : Flash) (a : Nat) (bs : List Byte) : (f.put a bs).wait = f.wait := by
  unfold Flash.put
  dsimp only
  split
  · rfl
  · split <;> rfl

theorem Flash.erased_queue (f : Flash) (a : Nat) : (f.erased a).wait = f.wait := by
  unfold Flash.erased
  dsimp only
  split
  · rfl
  · split <;> rfl

/-- What a command does to the flash leaves the waiting commands. -/
theorem State.flashDo_wait (s : State) (c : FlashCmd) : (s.flashDo c).flash.wait = s.flash.wait := by
  unfold State.flashDo
  split
  · rw [(s.flashErase_frame c.addr).1, Flash.erased_queue]
  · unfold State.flashProgram
    dsimp only
    split <;> exact Flash.put_queue ..

theorem exec_flashCommandDone {s : State} {j : FlashJob} (cur : s.flash.cur = some j) :
    exec .flashCommandDone s = .next ((s.flashDo j.cmd).jobDone j) := by
  show execFlashCommandDone s = _
  unfold execFlashCommandDone
  rw [cur]

/-- A command that ends without another sector: the next waiting command is taken. -/
theorem State.jobDone_flash (s : State) {j : FlashJob} (last : j.more = 0) : (s.jobDone j).flash = s.flash.turn := by
  unfold State.jobDone
  rw [if_neg (by omega), State.cond_read State.flash]
  exact ite_self _

theorem State.jobDone_plain (s : State) (c : FlashCmd) : s.jobDone { cmd := c } = { s with flash := s.flash.turn } := rfl

/-! ### Flash commands (R368) -/

theorem exec_flashCommand_refused {s : State} {c : FlashCmd} (outside : s.cmdAllowed c = false) :
    exec (.flashCommand c) s = .next (s.raise 0x0C05 [(1, 1), (4, c.addr)]) :=
  if_pos (by simp [outside])

theorem exec_flashCommand_taken {s : State} {c : FlashCmd} (allowed : s.cmdAllowed c = true) (fits : s.cmdFits c = true) :
    ∃ v, exec (.flashCommand c) s = .next { s with flash := s.flash.take { cmd := c }, nvm := v } := by
  obtain ⟨v, paid⟩ := s.payCmd_setNvm c
  have run : exec (.flashCommand c) s = .next { s.payCmd c with flash := s.flash.take { cmd := c } } :=
    (if_neg (by simp [allowed])).trans (if_pos fits)
  rw [run, paid]
  exact ⟨v, rfl⟩

/-- A command its budget does not allow changes no byte (R369). -/
theorem exec_flashCommand_unpaid {s : State} {c : FlashCmd} (allowed : s.cmdAllowed c = true) (unpaid : s.cmdFits c = false) :
    ∃ v e, exec (.flashCommand c) s = .next { s with nvm := v, ev := e } := by
  have run : exec (.flashCommand c) s =
      .next (s.nvmRefill.cond (c.writer = 3) fun t => t.nvmRefused (if c.erase then 4096 else c.data.length)) :=
    (if_neg (by simp [allowed])).trans (if_neg (by simp [unpaid]))
  obtain ⟨v, e, refused⟩ := s.nvmRefused_writes (if c.erase then 4096 else c.data.length)
  obtain ⟨w, refilled⟩ : ∃ w, s.nvmRefill = s.setNvm w := ⟨_, rfl⟩
  rw [run]
  cases decide (c.writer = 3)
  · rw [refilled]
    exact ⟨w, s.ev, rfl⟩
  · rw [State.cond_true, refused]
    exact ⟨v, e, rfl⟩

/-- An image slot takes commands in an unlocked session only (R41, R79). -/
theorem State.cmdAllowed_locked {s : State} {c : FlashCmd} (image : c.writer = 2) (locked : s.svc.state ≠ .unlocked) :
    s.cmdAllowed c = false := by
  simp [State.cmdAllowed, State.mayWrite, image, locked]

theorem exec_flashCommandDone_program {s : State} {c : FlashCmd} (recs : Sparse.wf 0xFF s.flash.recs = true)
    (cur : s.flash.cur = some { cmd := c }) (program : c.erase = false) (erased : ∀ i, i < c.data.length → s.flash.byte (c.addr + i) = 0xFF) :
    exec .flashCommandDone s = .next { s with flash := (s.flash.put c.addr c.data).turn } := by
  have done : s.flashDo c = { s with flash := s.flash.put c.addr c.data } :=
    (if_neg (by simp [program])).trans (State.flashProgram_erased recs erased)
  rw [exec_flashCommandDone cur, done]
  rfl

theorem exec_flashCommandDone_erase {s : State} {c : FlashCmd} (cur : s.flash.cur = some { cmd := c }) (erase : c.erase = true) :
    ∃ f e, exec .flashCommandDone s = .next { s with flash := (s.flash.erased c.addr).turn, affin := f, ev := e } := by
  have done : s.flashDo c = s.flashErase c.addr := if_pos erase
  obtain ⟨flash, frame⟩ := s.flashErase_frame c.addr
  rw [exec_flashCommandDone cur, done, State.jobDone_plain, flash, frame]
  exact ⟨_, _, rfl⟩

/-- The waiting command of the highest priority follows. -/
theorem exec_flashCommandDone_next {s : State} {c d : FlashJob} {l m : List FlashJob} (cur : s.flash.cur = some c) (last : c.more = 0)
    (wait : s.flash.wait = l ++ d :: m) (low : 1 ≤ d.cmd.writer) (high : d.cmd.writer ≤ 3)
    (before : ∀ x ∈ l, d.cmd.writer < x.cmd.writer) (after : ∀ x ∈ m, d.cmd.writer ≤ x.cmd.writer) :
    ∃ t, exec .flashCommandDone s = .next t ∧ t.flash.cur = some d ∧ t.flash.wait = l ++ m := by
  refine ⟨_, exec_flashCommandDone cur, ?_⟩
  rw [State.jobDone_flash _ last, Flash.turn_priority ((s.flashDo_wait c.cmd).trans wait) low high before after]
  exact ⟨rfl, rfl⟩

/-- An IMAGE_ERASE with sectors left goes on with the next one, before the MP's commands (R79). -/
theorem exec_flashCommandDone_more {s : State} {j : FlashJob} (cur : s.flash.cur = some j) (more : 0 < j.more)
    (wait : ∀ x ∈ s.flash.wait, 2 ≤ x.cmd.writer) (image : j.cmd.writer = 2) :
    ∃ t, exec .flashCommandDone s = .next t ∧ t.flash.wait = s.flash.wait ∧
      t.flash.cur = some { j with cmd := { j.cmd with addr := j.cmd.addr + 4096 }, more := j.more - 1 } := by
  let rest : FlashJob := { j with cmd := { j.cmd with addr := j.cmd.addr + 4096 }, more := j.more - 1 }
  let u := s.flashDo j.cmd
  have next : u.jobDone j = { u with flash := ({ u.flash with wait := rest :: u.flash.wait } : Flash).turn } := if_pos more
  have turn : ({ u.flash with wait := rest :: s.flash.wait } : Flash).turn =
      { u.flash with cur := some rest, wait := s.flash.wait } :=
    Flash.turn_priority (l := []) rfl (show 1 ≤ j.cmd.writer by omega) (show j.cmd.writer ≤ 3 by omega)
      (fun _ mem => absurd mem List.not_mem_nil) fun x mem => image.le.trans (wait x mem)
  refine ⟨_, exec_flashCommandDone cur, ?_⟩
  rw [next, s.flashDo_wait j.cmd, turn]
  exact ⟨rfl, rfl⟩

/-- The end of an image operation is reported (R79). -/
theorem exec_flashCommandDone_op {s : State} {j : FlashJob} (cur : s.flash.cur = some j) (last : j.more = 0) (op : j.op ≠ 0) :
    ∃ t, exec .flashCommandDone s = .next t ∧
      ∃ w : State, t = w.raise 0x0B09 [(2, j.op), (1, if j.cmd.addr < 0xC00000 then 0 else 1), (1, 0)] := by
  refine ⟨_, exec_flashCommandDone cur, { s.flashDo j.cmd with flash := (s.flashDo j.cmd).flash.turn }, ?_⟩
  unfold State.jobDone
  rw [if_neg (by omega), decide_eq_true op]
  rfl

/-! ### The MP's records (R369, R411, R412) -/

theorem State.pay_setNvm (s : State) (n m : Nat) : ∃ v, (s.payErase n).payProg m = s.setNvm v := by
  obtain ⟨v, erased⟩ : ∃ v, s.payErase n = s.setNvm v := ⟨_, rfl⟩
  rw [erased]
  exact ⟨_, rfl⟩

/-- A record that its budget allows is read back from the erased flash it was put into. -/
theorem State.mpWrite_reads {s : State} {a : Nat} {bs : List Byte} (wf : s.MemoryWf) (record : 0x1800000 ≤ a)
    (erases : s.eraseFits 0 = true) (programs : (s.payErase 0).progFits bs.length = true)
    (erased : ∀ i, i < bs.length → s.flash.byte (a + i) = 0xFF) : (s.mpWrite a bs false).flash.bytes a bs.length = bs := by
  obtain ⟨-, recs, slotA, slotB, -⟩ := wf
  obtain ⟨v, paid⟩ := s.pay_setNvm 0 bs.length
  have written : s.mpWrite a bs false = (s.setNvm v).flashProgram a bs := by
    simp [State.mpWrite, b2n, erases, programs, paid]
  have after : (s.mpWrite a bs false).flash = s.flash.put a bs := by
    rw [written, State.flashProgram_erased (s := s.setNvm v) recs erased]
    rfl
  obtain ⟨recsAfter, -⟩ := s.flash.wf_put a bs ⟨recs, slotA, slotB⟩
  rw [after, Flash.bytes_eq_map_byte recsAfter]
  apply List.ext_getElem
  · simp
  · intro i inside _
    have inside : i < bs.length := by simpa using inside
    simp [Flash.byte_put_record recs record, inside]

/-- A record that no erase budget allows changes no byte. -/
theorem State.mpWrite_unpaid {s : State} (a : Nat) (bs : List Byte) (unpaid : s.eraseFits 1 = false) :
    (s.mpWrite a bs true).flash = s.flash := by
  have refused : s.mpWrite a bs true = s.nvmRefill.nvmRefused 4096 := if_pos (by simp [b2n, unpaid])
  obtain ⟨v, e, same⟩ := s.nvmRefused_writes 4096
  rw [refused, same]

theorem exec_startLogWrite_idle {s : State} (idle : s.start.outcome = none ∨ s.start.logged = true) :
    exec .startLogWrite s = .next s :=
  if_pos (by rcases idle with early | logged <;> simp_all)

theorem exec_faultMapSave {s : State} (ready : s.mp.ready = true) (dirty : s.diag.mapDirty = true) (group : s.groupReady 0 = true) :
    exec .faultMapSave s =
      let t := s.saveCopy mapMagic mapCopies s.mapBody
      .next { t with diag := { t.diag with
        mapDirty := !s.budgetAllows (1 + ceilDiv s.mapBody.length 4096) (s.mapBody.length + 64) } } :=
  if_neg (by simp [ready, dirty, group])

theorem exec_faultMapSave_clean {s : State} (clean : s.diag.mapDirty = false) : exec .faultMapSave s = .next s :=
  if_pos (by simp [clean])

/-- A copy that its budgets do not allow changes no byte. -/
theorem State.saveCopy_unpaid {s : State} (magic : Nat) (as : List Nat) {body : List Byte}
    (unpaid : s.budgetAllows (1 + ceilDiv body.length 4096) (body.length + 64) = false) :
    (s.saveCopy magic as body).flash = s.flash := by
  have refused : s.saveCopy magic as body = s.nvmRefill.nvmRefused (body.length + 64) :=
    if_neg (by simpa [State.budgetAllows] using unpaid)
  obtain ⟨v, e, same⟩ := s.nvmRefused_writes (body.length + 64)
  rw [refused, same]

/-- Settles O47: a lemma for each of a command's and a record's outcomes, over what the flash reads after a program, an erase and
a turn of its queue. -/
theorem flashCommandsAndRecords : Obligations.FlashCommandsAndRecords := by
  refine ⟨fun _ _ => exec_flashCommand_refused, fun s c allowed fits => ?taken, fun s c allowed unpaid => ?unpaid,
    fun _ _ => State.cmdAllowed_locked, fun s c wf cur record => ⟨fun program erased => ?program, fun erase => ?erase⟩,
    fun _ _ _ _ _ => exec_flashCommandDone_next, fun _ _ => exec_flashCommandDone_more, fun _ _ => exec_flashCommandDone_op,
    fun s a bs wf record => ⟨State.mpWrite_reads wf record, State.mpWrite_unpaid a bs⟩,
    fun s outcome first => if_neg (by simp [Option.isSome_iff_ne_none.mp outcome, first]), fun _ => exec_startLogWrite_idle,
    fun s ready dirty group => ?map,
    fun _ => exec_faultMapSave_clean, fun s ready => ⟨fun empty => ?histEmpty, fun p a last free => ?histNext⟩⟩
  case taken =>
    obtain ⟨v, run⟩ := exec_flashCommand_taken allowed fits
    refine ⟨fun idle => ⟨_, run, ?_, rfl⟩, fun busy => ⟨_, run, ?_, rfl⟩⟩
    · exact if_pos (by simp [idle])
    · exact if_neg (by simpa using busy)
  case unpaid =>
    obtain ⟨v, e, run⟩ := exec_flashCommand_unpaid allowed unpaid
    exact ⟨_, run, rfl, rfl⟩
  case program =>
    obtain ⟨-, recs, -⟩ := wf
    refine ⟨_, exec_flashCommandDone_program recs cur program erased, fun i inside => ?_, fun a outside => ?_, rfl⟩
    · rw [Flash.byte_turn, Flash.byte_put_record recs record, if_pos (by omega), Nat.add_sub_cancel_left]
    · rw [Flash.byte_turn, Flash.byte_put_record recs record, if_neg (by omega)]
  case erase =>
    obtain ⟨f, e, run⟩ := exec_flashCommandDone_erase cur erase
    refine ⟨_, run, fun a sector => ?_, fun a other => ?_, rfl⟩
    · rw [Flash.byte_turn, Flash.byte_erased_record _ record, if_pos sector]
    · rw [Flash.byte_turn, Flash.byte_erased_record _ record, if_neg other]
  case map =>
    have diag : (s.saveCopy mapMagic mapCopies s.mapBody).diag = s.diag :=
      (congrArg State.diag (s.besideFlash_saveCopy mapMagic mapCopies s.mapBody) :)
    refine ⟨fun paid => ⟨_, exec_faultMapSave ready dirty group, ?_, rfl⟩,
      fun unpaid => ⟨_, exec_faultMapSave ready dirty group, ?_, State.saveCopy_unpaid _ _ unpaid⟩⟩
    · rw [paid, diag]
      rfl
    · rw [unpaid, diag]
      exact (congrArg (fun b => { s.diag with mapDirty := b }) dirty.symm :)
  case histEmpty =>
    show execTelemetryHistory s = _
    rw [execTelemetryHistory, if_neg (by simp [ready]), empty]
  case histNext =>
    show execTelemetryHistory s = _
    rw [execTelemetryHistory, if_neg (by simp [ready]), last]
    simp only [free]

end Sys2Proof.Machine
end

section
/-!
PROOFS. The hardware reset and the start after it (02 R73 to R75, 11 R330; O6).
-/
namespace Sys2Proof.Machine

/-! ### NRESET low -/

@[simp] theorem State.besidePaint_sendCeil (s : State) (n x : Nat) : (s.sendCeil n x).besidePaint = s.besidePaint := rfl

@[simp] theorem State.besidePaint_keepCeils (s : State) : s.keepCeils.besidePaint = s.besidePaint :=
  State.besidePaint_forEach _ _ fun _ _ => State.besidePaint_sendCeil ..

/-- Of the zones a change of the effective state leaves the active clamp set. -/
theorem State.changeState_active (s : State) (n : SafeState) : (s.changeState n).zones.active = s.zones.active := by
  by_cases same : s.safety.state = n
  · have stays : s.changeState n = s := if_pos same
    rw [stays]
  · exact (congrArg (·.zones.active) (State.changeState_entered same) :)

/-- A flash command that a reset finishes writes the flash alone (R73). -/
theorem State.besideFlash_finishFlash (s : State) : s.finishFlash.besideFlash = s.besideFlash := by
  unfold State.finishFlash
  split
  next => rfl
  next j _ =>
    unfold State.flashDo
    split
    · exact s.besideFlash_flashErase j.cmd.addr
    · exact s.besideFlash_flashProgram j.cmd.addr j.cmd.data

/-- The block in reset, before the Rind paints for it. -/
def State.heldInReset (s : State) : State :=
  (s.finishFlash.resetCore.cond (s.svc.state = .unlocked) fun v => v.raise 0x0C06 [(1, 0), (1, s.svc.path)]).keepCeils

/-- The Rind in the off class that LBREQ asks for. -/
def State.paintOff (s : State) : State := if s.safety.state = s.offState then s.repaint else s.changeState s.offState

theorem State.paintOff_cases (s : State) :
    s.paintOff.safety.state = s.offState ∧ s.paintOff.zones.active = s.zones.active ∧ s.paintOff.besideChange = s.besideChange := by
  unfold State.paintOff
  split
  next off =>
    have painted := s.besidePaint_repaint
    exact ⟨(congrArg (·.safety.state) painted).trans off, (congrArg (·.zones.active) painted :),
      State.besideChange_of_besidePaint painted⟩
  next =>
    obtain ⟨state, rest⟩ := s.changeState_cases s.offState
    exact ⟨state, s.changeState_active _, rest⟩

theorem State.heldInReset_besidePaint (s : State) : s.heldInReset.besidePaint = s.finishFlash.resetCore.besidePaint :=
  (State.besidePaint_keepCeils _).trans (State.besidePaint_cond _ _ fun _ => rfl)

theorem exec_nresetLow {s : State} (resettable : s.start.state.resettable = true) (runs : s.rindRuns = true) :
    exec .nresetLow s = .next s.heldInReset.paintOff :=
  if_neg (by simp [resettable, runs])

/-- What a change of the effective state never writes. -/
theorem State.keeps_of_besideChange {s t : State} (h : t.besideChange = s.besideChange) :
    t.start = s.start ∧ t.fuse = s.fuse ∧ t.thermal = s.thermal ∧ t.clk = s.clk ∧ t.mp = s.mp ∧ t.sp = s.sp ∧ t.svc = s.svc ∧
      t.flash = s.flash ∧ t.pending = s.pending ∧ t.safety.romParams = s.safety.romParams ∧ t.safety.copy = s.safety.copy :=
  ⟨(congrArg State.start h :), (congrArg State.fuse h :), (congrArg State.thermal h :), (congrArg State.clk h :),
    (congrArg State.mp h :), (congrArg State.sp h :), (congrArg State.svc h :), (congrArg State.flash h :),
    (congrArg State.pending h :), (congrArg (·.safety.romParams) h :), (congrArg (·.safety.copy) h :)⟩

/-- What the flash's operations never write. -/
theorem State.keeps_of_besideFlash {s t : State} (h : t.besideFlash = s.besideFlash) :
    t.start = s.start ∧ t.fuse = s.fuse ∧ t.thermal = s.thermal ∧ t.clk = s.clk ∧ t.zones = s.zones ∧ t.safety = s.safety ∧
      t.pending = s.pending :=
  ⟨(congrArg State.start h :), (congrArg State.fuse h :), (congrArg State.thermal h :), (congrArg State.clk h :),
    (congrArg State.zones h :), (congrArg State.safety h :), (congrArg State.pending h :)⟩

/-- What NRESET low keeps of the Rind, and what it ends. -/
theorem exec_nresetLow_cases {s : State} (resettable : s.start.state.resettable = true) (runs : s.rindRuns = true) :
    ∃ t, exec .nresetLow s = .next t ∧ t.start.state = .resetHeld ∧ t.start.vlog = s.start.vlog ∧ t.fuse = s.fuse ∧
      t.thermal = s.thermal ∧ t.zones.active = s.zones.active ∧ t.safety.romParams = s.safety.romParams ∧
      t.safety.copy = s.safety.copy ∧ t.safety.state = s.offState ∧ t.clk.tb3 = s.clk.tb3 ∧ t.clk.crystal = false ∧
      t.mp.ready = false ∧ t.sp.running = false ∧ t.svc.state = .locked ∧ t.flash.cur = none ∧ t.pending = s.pending := by
  obtain ⟨state, active, change⟩ := s.heldInReset.paintOff_cases
  have held := s.heldInReset_besidePaint
  obtain ⟨start, fuse, thermal, clk, mp, sp, svc, flash, pending, params, copy⟩ :=
    State.keeps_of_besideChange (change.trans (State.besideChange_of_besidePaint held))
  obtain ⟨startKept, fuseKept, thermalKept, clkKept, zonesKept, safetyKept, pendingKept⟩ := State.keeps_of_besideFlash s.besideFlash_finishFlash
  have offState : s.heldInReset.offState = s.offState :=
    (congrArg State.offState held :).trans (congrArg (fun safety => ({ s with safety } : State).offState) safetyKept :)
  have zones : s.heldInReset.zones.active = s.finishFlash.zones.active := (congrArg (·.zones.active) held :)
  refine ⟨_, exec_nresetLow resettable runs, ?_⟩
  rw [start, fuse, thermal, clk, mp, sp, svc, flash, pending, params, copy, state, active, offState, zones]
  rw [← startKept, ← fuseKept, ← thermalKept, ← clkKept, ← zonesKept, ← safetyKept, ← pendingKept]
  exact ⟨rfl, rfl, rfl, rfl, rfl, rfl, rfl, rfl, rfl, rfl, rfl, rfl, rfl, rfl, rfl⟩

/-! ### NRESET high, and a stuck reset -/

/-- The state with what the Rind held until a start cleared. -/
def State.withoutHeld (s : State) : State :=
  { s with
    safety := { s.safety with
      offLatch := false, firstNormal := false, rindCauses := s.safety.rindCauses &&& ~~~untilStart, crcBad := false
      voteBad := false, disagree := false, clockFault := 0, oscFault := false, recoveries := 0, switchFault := 0
      switchClosed := 0 }
    drive := { s.drive with overcurrent := false }
    policy := { s.policy with tiles := [] } }

/-- Of the clearing of what was held the cuts are judged anew, and nothing else follows it (Table 11.6). -/
theorem State.clearHeld_besideCuts (s : State) : s.clearHeld.besideCuts = s.withoutHeld.besideCuts :=
  (State.checkInh_cases _).2.trans <|
    State.forEach_leaves (g := State.besideCuts) (f := fun v i => (v.setCut i kFill false).setCut i kHeat (v.heatHeld i))
      (fun u i => ((u.setCut i kFill false).setCut_cases i kHeat (u.heatHeld i)).2.trans (u.setCut_cases i kFill false).2) _ _

/-- The start's own record of a released reset: its cause and its time (R75). -/
def State.resetReleased (s : State) : State :=
  { s with start := { s.start with cause := if s.start.stuck then 2 else 1, at3 := s.clk.tb3, stuck := false } }

theorem exec_nresetHigh {s : State} (held : s.start.state = .resetHeld) :
    exec .nresetHigh s = .next s.resetReleased.clearHeld.toSelect :=
  if_neg (by simp [held])

theorem exec_stuckReset {s : State} (held : s.start.state = .resetHeld) (first : s.start.stuck = false) :
    exec .stuckReset s = .next ((({ s with
      start := { s.start with stuck := true }, safety := { s.safety with stuckReset := true } } : State).setFlag
        fStuckReset).raise 0x080E []) :=
  if_neg (by simp [held, first])

/-- Settles O6: NRESET low by what the reset, the painting and a change of the effective state leave, NRESET high by what the
clearing of the held causes leaves. -/
theorem resetKeepsTheRind : Obligations.ResetKeepsTheRind := by
  refine ⟨fun _ => exec_nresetLow_cases, fun s held => ?high, fun _ => exec_stuckReset⟩
  case high =>
    have frame := State.eq_of_besideCuts s.resetReleased.clearHeld_besideCuts
    refine ⟨_, exec_nresetHigh held, ?_⟩
    generalize s.resetReleased.clearHeld = t at frame
    rw [frame]
    exact ⟨rfl, rfl, rfl, rfl, rfl, rfl, rfl, rfl⟩

end Sys2Proof.Machine
end

section
/-!
PROOFS. Legacy frames that are answered and the legacy handshake (02 R77, 14 R378, R380, R381; O52).
-/
namespace Sys2Proof.Machine

/-! ### Link down -/

/-- All of a state but what the loss of port A's link writes; the hold's run and the grid's start stay. -/
def State.besideLink (s : State) : State :=
  { s with
    link := { holdRun := s.link.holdRun }, clk := { gridOn := s.clk.gridOn }, linkB := {}, portB := {}, sync := {}, svc := {}, ev := {} }

theorem State.besideLink_holdPortB (s : State) : s.holdPortB.besideLink = s.besideLink := by
  let empty : State := { s with linkB := { s.linkB with
    wait := [], sent := [], left := [], txSeq := 0, expSeq := 0, rev := 0, replayCount := 0, nakCount := 0
    unacked := 0, nakFor := none, failRun := 0, lcbs := [], replayNext := none, granted := [], credits := [] } }
  obtain ⟨freed, -⟩ := empty.freeForwarded_cases (s.linkB.sent ++ s.linkB.wait)
  exact (congrArg State.besideLink freed :)

theorem State.besideLink_tbGo (s : State) (n : TbState) : (s.tbGo n).besideLink = s.besideLink := by
  unfold State.tbGo
  split <;> rfl

theorem State.besideLink_tbHold (s : State) : s.tbHold.besideLink = s.besideLink := by
  unfold State.tbHold
  split
  · exact State.besideLink_tbGo ..
  · rfl

theorem State.besideLink_cond (s : State) (c : Bool) {f : State → State} (h : ∀ u, (f u).besideLink = u.besideLink) :
    (s.cond c f).besideLink = s.besideLink := by
  cases c
  · rfl
  · exact h s

theorem State.besideLink_splitPair (s : State) : s.splitPair.besideLink = s.besideLink := by
  let t : State := { s with sync := { s.sync with sync := none, req := none, postponed := false } }
  calc s.splitPair.besideLink
    _ = (t.cond s.sync.sync.isSome fun u => u.raise 0x0205 [(1, 5)]).besideLink := State.besideLink_cond _ _ fun _ => rfl
    _ = t.besideLink := State.besideLink_cond _ _ fun _ => rfl
    _ = s.besideLink := rfl

theorem State.besideLink_endSession (s : State) : s.endSession.besideLink = s.besideLink := by
  unfold State.endSession
  split <;> rfl

/-- A link that is lost, before what follows its loss. -/
def State.unlinked (s : State) : State :=
  { s with
    link := { s.link with replay := [], replayCount := 0, nakCount := 0, lcbs := [], unacked := 0, nakFor := none,
                          rev := 0, offered := 0, holdRun := true, starved := [], replayNext := none } }

theorem State.besideLink_linkLost (s : State) : s.linkLost.besideLink = s.unlinked.besideLink :=
  (State.besideLink_cond _ _ State.besideLink_endSession).trans <| (State.besideLink_splitPair _).trans <|
    (State.besideLink_tbHold _).trans s.unlinked.besideLink_holdPortB

/-- The loss of the link starts the hold and leaves port A, the legacy registers and the Rind (R100). -/
theorem State.linkLost_cases (s : State) :
    s.linkLost.link.holdRun = true ∧ s.linkLost.portA = s.portA ∧ s.linkLost.leg = s.leg ∧ s.linkLost.safety = s.safety := by
  have lost := s.besideLink_linkLost
  exact ⟨(congrArg (·.link.holdRun) lost :), (congrArg State.portA lost :), (congrArg State.leg lost :),
    (congrArg State.safety lost :)⟩

/-- Raising an event takes the next number of an event. -/
theorem State.raise_next (s : State) (code : Nat) (d : List (Nat × Nat)) : (s.raise code d).ev.next = s.ev.next + 1 := by
  unfold State.raise
  dsimp only
  split <;> rfl

theorem State.linkDown_cases (s : State) (cause : Nat) :
    (s.linkDown cause).portA.st = .detect ∧ (s.linkDown cause).link.holdRun = true ∧ (s.linkDown cause).leg = s.leg ∧
      (s.linkDown cause).safety = s.safety ∧ (s.linkDown cause).ev.next = s.linkLost.ev.next + 1 := by
  obtain ⟨hold, -, leg, safety⟩ := s.linkLost_cases
  exact ⟨rfl, hold, leg, safety, State.raise_next ..⟩

/-! ### Replies -/

/-- A reply is sent on port A's line, and the log of replies holds it (R380). -/
theorem State.sendT512_cases (s : State) (r : T512Reply) :
    (s.sendT512 r).leg = { s.leg with replies := s.leg.replies ++ [r] } ∧ s.sentT512 (s.sendT512 r) r ∧
      s.sendT512 r = { s with leg := (s.sendT512 r).leg, portA := (s.sendT512 r).portA } := by
  refine ⟨rfl, ⟨rfl, fun slow => ?_⟩, rfl⟩
  show (if s.portA.gen = 1 then { s.portA.line with blocks := [], chars := _ } else _ : Line).chars = _
  rw [if_pos slow]

/-- A frame that the block takes at once, judged after the run of failing frames has ended (R381). -/
theorem State.frameIn_takes {s : State} (i : Instr) {type : Nat} {f : T512Frame} (up : s.legacyUp = true)
    (ready : s.mp.ready = true) (idle : s.link.waiting = []) (room : f.payload.length ≤ 360448) (notLines : type ≠ 3) :
    s.frameIn i type f = ({ s with leg := { s.leg with badRun := 0 } } : State).takeFrame type f (s.capture 0) := by
  let t : State := { s with leg := { s.leg with badRun := 0 } }
  have fits : s.frameBytes + stageBytes f.payload.length ≤ 360448 := by
    simp only [State.frameBytes, idle, stageBytes, ceilDiv]
    simp
    omega
  have atOnce : t.mustWait (t.frameWait type f) = false := by
    simp [State.mustWait, State.stays, State.frameWait, State.spConsumes, State.storeBlocked, bankTouched, t, idle, ready, notLines]
  exact (if_neg (by simp [up])).trans ((if_neg (by omega)).trans (if_neg (by simp [t, atOnce])))

/-- A new frame is judged by its TYPE; its SEQ is the last accepted one. -/
def State.frameAccepted (s : State) (f : T512Frame) : State := { s with leg := { s.leg with badRun := 0, lastSeq := some f.seq } }

theorem State.takeFrame_new {s : State} (type : Nat) {f : T512Frame} (a : Stamp) (new : s.leg.lastSeq ≠ some f.seq) :
    ({ s with leg := { s.leg with badRun := 0 } } : State).takeFrame type f a =
      if type = 1 then (s.frameAccepted f).takeRegWrite f a
      else if type = 2 then (s.frameAccepted f).takeRegRead f
      else if type = 3 then (s.frameAccepted f).takeLines f a
      else if type = 4 then (s.frameAccepted f).takeShowFrame f a
      else if type = 5 then (s.frameAccepted f).takeLegEcho f
      else (s.frameAccepted f).ackT512 type f 1 :=
  if_neg new

theorem State.takeFrame_duplicate {s : State} (type : Nat) {f : T512Frame} (a : Stamp) {r : T512Reply}
    (seen : s.leg.lastSeq = some f.seq) (stored : s.leg.lastReply = some r) :
    ({ s with leg := { s.leg with badRun := 0 } } : State).takeFrame type f a =
      ({ s with leg := { s.leg with badRun := 0 } } : State).sendT512 r := by
  unfold State.takeFrame
  rw [if_pos seen]
  dsimp only
  rw [stored]

theorem State.repliedT512_answer (s : State) (f : T512Frame) (r : T512Reply) :
    s.repliedT512 ((s.frameAccepted f).answerT512 r) f r := by
  obtain ⟨-, sent, -⟩ := State.sendT512_cases { s.frameAccepted f with leg := { (s.frameAccepted f).leg with lastReply := some r } } r
  exact ⟨rfl, rfl, rfl, rfl, sent⟩

/-- A rated event does not read the legacy registers or port A. -/
theorem State.raiseRated_legacy (s : State) (leg : Legacy) (portA : Port) (code key : Nat) (data : List (Nat × Nat)) :
    ({ s with leg, portA } : State).raiseRated code key data = { s.raiseRated code key data with leg, portA } := by
  unfold State.raiseRated State.raiseRatedN
  dsimp only
  split <;> rfl

/-- A bit of STATUS is set in the legacy personality, and nothing else of the legacy registers changes. -/
theorem State.legStatus_leg (s : State) (bit : Nat) : ∃ leg, s.legStatus bit = { s with leg } ∧
    (s.isLegacy = true → leg.status = setBit s.leg.status bit true) ∧ leg.replies = s.leg.replies ∧
      leg.errCnt = s.leg.errCnt ∧ leg.badRun = s.leg.badRun ∧ leg.regs = s.leg.regs := by
  unfold State.legStatus
  split
  next => exact ⟨_, rfl, fun _ => rfl, rfl, rfl, rfl, rfl⟩
  next native => exact ⟨s.leg, rfl, fun legacy => absurd legacy native, rfl, rfl, rfl, rfl⟩

/-- A failing frame (R381): the NAK names the last accepted SEQ, the frame is counted, and the fifth in a row is link down. -/
theorem State.nakFrame_cases {s : State} (noRoom : Bool) {q : BitVec 8} (last : s.leg.lastSeq = some q) :
    ∃ t, s.nakFrame noRoom = (if 5 ≤ (if noRoom then 0 else s.leg.badRun + 1) then t.linkDown 4 else t) ∧
      t.leg.replies = s.leg.replies ++ [{ type := 0x83, seq := q }] ∧
      s.sentT512 t { type := 0x83, seq := q } ∧ t.leg.errCnt = min 255 (s.leg.errCnt + 1) ∧
      t.leg.badRun = (if noRoom then 0 else s.leg.badRun + 1) ∧
      (s.isLegacy = true → t.leg.status = s.leg.status ||| 16) ∧
      t.ev = (s.raiseRated 0x0D04 0 []).ev ∧ t.leg.regs = s.leg.regs ∧ t = { s with leg := t.leg, portA := t.portA, ev := t.ev } := by
  let counted : State := { s with leg := { s.leg with
    badRun := if noRoom then 0 else s.leg.badRun + 1, errCnt := min 255 (s.leg.errCnt + 1) } }
  obtain ⟨leg, status, set, log, errCnt, badRun, regs⟩ := counted.legStatus_leg 4
  let u : State := { s with leg := leg }
  let reply : T512Reply := { type := 0x83, seq := q }
  obtain ⟨replies, sent, frame⟩ := u.sendT512_cases reply
  obtain ⟨e, rated⟩ : ∃ e, s.raiseRated 0x0D04 0 [] = { s with ev := e } := s.raiseRatedN_ev ..
  have nak : s.nakFrame noRoom = (if 5 ≤ (if noRoom then 0 else s.leg.badRun + 1)
      then ((u.sendT512 reply).raiseRated 0x0D04 0 []).linkDown 4 else (u.sendT512 reply).raiseRated 0x0D04 0 []) := by
    have counting : u = counted.legStatus 4 := status.symm
    rw [counting]
    unfold State.nakFrame
    rw [last]
    rfl
  have raised : (u.sendT512 reply).raiseRated 0x0D04 0 [] =
      { s with leg := (u.sendT512 reply).leg, portA := (u.sendT512 reply).portA, ev := e } := by
    rw [frame, State.raiseRated_legacy u, State.raiseRated_legacy s leg s.portA, rated]
  refine ⟨_, nak, ?_⟩
  rw [raised, rated, replies]
  exact ⟨congrArg (· ++ [reply]) log, sent, errCnt, badRun, fun legacy => set legacy, rfl, regs, rfl⟩

/-! ### The handshake (R77, R378) -/

/-- The personality is latched at the first link that is up, by its framing, and then stays (R77). -/
theorem State.latchByFraming_cases (s : State) :
    ∃ pers e, s.latchByFraming = { s with start := { s.start with pers }, ev := e } ∧
      (s.start.pers ≠ .unlatched → pers = s.start.pers) ∧
      (s.start.pers = .unlatched → s.portA.linked = true → pers = if s.portA.framing = 2 then .legacy else .native) := by
  unfold State.latchByFraming
  split
  next latch =>
    simp only [Bool.and_eq_true, decide_eq_true_eq] at latch
    refine ⟨_, _, rfl, fun latched => absurd latch.1 latched, fun _ _ => ?_⟩
    by_cases legacy : s.portA.framing = 2 <;> simp [legacy]
  next stays =>
    refine ⟨s.start.pers, s.ev, rfl, fun _ => rfl, fun unlatched linked => absurd ?_ stays⟩
    simp [unlatched, linked]

theorem State.startPortB_portB (s : State) : ∃ portB, s.startPortB = { s with portB } := by
  unfold State.startPortB
  split
  · exact ⟨_, rfl⟩
  · exact ⟨s.portB, rfl⟩

/-- What a link-up brings to the legacy registers, the link's hold and the personality. -/
theorem State.linkUpNow_cases (s : State) :
    s.linkUpNow.portA.st = .up ∧ s.linkUpNow.leg.lastSeq = none ∧ s.linkUpNow.link.holdRun = false ∧
      (s.isReady = true → s.start.pers = .unlatched → s.portA.framing = 2 → s.linkUpNow.start.pers = .legacy) ∧
      (s.start.pers ≠ .unlatched → s.linkUpNow.start.pers = s.start.pers) := by
  let fresh : State := { s with
    portA := { s.portA with st := .up, backoff := 0, linkUps := sat32 (s.portA.linkUps + 1), txBlock := 5 }
    link := { s.link with
      expSeq := 0, unacked := 0, nakFor := none, failRun := 0, txSeq := 0, replay := [], replayCount := 0,
      nakCount := 0, replayNext := none,
      credits := [], txTotal := [], lcbs := [], starved := [], holdRun := false,
      waiting := s.link.waiting.map fun w => { w with credits := 0, bytes := 0, shared := none } }
    sync := { s.sync with delays := [], firstDue := true, paired := 0, postponed := false,
                          sync := none, req := none }
    leg := { s.leg with lastSeq := none, lastReply := none, badRun := 0, hsRx := 0 }
    diag := { s.diag with fullDue := true, lost := false }
    layers := s.layers.map fun l => { l with run := none, chk := none }
    start := { s.start with mismatch := false } }
  let u := fresh.raise 0x0101 [(1, 0), (1, fresh.portA.gen), (1, fresh.portA.width), (1, fresh.link.rev)]
  have up : s.linkUpNow = u.latchPersonality.startPortB := rfl
  obtain ⟨portB, started⟩ := u.latchPersonality.startPortB_portB
  rw [up, started]
  unfold State.latchPersonality
  split
  next =>
    obtain ⟨pers, e, latched, stays, latch⟩ := u.latchByFraming_cases
    rw [latched]
    refine ⟨rfl, rfl, rfl, fun _ unlatched legacy => ?_, stays⟩
    exact (latch unlatched rfl).trans (if_pos legacy)
  next early => exact ⟨rfl, rfl, rfl, fun ready => absurd ready early, fun _ => rfl⟩

/-- The end of a handshake: the legacy personality is entered where the link has just latched it, and the off latch may fall. -/
theorem exec_hs_up {s : State} {n : Nat} (legacy : s.portA.framing = 2) (exchange : s.portA.st = .exchange)
    (last : 16 ≤ s.leg.hsRx + n) :
    exec (.hs n) s = .next ((s.linkUpNow.cond (s.linkUpNow.isLegacy && !s.isLegacy) State.enterLegacy).legacyRecover) :=
  (if_neg (by simp [legacy])).trans ((if_pos exchange).trans (if_neg (by omega)))

theorem State.legacyRecover_safety (s : State) : ∃ safety, s.legacyRecover = { s with safety } := by
  unfold State.legacyRecover
  split
  · exact ⟨_, rfl⟩
  · exact ⟨s.safety, rfl⟩

/-- The entry into the legacy personality leaves the port, the link and the start, and no frame accepted. -/
theorem State.enterLegacy_cases (s : State) :
    s.enterLegacy.portA = s.portA ∧ s.enterLegacy.link = s.link ∧ s.enterLegacy.start = s.start ∧ s.enterLegacy.leg.lastSeq = none :=
  ⟨rfl, rfl, rfl, rfl⟩

theorem exec_hs_linkUp {s : State} {n : Nat} (legacy : s.portA.framing = 2) (exchange : s.portA.st = .exchange)
    (last : 16 ≤ s.leg.hsRx + n) :
    ∃ t, exec (.hs n) s = .next t ∧ t.portA.st = .up ∧ t.leg.lastSeq = none ∧ t.link.holdRun = false ∧
      (s.isReady = true → s.start.pers = .unlatched → t.start.pers = .legacy) ∧
      (s.start.pers ≠ .unlatched → t.start.pers = s.start.pers) := by
  obtain ⟨up, none, hold, latch, stays⟩ := s.linkUpNow_cases
  obtain ⟨safety, recovered⟩ := (s.linkUpNow.cond (s.linkUpNow.isLegacy && !s.isLegacy) State.enterLegacy).legacyRecover_safety
  refine ⟨_, exec_hs_up legacy exchange last, ?_⟩
  rw [recovered]
  cases s.linkUpNow.isLegacy && !s.isLegacy
  · exact ⟨up, none, hold, fun ready unlatched => latch ready unlatched legacy, stays⟩
  · obtain ⟨portA, link, start, lastSeq⟩ := s.linkUpNow.enterLegacy_cases
    rw [State.cond_true, portA, link, start]
    exact ⟨up, lastSeq, hold, fun ready unlatched => latch ready unlatched legacy, stays⟩

/-- Four sets on a link that is up are link down (R378). -/
theorem exec_hs_down {s : State} {n : Nat} (up : s.legacyUp = true) (enough : 4 ≤ n) : exec (.hs n) s = .next (s.linkDown 3) := by
  simp only [State.legacyUp, Bool.and_eq_true, decide_eq_true_eq] at up
  obtain ⟨st, framing⟩ := up
  exact (if_neg (by simp [framing])).trans ((if_neg (by simp [st])).trans (if_pos (by simp [st, enough])))

theorem exec_frameNak {s : State} (noRoom : Bool) (up : s.legacyUp = true) : exec (.frameNak noRoom) s = .next (s.nakFrame noRoom) :=
  congrArg _ (if_pos up)

/-- A duplicate is answered with the stored reply, whatever register or echo it names (R381). -/
theorem exec_frame_duplicate {s : State} {f : T512Frame} {r : T512Reply} (up : s.legacyUp = true) (ready : s.mp.ready = true)
    (idle : s.link.waiting = []) (seen : s.leg.lastSeq = some f.seq) (stored : s.leg.lastReply = some r)
    (room : f.payload.length ≤ 360448) {c : Instr}
    (frame : c ∈ [Instr.regRead f, .faultEntryRead f, .legacyStatusRead f, .linkErrCntRead f, .lowByteRead f, .legacyEcho f,
      .faultIdxWrite f]) :
    exec c s = .next (({ s with leg := { s.leg with badRun := 0 } } : State).sendT512 r) := by
  have answered : ∀ type, type ≠ 3 → s.frameIn c type f = ({ s with leg := { s.leg with badRun := 0 } } : State).sendT512 r :=
    fun type notLines => (State.frameIn_takes c up ready idle room notLines).trans (State.takeFrame_duplicate type _ seen stored)
  simp only [List.mem_cons, List.not_mem_nil, or_false] at frame
  rcases frame with rfl | rfl | rfl | rfl | rfl | rfl | rfl
  · exact congrArg _ (answered 2 (by decide))
  · exact congrArg _ (answered 2 (by decide))
  · exact congrArg _ (answered 2 (by decide))
  · exact congrArg _ (answered 2 (by decide))
  · exact congrArg _ (answered 2 (by decide))
  · exact congrArg _ (answered 5 (by decide))
  · exact congrArg _ (answered 1 (by decide))

/-- Settles O52: frames by what `frameIn` takes, failing frames by what a NAK does, the handshake by link-up and link-down. -/
theorem legacyFramesAreAnswered : Obligations.LegacyFramesAreAnswered := by
  refine ⟨fun s f takes short => ?echo, fun s ty f takes bad => ?rejected,
    fun s f r up ready idle seen stored room c frame => ?duplicate, fun s noRoom q up last few => ?nak,
    fun s q up last run => ?fifth, fun s n legacy exchange => ⟨fun early => ?early, exec_hs_linkUp legacy exchange⟩,
    fun s n up enough => ?down⟩
  case echo =>
    obtain ⟨up, ready, idle, room, new⟩ := takes
    have run : exec (.legacyEcho f) s = .next ((s.frameAccepted f).answerT512
        { type := 0x85, seq := f.seq, arg := f.arg, payload := f.payload }) := by
      refine congrArg _ ((State.frameIn_takes _ up ready idle room (by decide)).trans ?_)
      exact (State.takeFrame_new 5 _ new).trans (if_pos short)
    exact ⟨_, run, s.repliedT512_answer f _, rfl, rfl⟩
  case rejected =>
    obtain ⟨up, ready, idle, room, new⟩ := takes
    have notType : ty.toNat ≠ 1 ∧ ty.toNat ≠ 2 ∧ ty.toNat ≠ 3 ∧ ty.toNat ≠ 4 ∧ ty.toNat ≠ 5 := by
      rcases bad with rfl | high
      · decide
      · omega
    obtain ⟨n1, n2, n3, n4, n5⟩ := notType
    have run : exec (.frameRejected ty f) s = .next ((s.frameAccepted f).ackT512 ty.toNat f 1) := by
      refine congrArg _ ((State.frameIn_takes _ up ready idle room n3).trans ?_)
      rw [State.takeFrame_new _ _ new, if_neg n1, if_neg n2, if_neg n3, if_neg n4, if_neg n5]
    exact ⟨_, run, s.repliedT512_answer f _, rfl, rfl, rfl⟩
  case duplicate =>
    obtain ⟨leg, sent, rest⟩ := State.sendT512_cases { s with leg := { s.leg with badRun := 0 } } r
    exact ⟨_, exec_frame_duplicate up ready idle seen stored room frame, leg, sent, rest⟩
  case nak =>
    obtain ⟨t, nak, facts⟩ := s.nakFrame_cases noRoom last
    have stays : ¬ 5 ≤ (if noRoom then 0 else s.leg.badRun + 1) := by
      rcases few with full | few
      · simp [full]
      · split <;> omega
    exact ⟨t, (exec_frameNak noRoom up).trans (congrArg _ (nak.trans (if_neg stays))), facts⟩
  case fifth =>
    obtain ⟨t, nak, replies, -⟩ := s.nakFrame_cases false last
    obtain ⟨detect, hold, leg, -⟩ := t.linkDown_cases 4
    have down : s.nakFrame false = t.linkDown 4 := nak.trans (if_pos (by simp [run]))
    exact ⟨_, (exec_frameNak false up).trans (congrArg _ down), detect, hold, leg ▸ replies⟩
  case early => exact (if_neg (by simp [legacy])).trans ((if_pos exchange).trans (if_pos early))
  case down =>
    obtain ⟨detect, -, -, safety, next⟩ := s.linkDown_cases 3
    exact ⟨_, exec_hs_down up enough, detect, next, safety⟩

end Sys2Proof.Machine
end

section
/-!
PROOFS. The supply monitor and the module limiter, and the readings of the sensors (09 R256, 11 R327, 12 R335 to R339, 14 R393,
16 R420, 02 R68; O37).
-/
namespace Sys2Proof.Machine

/-! ### The supply monitor (R256, R327, R420) -/

/-- All of a state but the commands sent to the tiles. -/
def State.besideCmds (s : State) : State := { s with safety := { s.safety with cmds := [] } }

theorem State.eq_of_besideCmds {s t : State} (h : t.besideCmds = s.besideCmds) :
    t = { s with safety := { s.safety with cmds := t.safety.cmds } } :=
  calc t
    _ = { t.besideCmds with safety := { t.besideCmds.safety with cmds := t.safety.cmds } } := rfl
    _ = { s with safety := { s.safety with cmds := t.safety.cmds } } := by rw [h]; rfl

/-- The limiter's step: 8 down above the limit, 1 up below 95 % of it, else none, within 0 and 255 (R256). -/
theorem nextCl_cases {cl : Nat} (bound : cl ≤ 255) (ma lim : Nat) :
    nextCl cl ma lim ≤ 255 ∧ (lim < ma → nextCl cl ma lim = cl - 8) ∧
      (ma * 100 < lim * 95 → nextCl cl ma lim = min 255 (cl + 1)) ∧
      (lim * 95 ≤ ma * 100 → ma ≤ lim → nextCl cl ma lim = cl) := by
  unfold nextCl
  by_cases above : lim < ma
  · rw [if_pos above]
    split <;> omega
  · rw [if_neg above]
    by_cases up : ma * 100 < lim * 95 ∧ cl < 255
    · rw [if_pos (by simpa using up)]
      omega
    · rw [if_neg (by simpa using up)]
      omega

theorem exec_moduleLimitUpdate (ma mv : Nat) (s : State) :
    ∃ t cl act, exec (.moduleLimitUpdate ma mv) s = .next t ∧ cl = nextCl s.drive.cl ma (limitMa mv) ∧
      t.drive = { s.drive with cl, iLim := limitMa mv, limActive := act, vledMa := ma, vledMv := mv } ∧
      t = { s with drive := t.drive, safety := { s.safety with cmds := t.safety.cmds }, ev := t.ev } := by
  let cl := nextCl s.drive.cl ma (limitMa mv)
  let act := decide (cl < 255) && (List.range 64).any (s.clLimits cl)
  let t : State := { s with drive := { s.drive with
    cl := cl, iLim := limitMa mv, limActive := act, vledMa := ma, vledMv := mv } }
  let told := fun (v : State) x =>
    v.cond (min (s.fusedCeil x) s.drive.cl ≠ min (s.fusedCeil x) cl && v.quadReady (quadOfTile x)) fun y =>
      y.sendCeil x (min (s.fusedCeil x) cl)
  have rest : (t.forEach (List.range 64) told).besideCmds = t.besideCmds :=
    State.forEach_leaves (g := State.besideCmds) (fun v x => by
      rw [State.cond_read State.besideCmds]
      exact ite_self _) _ _
  have frame := State.eq_of_besideCmds rest
  refine ⟨(t.forEach (List.range 64) told).cond (act ≠ s.drive.limActive) fun v => v.raise 0x0602 [(1, b2n act), (1, cl)], cl, act,
    rfl, rfl, ?_⟩
  generalize t.forEach (List.range 64) told = u at frame
  rw [frame]
  unfold State.cond
  split <;> exact ⟨rfl, rfl⟩

/-- Overcurrent of the module (R327). -/
theorem exec_overcurrent {s : State} {ma : Nat} (above : 16000 < ma) (first : s.drive.overcurrent = false) :
    exec (.overcurrent ma) s =
      .next ((({ s with drive := { s.drive with overcurrent := true } } : State).raise 0x0810 [(2, sat16 ma)]).raise 0x0808 [(1, 1)]) :=
  if_pos (by simp [above, first])

theorem exec_overcurrent_below {s : State} {ma : Nat} (below : ma ≤ 16000) : exec (.overcurrent ma) s = .next s :=
  if_neg (by simp; omega)

/-- VLED_LOW begins below 3.30 V; measurements under way are no longer clean. -/
theorem exec_vledLow_begins {s : State} {mv : Nat} (normal : s.drive.low = false) (below : mv < 3300) :
    ∃ t, exec (.vledLow mv) s = .next t ∧ t.drive = { s.drive with low := true } ∧
      t = { s with drive := t.drive, tiles := t.tiles, ev := t.ev } := by
  let low : State := { s with drive := { s.drive with low := true } }
  let dirty := fun (v : State) x =>
    if (v.tile x).meas.isSome then v.modTile x fun y => { y with meas := y.meas.map fun m => { m with dirty := true } } else v
  have rest : (low.forEach (List.range 64) dirty).besideTiles = low.besideTiles :=
    State.forEach_leaves (g := State.besideTiles) (fun v x => by
      show (ite _ _ _ : State).besideTiles = _
      split <;> rfl) _ _
  have frame := State.eq_of_besideTiles rest
  have run : exec (.vledLow mv) s =
      .next ((low.forEach (List.range 64) dirty).raiseRated 0x0609 0 [(1, b2n true), (2, sat16 mv)]) :=
    if_pos (by simp [normal, below])
  generalize low.forEach (List.range 64) dirty = u at frame run
  obtain ⟨e, rated⟩ := u.raiseRatedN_ev 0x0609 0 1 [(1, b2n true), (2, sat16 mv)]
  refine ⟨_, run.trans (congrArg _ rated), ?_⟩
  rw [frame]
  exact ⟨rfl, rfl⟩

theorem exec_vledLow_ends {s : State} {mv : Nat} (low : s.drive.low = true) (above : 3350 ≤ mv) :
    ∃ t, exec (.vledLow mv) s = .next t ∧ t.drive = { s.drive with low := false } ∧ t = { s with drive := t.drive, ev := t.ev } := by
  have run : exec (.vledLow mv) s =
      .next (({ s with drive := { s.drive with low := false } } : State).raiseRated 0x0609 0 [(1, b2n false), (2, sat16 mv)]) :=
    (if_neg (by simp [low])).trans (if_pos (by simp [low, above]))
  obtain ⟨e, rated⟩ := ({ s with drive := { s.drive with low := false } } : State).raiseRatedN_ev 0x0609 0 1
    [(1, b2n false), (2, sat16 mv)]
  exact ⟨_, run.trans (congrArg _ rated), rfl, rfl⟩

theorem exec_vledLow_stays {s : State} {mv : Nat}
    (stays : (s.drive.low = false ∧ 3300 ≤ mv) ∨ (s.drive.low = true ∧ mv < 3350)) : exec (.vledLow mv) s = .next s := by
  rcases stays with ⟨low, mv⟩ | ⟨low, mv⟩
  · exact (if_neg (by simp [low]; omega)).trans (if_neg (by simp [low]))
  · exact (if_neg (by simp [low])).trans (if_neg (by simp; omega))

/-! ### The fallback beam and VLED (R68) -/

/-- What the Rind paints. -/
def State.painting (s : State) : Paint := s.safety.paint

theorem State.painting_cond (s : State) (c : Bool) {f : State → State} (h : ∀ u, (f u).painting = u.painting) :
    (s.cond c f).painting = s.painting := by
  cases c
  · rfl
  · exact h s

theorem State.painting_sendFill (s : State) (q x0 x1 y0 y1 code : Nat) (stall : Bool) :
    (s.sendFill q x0 x1 y0 y1 code stall).painting = s.painting :=
  State.forEach_leaves (g := State.painting) (fun u t => by dsimp only; split <;> rfl) _ _

theorem State.painting_paintBeam (s : State) (q : Nat) : (s.paintBeam q).painting = s.painting :=
  State.forEach_leaves (g := State.painting)
    (fun _ _ => (State.painting_cond _ _ fun _ => State.painting_sendFill ..).trans
      (State.painting_cond _ _ fun _ => State.painting_sendFill ..)) _ _

theorem State.painting_paintQuad (s : State) (q : Nat) : (s.paintQuad q).painting = s.painting := by
  unfold State.paintQuad
  split
  · rfl
  · split
    · rfl
    · exact s.painting_paintBeam q
    · rfl

theorem State.painting_wake (s : State) (q : Nat) : (s.wake q).painting = s.painting := by
  unfold State.wake
  split <;> rfl

theorem State.painting_withdrawOff (s : State) (q : Nat) : (s.withdrawOff q).painting = s.painting :=
  State.painting_cond _ _ fun _ => State.painting_cond _ _ fun _ => rfl

theorem State.painting_forceOn (s : State) (q : Nat) : (s.forceOn q).painting = s.painting :=
  (State.painting_wake ..).trans (State.painting_withdrawOff ..)

theorem State.painting_setCut (s : State) (n row : Nat) (on : Bool) : (s.setCut n row on).painting = s.painting :=
  (congrArg State.painting (s.setCut_cases n row on).2 :)

theorem State.painting_repaint (s : State) : s.repaint.painting = s.painting :=
  State.forEach_leaves (g := State.painting) State.painting_paintQuad _ _

theorem State.painting_startPaint (s : State) (beam : Bool) : (s.startPaint beam).painting = if beam then .beam else .dark :=
  calc (s.startPaint beam).painting
    _ = _ := State.forEach_leaves (g := State.painting) State.painting_paintQuad _ _
    _ = _ := State.forEach_leaves (g := State.painting) (fun _ _ => State.painting_cond _ _ fun _ => State.painting_forceOn ..) _ _
    _ = _ := State.forEach_leaves (g := State.painting) (fun _ _ => State.painting_setCut ..) _ _
    _ = if beam then .beam else .dark := rfl

/-- In the off class the painting follows what is due anew, and nothing else than a painting does. -/
theorem State.paintAnew_cases {s : State} (off : s.safety.state.off = true) :
    (s.paintAnew.safety.paint = .beam ↔ s.beamDue s.safety.state = true) ∧ s.paintAnew.besidePaint = s.besidePaint := by
  have anew : s.paintAnew = if decide (s.safety.paint = .beam) = s.beamDue s.safety.state then s.repaint
      else s.startPaint (s.beamDue s.safety.state) := if_neg (by simp [off])
  rw [anew]
  split
  next same =>
    refine ⟨?_, s.besidePaint_repaint⟩
    rw [← same, decide_eq_true_eq]
    exact iff_of_eq (congrArg (· = Paint.beam) s.painting_repaint)
  next =>
    refine ⟨?_, State.besidePaint_startPaint ..⟩
    have painted : (s.startPaint (s.beamDue s.safety.state)).safety.paint = if s.beamDue s.safety.state then .beam else .dark :=
      State.painting_startPaint ..
    rw [painted]
    cases s.beamDue s.safety.state <;> decide

/-- VLED is present from 3.00 V to below 2.90 V (R420). -/
theorem exec_vledPresent (mv : Nat) (s : State) :
    let p := decide ((if s.drive.present then 2900 else 3000) ≤ mv)
    exec (.vledPresent mv) s = .next (({ s with drive := { s.drive with present := p } } : State).cond
      (s.start.state = .serviceOnly && p ≠ s.drive.present) State.paintAnew) := by
  have present : (if s.drive.present then decide (2900 ≤ mv) else decide (3000 ≤ mv)) =
      decide ((if s.drive.present then 2900 else 3000) ≤ mv) := by
    split <;> rfl
  dsimp only
  rw [← present]
  rfl

theorem exec_vledPresent_beam {s : State} {mv : Nat} (service : s.start.state = .serviceOnly)
    (change : decide ((if s.drive.present then 2900 else 3000) ≤ mv) ≠ s.drive.present) (fallback : s.safety.state = .fallback) :
    ∃ t, exec (.vledPresent mv) s = .next t ∧
      (t.safety.paint = .beam ↔ decide ((if s.drive.present then 2900 else 3000) ≤ mv) = true) ∧
      t.drive = { s.drive with present := decide ((if s.drive.present then 2900 else 3000) ≤ mv) } ∧ t.safety.state = .fallback := by
  have run := exec_vledPresent mv s
  dsimp only at run
  rw [show (decide (s.start.state = .serviceOnly) && decide (_ ≠ s.drive.present)) = true by simp [service, change]] at run
  generalize decide ((if s.drive.present then 2900 else 3000) ≤ mv) = p at run change
  obtain ⟨beam, rest⟩ := State.paintAnew_cases (s := { s with drive := { s.drive with present := p } })
    (show s.safety.state.off = true by rw [fallback]; rfl)
  have due : ({ s with drive := { s.drive with present := p } } : State).beamDue s.safety.state = p := by
    simp [State.beamDue, fallback, service]
  exact ⟨_, run, beam.trans (by rw [due]), (congrArg State.drive rest :), (congrArg (·.safety.state) rest).trans fallback⟩

/-! ### Sensors (R335, R338, R339) -/

theorem Sparse.get_set_listed {α : Type} [DecidableEq α] (d : α) (m : Sparse α) (k : Nat) {v : α} (listed : v ≠ d) :
    (m.set d k v).get d k = v :=
  Sparse.get_modify_listed d m (k := k) (f := fun _ => v) listed

/-- All of a state but the thermal unit, the tiles and the events. -/
def State.besideBand (s : State) : State := { s with thermal := {}, tiles := [], ev := {} }

theorem State.eq_of_besideBand {s t : State} (h : t.besideBand = s.besideBand) :
    t = { s with thermal := t.thermal, tiles := t.tiles, ev := t.ev } :=
  calc t
    _ = { t.besideBand with thermal := t.thermal, tiles := t.tiles, ev := t.ev } := rfl
    _ = { s with thermal := t.thermal, tiles := t.tiles, ev := t.ev } := by rw [h]; rfl

/-- A sensor that has read something other than 0 is kept as it is set. -/
theorem State.tsensor_setTsensor {s : State} (n : Nat) {x : TSensor} (read : x.raw ≠ 0) : (s.setTsensor n x).tsensor n = x :=
  Sparse.get_set_listed ({} : TSensor) s.thermal.tiles n fun same => read (congrArg TSensor.raw same)

theorem State.qsensor_setQsensor {s : State} (q : Nat) {x : QSensor} (read : x.raw ≠ 0) : (s.setQsensor q x).qsensor q = x :=
  Sparse.get_set_listed ({} : QSensor) s.thermal.quads q fun same => read (congrArg QSensor.raw same)

theorem State.sendCtl_tiles (s : State) (n key w : Nat) : ∃ tiles, s.sendCtl n key w = { s with tiles } := by
  unfold State.sendCtl
  split
  · exact ⟨_, rfl⟩
  · exact ⟨s.tiles, rfl⟩

/-- The module's band follows, with its event. -/
theorem State.moduleBand_writes (s : State) :
    ∃ band e, s.moduleBand = { s with thermal := { s.thermal with band }, ev := e } := by
  unfold State.moduleBand
  generalize (List.range 64).foldl (fun m t => max m (s.tileBand t)) 0 = b
  dsimp only
  split
  · exact ⟨s.thermal.band, s.ev, rfl⟩
  · exact ⟨b, _, rfl⟩

/-- The band's timing is sent to a tile that is on. -/
theorem State.sendBand_writes (s : State) (n : Nat) (on : Bool) :
    ∃ tiles, (s.cond on fun v => (v.sendCurSet n).sendThresh n) = { s with tiles } := by
  cases on
  · exact ⟨s.tiles, rfl⟩
  · obtain ⟨tiles, curSet⟩ : ∃ tiles, s.sendCurSet n = { s with tiles } := State.sendCtl_tiles ..
    obtain ⟨tiles, thresh⟩ : ∃ tiles', ({ s with tiles } : State).sendThresh n = { s with tiles := tiles' } := State.sendCtl_tiles ..
    exact ⟨tiles, by rw [State.cond_true, curSet, thresh]⟩

/-- A tile's heat band moves: its sensor's other values stay, and no other sensor changes. -/
theorem State.updateBand_writes (s : State) (n : Nat) :
    s.updateBand n = s ∨ ∃ band m tiles e, s.updateBand n =
      { s.setTsensor n { s.tsensor n with band } with
        thermal := { (s.setTsensor n { s.tsensor n with band }).thermal with band := m }, tiles, ev := e } := by
  unfold State.updateBand
  dsimp only
  generalize bandDown _ _ _ _ = b
  split
  next => exact .inl rfl
  next =>
    obtain ⟨tiles, sent⟩ := (s.setTsensor n { s.tsensor n with band := b }).sendBand_writes n (s.tileOn n)
    obtain ⟨m, e, moved⟩ := ({ s.setTsensor n { s.tsensor n with band := b } with tiles } : State).moduleBand_writes
    exact .inr ⟨b, m, tiles, e, (congrArg State.moduleBand sent).trans moved⟩

theorem State.besideBand_updateBand (s : State) (n : Nat) :
    (s.updateBand n).besideBand = s.besideBand ∧ (s.updateBand n).thermal.quads = s.thermal.quads := by
  obtain same | ⟨band, m, tiles, e, moved⟩ := s.updateBand_writes n
  · rw [same]
    exact ⟨rfl, rfl⟩
  · rw [moved]
    exact ⟨rfl, rfl⟩

/-- The sensor of a tile whose band moves. -/
theorem State.tsensor_updateBand {s : State} {n : Nat} (read : (s.tsensor n).raw ≠ 0) :
    ((s.updateBand n).tsensor n).raw = (s.tsensor n).raw ∧ ((s.updateBand n).tsensor n).state = (s.tsensor n).state := by
  obtain same | ⟨band, m, tiles, e, moved⟩ := s.updateBand_writes n
  · rw [same]
    exact ⟨rfl, rfl⟩
  · have sensor : (s.updateBand n).tsensor n = { s.tsensor n with band } := by
      rw [moved]
      exact State.tsensor_setTsensor (s := s) n (x := { s.tsensor n with band }) read
    rw [sensor]
    exact ⟨rfl, rfl⟩

/-- The cross-check changes a sensor's learned values alone (R337). -/
theorem State.crossCheck_cases (s : State) (n : Nat) :
    (s.crossCheck n).raw = (s.tsensor n).raw ∧ (s.crossCheck n).oor = (s.tsensor n).oor ∧
      (s.crossCheck n).state = (s.tsensor n).state := by
  unfold State.crossCheck
  dsimp only
  split <;> exact ⟨rfl, rfl, rfl⟩

/-- The trust of a tile sensor after a reading: its reading stays, and the third one running out of range fails it (R338). -/
theorem State.trustStep_writes (s : State) (n : Nat) (ready : Bool) :
    ∃ x e, s.trustStep n ready = { s.setTsensor n x with ev := e } ∧ x.raw = (s.tsensor n).raw ∧
      (outOfRange (s.tRead n) = true → 2 ≤ (s.tsensor n).oor →
        ((s.tsensor n).state = .trusted ∨ (s.tsensor n).state = .suspect) → x.state = .failed) := by
  have third : outOfRange (s.tRead n) = true → 2 ≤ (s.tsensor n).oor →
      3 ≤ if outOfRange (s.tRead n) then min 3 ((s.tsensor n).oor + 1) else 0 := fun out run => by
    rw [if_pos out]
    omega
  unfold State.trustStep
  dsimp only
  generalize (if outOfRange (s.tRead n) then min 3 ((s.tsensor n).oor + 1) else 0) = oor at third ⊢
  generalize (if ready && !outOfRange (s.tRead n) then min 3 ((s.tsensor n).inr + 1) else 0) = inr
  split
  case h_1 failed => exact ⟨_, _, rfl, rfl, fun _ _ trust => by simp [failed] at trust⟩
  case h_2 unavailable =>
    refine ⟨_, _, rfl, ?_, fun _ _ trust => by simp [unavailable] at trust⟩
    split <;> rfl
  case h_3 =>
    split
    · exact ⟨_, _, rfl, rfl, fun _ _ _ => rfl⟩
    next stays =>
      split
      · exact ⟨_, _, rfl, rfl, fun out run _ => absurd (third out run) stays⟩
      · exact ⟨_, _, rfl, rfl, fun out run _ => absurd (third out run) stays⟩
  case h_4 =>
    split
    · exact ⟨_, _, rfl, rfl, fun _ _ _ => rfl⟩
    next stays =>
      split
      · exact ⟨_, _, rfl, rfl, fun out run _ => absurd (third out run) stays⟩
      · exact ⟨_, _, rfl, rfl, fun out run _ => absurd (third out run) stays⟩

/-- The tile's TEMP registers follow the hottest tile (R393). -/
theorem State.setTemp_leg (s : State) (temp : Int) : ∃ leg, s.setTemp temp = { s with leg } := by
  have set : ∀ (c : Bool) (bit : Nat) (u : State), ∃ leg, (u.cond c fun x => x.legStatus bit) = { u with leg } := fun c bit u => by
    cases c
    · exact ⟨u.leg, rfl⟩
    · obtain ⟨leg, status, -⟩ := u.legStatus_leg bit
      exact ⟨leg, status⟩
  let u : State := { s with leg := { s.leg with temp := tempCode temp } }
  obtain ⟨warned, warn⟩ := set (decide (u.legReg 8 ≤ tempCode temp) && !decide (s.legReg 8 ≤ s.leg.temp)) 6 u
  obtain ⟨leg, shut⟩ := set (decide (u.legReg 9 ≤ tempCode temp) && !decide (s.legReg 9 ≤ s.leg.temp)) 5 { u with leg := warned }
  refine ⟨leg, Eq.trans ?_ shut⟩
  rw [← warn]
  rfl

/-- A tile's sensor has taken a reading and has been checked against its neighbours (R335, R337). -/
def State.tileChecked (s : State) (n : Nat) (r : Int) : State :=
  let taken := s.setTsensor n { s.tsensor n with raw := r }
  taken.setTsensor n (taken.crossCheck n)

/-- The check of a reading keeps what the sensor was trusted for. -/
theorem State.tileChecked_cases {s : State} {n : Nat} {r : Int} (nonzero : r ≠ 0) :
    ((s.tileChecked n r).tsensor n).raw = r ∧ ((s.tileChecked n r).tsensor n).oor = (s.tsensor n).oor ∧
      ((s.tileChecked n r).tsensor n).state = (s.tsensor n).state ∧ (s.tileChecked n r).besideBand = s.besideBand := by
  let taken := s.setTsensor n { s.tsensor n with raw := r }
  have sensor : taken.tsensor n = { s.tsensor n with raw := r } := State.tsensor_setTsensor n nonzero
  obtain ⟨raw, oor, state⟩ := taken.crossCheck_cases n
  rw [sensor] at raw oor state
  have checked : (s.tileChecked n r).tsensor n = taken.crossCheck n := State.tsensor_setTsensor n (raw ▸ nonzero)
  rw [checked]
  exact ⟨raw, oor, state, rfl⟩

/-- A reading of a tile that has power (R335, R338). -/
theorem exec_tileSensorSample {s : State} {n : Fin 64} {raw : BitVec 16} (on : s.tileOn n = true) (read : raw ≠ 0) :
    ∃ t, exec (.tileSensorSample n raw) s = .next t ∧ (t.tsensor n).raw = raw.toInt ∧
      (s.overridden n = none → outOfRange raw.toInt = true → 2 ≤ (s.tsensor n).oor →
        ((s.tsensor n).state = .trusted ∨ (s.tsensor n).state = .suspect) → (t.tsensor n).state = .failed) ∧
      t = { s with thermal := t.thermal, drive := t.drive, tiles := t.tiles, leg := t.leg, ev := t.ev } := by
  have nonzero : raw.toInt ≠ 0 := fun zero => read (BitVec.eq_of_toInt_eq zero)
  let sampled := fun u : State => ((u.trustStep n (u.quad (quadOfTile n)).ready).updateBand n)
  have run : exec (.tileSensorSample n raw) s =
      .next ((sampled (s.tileChecked n raw.toInt)).setTemp (sampled (s.tileChecked n raw.toInt)).hottest) :=
    if_neg (by simp [on])
  obtain ⟨checkRaw, oor, state, checkRest⟩ := s.tileChecked_cases (n := n) nonzero
  have reading : s.overridden n = none → (s.tileChecked n raw.toInt).tRead n = raw.toInt := fun plain => by
    show ((s.tileChecked n raw.toInt).overridden n).getD ((s.tileChecked n raw.toInt).tsensor n).raw = raw.toInt
    rw [checkRaw]
    exact congrArg (Option.getD · raw.toInt) plain
  generalize s.tileChecked n raw.toInt = u at *
  obtain ⟨x, e, trust, xRaw, xFailed⟩ := u.trustStep_writes n (u.quad (quadOfTile n)).ready
  have sensor : (u.trustStep n (u.quad (quadOfTile n)).ready).tsensor n = x := by
    rw [trust]
    exact State.tsensor_setTsensor (s := u) n (xRaw ▸ checkRaw ▸ nonzero)
  have trustRest : (u.trustStep n (u.quad (quadOfTile n)).ready).besideBand = u.besideBand := by
    rw [trust]
    rfl
  dsimp only [sampled] at run
  generalize u.trustStep n (u.quad (quadOfTile n)).ready = v at *
  obtain ⟨bandRaw, bandState⟩ := State.tsensor_updateBand (s := v) (n := n) (sensor ▸ xRaw ▸ checkRaw ▸ nonzero)
  obtain ⟨bandRest, -⟩ := v.besideBand_updateBand n
  generalize v.updateBand n = w at *
  obtain ⟨leg, temp⟩ := w.setTemp_leg w.hottest
  refine ⟨_, run, ?_⟩
  rw [temp]
  rw [sensor] at bandRaw bandState
  refine ⟨bandRaw.trans (xRaw.trans checkRaw), fun plain out third trust => ?_, ?_⟩
  · exact bandState.trans (xFailed (reading plain ▸ out) (oor ▸ third) (state ▸ trust))
  · have frame := State.eq_of_besideBand (bandRest.trans (trustRest.trans checkRest))
    rw [frame]

/-- The common mode of a quadrant's sensor follows its tiles; its reading and its failure stay (R339). -/
theorem State.commonMode_writes (s : State) (q : Nat) :
    s.commonMode q = s ∨ ∃ x e, s.commonMode q = { s.setQsensor q x with ev := e } ∧ x.raw = (s.qsensor q).raw := by
  unfold State.commonMode
  split
  · exact .inl rfl
  next m _ =>
    refine .inr ?_
    dsimp only
    generalize (if _ < ofS124 (s.qRead q) - m then (s.qsensor q).aboveMs + 1 else 0) = above
    generalize (if 2 * (ofS124 (s.qRead q) - m) < _ then (s.qsensor q).belowMs + 1 else 0) = below
    split
    · exact ⟨_, _, rfl, rfl⟩
    · split <;> exact ⟨_, _, rfl, rfl⟩

/-- What becomes of a precision sensor whose reading `y` has been judged (R338, R339). -/
def State.quadJudged (s : State) (q : Nat) (failed fails : Bool) (y : QSensor) (d : List (Nat × Nat)) : State :=
  if failed then s.setQsensor q y
  else if fails then (s.setQsensor q { y with failed := true, cm := 0, cmSet := false }).raise 0x0903 d
  else (s.setQsensor q y).commonMode q

theorem State.quadJudged_cases {s : State} {q : Nat} {failed fails : Bool} {y : QSensor} {d : List (Nat × Nat)} (nonzero : y.raw ≠ 0) :
    ((s.quadJudged q failed fails y d).qsensor q).raw = y.raw ∧
      (y.failed = failed → fails = true → ((s.quadJudged q failed fails y d).qsensor q).failed = true) ∧
      (s.quadJudged q failed fails y d).besideBand = s.besideBand := by
  have set : ∀ x : QSensor, x.raw = y.raw → (s.setQsensor q x).qsensor q = x := fun x raw => State.qsensor_setQsensor q (raw ▸ nonzero)
  unfold State.quadJudged
  split
  next isFailed =>
    rw [set y rfl]
    exact ⟨rfl, fun same _ => same.trans isFailed, rfl⟩
  split
  · have sensor := set { y with failed := true, cm := 0, cmSet := false } rfl
    exact ⟨(congrArg QSensor.raw sensor :), fun _ _ => (congrArg QSensor.failed sensor :), rfl⟩
  next stays =>
    refine ⟨?_, fun _ now => absurd now stays, ?_⟩
    · obtain same | ⟨x, e, common, raw⟩ := (s.setQsensor q y).commonMode_writes q
      · rw [same, set y rfl]
      · rw [set y rfl] at raw
        rw [common]
        exact (congrArg QSensor.raw (State.qsensor_setQsensor (s := s.setQsensor q y) q (raw ▸ nonzero))).trans raw
    · obtain same | ⟨x, e, common, -⟩ := (s.setQsensor q y).commonMode_writes q
      · rw [same]
        rfl
      · rw [common]
        rfl

/-- The tiles whose estimate rests on a precision sensor follow it, and no precision sensor does. -/
theorem State.followers_cases (s : State) (ns : List Nat) :
    (s.forEach ns State.updateBand).thermal.quads = s.thermal.quads ∧ (s.forEach ns State.updateBand).besideBand = s.besideBand :=
  ⟨State.forEach_leaves (g := fun u => u.thermal.quads) (fun u n => (u.besideBand_updateBand n).2) _ _,
    State.forEach_leaves (g := State.besideBand) (fun u n => (u.besideBand_updateBand n).1) _ _⟩

/-- A precision sensor has taken a reading, which is judged (R335, R338, R339). -/
def State.quadSampled (s : State) (q : Nat) (r : Int) : State :=
  let taken := s.setQsensor q { s.qsensor q with raw := r }
  let oor := if outOfRange (taken.qRead q) then min 3 ((taken.qsensor q).oor + 1) else 0
  let cold := if !taken.thermal.ntcFailed && decide (taken.qRead q + 160 < taken.ntcRead) then (taken.qsensor q).coldMs + 1 else 0
  taken.quadJudged q (taken.qsensor q).failed (3 ≤ oor || 10000 ≤ cold) { taken.qsensor q with oor := oor, coldMs := cold }
    [(1, 64 + q), (2, toField 16 (taken.qRead q))]

theorem State.quadSampled_cases {s : State} {q : Nat} {r : Int} (nonzero : r ≠ 0) :
    ((s.quadSampled q r).qsensor q).raw = r ∧
      (s.overridden (64 + q) = none → outOfRange r = true → 2 ≤ (s.qsensor q).oor → ((s.quadSampled q r).qsensor q).failed = true) ∧
      (s.quadSampled q r).besideBand = s.besideBand := by
  let taken := s.setQsensor q { s.qsensor q with raw := r }
  have sensor : taken.qsensor q = { s.qsensor q with raw := r } := State.qsensor_setQsensor q nonzero
  have reading : s.overridden (64 + q) = none → taken.qRead q = r := fun plain => by
    show (s.overridden (64 + q)).getD (taken.qsensor q).raw = r
    rw [plain, sensor]
    rfl
  let oor := if outOfRange (taken.qRead q) then min 3 ((taken.qsensor q).oor + 1) else 0
  let cold := if !taken.thermal.ntcFailed && decide (taken.qRead q + 160 < taken.ntcRead) then (taken.qsensor q).coldMs + 1 else 0
  obtain ⟨raw, failed, rest⟩ := State.quadJudged_cases (s := taken) (q := q) (failed := (taken.qsensor q).failed)
    (fails := 3 ≤ oor || 10000 ≤ cold) (d := [(1, 64 + q), (2, toField 16 (taken.qRead q))])
    (y := { taken.qsensor q with oor := oor, coldMs := cold })
    fun zero => nonzero ((congrArg QSensor.raw sensor).symm.trans zero)
  refine ⟨raw.trans (congrArg QSensor.raw sensor), fun plain out run => failed rfl ?_, rest⟩
  have third : 3 ≤ oor := by
    have ran : (taken.qsensor q).oor = (s.qsensor q).oor := (congrArg QSensor.oor sensor :)
    simp only [oor, reading plain, if_pos out, ran]
    omega
  rw [decide_eq_true third]
  rfl

/-- A reading of a precision sensor: the third one running out of range fails it (R338). -/
theorem exec_quadSensorSample {s : State} {q : Fin 4} {raw : BitVec 16} (read : raw ≠ 0) :
    ∃ t, exec (.quadSensorSample q raw) s = .next t ∧ (t.qsensor q).raw = raw.toInt ∧
      (s.overridden (64 + q.val) = none → outOfRange raw.toInt = true → 2 ≤ (s.qsensor q).oor → (t.qsensor q).failed = true) ∧
      t = { s with thermal := t.thermal, drive := t.drive, tiles := t.tiles, ev := t.ev } := by
  obtain ⟨sampled, fails, rest⟩ := s.quadSampled_cases (q := q) (r := raw.toInt) fun zero => read (BitVec.eq_of_toInt_eq zero)
  have run : exec (.quadSensorSample q raw) s = .next ((s.quadSampled q raw.toInt).forEach ((tilesOfQuad q).filter fun t =>
      ((s.quadSampled q raw.toInt).tsensor t).state = .unavailable ||
        (((s.quadSampled q raw.toInt).tsensor t).state = .failed && !(s.quadSampled q raw.toInt).tileOn t)) State.updateBand) := rfl
  rw [run]
  generalize s.quadSampled q raw.toInt = u at sampled fails rest
  obtain ⟨quads, followers⟩ := u.followers_cases ((tilesOfQuad q).filter fun t =>
    (u.tsensor t).state = .unavailable || ((u.tsensor t).state = .failed && !u.tileOn t))
  generalize u.forEach _ State.updateBand = t at quads followers
  have sensor : t.qsensor q = u.qsensor q := congrArg (Sparse.get ({} : QSensor) · q.val) quads
  have frame := State.eq_of_besideBand (followers.trans rest)
  refine ⟨t, rfl, sensor ▸ sampled, fun plain out third => sensor ▸ fails plain out third, ?_⟩
  rw [frame]

/-- A reading of the NTC (R335, R338, R393). -/
theorem exec_ntcSample {s : State} {ohms : Nat} (plain : s.overridden 69 = none) :
    ∃ t, exec (.ntcSample ohms) s = .next t ∧ t.thermal.ntc = ntcTemp ohms ∧
      (outOfRange (ntcTemp ohms) = true → 2 ≤ s.thermal.ntcOor → t.thermal.ntcFailed = true ∧ t.leg.tempExt = 0) ∧
      (outOfRange (ntcTemp ohms) = false → s.thermal.ntcFailed = false →
        t.thermal.ntcFailed = false ∧ t.thermal.ntcOor = 0 ∧ t.leg.tempExt = tempCode (ofS124 (ntcTemp ohms))) ∧
      t = { s with thermal := { s.thermal with ntc := t.thermal.ntc, ntcOor := t.thermal.ntcOor, ntcFailed := t.thermal.ntcFailed }
                   leg := { s.leg with tempExt := t.leg.tempExt }, ev := t.ev } := by
  have reading : ({ s with thermal := { s.thermal with ntc := ntcTemp ohms } } : State).ntcRead = ntcTemp ohms :=
    congrArg (Option.getD · (ntcTemp ohms)) plain
  let oor := if outOfRange (ntcTemp ohms) then min 3 (s.thermal.ntcOor + 1) else 0
  let failed := s.thermal.ntcFailed || decide (3 ≤ oor)
  let t : State := { s with
    thermal := { s.thermal with ntc := ntcTemp ohms, ntcOor := oor, ntcFailed := failed }
    leg := { s.leg with tempExt := if failed then 0 else tempCode (ofS124 (ntcTemp ohms)) } }
  have run : exec (.ntcSample ohms) s = .next (t.cond (failed && !s.thermal.ntcFailed) fun t => t.raise 0x090B []) := by
    show execNtcSample ohms s = _
    unfold execNtcSample
    dsimp only
    rw [reading]
  obtain ⟨e, raised⟩ : ∃ e, (t.cond (failed && !s.thermal.ntcFailed) fun t => t.raise 0x090B []) = { t with ev := e } := by
    cases failed && !s.thermal.ntcFailed
    · exact ⟨t.ev, rfl⟩
    · exact ⟨_, rfl⟩
  refine ⟨_, run.trans (congrArg _ raised), rfl, fun out run => ?_, fun inRange whole => ?_, rfl⟩
  · have fails : failed = true := by
      have third : 3 ≤ oor := by
        simp only [oor, if_pos out]
        omega
      simp [failed, third]
    exact ⟨fails, if_pos fails⟩
  · have zero : oor = 0 := if_neg (by simp [inRange])
    have stays : failed = false := by simp [failed, zero, whole]
    exact ⟨stays, zero, if_neg (by simp [stays])⟩

/-- Settles O37: a lemma for each sample; the sensors by what the trust, the band and the common mode keep of a sensor. -/
theorem readingsOfSupplyAndSensors : Obligations.ReadingsOfSupplyAndSensors := by
  refine ⟨fun s ma mv bound => ?limiter, fun s ma above first => ⟨_, exec_overcurrent above first, rfl, ?inhibit, ?fault, rfl⟩,
    fun _ _ => exec_overcurrent_below,
    fun _ _ => ⟨exec_vledLow_begins, exec_vledLow_ends, exec_vledLow_stays⟩,
    fun s mv => ⟨fun quiet => ?present, exec_vledPresent_beam⟩, fun _ _ _ => exec_tileSensorSample,
    fun _ _ _ off => if_pos (by simp [off]), fun _ _ _ => exec_quadSensorSample, fun _ _ => rfl, fun _ _ => exec_ntcSample⟩
  case limiter =>
    obtain ⟨t, cl, act, run, value, drive, frame⟩ := exec_moduleLimitUpdate ma mv s
    obtain ⟨most, down, up, stays⟩ := nextCl_cases bound ma (limitMa mv)
    rw [← value] at most down up stays
    refine ⟨t, run, ?_⟩
    rw [drive] at frame ⊢
    exact ⟨rfl, most, down, up, stays, rfl, rfl, frame⟩
  case inhibit => simp [State.vledInh, State.raise]
  case fault => simp [State.faultN, State.raise]
  case present =>
    refine (exec_vledPresent mv s).trans (congrArg _ (if_neg ?_))
    rcases quiet with other | same
    · simp [other]
    · simp [same]

end Sys2Proof.Machine
end

section
/-!
PROOFS. Image operations and record reads in a session (02 R79, R80, 13 Table 13.6; O21).
-/
namespace Sys2Proof.Machine

/-! ### Answers of service operations -/

/-- A service operation reaches its consumer in the state in which it arrived but for the link's accounts: `l` is the link then. -/
def State.ArrivesWith (s : State) (l : Link) : Prop :=
  l.addr = s.link.addr ∧ l.tqs = s.link.tqs ∧ l.blocked = s.link.blocked

theorem State.linkPass_blocked (s : State) : s.linkPass.link.blocked = s.link.blocked := by
  unfold State.linkPass
  dsimp only
  split <;> rfl

theorem State.admitted_arrives (s : State) (p : Rx) : ∃ l, s.admitted p = { s with link := l } ∧ s.ArrivesWith l := by
  obtain ⟨-, addr, -, tqs, -⟩ := s.admitted_link p
  exact ⟨_, s.admitted_frame p, addr, tqs, s.linkPass_blocked⟩

/-- What is answered on its path to an operation that has arrived and changed neither the link nor the service port. -/
theorem State.svcReplied_answerSvc {s u : State} {l : Link} (arrives : s.ArrivesWith l) (link : u.link = l) (svc : u.svc = s.svc)
    (ready : u.mp.ready = true) (q : SvcSrc) (opcode status : Nat) (data : List Byte) :
    s.svcReplied (u.answerSvc q opcode status data) q status opcode data ∧
      u.answerSvc q opcode status data = { u with
        link := (u.answerSvc q opcode status data).link, svc := (u.answerSvc q opcode status data).svc } := by
  cases q with
  | uart => exact ⟨congrArg (fun v : Service => v.uartTx ++ _) svc, rfl⟩
  | vc4 h =>
    obtain ⟨addr, tqs, blocked⟩ := arrives
    refine ⟨?_, ?_⟩
    · show s.replied (u.reply h 0x50 opcode status data) h status 0x50 opcode data
      rw [State.reply_queued _ _ _ _ _ _ ready]
      unfold State.replied
      dsimp only
      split
      · exact ⟨link ▸ tqs, link ▸ blocked⟩
      · have packet : u.upPkt 0 0x11 h.tag (replyBytes status 0x50 opcode data) =
            s.upPkt 0 0x11 h.tag (replyBytes status 0x50 opcode data) := by
          simp only [State.upPkt, link, addr]
        rw [packet]
        generalize s.upPkt 0 0x11 h.tag (replyBytes status 0x50 opcode data) = p
        have room : u.tqRoom 0 p = s.tqRoom 0 p := by
          simp only [State.tqRoom, State.queued, link, tqs, blocked]
          rfl
        simp only [State.enqueue_link, room, link, tqs, blocked, and_self]
    · have frame := u.reply_frame h 0x50 opcode status data
      show u.reply h 0x50 opcode status data = { u with
        link := (u.reply h 0x50 opcode status data).link, svc := (u.reply h 0x50 opcode status data).svc }
      generalize u.reply h 0x50 opcode status data = v at frame
      rw [frame]

/-- An operation that is served at once finds the MP ready. -/
theorem State.serves_ready {s : State} {q : SvcSrc} {opcode : Nat} {args : List Byte} (serves : s.serves q opcode args) :
    s.mp.ready = true := by
  cases q with
  | uart =>
    obtain ⟨-, -, -, ready, -⟩ := serves
    exact ready
  | vc4 h =>
    obtain ⟨-, -, -, -, -, -, -, -, ready, -⟩ := serves
    exact ready

/-- The credits that come back with an answer change nothing of it. -/
theorem State.svcReplied_freeCredits {s u : State} {q : SvcSrc} {opcode status vc n len : Nat} {data : List Byte}
    (replied : s.svcReplied u q status opcode data) : s.svcReplied (u.freeCredits vc n len) q status opcode data := by
  rw [State.freeCredits_frame]
  cases q <;> exact replied

/-- A service operation that is served at once and answered: the effect `e` it has, and its answer on its path. -/
theorem State.service_answers {s : State} {i : Instr} {q : SvcSrc} {opcode : Nat} {args : List Byte} {f e : State → State}
    {status : Nat} {data : List Byte} (serves : s.serves q opcode args)
    (run : ∀ l, s.ArrivesWith l → f { s with link := l } = (e { s with link := l }).answerSvc q opcode status data)
    (rest : ∀ u, (e u).link = u.link ∧ (e u).svc = u.svc ∧ (e u).mp = u.mp) :
    ∃ l t, s.service i q opcode args 2 f = t ∧ s.ArrivesWith l ∧ s.svcReplied t q status opcode data ∧
      t = { e { s with link := l } with link := t.link, svc := t.svc } := by
  have ready := State.serves_ready serves
  have answered : ∀ l, s.ArrivesWith l → s.svcReplied (f { s with link := l }) q status opcode data ∧
      f { s with link := l } = { e { s with link := l } with
        link := (f { s with link := l }).link, svc := (f { s with link := l }).svc } := fun l arrives => by
    obtain ⟨link, svc, mp⟩ := rest { s with link := l }
    rw [run l arrives]
    exact State.svcReplied_answerSvc arrives link svc (mp.symm ▸ ready) q opcode status data
  rw [State.service_serves s i q opcode args 2 f serves]
  cases q with
  | uart =>
    obtain ⟨replied, frame⟩ := answered s.link ⟨rfl, rfl, rfl⟩
    exact ⟨s.link, _, rfl, ⟨rfl, rfl, rfl⟩, replied, frame⟩
  | vc4 h =>
    obtain ⟨l, admitted, arrives⟩ := s.admitted_arrives (serviceRx h opcode args 2)
    obtain ⟨replied, frame⟩ := answered l arrives
    refine ⟨l, _, rfl, arrives, State.svcReplied_freeCredits (admitted ▸ replied), ?_⟩
    dsimp only
    rw [admitted, State.freeCredits_frame]
    generalize f { s with link := l } = v at frame
    rw [frame]

/-! ### The flash once its queue is done (R79; log 21) -/

/-- Two states whose flash holds the same bytes, with the same draw to come. -/
def State.SameBytes (s t : State) : Prop :=
  t.flash.slotA = s.flash.slotA ∧ t.flash.slotB = s.flash.slotB ∧ t.flash.recs = s.flash.recs ∧ t.free = s.free

theorem State.SameBytes.slot {s t : State} (same : s.SameBytes t) (i : SlotId) : t.slot i = s.slot i := by
  obtain ⟨slotA, slotB, -⟩ := same
  cases i
  · exact slotA
  · exact slotB

theorem State.SameBytes.bytes {s t : State} (same : s.SameBytes t) (a n : Nat) : t.flash.bytes a n = s.flash.bytes a n := by
  obtain ⟨slotA, slotB, recs, -⟩ := same
  simp only [Flash.bytes, Flash.byte, slotA, slotB, recs]

theorem State.SameBytes.flashErase {s t : State} (same : s.SameBytes t) (a : Nat) : (s.flashErase a).SameBytes (t.flashErase a) := by
  obtain ⟨slotA, slotB, recs, free⟩ := same
  obtain ⟨flashS, frameS⟩ := s.flashErase_frame a
  obtain ⟨flashT, frameT⟩ := t.flashErase_frame a
  have freeKept : (t.flashErase a).free = (s.flashErase a).free := by
    rw [frameS, frameT]
    exact free
  refine ⟨?_, ?_, ?_, freeKept⟩
  all_goals
    rw [flashS, flashT]
    unfold Flash.erased
    dsimp only
    split
    · simp only [slotA, slotB, recs]
    · split <;> simp only [slotA, slotB, recs]

theorem State.SameBytes.forEach_flashErase {s t : State} (same : s.SameBytes t) (at' : Nat → Nat) (ks : List Nat) :
    (s.forEach ks fun u k => u.flashErase (at' k)).SameBytes (t.forEach ks fun u k => u.flashErase (at' k)) := by
  induction ks generalizing s t with
  | nil => exact same
  | cons k ks ih => exact ih (same.flashErase (at' k))

theorem State.SameBytes.flashProgram {s t : State} (same : s.SameBytes t) (a : Nat) (bs : List Byte) :
    (s.flashProgram a bs).SameBytes (t.flashProgram a bs) := by
  have bytes := same.bytes a bs.length
  obtain ⟨slotA, slotB, recs, free⟩ := same
  unfold State.flashProgram
  dsimp only
  rw [bytes, free]
  generalize List.mapIdx _ _ = new
  have put : ({ s with flash := s.flash.put a new } : State).SameBytes { t with flash := t.flash.put a new } := by
    unfold Flash.put
    dsimp only
    split
    · exact ⟨by simp only [slotA], slotB, recs, free⟩
    · split
      · exact ⟨slotA, by simp only [slotB], recs, free⟩
      · exact ⟨slotA, slotB, by simp only [recs], free⟩
  obtain ⟨slotA, slotB, recs, -⟩ := put
  split <;> exact ⟨slotA, slotB, recs, rfl⟩

theorem State.SameBytes.settleJob {s t : State} (same : s.SameBytes t) (j : FlashJob) : (s.settleJob j).SameBytes (t.settleJob j) := by
  unfold State.settleJob
  split
  · exact same.forEach_flashErase _ _
  · exact same.flashProgram _ _

theorem State.SameBytes.settle {s t : State} (same : s.SameBytes t) (jobs : List FlashJob) :
    (jobs.foldl State.settleJob s).SameBytes (jobs.foldl State.settleJob t) := by
  induction jobs generalizing s t with
  | nil => exact same
  | cons j jobs ih => exact ih (same.settleJob j)

/-- What has arrived through the link finds the flash settled as it was. -/
theorem State.sameBytes_settled_link (s : State) (l : Link) : s.settled.SameBytes ({ s with link := l } : State).settled :=
  State.SameBytes.settle (s := s) (t := { s with link := l }) ⟨rfl, rfl, rfl, rfl⟩
    ((s.flash.cur.toList ++ s.flash.wait).filter fun j => j.cmd.writer = 2)

theorem State.besideFlash_settleJob (s : State) (j : FlashJob) : (s.settleJob j).besideFlash = s.besideFlash := by
  unfold State.settleJob
  split
  · exact State.forEach_leaves (g := State.besideFlash) (f := fun t i => t.flashErase (j.cmd.addr + 4096 * i))
      (fun u i => u.besideFlash_flashErase _) s _
  · exact State.besideFlash_flashProgram ..

theorem State.besideFlash_settled (s : State) : s.settled.besideFlash = s.besideFlash :=
  List.foldlRecOn (motive := fun t : State => t.besideFlash = s.besideFlash) _ _ rfl
    fun t rest j _ => (t.besideFlash_settleJob j).trans rest

/-- An image operation that is queued is the last of those that the flash settles. -/
theorem State.sameBytes_settled_queued {s t : State} {j : FlashJob} (flash : t.flash = s.flash.take j) (free : t.free = s.free)
    (image : j.cmd.writer = 2) (queue : s.flash.cur ≠ none ∨ s.flash.wait = []) :
    ∃ u, t.settled = u.settleJob j ∧ s.settled.SameBytes u := by
  obtain ⟨recs, slotA, slotB⟩ := s.flash.take_bytes j
  have same : s.SameBytes t := ⟨flash ▸ slotA, flash ▸ slotB, flash ▸ recs, free⟩
  have jobs : t.flash.cur.toList ++ t.flash.wait = (s.flash.cur.toList ++ s.flash.wait) ++ [j] := by
    rw [flash]
    unfold Flash.take
    cases cur : s.flash.cur with
    | none => simp [queue.resolve_left (absurd cur)]
    | some c => simp
  refine ⟨_, ?_, same.settle ((s.flash.cur.toList ++ s.flash.wait).filter fun j => j.cmd.writer = 2)⟩
  unfold State.settled
  rw [jobs, List.filter_append, List.filter_cons_of_pos (by simp [image]), List.foldl_append]
  rfl

/-! ### An erased slot, and bytes programmed into it (R41) -/

/-- No byte of a slot's sector is programmed, nor of the factory image. -/
def Slot.SectorErased (x : Slot) (k : Nat) : Prop :=
  (x.factory = true → x.gone.get false k = true) ∧ ∀ c ∈ x.cells, c.1 / 4096 ≠ k

theorem Slot.SectorErased.byte {x : Slot} {off : Nat} (erased : x.SectorErased (off / 4096)) : x.byte off = 0xFF := by
  obtain ⟨gone, cells⟩ := erased
  have unlisted : Sparse.get 0xFF x.cells off = 0xFF := by
    have none := Sparse.get_append 0xFF x.cells [] off fun c mem same => cells c mem (congrArg (· / 4096) same)
    rw [List.append_nil] at none
    exact none
  unfold Slot.byte
  rw [if_neg (by cases factory : x.factory <;> simp [gone, factory]), unlisted]

theorem Slot.sectorErased_eraseSector (x : Slot) (k : Nat) : (x.eraseSector k).SectorErased k := by
  refine ⟨fun factory => ?_, fun c mem same => ?_⟩
  · have gone : (x.eraseSector k).gone = x.gone.set false k true := if_pos factory
    rw [gone]
    exact Sparse.get_set_listed false x.gone k Bool.noConfusion
  · simp [Slot.eraseSector, same] at mem

theorem Slot.SectorErased.eraseSector {x : Slot} {n : Nat} (erased : x.SectorErased n) (k : Nat) :
    (x.eraseSector k).SectorErased n := by
  by_cases same : n = k
  · exact same ▸ x.sectorErased_eraseSector k
  · obtain ⟨gone, cells⟩ := erased
    refine ⟨fun factory => ?_, fun c mem => cells c (List.mem_of_mem_filter mem)⟩
    have other : (x.eraseSector k).gone = x.gone.set false k true := if_pos factory
    rw [other]
    exact (Sparse.get_modify_other false x.gone (f := fun _ => true) same).trans (gone factory)

/-- Erasing a sector of the flash: the slot it lies in, and no other. -/
theorem State.slot_flashErase (s : State) (a : Nat) (i : SlotId) :
    (s.flashErase a).slot i = s.slot i ∨ ∃ k, (s.flashErase a).slot i = (s.slot i).eraseSector k := by
  obtain ⟨flash, -⟩ := s.flashErase_frame a
  cases i <;> simp only [State.slot, flash, Flash.erased]
  case a =>
    split
    · exact .inr ⟨_, rfl⟩
    · split <;> exact .inl rfl
  case b =>
    split
    · exact .inl rfl
    · split
      · exact .inr ⟨_, rfl⟩
      · exact .inl rfl

theorem State.slot_flashErase_sector (s : State) (i : SlotId) {k : Nat} (inSlot : k < 3072) :
    (s.flashErase (slotBase i + 4096 * k)).slot i = (s.slot i).eraseSector k := by
  obtain ⟨flash, -⟩ := s.flashErase_frame (slotBase i + 4096 * k)
  cases i
  case a =>
    show (s.flashErase _).flash.slotA = s.flash.slotA.eraseSector k
    rw [flash, Flash.erased, slotBase]
    dsimp only
    rw [if_pos (by omega), show (0 + 4096 * k) / 4096 = k by omega]
  case b =>
    show (s.flashErase _).flash.slotB = s.flash.slotB.eraseSector k
    rw [flash, Flash.erased, slotBase]
    dsimp only
    rw [if_neg (by omega), if_pos (by omega), show (0xC00000 + 4096 * k) / 4096 - 3072 = k by omega]

/-- An IMAGE_ERASE that is done leaves every byte of its slot erased. -/
theorem State.byte_flashEraseMany (s : State) (i : SlotId) {off : Nat} (inSlot : off < 0xC00000) :
    ((s.flashEraseMany (slotBase i) 3072).slot i).byte off = 0xFF := by
  refine Slot.SectorErased.byte (State.forEach_reaches (f := fun t k => t.flashErase (slotBase i + 4096 * k)) (I := fun _ => True)
    (P := fun u => (u.slot i).SectorErased (off / 4096)) (n := off / 4096) (fun _ _ h => h) (fun u _ => ?_) (fun u k _ erased => ?_)
    (List.mem_range.mpr (by omega)) trivial)
  · rw [u.slot_flashErase_sector i (by omega)]
    exact Slot.sectorErased_eraseSector ..
  · obtain same | ⟨n, sector⟩ := u.slot_flashErase (slotBase i + 4096 * k) i
    · exact same ▸ erased
    · exact sector ▸ erased.eraseSector n

/-- A byte of a slot by its flash address. -/
theorem State.byte_slotBase (s : State) (i : SlotId) {off : Nat} (inSlot : off < 0xC00000) :
    s.flash.byte (slotBase i + off) = (s.slot i).byte off := by
  cases i
  · show s.flash.byte (0 + off) = s.flash.slotA.byte off
    rw [Flash.byte, if_pos (by omega), Nat.zero_add]
  · show s.flash.byte (0xC00000 + off) = s.flash.slotB.byte off
    rw [Flash.byte, if_neg (by omega), if_pos (by omega), Nat.add_sub_cancel_left]

theorem Slot.byte_of_blank {x : Slot} {off n k : Nat} (blank : x.blank off n = true) (inside : k < n) :
    (x.factory = true → x.gone.get false ((off + k) / 4096) = true) ∧ x.byte (off + k) = 0xFF := by
  have here := List.all_eq_true.mp blank k (List.mem_range.mpr inside)
  simp only [Bool.and_eq_true, Bool.or_eq_true, Bool.not_eq_true', decide_eq_true_eq] at here
  obtain ⟨gone, erased⟩ := here
  have gone : x.factory = true → x.gone.get false ((off + k) / 4096) = true := fun factory =>
    gone.resolve_left (by simp [factory])
  refine ⟨gone, ?_⟩
  unfold Slot.byte
  rw [if_neg (by cases factory : x.factory <;> simp [gone, factory]), erased]

/-- The slot that bytes are put into. -/
theorem State.slot_put {s : State} (i : SlotId) {off : Nat} {data : List Byte} (inSlot : off < 0xC00000) :
    ({ s with flash := s.flash.put (slotBase i + off) data } : State).slot i =
      { s.slot i with cells := Sparse.merge 0xFF (data.mapIdx fun k b => (off + k, b)) (s.slot i).cells } := by
  cases i
  · show (s.flash.put (0 + off) data).slotA = _
    rw [Flash.put]
    dsimp only
    rw [if_pos (by omega), Nat.zero_add]
    rfl
  · show (s.flash.put (0xC00000 + off) data).slotB = _
    rw [Flash.put]
    dsimp only
    rw [if_neg (by omega), if_pos (by omega), Nat.add_sub_cancel_left]
    rfl

/-- An IMAGE_WRITE that is done has put its bytes into the erased bytes of its slot. -/
theorem State.byte_flashProgram_blank {s : State} (recs : Sparse.wf 0xFF s.flash.recs = true)
    (slotA : Sparse.wf 0xFF s.flash.slotA.cells = true) (slotB : Sparse.wf 0xFF s.flash.slotB.cells = true) (i : SlotId)
    {off k : Nat} {data : List Byte}
    (blank : (s.slot i).blank off data.length = true) (fits : off + data.length ≤ 0xC00000) (inside : k < data.length) :
    ((s.flashProgram (slotBase i + off) data).slot i).byte (off + k) = data.getD k 0 := by
  have cells : Sparse.wf 0xFF (s.slot i).cells = true := by
    cases i
    · exact slotA
    · exact slotB
  have erased : ∀ j, j < data.length → s.flash.byte (slotBase i + off + j) = 0xFF := fun j inside => by
    rw [Nat.add_assoc, s.byte_slotBase i (by omega)]
    exact (Slot.byte_of_blank blank inside).2
  obtain ⟨gone, -⟩ := Slot.byte_of_blank blank inside
  rw [State.flashProgram_erased recs erased, State.slot_put i (by omega)]
  unfold Slot.byte
  rw [if_neg (by cases factory : (s.slot i).factory <;> simp [gone, factory])]
  show Sparse.get 0xFF (Sparse.merge 0xFF _ _) (off + k) = _
  rw [Sparse.get_merge_block cells, if_pos (by omega), Nat.add_sub_cancel_left]

/-! ### The operations (R79, Table 13.6) -/

theorem State.needSession_on {s : State} {q : SvcSrc} (on : s.sessionOn q) : s.needSession q = 0 := by
  obtain ⟨unlocked, path⟩ := on
  simp [State.needSession, State.otherPath, unlocked, path]

/-- The flash's record of an IMAGE_ERASE of a slot: 3072 sectors, one after the other. -/
def eraseJob (i : SlotId) : FlashJob :=
  { cmd := { writer := 2, erase := true, addr := slotBase i, data := [] }, more := 3071, op := 0x110 }

def writeJob (i : SlotId) (off : Nat) (data : List Byte) : FlashJob :=
  { cmd := { writer := 2, erase := false, addr := slotBase i + off, data := data }, op := 0x111 }

/-- What an IMAGE_ERASE that is taken changes. -/
def State.eraseTaken (i : SlotId) (s : State) : State :=
  { s.flashQueue (eraseJob i) with start := { s.start with imgErases := s.start.imgErases + 1 } }

section
variable {s : State} {q : SvcSrc} {args : List Byte} {i : SlotId} (on : s.sessionOn q)
include on

theorem State.takeImageErase_taken (fixed : argsFixed args 1 = true) (writeEn : s.img.service.writeEn = true)
    (slot : slotOf (fieldAt (argsOf args) 0 1) = some i) (inactive : s.start.active ≠ some i) (few : s.start.imgErases < 4) :
    s.takeImageErase q args = (s.eraseTaken i).answerSvc q 0x110 0 [] := by
  unfold State.takeImageErase
  dsimp only
  rw [if_neg (by simp [fixed]), if_neg (by simp [State.needSession_on on]), if_neg (by simp [writeEn]), slot]
  exact if_neg (by simp [inactive]; omega)

theorem State.takeImageErase_busy (fixed : argsFixed args 1 = true) (writeEn : s.img.service.writeEn = true)
    (slot : slotOf (fieldAt (argsOf args) 0 1) = some i) (busy : s.start.active = some i ∨ 4 ≤ s.start.imgErases) :
    s.takeImageErase q args = s.answerSvc q 0x110 8 [] := by
  unfold State.takeImageErase
  dsimp only
  rw [if_neg (by simp [fixed]), if_neg (by simp [State.needSession_on on]), if_neg (by simp [writeEn]), slot]
  exact if_pos (by simpa using busy)

theorem State.takeImageWrite_taken (lenOk : argLenOk args = true) (long : 5 ≤ (argsOf args).length)
    (writeEn : s.img.service.writeEn = true) (slot : slotOf (fieldAt (argsOf args) 0 1) = some i)
    (inactive : s.start.active ≠ some i) (short : ((argsOf args).drop 5).length ≤ 4096)
    (fits : fieldAt (argsOf args) 1 4 + ((argsOf args).drop 5).length ≤ 0xC00000)
    (blank : (s.settled.slot i).blank (fieldAt (argsOf args) 1 4) ((argsOf args).drop 5).length = true) :
    s.takeImageWrite q args =
      (s.flashQueue (writeJob i (fieldAt (argsOf args) 1 4) ((argsOf args).drop 5))).answerSvc q 0x111 0 [] := by
  unfold State.takeImageWrite
  dsimp only
  rw [if_neg (by simp [lenOk]; omega), if_neg (by simp [State.needSession_on on]), if_neg (by simp [writeEn]), slot]
  dsimp only
  rw [decide_eq_false (Nat.not_lt.mpr short), decide_eq_false (Nat.not_lt.mpr fits), blank, if_neg Bool.noConfusion, if_neg inactive]
  rfl

theorem State.takeImageCheck_answer (fixed : argsFixed args 1 = true) (slot : slotOf (fieldAt (argsOf args) 0 1) = some i) :
    s.takeImageCheck q args = (s.imageOp 0x112 (slotNum i) (s.settled.slotReason (s.settled.slot i))).answerSvc q 0x112 0
      (leBytes 1 (s.settled.slotReason (s.settled.slot i)) ++ leBytes 1 (b2n (s.settled.firstChoice = some i))) := by
  unfold State.takeImageCheck
  dsimp only
  rw [if_neg (by simp [fixed]), if_neg (by simp [State.needSession_on on]), slot]

theorem State.takeImageRead_answer (fixed : argsFixed args 7 = true) (slot : slotOf (fieldAt (argsOf args) 0 1) = some i)
    (few : fieldAt (argsOf args) 5 2 ≤ maxRead) (fits : fieldAt (argsOf args) 1 4 + fieldAt (argsOf args) 5 2 ≤ 0xC00000) :
    s.takeImageRead q args = s.answerSvc q 0x113 0
      ((s.settled.slot i).bytes (fieldAt (argsOf args) 1 4) (fieldAt (argsOf args) 5 2)) := by
  unfold State.takeImageRead
  dsimp only
  rw [if_neg (by simp [fixed]), if_neg (by simp [State.needSession_on on]), slot]
  exact if_neg (by simp; omega)

theorem State.takeRecordRead_answer {r : Nat × Nat} (fixed : argsFixed args 7 = true)
    (region : recordRegion (fieldAt (argsOf args) 0 1) = some r) (some : 0 < fieldAt (argsOf args) 5 2)
    (few : fieldAt (argsOf args) 5 2 ≤ maxRead) (fits : fieldAt (argsOf args) 1 4 + fieldAt (argsOf args) 5 2 ≤ r.2) :
    s.takeRecordRead q args = s.answerSvc q 0x120 0
      (s.flash.bytes (r.1 + fieldAt (argsOf args) 1 4) (fieldAt (argsOf args) 5 2)) := by
  unfold State.takeRecordRead
  dsimp only
  rw [if_neg (by simp [fixed]), if_neg (by simp [State.needSession_on on]), region]
  exact if_neg (by simp; omega)

end

/-- The checks of an image's header read the slot's bytes, the start and the fuses (R65). -/
theorem State.headerReason_congr {s t : State} (start : t.start = s.start) (fuse : t.fuse = s.fuse) :
    t.headerReason = s.headerReason := by
  unfold State.headerReason State.keyBlank
  rw [start, fuse]

theorem State.slotReason_congr {s t : State} (start : t.start = s.start) (fuse : t.fuse = s.fuse) : t.slotReason = s.slotReason := by
  unfold State.slotReason
  rw [State.headerReason_congr start fuse]

theorem State.firstChoice_congr {s t : State} (start : t.start = s.start) (fuse : t.fuse = s.fuse) (slots : s.SameBytes t) :
    t.firstChoice = s.firstChoice := by
  have slot : t.slot = s.slot := funext slots.slot
  obtain ⟨slotA, slotB, -⟩ := slots
  unfold State.firstChoice State.slotOrder
  rw [State.headerReason_congr start fuse, slot, slotA, slotB]

/-- An operation that has arrived finds the flash settled, and its images judged, as they were. -/
theorem State.settled_arrived (s : State) (l : Link) :
    (∀ i, ({ s with link := l } : State).settled.slot i = s.settled.slot i) ∧
      ({ s with link := l } : State).settled.slotReason = s.settled.slotReason ∧
      ({ s with link := l } : State).settled.firstChoice = s.settled.firstChoice := by
  have same := s.sameBytes_settled_link l
  obtain ⟨start, fuse, -⟩ := State.keeps_of_besideFlash s.besideFlash_settled
  obtain ⟨startLink, fuseLink, -⟩ := State.keeps_of_besideFlash ({ s with link := l } : State).besideFlash_settled
  have startSame := startLink.trans start.symm
  have fuseSame := fuseLink.trans fuse.symm
  exact ⟨same.slot, State.slotReason_congr startSame fuseSame, State.firstChoice_congr startSame fuseSame same⟩

/-- Settles O21: each operation by what it takes and answers; what a queued erase or program leaves, by the flash once its queue is
done. -/
theorem imageOperationsOnInactiveSlots : Obligations.ImageOperationsOnInactiveSlots := by
  refine ⟨fun s q args i serves fixed on writeEn slot => ⟨fun inactive few => ?erase, fun busy => ?busy⟩,
    fun s q args i wf serves lenOk on => ?write, fun s q args i serves fixed on slot => ?check,
    fun s q args i serves fixed on slot few fits => ?read, fun s q args r serves fixed on region some few fits => ?record⟩
  case erase =>
    obtain ⟨l, t, run, -, replied, frame⟩ := State.service_answers (i := .imageErase q args)
      (f := fun t => t.takeImageErase q args) (e := State.eraseTaken i) (status := 0) (data := []) serves
      (fun l _ => State.takeImageErase_taken (s := { s with link := l }) on fixed writeEn slot inactive few)
      fun _ => ⟨rfl, rfl, rfl⟩
    have flash : t.flash = s.flash.take (eraseJob i) := (congrArg State.flash frame :)
    refine ⟨t, congrArg _ run, flash, fun queue k inSlot => ?_, (congrArg State.start frame :), replied, ?_⟩
    · obtain ⟨u, settled, -⟩ := State.sameBytes_settled_queued flash (congrArg State.free frame :) rfl queue
      rw [settled]
      exact u.byte_flashEraseMany i inSlot
    · rw [frame]
      rfl
  case busy =>
    obtain ⟨l, t, run, -, replied, frame⟩ := State.service_answers (i := .imageErase q args)
      (f := fun t => t.takeImageErase q args) (e := id) (status := 8) (data := []) serves
      (fun l _ => State.takeImageErase_busy (s := { s with link := l }) on fixed writeEn slot busy) fun _ => ⟨rfl, rfl, rfl⟩
    exact ⟨t, congrArg _ run, (congrArg State.flash frame :), replied, frame⟩
  case write =>
    dsimp only
    intro long writeEn slot inactive short fits blank
    obtain ⟨l, t, run, -, replied, frame⟩ := State.service_answers (i := .imageWrite q args)
      (f := fun t => t.takeImageWrite q args)
      (e := fun u => u.flashQueue (writeJob i (fieldAt (argsOf args) 1 4) ((argsOf args).drop 5))) (status := 0) (data := []) serves
      (fun l _ => State.takeImageWrite_taken (s := { s with link := l }) on lenOk long writeEn slot inactive short fits
        (((s.settled_arrived l).1 i).symm ▸ blank)) fun _ => ⟨rfl, rfl, rfl⟩
    have flash : t.flash = s.flash.take (writeJob i (fieldAt (argsOf args) 1 4) ((argsOf args).drop 5)) :=
      (congrArg State.flash frame :)
    refine ⟨t, congrArg _ run, flash, fun queue k inside => ?_, replied, ?_⟩
    · obtain ⟨u, settled, same⟩ := State.sameBytes_settled_queued flash (congrArg State.free frame :) rfl queue
      obtain ⟨-, recs, slotA, slotB, -⟩ := (Kept.settled (core := False) (.refl s)).wf wf
      have slots := same.slot i
      obtain ⟨sameA, sameB, sameRecs, -⟩ := same
      rw [settled]
      exact State.byte_flashProgram_blank (sameRecs ▸ recs) (sameA ▸ slotA) (sameB ▸ slotB) i (slots ▸ blank) fits inside
    · rw [frame]
      rfl
  case check =>
    obtain ⟨l, t, run, -, replied, frame⟩ := State.service_answers (i := .imageCheck q args)
      (f := fun t => t.takeImageCheck q args) (e := fun u => u.imageOp 0x112 (slotNum i) (s.settled.slotReason (s.settled.slot i)))
      (status := 0) (data := leBytes 1 (s.settled.slotReason (s.settled.slot i)) ++
        leBytes 1 (b2n (s.settled.firstChoice = some i))) serves
      (fun l _ => by
        obtain ⟨slots, reason, first⟩ := s.settled_arrived l
        rw [State.takeImageCheck_answer (s := { s with link := l }) on fixed slot, slots, reason, first])
      fun _ => ⟨rfl, rfl, rfl⟩
    exact ⟨t, congrArg _ run, (congrArg State.ev frame :), replied, by rw [frame]; rfl⟩
  case read =>
    obtain ⟨l, t, run, -, replied, frame⟩ := State.service_answers (i := .imageRead q args)
      (f := fun t => t.takeImageRead q args) (e := id) (status := 0)
      (data := (s.settled.slot i).bytes (fieldAt (argsOf args) 1 4) (fieldAt (argsOf args) 5 2)) serves
      (fun l _ => by
        rw [State.takeImageRead_answer (s := { s with link := l }) on fixed slot few fits, (s.settled_arrived l).1 i]
        rfl) fun _ => ⟨rfl, rfl, rfl⟩
    exact ⟨t, congrArg _ run, replied, frame⟩
  case record =>
    obtain ⟨l, t, run, -, replied, frame⟩ := State.service_answers (i := .recordRead q args)
      (f := fun t => t.takeRecordRead q args) (e := id) (status := 0)
      (data := s.flash.bytes (r.1 + fieldAt (argsOf args) 1 4) (fieldAt (argsOf args) 5 2)) serves
      (fun l _ => State.takeRecordRead_answer (s := { s with link := l }) on fixed region some few fits) fun _ => ⟨rfl, rfl, rfl⟩
    exact ⟨t, congrArg _ run, replied, frame⟩

end Sys2Proof.Machine
end

section
/-!
PROOFS. The MP's ready report and the bring-up timeouts (02 R69, R70, R75, R77; O4).
-/
namespace Sys2Proof.Machine

/-! ### What heals, predicts and reports -/

/-- All of a state but what the fills of the store, the saved tables and the life records write; the lock of the store's registers
and what waits at the link stay. -/
def State.besideFill (s : State) : State :=
  { s with
    store := { wlock := s.store.wlock }, link := { waiting := s.link.waiting }, flash := { s.flash with erases := [] }
    banks := [], diag := {}, svc := {}, policy := {}, affin := {}, ev := {} }

theorem State.besideFill_cond (s : State) (c : Bool) {f : State → State} (h : ∀ u, (f u).besideFill = u.besideFill) :
    (s.cond c f).besideFill = s.besideFill := by
  cases c
  · rfl
  · exact h s

theorem State.besideFill_forEach (s : State) (xs : List Nat) {f : State → Nat → State} (h : ∀ u x,
    (f u x).besideFill = u.besideFill) :
    (s.forEach xs f).besideFill = s.besideFill := State.forEach_leaves h s xs

theorem State.besideFill_loadBytes (s : State) (a : Nat) (bs : List Byte) : (s.loadBytes a bs).besideFill = s.besideFill :=
  (congrArg State.besideFill (s.loadBytes_cells a bs) :)

theorem State.besideFill_eccGranule (s : State) (g : Nat) : (s.eccGranule g).besideFill = s.besideFill := by
  unfold State.eccGranule
  split
  · obtain ⟨e, rated⟩ := State.raiseRatedN_ev (s.modBank (bankOf (8 * g)) fun k =>
      let q := if k.rewrite.contains (rowOf (8 * g)) || 8 ≤ k.rewrite.length then k.rewrite else k.rewrite ++ [rowOf (8 * g)]
      { k with corrected := sat32 (k.corrected + 1), rewrite := q }) 0x0301 0 1 []
    exact (congrArg State.besideFill rated :)
  · split <;> rfl

theorem State.besideFill_eccRead (s : State) (a n : Nat) : (s.eccRead a n).besideFill = s.besideFill := by
  unfold State.eccRead
  split
  · rfl
  · exact State.besideFill_forEach _ _ State.besideFill_eccGranule

theorem State.besideFill_healCounter (s : State) (k : Nat) : (s.healCounter k).besideFill = s.besideFill := by
  unfold State.healCounter
  dsimp only
  split
  · exact State.besideFill_loadBytes ..
  · rfl

theorem State.besideFill_healAll (s : State) : s.healAll.besideFill = s.besideFill := by
  unfold State.healAll
  split
  · rfl
  · exact (State.besideFill_forEach _ _ State.besideFill_healCounter).trans (s.besideFill_eccRead ..)

theorem State.besideFill_compensate (s : State) (t : Nat) (p : TilePred) : (s.compensate t p).besideFill = s.besideFill :=
  State.besideFill_cond _ _ fun _ => rfl

theorem State.besideFill_setAffin (s : State) (affin : Affin) : ({ s with affin } : State).besideFill = s.besideFill := rfl

theorem State.besideFill_predict (s : State) (ps : List TilePred) : (s.predict ps).besideFill = s.besideFill :=
  (State.besideFill_setAffin _ _).trans (State.besideFill_forEach _ _ fun u i => u.besideFill_compensate i _)

theorem State.besideFill_enqueue (s : State) (q : Nat) (p : TxPkt) : (s.enqueue q p).besideFill = s.besideFill :=
  (congrArg State.besideFill (s.enqueue_link q p) :)

theorem State.besideFill_affReport (s : State) (ps : List TilePred) : (s.affReport ps).besideFill = s.besideFill :=
  (State.besideFill_setAffin _ _).trans
    ((State.besideFill_forEach _ _ fun u _ => u.besideFill_enqueue 5 _).trans (s.besideFill_enqueue 5 _))

theorem State.besideFill_reportAtLinkUp (s : State) : s.reportAtLinkUp.besideFill = s.besideFill :=
  State.besideFill_cond _ _ fun u => (State.besideFill_affReport ..).trans u.besideFill_healAll

theorem State.besideFill_flushReplies (s : State) : s.flushReplies.besideFill = s.besideFill := by
  have queued : ∀ (ps : List TxPkt) (u : State), (ps.foldl (fun t p => t.enqueue 0 p) u).besideFill = u.besideFill := by
    intro ps
    induction ps with
    | nil => exact fun _ => rfl
    | cons p ps ih => exact fun u => (ih _).trans (u.besideFill_enqueue 0 p)
  exact queued _ _

theorem State.besideFill_mpIsReady (s : State) :
    s.mpIsReady.besideFill = ({ s with mp := { s.mp with ready := true } } : State).besideFill := State.besideFill_flushReplies _

/-! ### The ready report -/

/-- The ready report's image, readings and personality, before what waited is served. -/
def State.latchedAtReady (s : State) : State :=
  ((s.cond (s.start.attempts ≠ 0 && s.groupReady 0) fun v => v.healAll.predict v.healAll.predictions).latchAndEnter.cond s.legacyUp
    State.legacyRecover).mpIsReady

theorem exec_mpReady {s : State} (bringUp : s.start.state = .bringUp) (started : s.start.attempts < 2)
    (loaded : s.mpLoaded = true) :
    ∃ u, u = s.latchedAtReady.serveWaiting.enterReady ∧
      exec .mpReady s = .next (u.startPortB.cond u.linkUp State.reportAtLinkUp) :=
  ⟨_, rfl, if_neg (by simp [bringUp, loaded]; omega)⟩

/-- The personality latches by the framing of a link that is up, and what waits at the link and the chapters that a start takes from
its image and its sensors stay. -/
theorem State.latchAndEnter_cases (s : State) :
    s.latchAndEnter.link = s.link ∧ s.latchAndEnter.fuse = s.fuse ∧ s.latchAndEnter.img = s.img ∧
      s.latchAndEnter.thermal = s.thermal ∧ s.latchAndEnter.rb = s.rb ∧
      (s.start.pers = .unlatched → s.portA.linked = true →
        s.latchAndEnter.start.pers = if s.portA.framing = 2 then .legacy else .native) := by
  obtain ⟨pers, e, latched, -, byFraming⟩ := s.latchByFraming_cases
  unfold State.latchAndEnter
  dsimp only
  rw [latched]
  split
  · exact ⟨rfl, rfl, rfl, rfl, rfl, byFraming⟩
  · exact ⟨rfl, rfl, rfl, rfl, rfl, byFraming⟩

theorem State.latchedAtReady_cases (s : State) :
    s.latchedAtReady.link.waiting = s.link.waiting ∧ s.latchedAtReady.fuse = s.fuse ∧ s.latchedAtReady.img = s.img ∧
      s.latchedAtReady.thermal = s.thermal ∧ s.latchedAtReady.rb = s.rb ∧ s.latchedAtReady.mp.ready = true ∧
      (s.start.pers = .unlatched → s.portA.linked = true →
        s.latchedAtReady.start.pers = if s.portA.framing = 2 then .legacy else .native) := by
  unfold State.latchedAtReady
  have healed : (s.cond (s.start.attempts ≠ 0 && s.groupReady 0) fun v => v.healAll.predict v.healAll.predictions).besideFill =
      s.besideFill := State.besideFill_cond _ _ fun u => (State.besideFill_predict ..).trans u.besideFill_healAll
  generalize (s.cond (s.start.attempts ≠ 0 && s.groupReady 0) fun v => v.healAll.predict v.healAll.predictions) = r at healed
  obtain ⟨link, fuse, img, thermal, rb, pers⟩ := r.latchAndEnter_cases
  obtain ⟨safety, recovered⟩ : ∃ safety, r.latchAndEnter.cond s.legacyUp State.legacyRecover = { r.latchAndEnter with safety } := by
    cases s.legacyUp
    · exact ⟨_, rfl⟩
    · exact r.latchAndEnter.legacyRecover_safety
  rw [recovered]
  generalize r.latchAndEnter = t at link fuse img thermal rb pers
  have reported := State.besideFill_mpIsReady { t with safety }
  generalize ({ t with safety } : State).mpIsReady = v at reported
  have portA : r.portA = s.portA := (congrArg State.portA healed :)
  have start : r.start = s.start := (congrArg State.start healed :)
  refine ⟨?_, ?_, ?_, ?_, ?_, (congrArg (·.mp.ready) reported :), fun unlatched linked => ?_⟩
  · exact (congrArg (·.link.waiting) reported :).trans ((congrArg (·.waiting) link).trans (congrArg (·.link.waiting) healed :))
  · exact (congrArg State.fuse reported :).trans (fuse.trans (congrArg State.fuse healed :))
  · exact (congrArg State.img reported :).trans (img.trans (congrArg State.img healed :))
  · exact (congrArg State.thermal reported :).trans (thermal.trans (congrArg State.thermal healed :))
  · exact (congrArg State.rb reported :).trans (rb.trans (congrArg State.rb healed :))
  · rw [← start] at unlatched
    rw [← portA] at linked ⊢
    exact (congrArg (·.start.pers) reported :).trans (pers unlatched linked)

/-- What the ready state leaves of the state it is entered from, and what it locks and releases (R69, R70, R75). -/
theorem State.enterReady_cases (s : State) :
    s.enterReady.start.state = .ready ∧ s.enterReady.start.outcome = some 0 ∧ s.enterReady.start.pers = s.start.pers ∧
      s.enterReady.start.rolling = (s.img.advance && decide (s.fuse.rollback < s.img.secVer)) ∧
      s.enterReady.mp.ready = s.mp.ready ∧ s.enterReady.store.wlock = true ∧ s.enterReady.drive.qlock = true ∧
      s.enterReady.safety.stuckReset = false ∧ s.enterReady.link = s.link ∧
      s.enterReady.fuse = s.fuse ∧ s.enterReady.img = s.img ∧ s.enterReady.thermal = s.thermal ∧ s.enterReady.rb = s.rb :=
  ⟨rfl, rfl, rfl, rfl, rfl, rfl, rfl, rfl, rfl, rfl, rfl, rfl, rfl⟩

theorem exec_mpReady_ready {s : State} (bringUp : s.start.state = .bringUp) (started : s.start.attempts < 2)
    (loaded : s.mpLoaded = true) :
    ∃ t, exec .mpReady s = .next t ∧ t.start.state = .ready ∧ t.start.outcome = some 0 ∧ t.mp.ready = true ∧
      t.store.wlock = true ∧ t.drive.qlock = true ∧ t.safety.stuckReset = false ∧ (s.link.waiting = [] → t.link.waiting = []) ∧
      t.start.rolling = (s.img.advance && decide (s.fuse.rollback < s.img.secVer)) ∧
      (s.start.pers = .unlatched → s.portA.st = .up → t.start.pers = if s.portA.framing = 2 then .legacy else .native) ∧
      t.fuse = s.fuse ∧ t.img = s.img ∧ t.thermal = s.thermal ∧ t.rb = s.rb := by
  obtain ⟨u, entered, run⟩ := exec_mpReady bringUp started loaded
  refine ⟨_, run, ?_⟩
  obtain ⟨portB, startedB⟩ := u.startPortB_portB
  rw [startedB]
  have reported : (({ u with portB } : State).cond u.linkUp State.reportAtLinkUp).besideFill = ({ u with portB } : State).besideFill :=
    State.besideFill_cond _ _ State.besideFill_reportAtLinkUp
  generalize ({ u with portB } : State).cond u.linkUp State.reportAtLinkUp = t at reported
  have start : t.start = u.start := (congrArg State.start reported :)
  have mp : t.mp = u.mp := (congrArg State.mp reported :)
  have wlock : t.store.wlock = u.store.wlock := (congrArg (·.store.wlock) reported :)
  have drive : t.drive = u.drive := (congrArg State.drive reported :)
  have safety : t.safety = u.safety := (congrArg State.safety reported :)
  have waiting : t.link.waiting = u.link.waiting := (congrArg (·.link.waiting) reported :)
  have fuse : t.fuse = u.fuse := (congrArg State.fuse reported :)
  have img : t.img = u.img := (congrArg State.img reported :)
  have thermal : t.thermal = u.thermal := (congrArg State.thermal reported :)
  have rb : t.rb = u.rb := (congrArg State.rb reported :)
  rw [start, mp, wlock, drive, safety, waiting, fuse, img, thermal, rb]
  obtain ⟨waits, fuseLatched, imgLatched, thermalLatched, rbLatched, ready, byFraming⟩ := s.latchedAtReady_cases
  obtain ⟨fuseServed, -, core⟩ := Kept.serveWaiting (core := True) (.refl s.latchedAtReady)
  obtain ⟨imgServed, thermalServed, rbServed, mpServed, persServed⟩ := core trivial
  obtain ⟨state, outcome, pers, rolling, mpReady, wlocked, qlocked, released, link, fuseReady, imgReady, thermalReady, rbReady⟩ :=
    s.latchedAtReady.serveWaiting.enterReady_cases
  have served : s.link.waiting = [] → s.latchedAtReady.serveWaiting.link.waiting = [] := fun idle => by
    rw [State.serveWaiting_idle (waits.trans idle)]
    exact waits.trans idle
  generalize s.latchedAtReady.serveWaiting = v at *
  have fuseKept := fuseServed.trans fuseLatched
  have imgKept := imgServed.trans imgLatched
  subst entered
  refine ⟨state, outcome, mpReady.trans ((congrArg Mp.ready mpServed).trans ready), wlocked, qlocked, released,
    fun idle => (congrArg Link.waiting link).trans (served idle), ?_, fun unlatched up => ?_, fuseReady.trans fuseKept,
    imgReady.trans imgKept, thermalReady.trans (thermalServed.trans thermalLatched), rbReady.trans (rbServed.trans rbLatched)⟩
  · rw [rolling, fuseKept, imgKept]
  · exact pers.trans (persServed.trans (byFraming unlatched (by simp [Port.linked, up])))

/-! ### The bring-up timeouts -/

/-- The first timeout restarts the MP. -/
theorem exec_bringupTimeout_first {s : State} (bringUp : s.start.state = .bringUp) (first : s.start.attempts = 0) :
    exec .bringupTimeout s =
      .next (({ s with start := { s.start with attempts := 1 } } : State).raise 0x0B06 [(1, 1)]).restartMp :=
  (if_neg (by simp [bringUp, first])).trans (by rw [first]; rfl)

theorem State.clearControls_cases (s : State) : ∃ svc e, s.clearControls = { s with svc, ev := e } := by
  unfold State.clearControls
  split
  · exact ⟨s.svc, s.ev, rfl⟩
  · exact ⟨_, _, rfl⟩

/-- Outside READY the power cycle of the MP brings no map back: it ends the MP, and the start, the Rind and port A stay (R73, R370). -/
theorem State.cyclePd10_starting {s : State} (starting : s.start.state ≠ .ready) :
    s.cyclePd10.start = s.start ∧ s.cyclePd10.safety = s.safety ∧ s.cyclePd10.portA = s.portA ∧ s.cyclePd10.nvm.reserve = 0 ∧
      s.cyclePd10.mp.ready = false ∧ s.cyclePd10.mp.restarts = s.mp.restarts := by
  have finished := s.besideFlash_finishFlash
  obtain ⟨svc, e, cleared⟩ := s.finishFlash.clearControls_cases
  have start : s.finishFlash.start = s.start := (congrArg State.start finished :)
  have mp : s.finishFlash.mp = s.mp := (congrArg State.mp finished :)
  unfold State.cyclePd10
  dsimp only
  rw [cleared]
  generalize s.finishFlash = u at finished start mp
  have notReady : (!u.power.pd4 && decide (u.start.state = .ready)) = false := by simp [start, starting]
  dsimp only
  rw [notReady, State.cond_false]
  exact ⟨start, (congrArg State.safety finished :), (congrArg State.portA finished :), rfl, rfl, (congrArg Mp.restarts mp :)⟩

/-- The firmware's copy touches the MP alone, and neither its readiness nor its count of restarts. -/
theorem State.reloadFw_mp (s : State) :
    ∃ mp, s.reloadFw = { s with mp } ∧ mp.ready = s.mp.ready ∧ mp.restarts = s.mp.restarts := by
  unfold State.reloadFw
  split
  next => exact ⟨s.mp, rfl, rfl, rfl⟩
  next i _ =>
    cases (s.slot i).fwIntact
    · exact ⟨s.mp, rfl, rfl, rfl⟩
    · exact ⟨_, rfl, rfl, rfl⟩

theorem State.restartMp_starting {s : State} (starting : s.start.state ≠ .ready) :
    s.restartMp.start = s.start ∧ s.restartMp.safety = s.safety ∧ s.restartMp.portA = s.portA ∧ s.restartMp.nvm.reserve = 0 ∧
      s.restartMp.mp.ready = false ∧ s.restartMp.mp.restarts = sat32 (s.mp.restarts + 1) := by
  obtain ⟨start, safety, portA, reserve, ready, restarts⟩ := State.cyclePd10_starting starting
  obtain ⟨mp, reloaded, readyKept, restartsKept⟩ := s.cyclePd10.reloadFw_mp
  unfold State.restartMp
  dsimp only
  rw [reloaded]
  exact ⟨start, safety, portA, reserve, readyKept.trans ready, by rw [← restarts, ← restartsKept]⟩

/-- Settles O4: the ready report through what serving the waiting commands keeps, the timeouts through the MP's restart. -/
theorem mpReadyMakesReady : Obligations.MpReadyMakesReady := by
  refine ⟨fun _ => exec_mpReady_ready, fun s bringUp first => ?restarts, fun s bringUp second => ?gives⟩
  case restarts =>
    have starting : s.start.state ≠ .ready := by rw [bringUp]; decide
    obtain ⟨start, safety, portA, reserve, ready, restarts⟩ := State.restartMp_starting
      (s := ({ s with start := { s.start with attempts := 1 } } : State).raise 0x0B06 [(1, 1)]) starting
    exact ⟨_, exec_bringupTimeout_first bringUp first, (congrArg Start.state start).trans bringUp, congrArg Start.attempts start,
      ready, restarts, reserve, safety, portA⟩
  case gives =>
    have run : exec .bringupTimeout s = .next ({ (({ s with start := { s.start with attempts := 2 } } : State).raise 0x0B06 [(1, 2)]) with
        start := { s.start with attempts := 2, outcome := some 2 } }) :=
      (if_neg (by simp [bringUp, second])).trans (by rw [second]; rfl)
    exact ⟨_, run, rfl, rfl⟩

end Sys2Proof.Machine
end

section
/-!
PROOFS. The choice of an image slot, and the bring-up of a valid one (02 R61, R65 to R67, Table 2.19; O3).
-/
namespace Sys2Proof.Machine

/-! ### What a start takes from its image -/

/-- The chapters that a bring-up sets up from the image, apart from what the SP and the MP then do on their own. -/
def State.taken (s : State) : State :=
  { start := s.start, fuse := s.fuse, img := s.img, mp := s.mp, thermal := s.thermal, quads := s.quads
    flash := { slotA := s.flash.slotA, slotB := s.flash.slotB }, power := { pd1 := s.power.pd1 }
    clk := { gridOn := s.clk.gridOn }, grid := { started := s.grid.started, mode := s.grid.mode }
    safety := { romParams := s.safety.romParams, copy := s.safety.copy } }

theorem State.taken_cond (s : State) (c : Bool) {f : State → State} (h : ∀ u, (f u).taken = u.taken) :
    (s.cond c f).taken = s.taken := by
  cases c
  · rfl
  · exact h s

theorem State.taken_forEach (s : State) (xs : List Nat) {f : State → Nat → State} (h : ∀ u x, (f u x).taken = u.taken) :
    (s.forEach xs f).taken = s.taken := State.forEach_leaves h s xs

theorem State.taken_of_besideFill {s t : State} (h : t.besideFill = s.besideFill) : t.taken = s.taken :=
  (congrArg State.taken h :)

/-! ### The Rind's words to the tiles -/

theorem State.taken_sendFill (s : State) (q x0 x1 y0 y1 code : Nat) (stall : Bool) :
    (s.sendFill q x0 x1 y0 y1 code stall).taken = s.taken :=
  State.taken_forEach _ _ fun u t => by dsimp only; split <;> rfl

theorem State.taken_paintBeam (s : State) (q : Nat) : (s.paintBeam q).taken = s.taken :=
  State.taken_forEach _ _ fun _ _ =>
    (State.taken_cond _ _ fun _ => State.taken_sendFill ..).trans (State.taken_cond _ _ fun _ => State.taken_sendFill ..)

theorem State.taken_paintQuad (s : State) (q : Nat) : (s.paintQuad q).taken = s.taken := by
  unfold State.paintQuad
  split
  · rfl
  · cases s.safety.paint with
    | none => rfl
    | beam => exact s.taken_paintBeam q
    | dark => rfl

theorem State.taken_repaint (s : State) : s.repaint.taken = s.taken := State.taken_forEach _ _ State.taken_paintQuad

theorem State.taken_keepCeils (s : State) : s.keepCeils.taken = s.taken := State.taken_forEach _ _ fun _ _ => rfl

theorem State.taken_sendThreshs (s : State) : s.sendThreshs.taken = s.taken :=
  State.taken_forEach _ _ fun u t => by
    obtain ⟨tiles, sent⟩ := u.sendCtl_tiles t 276 (0x45 * 2 ^ 88 + u.img.thermal.openMv.getD (u.tileBand t) 150 % 1024 * 2 ^ 78 +
      u.img.thermal.shortMv.getD (u.tileBand t) 1800 % 4096 * 2 ^ 66)
    exact (congrArg State.taken sent :)

/-! ### What a start puts into the store and the saved tables -/

theorem State.besideFill_loadPart (s : State) (g a : Nat) (bs : List Byte) : (s.loadPart g a bs).besideFill = s.besideFill := by
  unfold State.loadPart
  dsimp only
  split
  · exact State.besideFill_loadBytes ..
  · rfl

theorem State.besideFill_loadImage (s : State) (g : Nat) : (s.loadImage g).besideFill = s.besideFill := by
  unfold State.loadImage
  split
  · rfl
  · dsimp only
    split
    · split <;> rfl
    · exact (State.besideFill_loadPart ..).trans (State.besideFill_loadPart ..)

theorem State.besideFill_setDiag (s : State) (diag : Diag) : ({ s with diag } : State).besideFill = s.besideFill := rfl

theorem State.besideFill_restoreList (s : State) : s.restoreList.besideFill = s.besideFill := by
  unfold State.restoreList
  split <;> exact s.besideFill_setDiag _

theorem State.besideFill_restoreMap (s : State) : s.restoreMap.besideFill = s.besideFill :=
  (State.besideFill_restoreList _).trans (State.besideFill_loadBytes ..)

theorem State.besideFill_setErases (s : State) (erases : Sparse Nat) :
    ({ s with flash := { s.flash with erases } } : State).besideFill = s.besideFill := rfl

theorem State.besideFill_restoreErases (s : State) : s.restoreErases.besideFill = s.besideFill := by
  unfold State.restoreErases
  split <;> exact s.besideFill_setErases _

theorem State.besideFill_restoreCounters (s : State) : s.restoreCounters.besideFill = s.besideFill := by
  unfold State.restoreCounters
  split <;> exact State.besideFill_loadBytes ..

theorem State.besideFill_raise (s : State) (code : Nat) (d : List (Nat × Nat)) : (s.raise code d).besideFill = s.besideFill := rfl

theorem State.besideFill_affRestore (s : State) : s.affRestore.besideFill = s.besideFill := by
  unfold State.affRestore
  dsimp only
  refine (State.besideFill_predict ..).trans ?_
  have counted := s.besideFill_restoreCounters
  generalize s.restoreCounters = t at counted ⊢
  split <;> exact (State.besideFill_raise ..).trans ((State.besideFill_setAffin ..).trans counted)

theorem State.besideFill_fillGroup (s : State) (g : Nat) (map : List Byte) : (s.fillGroup g map).besideFill = s.besideFill := by
  unfold State.fillGroup
  split
  · exact (State.besideFill_cond _ _ fun u => (State.besideFill_restoreErases _).trans <|
      (State.besideFill_affRestore _).trans u.besideFill_restoreMap).trans (s.besideFill_loadImage g)
  · split
    · exact (State.besideFill_restoreCounters _).trans ((State.besideFill_loadBytes ..).trans (s.besideFill_loadImage 0))
    · rfl

theorem State.taken_fillReady (s : State) : s.fillReady.taken = s.taken :=
  State.taken_of_besideFill (State.besideFill_forEach _ _ fun u g => u.besideFill_fillGroup g [])

/-! ### Port A, the grid, the quadrants and the Rind's parameters -/

theorem State.taken_startPortA (s : State) :
    s.startPortA.taken = ({ s with power := { s.power with pd1 := true } } : State).taken := by
  let t : State := { s with portA := s.portA.toDetect, power := { s.power with pd1 := true } }
  exact State.taken_cond t s.start.testEn fun u => (congrArg State.taken u.besideLink_linkLost :)

theorem State.taken_regrid (s : State) : s.regrid.taken = s.taken := by
  unfold State.regrid
  split
  · dsimp only
    generalize (if s.grid.onLamp then s.grid.lampErr else s.gridError) = error
    split <;> rfl
  · rfl

theorem State.taken_startGrid (s : State) :
    s.startGrid.taken = ({ s with
      clk := { s.clk with gridOn := true }, grid := { started := true, mode := s.img.defaultMode } } : State).taken :=
  State.taken_regrid _

/-- A quadrant's switch closes if it is open, and the switches that are closed stay so (Table 2.19). -/
theorem State.powerQuads_powered (s : State) {q : Nat} (h : q < 4) : (s.powerQuads.quad q).powered = true := by
  refine State.forEach_reaches (I := fun _ => True) (P := fun u => (u.quad q).powered = true) (n := q) (fun _ _ _ => trivial)
    (fun u _ => ?closes) (fun u x other powered => ?stays) ?listed trivial
  case closes =>
    cases on : (u.quad q).powered
    · rw [Bool.not_false, State.cond_true]
      have closed : (u.closeSwitch q).quad q = (u.quad q).closed :=
        State.quad_modQuad_listed (s := u) (f := Quad.closed) fun same => Bool.noConfusion (congrArg Quad.powered same)
      rw [closed]
      rfl
    · exact on
  case stays =>
    have same : ((u.cond (!(u.quad x).powered) fun u => u.closeSwitch x).quad q) = u.quad q := by
      rw [State.cond_read fun v => v.quad q]
      split
      · exact (Sparse.get_modify_other ({} : Quad) u.quads (f := Quad.closed) other.symm :)
      · rfl
    rw [same]
    exact powered
  case listed => simp; omega

/-- All of a state but the quadrants and their latches. -/
def State.besideQuads (s : State) : State := { s with quads := [], latches := [] }

theorem State.powerQuads_quads (s : State) : s.powerQuads.taken = ({ s with quads := s.powerQuads.quads } : State).taken := by
  have rest : s.powerQuads.besideQuads = s.besideQuads := State.forEach_leaves (g := State.besideQuads) (fun u q => by
    rw [State.cond_read State.besideQuads]
    exact ite_self _) s [0, 1, 2, 3]
  generalize s.powerQuads = t at rest
  exact (congrArg (fun u => ({ u with quads := t.quads } : State).taken) rest :)

/-- A state whose Rind and SP have the safety parameters `p`. -/
def State.withSafety (s : State) (p : SafetyP) : State :=
  { s with safety := { s.safety with copy := some p, romParams := false, crcBad := false } }

theorem State.initLimiters_zones (s : State) (p : SafetyP) (zs : List ZoneRec) : ∃ zones, s.initLimiters p zs = { s with zones } :=
  ⟨_, rfl⟩

/-- The Rind and the SP take the safety parameters of an image; a bad zone of them is a cause (R61). -/
theorem State.besideCauses_takeSafety (s : State) (p : SafetyP) : (s.takeSafety p).besideCauses =
    (s.withSafety p).besideCauses := by
  have run : s.takeSafety p = ((s.withSafety p).initLimiters p (validZones p.zones).1).cond (validZones p.zones).2 fun u =>
      u.setCause true cBadZone true := by
    unfold State.takeSafety State.withSafety
    rfl
  obtain ⟨zones, limited⟩ := (s.withSafety p).initLimiters_zones p (validZones p.zones).1
  rw [run, limited, State.cond_read State.besideCauses, State.besideCauses_setCause, ite_self]
  rfl

/-! ### The bring-up of a valid slot -/

/-- What the quadrants, the grid and port A add to a state whose parameters are taken (Table 2.19). -/
def State.poweredUp (s : State) (quads : Sparse Quad) : State :=
  { s with
    quads, power := { s.power with pd1 := true }, clk := { s.clk with gridOn := true }
    grid := { started := true, mode := s.img.defaultMode } }

/-- The start of the grid and of port A, whatever state the quadrants have been powered in. -/
theorem State.taken_poweredUp_of {s z y : State} (powered : z.taken = ({ s with quads := z.quads } : State).taken)
    (grid : y.taken = ({ z with
      clk := { z.clk with gridOn := true }, grid := { started := true, mode := z.img.defaultMode } } : State).taken) :
    ({ y with power := { y.power with pd1 := true } } : State).taken = (s.poweredUp z.quads).taken := by
  have img : z.img = s.img := (congrArg State.img powered :)
  calc ({ y with power := { y.power with pd1 := true } } : State).taken
    _ = ({ y.taken with power := { y.taken.power with pd1 := true } } : State).taken := rfl
    _ = ({ z.taken with
          power := { z.taken.power with pd1 := true }, clk := { z.taken.clk with gridOn := true }
          grid := { started := true, mode := z.img.defaultMode } } : State).taken := by rw [grid]; rfl
    _ = (s.poweredUp z.quads).taken := by rw [powered, img]; rfl

theorem State.taken_poweredUp (s : State) : s.powerQuads.startGrid.startPortA.taken = (s.poweredUp s.powerQuads.quads).taken :=
  (State.taken_startPortA _).trans (State.taken_poweredUp_of s.powerQuads_quads s.powerQuads.taken_startGrid)

theorem State.loadComposer_composer (s : State) (x : Slot) : ∃ layers comp out, s.loadComposer x = { s with layers, comp, out } :=
  ⟨_, _, _, rfl⟩

/-- The composer and the causes are no part of what is taken. -/
theorem State.taken_poweredUp_composer (s : State) (layers : List Layer) (comp : Comp) (out : Out) (quads : Sparse Quad) :
    (({ s with layers, comp, out } : State).poweredUp quads).taken = (s.besideCauses.poweredUp quads).taken := rfl

theorem State.taken_loadComposer_poweredUp {s u : State} (x : Slot) (quads : Sparse Quad)
    (same : s.besideCauses = u.besideCauses) :
    ((s.loadComposer x).poweredUp quads).taken = (u.poweredUp quads).taken := by
  obtain ⟨layers, comp, out, loaded⟩ := s.loadComposer_composer x
  rw [loaded, State.taken_poweredUp_composer, same]
  exact (u.taken_poweredUp_composer u.layers u.comp u.out quads).symm

/-- The bring-up of a valid slot sets up what is taken from its image. -/
theorem State.taken_bringUp (s : State) (i : SlotId) :
    ∃ x : State, (s.bringUp i).taken =
      ((((s.adopt i).told i).withSafety (s.slot i).params.safety).poweredUp x.powerQuads.quads).taken :=
  ⟨_, (State.taken_fillReady _).trans <| (State.taken_sendThreshs _).trans <| (State.taken_keepCeils _).trans <|
    (State.taken_repaint _).trans <| (State.taken_poweredUp _).trans <|
      State.taken_loadComposer_poweredUp _ _ (State.besideCauses_takeSafety _ _)⟩

theorem exec_slotChecksDone_valid {s : State} {i : SlotId} (loading : s.start.loading = some i) (load : s.start.state = .load)
    (valid : (s.slot i).bodyReason = 0) : exec .slotChecksDone s = .next ((s.stripped (s.slot i)).bringUp i) := by
  have run : exec .slotChecksDone s = execSlotChecksDone s := rfl
  rw [run, execSlotChecksDone, loading]
  exact (if_neg (by simp [load])).trans (if_pos valid)

theorem exec_slotChecksDone_invalid {s : State} {i : SlotId} (loading : s.start.loading = some i) (load : s.start.state = .load)
    (invalid : (s.slot i).bodyReason ≠ 0) :
    exec .slotChecksDone s = .next (((s.stripped (s.slot i)).reject i (s.slot i).bodyReason).tryNext s.start.order) := by
  have run : exec .slotChecksDone s = execSlotChecksDone s := rfl
  rw [run, execSlotChecksDone, loading]
  exact (if_neg (by simp [load])).trans (if_neg invalid)

theorem State.foldl_cvu {α : Type} {f : State → α → State} (h : ∀ u x, ∃ cvu, f u x = { u with cvu }) (s : State) (xs : List α) :
    ∃ cvu, xs.foldl f s = { s with cvu } := by
  induction xs generalizing s with
  | nil => exact ⟨s.cvu, rfl⟩
  | cons x xs ih =>
    obtain ⟨first, stepped⟩ := h s x
    obtain ⟨last, rest⟩ := ih (f s x)
    exact ⟨last, rest.trans (by rw [stepped])⟩

/-- The streaming of a slot's sections writes the checking units alone (R63). -/
theorem State.stripped_cvu (s : State) (x : Slot) : ∃ cvu, s.stripped x = { s with cvu } := by
  unfold State.stripped
  split
  · exact State.foldl_cvu (fun _ _ => ⟨_, rfl⟩) s _
  · split
    · exact ⟨s.cvu, rfl⟩
    · exact State.foldl_cvu (fun _ _ => ⟨_, rfl⟩) s _

/-- The report of a slot that is taken clears its reason and raises event 0x0B02. -/
theorem State.told_cases (s : State) (i : SlotId) : ∃ reasonA reasonB e,
    s.told i = { s with start := { s.start with reasonA, reasonB }, ev := e } ∧ (i = .a → reasonA = 0) ∧ (i = .b → reasonB = 0) := by
  cases i
  · exact ⟨0, s.start.reasonB, _, rfl, fun _ => rfl, nofun⟩
  · exact ⟨s.start.reasonA, 0, _, rfl, nofun, fun _ => rfl⟩

/-- What a state that agrees with a completed bring-up of slot `i` has in force. -/
theorem State.inForce_of_taken {s t : State} {i : SlotId} {quads : Sparse Quad}
    (taken : t.taken = ((((s.adopt i).told i).withSafety (s.slot i).params.safety).poweredUp quads).taken) :
    t.start.state = .bringUp ∧ t.start.active = some i ∧ t.start.loading = none ∧ t.img = (s.slot i).params ∧
      t.mp.ready = false ∧ t.mp.code = some i ∧ t.mp.entry = some (s.slot i).params.fwEntry ∧ t.grid.started = true ∧
      t.grid.mode = (s.slot i).params.defaultMode ∧ t.clk.gridOn = true ∧
      t.safety.romParams = false ∧ t.safety.copy = some (s.slot i).params.safety ∧
      t.quads = quads ∧ t.power.pd1 = true ∧
      (i = .a → t.start.reasonA = 0) ∧ (i = .b → t.start.reasonB = 0) ∧
      t.fuse = s.fuse ∧ t.flash.slotA = s.flash.slotA ∧ t.flash.slotB = s.flash.slotB ∧ t.thermal = s.thermal := by
  have start : t.start = ((s.adopt i).told i).start := (congrArg State.start taken :)
  have img : t.img = ((s.adopt i).told i).img := (congrArg State.img taken :)
  have mp : t.mp = ((s.adopt i).told i).mp := (congrArg State.mp taken :)
  have fuse : t.fuse = ((s.adopt i).told i).fuse := (congrArg State.fuse taken :)
  have thermal : t.thermal = ((s.adopt i).told i).thermal := (congrArg State.thermal taken :)
  have mode : t.grid.mode = ((s.adopt i).told i).img.defaultMode := (congrArg (·.grid.mode) taken :)
  have slotA : t.flash.slotA = ((s.adopt i).told i).flash.slotA := (congrArg (·.flash.slotA) taken :)
  have slotB : t.flash.slotB = ((s.adopt i).told i).flash.slotB := (congrArg (·.flash.slotB) taken :)
  have started : t.grid.started = true := (congrArg (·.grid.started) taken :)
  have gridOn : t.clk.gridOn = true := (congrArg (·.clk.gridOn) taken :)
  have rom : t.safety.romParams = false := (congrArg (·.safety.romParams) taken :)
  have copy : t.safety.copy = some (s.slot i).params.safety := (congrArg (·.safety.copy) taken :)
  have powered : t.quads = quads := (congrArg State.quads taken :)
  have pd1 : t.power.pd1 = true := (congrArg (·.power.pd1) taken :)
  rw [start, img, mp, fuse, thermal, mode, slotA, slotB]
  obtain ⟨reasonA, reasonB, e, told, cleared⟩ := (s.adopt i).told_cases i
  rw [told]
  exact ⟨rfl, rfl, rfl, rfl, rfl, rfl, rfl, started, rfl, gridOn, rom, copy, powered, pd1, cleared.1, cleared.2, rfl, rfl, rfl, rfl⟩

theorem exec_slotChecksDone_bringUp {s : State} {i : SlotId} (loading : s.start.loading = some i) (load : s.start.state = .load)
    (valid : (s.slot i).bodyReason = 0) :
    ∃ t, exec .slotChecksDone s = .next t ∧
      t.start.state = .bringUp ∧ t.start.active = some i ∧ t.start.loading = none ∧ t.img = (s.slot i).params ∧
      t.mp.ready = false ∧ t.mp.code = some i ∧ t.mp.entry = some (s.slot i).params.fwEntry ∧ t.grid.started = true ∧
      t.grid.mode = (s.slot i).params.defaultMode ∧ t.clk.gridOn = true ∧
      t.safety.romParams = false ∧ t.safety.copy = some (s.slot i).params.safety ∧
      (∀ q, q < 4 → (t.quad q).powered = true) ∧ t.power.pd1 = true ∧
      (i = .a → t.start.reasonA = 0) ∧ (i = .b → t.start.reasonB = 0) ∧
      t.fuse = s.fuse ∧ t.flash.slotA = s.flash.slotA ∧ t.flash.slotB = s.flash.slotB ∧ t.thermal = s.thermal := by
  obtain ⟨cvu, streamed⟩ := s.stripped_cvu (s.slot i)
  obtain ⟨x, taken⟩ := (s.stripped (s.slot i)).taken_bringUp i
  have powered : ∀ q, q < 4 → (x.powerQuads.quad q).powered = true := fun q h => x.powerQuads_powered h
  have slot : (s.stripped (s.slot i)).slot i = s.slot i := by rw [streamed]; cases i <;> rfl
  have fuse : (s.stripped (s.slot i)).fuse = s.fuse := by rw [streamed]
  have flash : (s.stripped (s.slot i)).flash = s.flash := by rw [streamed]
  have thermal : (s.stripped (s.slot i)).thermal = s.thermal := by rw [streamed]
  have inForce := State.inForce_of_taken taken
  rw [slot, fuse, flash, thermal] at inForce
  refine ⟨_, exec_slotChecksDone_valid loading load valid, ?_⟩
  generalize (s.stripped (s.slot i)).bringUp i = t at inForce ⊢
  obtain ⟨state, active, none, img, ready, code, entry, started, mode, gridOn, rom, copy, quads, rest⟩ := inForce
  refine ⟨state, active, none, img, ready, code, entry, started, mode, gridOn, rom, copy, fun q h => ?_, rest⟩
  rw [State.quad, quads]
  exact powered q h

/-! ### The service-only state -/

/-- The painting anew, in or outside the off class, leaves the start and the Rind's parameters. -/
theorem State.besidePaint_paintAnew (s : State) : s.paintAnew.besidePaint = s.besidePaint := by
  cases off : s.safety.state.off
  · exact congrArg State.besidePaint (if_pos (by simp [off]) : s.paintAnew = s)
  · exact (State.paintAnew_cases off).2

theorem State.besidePaint_releaseQuads (s : State) : s.releaseQuads.besidePaint = s.besidePaint := by
  unfold State.releaseQuads
  split
  · rfl
  · exact State.besidePaint_forEach _ _ fun _ _ => rfl

/-- Port A, the painting and the quadrants leave the start and the Rind's parameters as they are. -/
theorem State.painted_service (s : State) :
    s.startPortA.paintAnew.releaseQuads.start = s.start ∧
      s.startPortA.paintAnew.releaseQuads.safety.romParams = s.safety.romParams := by
  have painted := (State.besidePaint_releaseQuads _).trans s.startPortA.besidePaint_paintAnew
  have port := s.taken_startPortA
  generalize s.startPortA.paintAnew.releaseQuads = t at painted
  generalize s.startPortA = u at painted port
  exact ⟨(congrArg State.start painted :).trans (congrArg State.start port :),
    (congrArg (·.safety.romParams) painted :).trans (congrArg (·.safety.romParams) port :)⟩

theorem State.mpIsReady_keeps (s : State) : s.mpIsReady.start = s.start ∧ s.mpIsReady.safety = s.safety := by
  have ready := s.besideFill_mpIsReady
  exact ⟨(congrArg State.start ready :), (congrArg State.safety ready :)⟩

/-- The service-only state of the start, with the Rind on its ROM defaults (R68). -/
theorem State.enterServiceOnly_cases (s : State) :
    s.enterServiceOnly.start = { s.start with state := .serviceOnly, loading := none, order := [], outcome := some 1 } ∧
      s.enterServiceOnly.safety.romParams = true := by
  unfold State.enterServiceOnly
  dsimp only
  refine ⟨(State.painted_service _).1.trans ?_, (State.painted_service _).2.trans ?_⟩
  · exact (State.mpIsReady_keeps _).1
  · exact congrArg Safety.romParams (State.mpIsReady_keeps _).2

/-! ### The choice of a slot -/

/-- A header is judged by the fuses alone. -/
theorem State.headerReason_of_fuses {s t : State} (fuseBad : t.start.fuseBad = s.start.fuseBad) (fuse : t.fuse = s.fuse) :
    t.headerReason = s.headerReason := by
  unfold State.headerReason State.keyBlank
  rw [fuseBad, fuse]

theorem State.checkHeader_read {s : State} (read : s.start.noHeader = []) (i : SlotId) :
    s.checkHeader i = if s.headerReason (s.slot i) = 0 then s else s.reject i (s.headerReason (s.slot i)) := by
  have judged : s.headerOf i = s.headerReason (s.slot i) := if_neg (by simp [read])
  unfold State.checkHeader
  rw [judged]
  by_cases passes : s.headerReason (s.slot i) = 0 <;> simp [passes]

theorem State.checkHeader_a {s : State} (read : s.start.noHeader = []) : ∃ e, s.checkHeader .a = { s with
    start := { s.start with reasonA := if s.headerReason s.flash.slotA = 0 then s.start.reasonA else s.headerReason s.flash.slotA }
    ev := e } := by
  have run := State.checkHeader_read read .a
  rw [show s.slot .a = s.flash.slotA from rfl] at run
  rw [run]
  split
  · exact ⟨s.ev, rfl⟩
  · exact ⟨_, rfl⟩

theorem State.checkHeader_b {s : State} (read : s.start.noHeader = []) : ∃ e, s.checkHeader .b = { s with
    start := { s.start with reasonB := if s.headerReason s.flash.slotB = 0 then s.start.reasonB else s.headerReason s.flash.slotB }
    ev := e } := by
  have run := State.checkHeader_read read .b
  rw [show s.slot .b = s.flash.slotB from rfl] at run
  rw [run]
  split
  · exact ⟨s.ev, rfl⟩
  · exact ⟨_, rfl⟩

/-- The start's record of both headers, and of the number of the start. -/
def State.headersJudged (s : State) : Start :=
  { s.start with
    reasonA := if s.headerReason s.flash.slotA = 0 then s.start.reasonA else s.headerReason s.flash.slotA
    reasonB := if s.headerReason s.flash.slotB = 0 then s.start.reasonB else s.headerReason s.flash.slotB
    startCount := s.nextStartCount }

/-- Both headers are judged by what the start found, and their reasons recorded (R65). -/
theorem State.checkHeaders {s : State} (read : s.start.noHeader = []) :
    ∃ e, (s.checkHeader .a).checkHeader .b =
      { s with start := { s.headersJudged with startCount := s.start.startCount }, ev := e } := by
  obtain ⟨e, first⟩ := State.checkHeader_a read
  rw [first]
  obtain ⟨f, second⟩ := State.checkHeader_b (s := { s with
    start := { s.start with reasonA := if s.headerReason s.flash.slotA = 0 then s.start.reasonA else s.headerReason s.flash.slotA }
    ev := e }) read
  have same := State.headerReason_of_fuses (s := s) (t := { s with
    start := { s.start with reasonA := if s.headerReason s.flash.slotA = 0 then s.start.reasonA else s.headerReason s.flash.slotA }
    ev := e }) rfl rfl
  rw [same] at second
  exact ⟨f, second⟩

theorem State.slotOrder_of_fuses {s t : State} (fuseBad : t.start.fuseBad = s.start.fuseBad) (fuse : t.fuse = s.fuse)
    (flash : t.flash = s.flash) : t.slotOrder = s.slotOrder := by
  unfold State.slotOrder
  rw [State.headerReason_of_fuses fuseBad fuse, flash]

/-- The slots whose headers pass are tried in R66's order, each under the start's record of both headers. -/
theorem exec_headersChecked {s : State} (select : s.start.state = .select) (crystal : s.clk.crystal = true)
    (read : s.start.noHeader = []) :
    ∃ e, exec .headersChecked s = .next (({ s with start := s.headersJudged, ev := e } : State).tryNext s.slotOrder) := by
  obtain ⟨e, checked⟩ := State.checkHeaders read
  refine ⟨e, (if_neg (by simp [select, crystal])).trans ?_⟩
  rw [checked]
  have order : ({ s with start := s.headersJudged, ev := e } : State).slotOrder = s.slotOrder :=
    State.slotOrder_of_fuses rfl rfl rfl
  have all : s.slotOrder.filter (fun i => !s.headersJudged.noHeader.contains i) = s.slotOrder :=
    List.filter_eq_self.mpr fun i _ => by
      have none : s.headersJudged.noHeader = [] := read
      simp [none]
  exact congrArg (fun o => Host.Outcome.next (({ s with start := s.headersJudged, ev := e } : State).tryNext o))
    ((congrArg (List.filter fun i => !s.headersJudged.noHeader.contains i) order).trans all)

theorem exec_headersChecked_tried {s : State} (select : s.start.state = .select) (crystal : s.clk.crystal = true)
    (read : s.start.noHeader = []) :
    ∃ t, exec .headersChecked s = .next t ∧ t.start.startCount = s.nextStartCount ∧
      t.start.reasonA = (if s.headerReason s.flash.slotA = 0 then s.start.reasonA else s.headerReason s.flash.slotA) ∧
      t.start.reasonB = (if s.headerReason s.flash.slotB = 0 then s.start.reasonB else s.headerReason s.flash.slotB) ∧
      (∀ i l, s.slotOrder = i :: l →
        t.start.state = .load ∧ t.start.loading = some i ∧ t.start.order = l ∧
        t = { s with start := t.start, ev := t.ev }) ∧
      (s.slotOrder = [] → t.start.state = .serviceOnly ∧ t.safety.romParams = true) := by
  obtain ⟨e, run⟩ := exec_headersChecked select crystal read
  refine ⟨_, run, ?_⟩
  cases s.slotOrder with
  | nil =>
    obtain ⟨start, rom⟩ := State.enterServiceOnly_cases { s with start := s.headersJudged, ev := e }
    rw [State.tryNext, start]
    exact ⟨rfl, rfl, rfl, nofun, fun _ => ⟨rfl, rom⟩⟩
  | cons i l =>
    refine ⟨rfl, rfl, rfl, fun j m same => ?_, nofun⟩
    obtain ⟨first, rest⟩ := List.cons.inj same
    exact ⟨rfl, congrArg some first, rest, rfl⟩

theorem exec_flashReadFail_cases {s : State} {i : SlotId} (loading : s.start.loading = some i) (load : s.start.state = .load) :
    (s.start.retried = false → exec .flashReadFail s = .next s.retryRead) ∧
      (s.start.retried = true →
        exec .flashReadFail s = .next ((s.drawn.reject i 0x0C).tryNext s.start.order) ∨
        exec .flashReadFail s = .next s.drawn.retryRead) := by
  have run : exec .flashReadFail s = if !s.start.retried then .next s.retryRead
      else if decide (s.freeVal 17 % 2 = 1) then .next ((s.drawn.reject i 0x0C).tryNext s.start.order)
      else .next s.drawn.retryRead := by
    rw [show exec .flashReadFail s = execFlashReadFail s from rfl]
    unfold execFlashReadFail
    rw [load, loading]
  rw [run]
  refine ⟨fun first => if_pos (by simp [first]), fun further => ?_⟩
  rw [if_neg (by simp [further])]
  split
  · exact .inl rfl
  · exact .inr rfl

/-- Settles O3: HEADERS_CHECKED by the judgement of both headers, a valid slot by what every stage of the bring-up leaves of what the
stages before it have set up. -/
theorem slotsAreTriedUntilOneIsValid : Obligations.SlotsAreTriedUntilOneIsValid := by
  refine ⟨fun _ => exec_headersChecked_tried, fun _ _ => exec_flashReadFail_cases, fun _ _ => exec_slotChecksDone_invalid,
    fun s i loading load valid => ?_⟩
  obtain ⟨t, run, state, active, none, img, ready, code, entry, started, mode, gridOn, rom, copy, powered, pd1, reasonA, reasonB, rest⟩ :=
    exec_slotChecksDone_bringUp loading load valid
  refine ⟨t, run, state, active, none, img, ready, code, entry, started, mode, gridOn, rom, copy, powered, pd1, ?_, rest⟩
  cases i
  · exact reasonA rfl
  · exact reasonB rfl

end Sys2Proof.Machine
end

section
/-!
PROOFS. Detection, sweep and back-off of a port (03 R83 to R98, Table 3.3; O7).
-/
namespace Sys2Proof.Machine

/-! ### Ports and lanes in place -/

@[simp] theorem State.port_modPort (s : State) (p : PortId) (f : Port → Port) : (s.modPort p f).port p = f (s.port p) := by
  cases p <;> rfl

@[simp] theorem State.modPort_modPort (s : State) (p : PortId) (f g : Port → Port) :
    (s.modPort p f).modPort p g = s.modPort p fun q => g (f q) := by
  cases p <;> rfl

/-- A port's update is the port as it is afterwards, put in its place. -/
theorem State.modPort_eq (s : State) (p : PortId) (f : Port → Port) : s.modPort p f = s.modPort p fun _ => f (s.port p) := by
  cases p <;> rfl

@[simp] theorem State.modPort_same {s : State} {p : PortId} {f : Port → Port} (same : f (s.port p) = s.port p) : s.modPort p f = s := by
  rw [State.modPort_eq, same]
  cases p <;> rfl

/-- A field of a lane that is changed to another value than a fresh lane has reads as that value. -/
theorem Port.read_modLane {α : Type} (q : Port) (i : Nat) {g : Lane → α} {f : Lane → Lane} {v : α} (changed : ∀ l, g (f l) = v)
    (listed : v ≠ g {}) : g ((q.modLane i f).lanes.get {} i) = v := by
  rw [Port.modLane, Sparse.get_modify_listed ({} : Lane) q.lanes fun same => listed ((changed _).symm.trans (congrArg g same)),
    changed]

theorem Port.squelch_modLane (q : Port) (i : Nat) :
    ((q.modLane i fun l => { l with squelch := true }).lanes.get {} i).squelch = true :=
  q.read_modLane i (g := Lane.squelch) (fun _ => rfl) (by decide)

theorem Port.bitLock_modLane (q : Port) (i : Nat) :
    ((q.modLane i fun l => { l with bitLock := true }).lanes.get {} i).bitLock = true :=
  q.read_modLane i (g := Lane.bitLock) (fun _ => rfl) (by decide)

theorem Port.block_modLane (q : Port) (i : Nat) :
    ((q.modLane i fun l => { l with block := true }).lanes.get {} i).block = true :=
  q.read_modLane i (g := Lane.block) (fun _ => rfl) (by decide)

/-! ### Detection (R83, R84) -/

theorem exec_receiverDetectionDone_a {s : State} (detect : s.portA.st = .detect) (lane : Fin 4) (r : Detect) :
    exec (.receiverDetectionDone .a lane r) s = .next { s with
      portA :=
      if r = .present ∨ (laneList.any fun i => (s.portA.lanes.get {} i).squelch) = true
      then { s.portA with backDet := r, st := .sweep, sweepGen := s.usableFrom 3, sweepRound := 0 }
      else ({ s.portA with backDet := r } : Port).toBackoff } := by
  refine (if_pos detect).trans (congrArg _ ?_)
  by_cases found : r = .present ∨ (laneList.any fun i => (s.portA.lanes.get {} i).squelch) = true
  · rw [if_pos found]
    exact if_pos (by simpa using found)
  · rw [if_neg found]
    exact if_neg (by simpa using found)

theorem exec_receiverDetectionDone_b {s : State} (detect : s.portB.st = .detect) (lane : Fin 4) :
    exec (.receiverDetectionDone .b lane .present) s = .next { s with portB := { s.portB with
      txDet := s.portB.txDet.set .absent lane .present, txDone := setBit s.portB.txDone lane true
      shortedReported := s.portB.shortedReported || false
      st := .sweep, sweepGen := s.portA.gen, sweepRound := 0, txBlock := 1, attempt := s.portB.attempt + 1 } } :=
  if_pos detect

/-! ### Squelch (R85) -/

theorem State.toSweep_eq (s : State) (p : PortId) :
    ∃ gen round block attempt, s.toSweep p = s.modPort p fun q =>
      { q with st := .sweep, sweepGen := gen, sweepRound := round, txBlock := block, attempt } := by
  cases p <;> exact ⟨_, _, _, _, rfl⟩

theorem exec_squelchOpen_detect {s : State} {p : PortId} (detect : (s.port p).st = .detect) (lane : Fin 4) :
    exec (.squelchOpen p lane) s = .next ((s.modPort p fun q => q.modLane lane fun l => { l with squelch := true }).toSweep p) :=
  if_pos detect

theorem exec_squelchOpen_backoff {s : State} {p : PortId} {lane : Fin 4} (backoff : (s.port p).st = .backoff)
    (closed : ((s.port p).lanes.get {} lane).squelch = false) :
    exec (.squelchOpen p lane) s = .next (s.modPort p fun q =>
      { (q.modLane lane fun l => { l with squelch := true }).toDetect with backoff := 0 }) := by
  refine (if_neg (by simp [backoff])).trans ((if_pos (by simp [backoff, closed])).trans ?_)
  rw [State.modPort_modPort]

/-! ### SWEEP, timeouts and the back-off interval (R89, R98) -/

theorem exec_sweepDwellEnd {s : State} (sweep : s.portA.st = .sweep) :
    exec .sweepDwellEnd s = .next { s with
      portA :=
      if 0 < s.usableFrom (s.portA.sweepGen - 1) then { s.portA with sweepGen := s.usableFrom (s.portA.sweepGen - 1) }
      else if 3 ≤ s.portA.sweepRound then s.portA.toBackoff
      else { s.portA with sweepGen := s.usableFrom 3, sweepRound := s.portA.sweepRound + 1 } } := by
  refine (if_pos sweep).trans ?_
  by_cases lower : 0 < s.usableFrom (s.portA.sweepGen - 1)
  · rw [if_pos lower]
    exact if_pos (Nat.pos_iff_ne_zero.mp lower)
  · rw [if_neg lower]
    refine (if_neg fun some => lower (Nat.pos_iff_ne_zero.mpr some)).trans ?_
    by_cases last : 3 ≤ s.portA.sweepRound
    · rw [if_pos last, if_pos last]
    · rw [if_neg last, if_neg last]

theorem exec_trainingTimeout {s : State} {p : PortId} (training : (s.port p).st.training = true) :
    exec (.trainingTimeout p) s = .next (s.modPort p Port.toBackoff) :=
  congrArg _ (if_pos training)

theorem exec_backoffElapsed {s : State} {p : PortId} (backoff : (s.port p).st = .backoff) :
    exec (.backoffElapsed p) s = .next (s.modPort p fun q => { q.toDetect with backoff := min 7 (q.backoff + 1) }) :=
  congrArg _ (if_pos backoff)

/-- Settles O7: each command by what it puts in the port's place. -/
theorem portsDetectSweepAndBackOff : Obligations.PortsDetectSweepAndBackOff := by
  refine ⟨fun s lane r detect => exec_receiverDetectionDone_a detect lane r,
    fun s lane detect => ⟨_, exec_receiverDetectionDone_b detect lane, rfl, rfl, rfl, rfl, rfl⟩,
    fun s p lane detect => ⟨_, exec_squelchOpen_detect detect lane, ?opens⟩,
    fun s p lane backoff closed => ⟨_, exec_squelchOpen_backoff backoff closed, ?resets⟩,
    fun s sweep => exec_sweepDwellEnd sweep, fun s p training => exec_trainingTimeout training,
    fun s p backoff => ⟨_, exec_backoffElapsed backoff, ?elapses⟩⟩
  case opens =>
    obtain ⟨gen, round, block, attempt, sweeps⟩ :=
      (s.modPort p fun q => q.modLane lane fun l => { l with squelch := true }).toSweep_eq p
    rw [sweeps, State.modPort_modPort, State.port_modPort]
    exact ⟨rfl, Port.squelch_modLane .., State.modPort_eq ..⟩
  case resets =>
    rw [State.port_modPort]
    exact ⟨rfl, rfl, State.modPort_eq ..⟩
  case elapses =>
    rw [State.port_modPort]
    exact ⟨rfl, rfl, State.modPort_eq ..⟩

end Sys2Proof.Machine
end

section
/-!
PROOFS. Bit lock, commas and block lock (03 R82, R90, R93 to R95; O8).
-/
namespace Sys2Proof.Machine

/-! ### Bit lock (R82, R93) -/

theorem exec_bitLock_sweep {s : State} {p : PortId} {lane : Fin 4} (sweep : (s.port p).st = .sweep)
    (opened : ((s.port p).lanes.get {} lane).squelch = true) (used : (s.port p).sweepGen ≠ 1 ∨ lane = 0) :
    exec (.bitLock p lane) s = .next (s.modPort p fun q =>
      { q.modLane lane fun l => { l with bitLock := true } with st := .align, gen := q.sweepGen }) := by
  refine (if_neg (by simp [opened])).trans ((if_neg ?unused).trans ((if_pos sweep).trans (by rw [State.modPort_modPort]; rfl)))
  rw [if_pos sweep]
  rcases used with other | first
  · simp [other]
  · simp [first]

/-- At G1 the lanes above lane 0 are not used (R82). -/
theorem exec_bitLock_unused {s : State} {p : PortId} {lane : Fin 4} (sweep : (s.port p).st = .sweep)
    (slow : (s.port p).sweepGen = 1) (other : lane ≠ 0) : exec (.bitLock p lane) s = .next s := by
  rw [show exec (.bitLock p lane) s = execBitLock p lane s from rfl]
  unfold execBitLock
  dsimp only
  split
  · rfl
  · exact if_pos (by simp [slow, other])

/-! ### Commas at G1 (R90, R94) -/

section
variable {s : State} (align : s.portA.st = .align) (slow : s.portA.gen = 1) (locked : (s.portA.lanes.get {} 0).bitLock = true)
include align slow locked

theorem exec_commaAligned_native (native : s.nativeUsable = true) :
    exec (.commaAligned .a 0 false) s = .next { s with
      portA := { s.portA.modLane 0 fun l => { l with comma := true } with st := .deskew, framing := 1, txBlock := 1 } } := by
  refine (if_pos (by simp [State.port, slow, locked])).trans ((if_neg (by simp [State.port, align])).trans ?_)
  exact if_pos native

theorem exec_commaAligned_t512 (legacy : s.t512Usable = true) :
    exec (.commaAligned .a 0 true) s = .next { s with
      portA := { (s.portA.modLane 0 fun l => { l with comma := true }).modLane 0 fun l => { l with laneId := 0 } with
        st := .exchange, framing := 2, txBlock := 7, workMask := 1, useMask := 1 }
      leg := { s.leg with hsRx := 0 } } := by
  refine (if_pos (by simp [State.port, slow, locked])).trans ((if_neg (by simp [State.port, align])).trans ?_)
  exact if_pos legacy

end

/-! ### Block lock at G2 and G3 (R95) -/

/-- A port that waits in ALIGN leaves for DESKEW 100 us after its first block lock, or once every receive lane is locked. -/
theorem State.toDeskew_leaves {s : State} {p : PortId} {since : Nat} (align : (s.port p).st = .align)
    (waits : (s.port p).alignAt = some since)
    (elapsed : since + 100000 ≤ s.now1 ∨ ∀ i ∈ rxLanes p, ((s.port p).lanes.get {} i).block = true) :
    s.toDeskew p = s.modPort p fun q => { q with st := .deskew, framing := 1, alignAt := none } := by
  unfold State.toDeskew
  dsimp only
  rw [waits]
  refine if_pos ?_
  simpa [align] using elapsed

theorem State.toDeskew_waits {s : State} {p : PortId} {since : Nat} (waits : (s.port p).alignAt = some since)
    (short : s.now1 < since + 100000) (unlocked : ∃ i ∈ rxLanes p, ((s.port p).lanes.get {} i).block = false) :
    s.toDeskew p = s := by
  obtain ⟨i, mem, noLock⟩ := unlocked
  unfold State.toDeskew
  dsimp only
  rw [waits]
  refine if_neg ?_
  simp only [Bool.and_eq_true, decide_eq_true_eq, Bool.or_eq_true, List.all_eq_true, not_and, not_or]
  exact fun _ => ⟨by omega, fun all => Bool.noConfusion (noLock.symm.trans (all i mem))⟩

/-- Outside ALIGN nothing waits to leave it. -/
theorem State.toDeskew_other {s : State} {p : PortId} (other : (s.port p).st ≠ .align) : s.toDeskew p = s :=
  if_neg (by simp [other])

/-- The first block lock of a port, before what the wait in ALIGN makes of it. -/
def State.firstBlock (s : State) (lane : Fin 4) : State :=
  { s with portA := { s.portA.modLane lane fun l => { l with block := true } with txBlock := 1, alignAt := some s.now1 } }

theorem exec_blockLock_first {s : State} {lane : Fin 4} (align : s.portA.st = .align) (fast : 2 ≤ s.portA.gen)
    (locked : (s.portA.lanes.get {} lane).bitLock = true) (native : s.nativeUsable = true) (first : s.portA.alignAt = none) :
    exec (.blockLock .a lane) s = .next ((s.firstBlock lane).toDeskew .a) := by
  refine (if_pos (by simp [State.port, fast, locked])).trans ((if_pos (by simp [State.port, align, native])).trans ?_)
  have waits : (s.portA.alignAt.or (some s.now1)) = some s.now1 := by rw [first]; rfl
  rw [State.modPort_modPort]
  show Host.Outcome.next (State.toDeskew { s with portA := { s.portA.modLane lane fun l => { l with block := true } with
    txBlock := 1, alignAt := s.portA.alignAt.or (some s.now1) } } .a) = _
  rw [waits]
  rfl

/-- Settles O8: locks and commas by what they put in the port's place, the wait in ALIGN by when it is over. -/
theorem lockSelectsGenerationAndFraming : Obligations.LockSelectsGenerationAndFraming := by
  refine ⟨fun s p lane sweep opened used => ⟨_, exec_bitLock_sweep sweep opened used, ?bit⟩,
    fun s p lane sweep slow other => exec_bitLock_unused sweep slow other,
    fun s align slow locked => ⟨fun native => ⟨_, exec_commaAligned_native align slow locked native, rfl, rfl, rfl⟩,
      fun legacy => ⟨_, exec_commaAligned_t512 align slow locked legacy, rfl, rfl, rfl, ?laneId, rfl⟩⟩,
    fun s lane align fast locked native first => ⟨_, exec_blockLock_first align fast locked native first, ?block⟩,
    fun s since align waits elapsed => State.toDeskew_leaves (p := .a) align waits (.inl elapsed)⟩
  case bit =>
    rw [State.port_modPort]
    exact ⟨rfl, rfl, Port.bitLock_modLane .., State.modPort_eq ..⟩
  case laneId => exact Port.read_modLane _ 0 (f := fun l => { l with laneId := 0 }) (g := Lane.laneId) (fun _ => rfl) (by decide)
  case block =>
    have blocked : ((s.firstBlock lane).portA.lanes.get {} lane).block = true :=
      s.portA.block_modLane lane
    by_cases all : ∀ i ∈ rxLanes .a, ((s.firstBlock lane).portA.lanes.get {} i).block = true
    · rw [State.toDeskew_leaves (s := s.firstBlock lane) (p := .a) align rfl (.inr all)]
      refine ⟨blocked, rfl, fun _ => ⟨rfl, rfl⟩, fun ⟨i, four, noLock⟩ => ?_, rfl⟩
      have mem : i ∈ rxLanes .a := by rw [show rxLanes .a = List.range 4 from rfl]; exact List.mem_range.mpr four
      exact Bool.noConfusion (noLock.symm.trans (all i mem))
    · have unlocked : ∃ i ∈ rxLanes .a, ((s.firstBlock lane).portA.lanes.get {} i).block = false := by simpa using all
      rw [State.toDeskew_waits (s := s.firstBlock lane) (p := .a) rfl (Nat.lt_add_of_pos_right (by decide)) unlocked]
      refine ⟨blocked, rfl, fun every => absurd (fun i mem => every i ?_) all, fun _ => ⟨align, rfl⟩, rfl⟩
      exact List.mem_range.mp (show i ∈ List.range 4 from mem)

end Sys2Proof.Machine
end

section
/-!
PROOFS. Training blocks (03 R87 to R97, R111, Table 3.2; O9).
-/
namespace Sys2Proof.Machine

/-! ### Blocks as the receiver delivers them (R95) -/

theorem Port.recv_upright {q : Port} {lane : Nat} (upright : (q.lanes.get {} lane).inverted = false) (w : BitVec 64) :
    q.recv lane w = w :=
  if_neg (by simp [upright])

/-- TYPE of a training block. -/
theorem trOk_type {w : BitVec 64} {phase : Nat} (ok : trOk w phase = true) : w.toNat % 256 = 0xE1 := by
  simp only [trOk, Bool.and_eq_true] at ok
  obtain ⟨⟨⟨⟨type, -⟩, -⟩, -⟩, -⟩ := ok
  exact of_decide_eq_true type

theorem trOk_lane {w : BitVec 64} {phase : Nat} (ok : trOk w phase = true) : trLane w ≤ 3 := by
  simp only [trOk, Bool.and_eq_true] at ok
  obtain ⟨⟨-, lane⟩, -⟩ := ok
  exact of_decide_eq_true lane

/-- The complement of a training block is none: its TYPE differs. -/
theorem trOk_not {w : BitVec 64} {phase : Nat} (ok : trOk w phase = true) : trOk (~~~w) phase = false :=
  Bool.eq_false_iff.mpr fun both => by
    have type := trOk_type ok
    have other := trOk_type both
    have := w.isLt
    rw [BitVec.toNat_not] at other
    omega

theorem Port.findInverted_upright {q : Port} {lane : Nat} {w : BitVec 64} {phase : Nat}
    (upright : (q.lanes.get {} lane).inverted = false) (ok : trOk w phase = true) : q.findInverted lane w phase = q :=
  if_neg (by simp [Port.recv_upright upright, trOk_not ok])

theorem Port.findInverted_untrained {q : Port} (untrained : q.st.training = false) (lane : Nat) (w : BitVec 64) (phase : Nat) :
    q.findInverted lane w phase = q :=
  if_neg (by simp [untrained])

theorem Port.findAll_upright {q : Port} {phase : Nat} {blocks : List (Nat × BitVec 64)}
    (good : ∀ b ∈ blocks, (q.lanes.get {} b.1).inverted = false ∧ trOk b.2 phase = true) : q.findAll phase blocks = q := by
  refine List.foldlRecOn (motive := fun r => r = q) blocks _ rfl fun r same b mem => ?_
  obtain ⟨upright, ok⟩ := good b mem
  rw [same, Port.findInverted_upright upright ok]

/-! ### TS_A (R88, R92) -/

theorem exec_tsA_deskew {s : State} {lane : Fin 4} {w : BitVec 64} (upright : (s.portA.lanes.get {} lane).inverted = false)
    (ok : trOk w 0 = true) (host : trRole w = true) (plain : trLpbk w = 0) (deskew : s.portA.st = .deskew) :
    exec (.tsA .a lane w) s = .next { s with
      portA := { s.portA.modLane lane fun l => { l with laneId := trLane w, lpbk := trLpbk w } with attempt := trAttempt w } } := by
  rw [show exec (.tsA .a lane w) s = execTsA .a lane w s from rfl]
  unfold execTsA
  dsimp only
  rw [State.toDeskew_other (p := .a) (by simp [State.port, deskew]), show (s.port .a).recv lane w = w from Port.recv_upright upright w,
    if_neg (by simp [ok]), if_neg (by simp [deskew]), if_neg (by simp [host]), if_neg (by simp [Port.linked, deskew])]
  exact if_neg (by simp [plain])

/-- A block that is no training block of its phase changes no port that is not training. -/
theorem exec_tsA_ignored {s : State} {p : PortId} {lane : Fin 4} {w : BitVec 64}
    (upright : ((s.port p).lanes.get {} lane).inverted = false) (bad : trOk w 0 = false)
    (untrained : (s.port p).st.training = false) : exec (.tsA p lane w) s = .next s := by
  have other : (s.port p).st ≠ .align := fun align => by simp [LState.training, align] at untrained
  rw [show exec (.tsA p lane w) s = execTsA p lane w s from rfl]
  unfold execTsA
  dsimp only
  rw [State.toDeskew_other other, Port.recv_upright upright, if_pos (by simp [bad])]
  exact congrArg _ (State.modPort_same (Port.findInverted_untrained untrained ..))

/-! ### TS_B (R96, R97) -/

/-- A port whose lanes have taken LANE_ID and skew from TS_B blocks. -/
def Port.taught (q : Port) (blocks : List (Fin 4 × Nat × BitVec 64)) : Port :=
  blocks.foldl (fun r b => r.modLane b.1 fun l => { l with laneId := trLane b.2.2, deskewed := decide (b.2.1 ≤ 64) }) q

theorem Port.taught_lanes (q : Port) (blocks : List (Fin 4 × Nat × BitVec 64)) :
    ∃ lanes, q.taught blocks = { q with lanes } := by
  refine List.foldlRecOn (motive := fun r : Port => ∃ lanes, r = { q with lanes }) blocks _ ⟨_, rfl⟩ ?_
  rintro _ ⟨lanes, rfl⟩ b -
  exact ⟨_, rfl⟩

/-- The masks of R97 from what the lanes have taken. -/
def State.masked (s : State) (q : Port) : Port :=
  { q with
    workMask := q.idMask fun l => l.deskewed && l.locked q.gen
    useMask := s.useOf q.gen (q.idMask fun l => l.deskewed && l.locked q.gen)
    txBlock := 2 }

theorem exec_tsB_deskew {s : State} {blocks : List (Fin 4 × Nat × BitVec 64)} (deskew : s.portA.st = .deskew) (some : blocks ≠ [])
    (good : ∀ b ∈ blocks, (s.portA.lanes.get {} b.1).inverted = false ∧ trOk b.2.2 1 = true ∧ trRole b.2.2 = true) :
    exec (.tsB .a blocks) s = .next { s with portA := s.masked (s.portA.taught blocks) } := by
  have upright : blocks.map (fun b => (b.1, b.2.1, (s.port .a).recv b.1 b.2.2)) = blocks := by
    refine (List.map_congr_left fun b mem => ?_).trans (List.map_id blocks)
    rw [show (s.port .a).recv b.1 b.2.2 = b.2.2 from Port.recv_upright (good b mem).1 _]
    rfl
  have ok : blocks.filter (fun b => trOk b.2.2 1) = blocks := List.filter_eq_self.mpr fun b mem => (good b mem).2.1
  have host : blocks.filter (fun b => trRole b.2.2) = blocks := List.filter_eq_self.mpr fun b mem => (good b mem).2.2
  have kept : s.modPort .a (fun q => q.findAll 1 (blocks.map fun b => (b.1.val, b.2.2))) = s := by
    refine State.modPort_same (Port.findAll_upright fun c mem => ?_)
    obtain ⟨b, from_, rfl⟩ := List.mem_map.mp mem
    exact ⟨(good b from_).1, (good b from_).2.1⟩
  rw [show exec (.tsB .a blocks) s = execTsB .a blocks s from rfl]
  unfold execTsB
  dsimp only
  rw [State.toDeskew_other (p := .a) (by simp [State.port, deskew]), upright, ok, host, kept, if_neg (by simpa using some),
    if_neg (by simpa using some), if_pos (by simp [deskew])]
  simp only [deskew, reduceCtorEq, if_false]
  rfl

/-! ### TS_END (R89) -/

/-- A mask of LANE_IDs holds the LANE_ID of every lane it asks for. -/
theorem Port.getLsbD_idMask {q : Port} {f : Lane → Bool} {i : Nat} (mem : i ∈ laneList) (known : (q.lanes.get {} i).laneId < 4)
    (holds : f (q.lanes.get {} i) = true) : (q.idMask f).getLsbD (q.lanes.get {} i).laneId = true := by
  let mark (m : BitVec 4) (j : Nat) : BitVec 4 :=
    if (q.lanes.get {} j).laneId < 4 && f (q.lanes.get {} j) then setBit m (q.lanes.get {} j).laneId true else m
  have keeps : ∀ (m : BitVec 4) (j : Nat), m.getLsbD (q.lanes.get {} i).laneId = true →
      (mark m j).getLsbD (q.lanes.get {} i).laneId = true := fun m j bit => by
    dsimp only [mark]
    split
    · simp [setBit, bit]
    · exact bit
  have marks : ∀ m : BitVec 4, (mark m i).getLsbD (q.lanes.get {} i).laneId = true := fun m => by
    dsimp only [mark]
    rw [if_pos (by simp [known, holds])]
    exact getLsbD_setBit_same m known true
  obtain ⟨before, after, split⟩ := List.append_of_mem mem
  show (laneList.foldl mark 0).getLsbD _ = true
  rw [split, List.foldl_append, List.foldl_cons]
  exact List.foldlRecOn (motive := fun m : BitVec 4 => m.getLsbD (q.lanes.get {} i).laneId = true) after _ (marks _)
    fun m bit j _ => keeps m j bit

/-- The one lane in use has what every lane in use is asked for. -/
theorem Port.allUse_single {q : Port} {f : Lane → Bool} {i : Nat} (mem : i ∈ laneList) (known : (q.lanes.get {} i).laneId < 4)
    (only : q.useMask = BitVec.twoPow 4 (q.lanes.get {} i).laneId) (holds : f (q.lanes.get {} i) = true) : q.allUse f = true := by
  have bit := Port.getLsbD_idMask mem known holds
  unfold Port.allUse
  rw [only]
  generalize q.idMask f = m at bit
  generalize (q.lanes.get {} i).laneId = k at known bit
  decide +revert

theorem mem_laneList (lane : Fin 4) : lane.val ∈ laneList := List.mem_range.mpr lane.isLt

/-- A deskewed lane that has seen TS_END reads as such. -/
theorem Port.lane_ended (q : Port) {lane : Nat} (deskewed : (q.lanes.get {} lane).deskewed = true) :
    (q.modLane lane fun l => { l with ended := l.deskewed }).lanes.get {} lane =
      { q.lanes.get {} lane with ended := (q.lanes.get {} lane).deskewed } :=
  Sparse.get_modify_listed ({} : Lane) q.lanes (f := fun l => { l with ended := l.deskewed }) fun same =>
    absurd (deskewed.symm.trans (congrArg Lane.deskewed same :)) (by decide)

theorem exec_tsEnd_deskew {s : State} {lane : Fin 4} {w : BitVec 64} (deskew : s.portA.st = .deskew)
    (upright : (s.portA.lanes.get {} lane).inverted = false) (ok : trOk w 2 = true) (host : trRole w = true)
    (only : s.portA.useMask = BitVec.twoPow 4 (s.portA.lanes.get {} lane).laneId)
    (known : (s.portA.lanes.get {} lane).laneId < 4) (deskewed : (s.portA.lanes.get {} lane).deskewed = true) :
    exec (.tsEnd .a [(lane, w)]) s = .next { s with
      portA := { s.portA.modLane lane fun l => { l with ended := l.deskewed } with
        line := { s.portA.line with count := 0 }, st := .exchange, txBlock := 3 } } := by
  have received : [(lane, w)].map (fun b => (b.1, (s.port .a).recv b.1 b.2)) = [(lane, w)] :=
    congrArg (fun v => [(lane, v)]) (Port.recv_upright upright w)
  have good : [(lane, w)].filter (fun b => trOk b.2 2) = [(lane, w)] := List.filter_cons_of_pos ok
  have hosts : [(lane, w)].filter (fun b => trRole b.2) = [(lane, w)] := List.filter_cons_of_pos host
  have kept : s.modPort .a (fun q => q.findAll 2 ([(lane, w)].map fun b => (b.1.val, b.2))) = s :=
    State.modPort_same (Port.findInverted_upright upright ok)
  have read := s.portA.lane_ended deskewed
  have all : (s.portA.modLane lane fun l => { l with ended := l.deskewed }).allUse (fun l => l.ended) = true :=
    Port.allUse_single (mem_laneList lane) (by rw [read]; exact known) (by rw [read]; exact only)
      (by rw [read]; exact deskewed)
  rw [show exec (.tsEnd .a [(lane, w)]) s = execTsEnd .a [(lane, w)] s from rfl]
  unfold execTsEnd
  dsimp only
  rw [received, good, hosts, kept, if_pos (by simpa [deskew] using all), if_pos deskew]
  rfl

/-! ### The far-end loopback (R111) -/

theorem exec_farEndLoopbackEnd {s : State} (loopback : s.portA.st = .loopback) (far : s.portA.loopback = 3) :
    exec .farEndLoopbackEnd s = .next (({ s with portA := s.portA.toDetect } : State).raise 0x010A [(1, 2), (1, 0)]) :=
  congrArg _ (if_pos (by simp [loopback, far]))

/-- Settles O9: the blocks of each phase by what they put in port A's place, with receivers that are upright and blocks that none
of them takes for a complement. -/
theorem trainingBlocksSetTheLanes : Obligations.TrainingBlocksSetTheLanes := by
  refine ⟨fun s lane w upright ok host plain deskew => ⟨_, exec_tsA_deskew upright ok host plain deskew, ?laneId, deskew, rfl, rfl⟩,
    fun s blocks deskew some good => ⟨_, exec_tsB_deskew deskew some good, ?masks⟩,
    fun s lane w deskew upright ok host only known deskewed =>
      ⟨_, exec_tsEnd_deskew deskew upright ok host only known deskewed, rfl, rfl⟩,
    fun s loopback far => ⟨_, exec_farEndLoopbackEnd loopback far, rfl, rfl⟩,
    fun s p lane w upright bad untrained => exec_tsA_ignored upright bad untrained⟩
  case laneId =>
    have low : trLane w ≤ 3 := trOk_lane ok
    exact s.portA.read_modLane lane (g := Lane.laneId) (fun _ => rfl) (show trLane w ≠ 15 by omega)
  case masks =>
    obtain ⟨lanes, taught⟩ := s.portA.taught_lanes blocks
    rw [taught]
    exact ⟨deskew, rfl, rfl, rfl⟩

end Sys2Proof.Machine
end

section
/-!
PROOFS. Lane faults, repair, electrical idle and wake (03 R99 to R113, 04 R136, R140; O10).
-/
namespace Sys2Proof.Machine

/-! ### What link down leaves (R100) -/

/-- All of a state but what TB0 and the time exchange make of a link down. -/
def State.besideSync (s : State) : State := { s with clk := {}, sync := {}, ev := {} }

theorem State.besideSync_tbHold (s : State) : s.tbHold.besideSync = s.besideSync := by
  unfold State.tbHold
  split
  · unfold State.tbGo
    split <;> rfl
  · rfl

theorem State.besideSync_splitPair (s : State) : s.splitPair.besideSync = s.besideSync := by
  unfold State.splitPair
  cases s.sync.sync.isSome <;> cases s.sync.req.isSome <;> rfl

theorem State.holdPortB_cases (s : State) :
    s.holdPortB.portB = s.portB.toOff ∧ s.holdPortB.svc = s.svc ∧
      s.holdPortB.link = { s.link with credits := s.holdPortB.link.credits, lcbs := s.holdPortB.link.lcbs } := by
  let empty : State := { s with linkB := { s.linkB with
    wait := [], sent := [], left := [], txSeq := 0, expSeq := 0, rev := 0, replayCount := 0, nakCount := 0
    unacked := 0, nakFor := none, failRun := 0, lcbs := [], replayNext := none, granted := [], credits := [] } }
  have freed := State.eq_of_besideCredits (empty.freeForwarded_cases (s.linkB.sent ++ s.linkB.wait)).1
  exact ⟨rfl, (congrArg State.svc freed :), (congrArg State.link freed :)⟩

/-- The end of a session locks the service port and leaves its answers. -/
theorem State.endSession_cases (s : State) :
    s.endSession.link = s.link ∧ s.endSession.portB = s.portB ∧ s.endSession.svc.uartTx = s.svc.uartTx ∧
      (s.svc.state = .locked ∨ s.svc.state = .unlocked → s.endSession.svc.state = .locked) := by
  unfold State.endSession
  split
  · exact ⟨rfl, rfl, rfl, fun _ => rfl⟩
  next other => exact ⟨rfl, rfl, rfl, fun locked => locked.resolve_right other⟩

/-- The loss of the link holds port B down, resets the numbering and the LCBs of port A's link, and locks a session on it. -/
theorem State.linkLost_keeps (s : State) :
    s.linkLost.portB = s.portB.toOff ∧
      s.linkLost.link = { s.unlinked.link with credits := s.linkLost.link.credits, lcbs := s.linkLost.link.lcbs } ∧
      s.linkLost.svc.uartTx = s.svc.uartTx ∧ (s.svc.state = .locked → s.linkLost.svc.state = .locked) := by
  obtain ⟨portB, svc, link⟩ := s.unlinked.holdPortB_cases
  have waits : s.unlinked.holdPortB.tbHold.splitPair.besideSync = s.unlinked.holdPortB.besideSync :=
    (State.besideSync_splitPair _).trans (State.besideSync_tbHold _)
  rw [show s.linkLost = s.unlinked.holdPortB.tbHold.splitPair.cond (s.svc.state = .unlocked && s.svc.path = 1) State.endSession
    from rfl]
  generalize s.unlinked.holdPortB.tbHold.splitPair = t at waits
  generalize s.unlinked.holdPortB = u at portB svc link waits
  have tLink : t.link = u.link := (congrArg State.link waits :)
  have tPortB : t.portB = u.portB := (congrArg State.portB waits :)
  have tSvc : t.svc = s.svc := (congrArg State.svc waits :).trans svc
  rw [← tLink] at link
  obtain ⟨ended, endedB, uart, locks⟩ := t.endSession_cases
  cases (decide (s.svc.state = .unlocked) && decide (s.svc.path = 1))
  · exact ⟨tPortB.trans portB, link, congrArg Service.uartTx tSvc, fun locked => (congrArg Service.state tSvc).trans locked⟩
  · simp only [State.cond_true, ended, endedB, uart, tSvc] at locks ⊢
    exact ⟨tPortB.trans portB, link, trivial, fun locked => locks (.inl locked)⟩

theorem State.linkDown_resets (s : State) (cause : Nat) :
    (s.linkDown cause).portA.st = .detect ∧ (s.linkDown cause).link.rev = 0 ∧
      (s.linkDown cause).link.holdRun = true ∧ (s.linkDown cause).link.replay = [] ∧ (s.linkDown cause).portB.st = .off := by
  obtain ⟨portB, link, -⟩ := s.linkLost_keeps
  exact ⟨rfl, (congrArg Link.rev link :), (congrArg Link.holdRun link :), (congrArg Link.replay link :), (congrArg Port.st portB :)⟩

/-! ### Lane faults and repair (R102 to R105) -/

/-- The LCBs that leave change port A's line and what waits. -/
theorem State.flushLcbs_frame (s : State) :
    ∃ line lcbs, s.flushLcbs = { s with portA := { s.portA with line }, link := { s.link with lcbs } } := by
  unfold State.flushLcbs
  split
  · exact ⟨s.portA.line, s.link.lcbs, rfl⟩
  · exact ⟨_, _, rfl⟩

/-- A repair over the lanes that keep their lock sends a NAK for the expected SEQ (R104). -/
theorem State.startRepair_repairs {s : State} {surviving : BitVec 4} (cause : Nat) (fast : s.portA.gen ≠ 1)
    (some : s.useOf s.portA.gen surviving ≠ 0) :
    (s.startRepair surviving cause).portA.st = .repair ∧ (s.startRepair surviving cause).portA.workMask = surviving ∧
      (s.startRepair surviving cause).portA.useMask = s.useOf s.portA.gen surviving ∧
      (s.startRepair surviving cause).link.nakFor = .some s.link.expSeq ∧
      s.startRepair surviving cause =
        { s with portA := (s.startRepair surviving cause).portA, link := (s.startRepair surviving cause).link } := by
  let t : State := { s with
    portA := { (s.portA.modLanes fun l => { l with deskewed := false, ended := false }) with
      st := .repair, workMask := surviving, useMask := s.useOf s.portA.gen surviving, txBlock := 4 }
    link := { s.link with nakFor := none } }
  have run : s.startRepair surviving cause = t.sendNak.flushLcbs := if_neg (by simpa [fast] using some)
  have nak : t.sendNak = { t with
      link := { t.link with
        lcbs := t.link.lcbs ++ [{ kind := 2, vc := 0, value := s.link.expSeq.toNat }]
        nakFor := .some s.link.expSeq, nakAt := t.now1, unacked := 0 }
      portA := { t.portA with naksSent := sat32 (t.portA.naksSent + 1) } } := if_neg (by simp [t])
  obtain ⟨line, lcbs, flushed⟩ := t.sendNak.flushLcbs_frame
  rw [run, flushed, nak]
  exact ⟨rfl, rfl, rfl, rfl, rfl⟩

theorem State.startRepair_noLane {s : State} {surviving : BitVec 4} (cause : Nat)
    (noLane : s.portA.gen = 1 ∨ s.useOf s.portA.gen surviving = 0) : s.startRepair surviving cause = s.linkDown cause :=
  if_pos (by simpa using noLane)

/-- A lane that is not in use only loses its lock. -/
theorem State.laneLost_unused {s : State} {lane : Nat} (unknown : (s.portA.lanes.get {} lane).laneId = 15) (squelch : Bool) :
    s.laneLost lane squelch = { s with portA := s.portA.modLane lane fun l =>
      if squelch then { l.lost with squelch := false } else l.lost } :=
  if_pos (by simp [unknown])

/-- A fault on a lane in use starts a repair. -/
theorem State.laneLost_inUse {s : State} {lane : Nat} (up : s.portA.st = .up) (known : (s.portA.lanes.get {} lane).laneId < 4)
    (used : s.portA.useMask.getLsbD (s.portA.lanes.get {} lane).laneId = true) :
    s.laneLost lane false = ({ s with portA := s.portA.modLane lane Lane.lost } : State).startRepair
      (s.portA.modLane lane Lane.lost).surviving 0 := by
  have candidates : s.portA.candidates = s.portA.useMask := if_neg (by simp [up])
  unfold State.laneLost
  dsimp only
  rw [if_neg (by simp [known, candidates, used]), if_pos (by simp [up])]
  simp [up]

theorem exec_repairTimeout {s : State} (repair : s.portA.st = .repair) : exec .repairTimeout s = .next (s.linkDown 2) :=
  congrArg _ (if_pos repair)

/-- A lane fault or a closed squelch takes port B down (R99, R113). -/
theorem exec_lane_portB {s : State} (up : s.portB.st = .up) (lane : Fin 4) :
    exec (.squelchClose .b lane) s = .next (({ s with portB := s.portB.modLane lane fun l =>
      { l.lost with squelch := false } } : State).portBDown 1) ∧
    exec (.laneFault .b lane) s = .next (({ s with portB := s.portB.modLane lane Lane.lost } : State).portBDown 0) :=
  ⟨congrArg _ (if_pos (by simp [up])), congrArg _ (if_pos (by simp [up]))⟩

theorem exec_repair {s : State} {w : BitVec 64} (ok : trOk w 3 = true) (device : trRole w = false)
    (linked : s.portB.st = .up ∨ s.portB.st = .repair) :
    exec (.repair w) s = .next { s with portB :=
      { s.portB with st := .repair, workMask := trWork w, useMask := trUse w, txBlock := 2 } } :=
  congrArg _ (if_pos (by simpa [ok, device] using linked))

/-! ### Electrical idle and wake (R107 to R109) -/

theorem exec_idleEnter {s : State} (up : s.linkUp = true) (offered : s.idleOffered = true) :
    ∃ t, exec .idleEnter s = .next t ∧ t.portA = { s.portA with st := .idle, rxIdle := true } ∧
      t.portB.st = (if s.portB.st = .up ∧ s.linkB.wait = [] ∧ s.linkB.sent = [] then .idle else s.portB.st) ∧
      t = { s with portA := t.portA, portB := t.portB } := by
  refine ⟨_, if_pos (by simp [up, offered]), ?_⟩
  by_cases quiet : s.portB.st = .up ∧ s.linkB.wait = [] ∧ s.linkB.sent = []
  · obtain ⟨upB, waits, sent⟩ := quiet
    rw [if_pos (by simp [upB, waits, sent]), if_pos ⟨upB, waits, sent⟩]
    exact ⟨rfl, rfl, rfl⟩
  · rw [if_neg (by simpa [and_assoc] using quiet), if_neg quiet]
    exact ⟨rfl, rfl, rfl⟩

theorem exec_wake {s : State} (idle : s.portA.st = .idle) :
    ∃ t, exec .wake s = .next t ∧ t.portA = { s.portA with st := .wake } ∧
      t.portB.st = (if s.portB.st = .idle then .wake else s.portB.st) ∧ t = { s with portA := t.portA, portB := t.portB } := by
  refine ⟨_, if_pos idle, ?_⟩
  by_cases idleB : s.portB.st = .idle
  · rw [if_pos idleB, if_pos idleB]
    exact ⟨rfl, rfl, rfl⟩
  · rw [if_neg idleB, if_neg idleB]
    exact ⟨rfl, rfl, rfl⟩

/-- A lane at the end of a wake: locked as the mask of LANE_IDs has it. -/
def Lane.woken (locked : BitVec 4) (l : Lane) : Lane :=
  if l.laneId < 4 && locked.getLsbD l.laneId then { l with squelch := true, bitLock := true, block := true }
  else { l.lost with squelch := false }

/-- Both ports after a wake on which every lane in use has locked. -/
def State.woken (s : State) (locked : BitVec 4) : State :=
  { s with
    portA := { s.portA.modLanes (Lane.woken locked) with st := .up, rxIdle := false }
    portB := if s.portB.st = .wake then { s.portB with st := .up, txBlock := 5 } else s.portB }

theorem exec_wakeEnd {s : State} (wake : s.portA.st = .wake) (locked : BitVec 4) :
    exec (.wakeEnd locked) s = .next (
      if (s.portA.useMask &&& locked) = 0 then (s.woken locked).linkDown 0
      else if (s.portA.useMask &&& locked) = s.portA.useMask then s.woken locked
      else (s.woken locked).startRepair (s.portA.useMask &&& locked) 0) :=
  if_pos wake

theorem exec_backLaneIdleEntry {s : State} (idle : s.portA.rxIdle = true) (empty : s.tqsEmpty = true) (replay : s.link.replay = []) :
    exec .backLaneIdleEntry s = .next { s with portA :=
      { (s.sendPhase .a (List.replicate 8 6)).portA with backIdle := true, txBlock := 0, absentRun := 0, shortedRun := 0 } } :=
  congrArg _ (if_pos (by simp [idle, empty, replay]))

theorem exec_backLaneWake {s : State} (idle : s.portA.backIdle = true) (queued : s.tqsEmpty = false) :
    exec .backLaneWake s = .next { s with portA := { s.portA with backIdle := false, txBlock := 6 } } :=
  congrArg _ (if_pos (by simp [idle, queued]))

/-- An ABSENT result on the idle back lane counts, and the second in a row is link down (R109). -/
theorem exec_backLaneDetect_absent {s : State} (idle : s.portA.backIdle = true) :
    exec (.backLaneDetect .absent) s = .next (
      let t : State := { s with portA := { s.portA with
        backDet := .absent, absentRun := s.portA.absentRun + 1, shortedRun := 0 } }
      if 1 ≤ s.portA.absentRun then t.linkDown 5 else t) := by
  refine (if_pos idle).trans (congrArg _ ?_)
  simp

/-- Settles O10: faults by what the loss of a lane makes of the lanes that are left, idle and wake by the state of both ports. -/
theorem laneLossIdleAndWake : Obligations.LaneLossIdleAndWake := by
  refine ⟨fun s lane unknown => ⟨congrArg _ (State.laneLost_unused unknown false), congrArg _ (State.laneLost_unused unknown true)⟩,
    fun s lane up known used => ⟨fun fast some => ?repairs, fun noLane => ?down⟩,
    fun s repair => exec_repairTimeout repair, fun s cause => s.linkDown_resets cause, fun s lane up => exec_lane_portB up lane,
    fun s w ok device linked => exec_repair ok device linked, fun s up offered => exec_idleEnter up offered,
    fun s idle => exec_wake idle, fun s locked wake all some => ⟨_, exec_wakeEnd wake locked, ?woken⟩,
    fun s locked wake none => ⟨_, exec_wakeEnd wake locked, ?lost⟩,
    fun s idle empty replay => exec_backLaneIdleEntry idle empty replay, fun s idle queued => exec_backLaneWake idle queued,
    fun s idle => ⟨fun first => ?counts, fun second => ?absent⟩⟩
  case repairs =>
    let t : State := { s with portA := s.portA.modLane lane Lane.lost }
    obtain ⟨st, work, use, nak, frame⟩ := State.startRepair_repairs (s := t) 0 fast some
    refine ⟨_, congrArg Host.Outcome.next (State.laneLost_inUse up known used), st, work, use, nak, ?_⟩
    generalize t.startRepair (s.portA.modLane lane Lane.lost).surviving 0 = u at frame
    rw [frame]
  case down => exact congrArg _ ((State.laneLost_inUse up known used).trans (State.startRepair_noLane 0 noLane))
  case woken =>
    rw [all, if_neg some, if_pos rfl]
    exact ⟨rfl, rfl, apply_ite Port.st .., rfl⟩
  case lost =>
    rw [if_pos none]
    obtain ⟨detect, hold, -⟩ := (s.woken locked).linkDown_cases 0
    exact ⟨detect, hold⟩
  case counts => rw [exec_backLaneDetect_absent idle, first]; rfl
  case absent => rw [exec_backLaneDetect_absent idle, second]; rfl

end Sys2Proof.Machine
end

section
/-!
PROOFS. Perturbation controls (13 R374, R375, Table 13.8, 03 R110; O22).
-/
namespace Sys2Proof.Machine

/-! ### Service operations whose effect reaches the service port -/

/-- Other accounts of port A's credits, and what waits to tell them. -/
def State.withCredits (s : State) (credits : Sparse RxCredit) (lcbs : List Lcb) : State :=
  { s with link := { s.link with credits, lcbs } }

/-- A service operation that is served at once runs on the state in which it arrived but for the link's accounts, and its credits
come back. -/
theorem State.service_runs {s : State} {q : SvcSrc} {opcode : Nat} {args : List Byte} (serves : s.serves q opcode args) (i : Instr)
    (who : Nat) (f : State → State) :
    ∃ l credits lcbs, s.ArrivesWith l ∧ s.service i q opcode args who f = (f { s with link := l }).withCredits credits lcbs := by
  rw [State.service_serves s i q opcode args who f serves]
  cases q with
  | uart => exact ⟨s.link, (f s).link.credits, (f s).link.lcbs, ⟨rfl, rfl, rfl⟩, rfl⟩
  | vc4 h =>
    obtain ⟨l, admitted, arrives⟩ := s.admitted_arrives (serviceRx h opcode args who)
    dsimp only
    rw [admitted]
    exact ⟨l, _, _, arrives, State.freeCredits_frame ..⟩

/-- An answer changes the link and what the UART sends. -/
theorem State.answerSvc_frame (s : State) (q : SvcSrc) (opcode status : Nat) (data : List Byte) :
    s.answerSvc q opcode status data = { s with
      link := (s.answerSvc q opcode status data).link
      svc := { s.svc with uartTx := (s.answerSvc q opcode status data).svc.uartTx } } := by
  cases q with
  | uart => rfl
  | vc4 h =>
    have frame := s.reply_frame h 0x50 opcode status data
    rw [show s.answerSvc (.vc4 h) opcode status data = s.reply h 0x50 opcode status data from rfl]
    generalize s.reply h 0x50 opcode status data = t at frame
    rw [frame]

/-- What is answered to an operation whose effect leaves the link and what the UART has sent. -/
theorem State.svcReplied_answer {s u : State} (arrives : s.ArrivesWith u.link) (sent : u.svc.uartTx = s.svc.uartTx)
    (ready : u.mp.ready = true) (q : SvcSrc) (opcode status : Nat) (data : List Byte) :
    s.svcReplied (u.answerSvc q opcode status data) q status opcode data := by
  cases q with
  | uart => exact congrArg (· ++ _) sent
  | vc4 h =>
    have link : ({ u with svc := s.svc }.reply h 0x50 opcode status data).link = (u.reply h 0x50 opcode status data).link := by
      unfold State.reply
      split
      · rfl
      · dsimp only
        rw [State.enqueue_link, State.enqueue_link]
        rfl
    have replied : s.replied ({ u with svc := s.svc }.reply h 0x50 opcode status data) h status 0x50 opcode data :=
      (State.svcReplied_answerSvc (u := { u with svc := s.svc }) arrives rfl rfl ready (.vc4 h) opcode status data).1
    unfold State.replied at replied
    rw [link] at replied
    exact replied

/-- A service operation that is served at once and answered, with an effect `e` that may reach the service port. -/
theorem State.service_answered {s : State} {i : Instr} {q : SvcSrc} {opcode who : Nat} {args : List Byte} {f e : State → State}
    {status : Nat} {data : List Byte} (serves : s.serves q opcode args)
    (run : ∀ l, f { s with link := l } = (e { s with link := l }).answerSvc q opcode status data)
    (rest : ∀ u, (e u).link = u.link ∧ (e u).svc.uartTx = u.svc.uartTx ∧ (e u).mp = u.mp) :
    ∃ l t, s.service i q opcode args who f = t ∧ s.svcReplied t q status opcode data ∧
      t = { e { s with link := l } with
        link := t.link, svc := { (e { s with link := l }).svc with uartTx := t.svc.uartTx } } := by
  obtain ⟨l, credits, lcbs, arrives, runs⟩ := State.service_runs serves i who f
  obtain ⟨link, sent, mp⟩ := rest { s with link := l }
  have ready : (e { s with link := l }).mp.ready = true := (congrArg (·.ready) mp).trans (State.serves_ready serves)
  have replied := State.svcReplied_answer (s := s) (u := e { s with link := l }) (link.symm ▸ arrives) sent ready q opcode status data
  have frame := (e { s with link := l }).answerSvc_frame q opcode status data
  rw [run l] at runs
  generalize (e { s with link := l }).answerSvc q opcode status data = t at runs replied frame
  refine ⟨l, _, runs, ?_, ?_⟩
  · cases q <;> exact replied
  · rw [frame]
    rfl

/-! ### PERTURB_SET, PERTURB_CLEAR, PERTURB_STATUS (R374, Table 13.7) -/

/-- The control that a PERTURB_SET on the test path names. -/
def testControl (args : List Byte) : Perturb :=
  { control := fieldAt (argsOf args) 0 1, target := fieldAt (argsOf args) 2 2
    value := BitVec.ofNat 32 (fieldAt (argsOf args) 4 4), uart := true
    left := (BitVec.ofNat 32 (fieldAt (argsOf args) 4 4)).toNat }

/-- What a control that stays active changes as it is set. -/
def State.controlSet (p : Perturb) (s : State) : State :=
  ({ s with svc := { s.svc with perturb := putControl p s.svc.perturb } } : State).raise 0x0C0A
    [(1, p.control), (2, p.target), (4, p.value.toNat)]

/-- What a PERTURB_CLEAR that finds a control changes. -/
def State.controlsCleared (c : Nat) (s : State) : State :=
  ({ s with svc := { s.svc with perturb := s.svc.perturb.filter fun p => !(c = 0xFF || p.control = c) } } : State).raise
    0x0C0B [(1, c)]

theorem State.perturbOn_held {p : Perturb} (held : p.control ≠ 7) (s : State) : s.perturbOn p = s.controlSet p := by
  unfold State.perturbOn
  rw [if_neg held]
  rfl

theorem State.takePerturbSet_test {s : State} {args : List Byte} (fixed : argsFixed args 12 = true) (test : s.start.testEn = true)
    (inRange : perturbOk (testControl args).control (testControl args).target (testControl args).value = true)
    (held : (testControl args).control ≠ 7) :
    s.takePerturbSet .uart args = (s.controlSet (testControl args)).answerSvc .uart 0x140 0 [] := by
  have path : s.testPath .uart = true := test
  rw [← State.perturbOn_held held]
  unfold State.takePerturbSet
  dsimp only
  rw [path, if_pos rfl, if_neg (by simp [fixed]), if_neg (by simp)]
  exact if_neg (by rw [Bool.not_eq_true']; exact Bool.eq_false_iff.not_left.mpr inRange)

theorem State.takePerturbSet_locked {s : State} {q : SvcSrc} {args : List Byte} (fixed : argsFixed args 12 = true)
    (on : s.sessionOn q) (noTest : s.testPath q = false) (denied : s.img.perturbEn = false ∨ s.perturbCondition = false) :
    s.takePerturbSet q args = s.answerSvc q 0x140 6 [] := by
  have status : (if s.testPath q then 0 else if s.needSession q ≠ 0 then s.needSession q
      else if s.img.perturbEn && s.perturbCondition then 0 else 6) = 6 := by
    rw [noTest, State.needSession_on on]
    rcases denied with off | off <;> simp [off]
  unfold State.takePerturbSet
  dsimp only
  rw [status, if_neg (by simp [fixed])]
  rfl

section
variable {s : State} {q : SvcSrc} {args : List Byte} (may : s.sessionOn q ∨ s.testPath q = true)
include may

/-- A session, or TEST_EN high on the UART, lets an operation on the controls pass (R374). -/
theorem State.mayPerturb : (if s.testPath q then 0 else s.needSession q) = 0 := by
  rcases may with on | test
  · rw [State.needSession_on on, ite_self]
  · exact if_pos test

theorem State.takePerturbClear_some (fixed : argsFixed args 1 = true)
    (inRange : fieldAt (argsOf args) 0 1 = 0xFF ∨ (1 ≤ fieldAt (argsOf args) 0 1 ∧ fieldAt (argsOf args) 0 1 ≤ 10))
    (found : ∃ p ∈ s.svc.perturb, fieldAt (argsOf args) 0 1 = 0xFF ∨ p.control = fieldAt (argsOf args) 0 1) :
    s.takePerturbClear q args = (s.controlsCleared (fieldAt (argsOf args) 0 1)).answerSvc q 0x141 0 [] := by
  have hit : (s.svc.perturb.any fun p => fieldAt (argsOf args) 0 1 = 0xFF || p.control = fieldAt (argsOf args) 0 1) = true := by
    simpa using found
  unfold State.takePerturbClear
  dsimp only
  rw [State.mayPerturb may, if_neg (by simp [fixed]), if_neg (by simp), if_neg (by simp; omega), hit]
  rfl

theorem State.takePerturbStatus_answer (fixed : argsFixed args 0 = true) :
    s.takePerturbStatus q args = s.answerSvc q 0x142 0 (s.svc.perturb.flatMap Perturb.bytes) := by
  unfold State.takePerturbStatus
  dsimp only
  rw [State.mayPerturb may, if_neg (by simp [fixed])]
  rfl

end

/-! ### The end of a control's condition (R375) -/

/-- Clearing the controls whose condition has ended leaves those whose condition holds. -/
theorem State.clearEnded_frame (s : State) :
    ∃ perturb ev, s.clearEnded = { s with svc := { s.svc with perturb }, ev } ∧
      ∀ p ∈ perturb, p ∈ s.svc.perturb ∧ s.perturbEnded p = false := by
  have kept : ∀ p ∈ s.svc.perturb.filter (fun p => !s.perturbEnded p), p ∈ s.svc.perturb ∧ s.perturbEnded p = false :=
    fun p mem => by simpa using mem
  unfold State.clearEnded
  dsimp only
  split
  next none =>
    refine ⟨s.svc.perturb, s.ev, rfl, fun p mem => ⟨mem, ?_⟩⟩
    rw [List.isEmpty_iff, List.filter_eq_nil_iff] at none
    simpa using none p mem
  next =>
    split
    · exact ⟨_, _, rfl, kept⟩
    · obtain ⟨ev, told⟩ : ∃ ev, (s.svc.perturb.filter s.perturbEnded).foldl (fun u p => u.raise 0x0C0B [(1, p.control)])
          { s with svc := { s.svc with perturb := s.svc.perturb.filter fun p => !s.perturbEnded p } } =
          { s with svc := { s.svc with perturb := s.svc.perturb.filter fun p => !s.perturbEnded p }, ev } := by
        refine List.foldlRecOn (motive := fun u : State => ∃ ev, u = { s with
          svc := { s.svc with perturb := s.svc.perturb.filter fun p => !s.perturbEnded p }, ev }) _ _ ⟨_, rfl⟩ ?_
        rintro _ ⟨ev, rfl⟩ p -
        exact ⟨_, rfl⟩
      exact ⟨_, ev, told, kept⟩

theorem exec_perturbOff_testEn {s : State} (test : s.start.testEn = true) :
    exec (.perturbOff true) s = .next s.testEnLow.clearEnded := by
  rw [show exec (.perturbOff true) s = .next ((s.cond (true && s.start.testEn) State.testEnLow).clearEnded) from rfl, test]
  rfl

theorem State.testEnLow_loopback {s : State} (loopback : s.portA.st = .loopback) (near : s.portA.loopback = 1)
    (noTest : s.selfTest.running = false) :
    s.testEnLow.portA = s.portA.toDetect ∧ s.testEnLow.start = { s.start with testEn := false } := by
  unfold State.testEnLow
  dsimp only
  rw [if_pos (by simp [loopback, near, noTest])]
  exact ⟨rfl, rfl⟩

theorem State.testEnLow_other {s : State} (other : s.portA.st ≠ .loopback) :
    s.testEnLow = { s with start := { s.start with testEn := false }, tap := {} } :=
  if_neg (by simp [other])

/-- Settles O22: the operations by what they change and answer, the fall of TEST_EN by the controls whose condition still holds. -/
theorem perturbationsNeedTheirCondition : Obligations.PerturbationsNeedTheirCondition := by
  refine ⟨fun s args serves fixed test => ?set, fun s q args serves fixed on noTest denied => ?locked,
    fun s q args serves fixed may => ?clear, fun s q args serves fixed may => ?status,
    fun s test loopback near noTest => ⟨_, exec_perturbOff_testEn test, ?loopback⟩,
    fun s test other => ⟨_, exec_perturbOff_testEn test, ?falls⟩⟩
  case set =>
    dsimp only
    intro inRange held
    have run := (s.service_serves (.perturbSet .uart args) .uart 0x140 args 3 (fun t => t.takePerturbSet .uart args) serves).trans
      (State.takePerturbSet_test fixed test inRange held)
    exact ⟨_, congrArg Host.Outcome.next run, rfl, rfl, rfl, rfl⟩
  case locked =>
    obtain ⟨l, t, run, replied, frame⟩ := State.service_answered (i := .perturbSet q args) (who := perturbWho q)
      (f := fun t => t.takePerturbSet q args) (e := id) (status := 6) (data := []) serves
      (fun l => State.takePerturbSet_locked (s := { s with link := l }) fixed on noTest denied) fun _ => ⟨rfl, rfl, rfl⟩
    exact ⟨t, congrArg _ run, (congrArg (·.svc.perturb) frame :), replied, frame⟩
  case clear =>
    dsimp only
    intro inRange found
    obtain ⟨l, t, run, replied, frame⟩ := State.service_answered (i := .perturbClear q args) (who := perturbWho q)
      (f := fun t => t.takePerturbClear q args) (e := State.controlsCleared (fieldAt (argsOf args) 0 1)) (status := 0) (data := [])
      serves (fun l => State.takePerturbClear_some (s := { s with link := l }) may fixed inRange found) fun _ => ⟨rfl, rfl, rfl⟩
    refine ⟨t, congrArg _ run, (congrArg (·.svc.perturb) frame :), (congrArg State.ev frame :), replied, ?_⟩
    rw [frame]
    rfl
  case status =>
    obtain ⟨l, t, run, replied, frame⟩ := State.service_answered (i := .perturbStatus q args) (who := perturbWho q)
      (f := fun t => t.takePerturbStatus q args) (e := id) (status := 0) (data := s.svc.perturb.flatMap Perturb.bytes) serves
      (fun l => State.takePerturbStatus_answer (s := { s with link := l }) may fixed) fun _ => ⟨rfl, rfl, rfl⟩
    exact ⟨t, congrArg _ run, replied, frame⟩
  case loopback =>
    obtain ⟨portA, start⟩ := State.testEnLow_loopback loopback near noTest
    obtain ⟨perturb, ev, cleared, -⟩ := s.testEnLow.clearEnded_frame
    rw [cleared]
    exact ⟨congrArg Port.st portA, start⟩
  case falls =>
    obtain ⟨perturb, ev, cleared, holds⟩ := s.testEnLow.clearEnded_frame
    rw [State.testEnLow_other other] at cleared holds ⊢
    rw [cleared]
    refine ⟨rfl, rfl, fun p mem => ⟨(holds p mem).1, ?_⟩, rfl⟩
    have ends := (holds p mem).2
    unfold State.perturbEnded at ends
    cases uart : p.uart
    · rfl
    · simp [uart] at ends

end Sys2Proof.Machine
end

section
/-!
PROOFS. Self-tests, loopbacks and the test access port (03 R110, R112, 16 R430; O53).
-/
namespace Sys2Proof.Machine

/-! ### Loopbacks (R110) -/

/-- A loopback takes port A from packet service: the hold of R101 runs, and no light, store or test port is touched. -/
theorem State.startLoopback_cases (s : State) (kind lane : Nat) :
    (s.startLoopback kind lane).portA = { s.portA with
        st := .loopback, loopback := kind, loopLane := lane, txBlock := if kind = 3 then 8 else 0 } ∧
      (s.startLoopback kind lane).link.holdRun = true ∧ (s.startLoopback kind lane).tap = s.tap ∧
      (s.startLoopback kind lane).start = s.start ∧
      (s.startLoopback kind lane).safety = s.safety ∧ (s.startLoopback kind lane).store = s.store := by
  have lost := s.besideLink_linkLost
  refine ⟨?_, s.linkLost_cases.1, (congrArg State.tap lost :), (congrArg State.start lost :), (congrArg State.safety lost :),
    (congrArg State.store lost :)⟩
  exact congrArg (fun q : Port => { q with
    st := .loopback, loopback := kind, loopLane := lane, txBlock := if kind = 3 then 8 else 0 }) (congrArg State.portA lost :)

theorem exec_testEnHigh_off {s : State} (low : s.start.testEn = false) (off : s.portA.st = .off) :
    exec .testEnHigh s = .next { s with start := { s.start with testEn := true }, tap := {} } := by
  refine (if_neg (by simp [low])).trans (congrArg _ ?_)
  exact if_neg (by simp [off])

theorem exec_testEnHigh_powered {s : State} (low : s.start.testEn = false) (on : s.portA.st ≠ .off) :
    exec .testEnHigh s = .next
      ((({ s with start := { s.start with testEn := true }, tap := {} } : State).startLoopback 1 0).loopEvent 2 true) := by
  refine (if_neg (by simp [low])).trans (congrArg _ ?_)
  exact if_pos (by simp [on])

theorem exec_testEnHigh_high {s : State} (high : s.start.testEn = true) : exec .testEnHigh s = .next s := if_pos high

/-! ### LINK_SELFTEST (R112) -/

/-- A self-test that starts, once its operation is answered. -/
def State.selfTested (args : List Byte) (s : State) : State :=
  let u := s.endSession.startLoopback (fieldAt (argsOf args) 0 1 + 1) 0
  { u with
    portA := { u.portA with gen := fieldAt (argsOf args) 2 1 }
    selfTest := { running := true, gen := fieldAt (argsOf args) 2 1, ms := fieldAt (argsOf args) 4 2
                  lanes := BitVec.ofNat 4 (fieldAt (argsOf args) 1 1), errors := [], locks := 0 } }

/-- The arguments of LINK_SELFTEST lie in their ranges. -/
def selfTestArgs (args : List Byte) : Prop :=
  fieldAt (argsOf args) 0 1 ≤ 1 ∧ (1 ≤ fieldAt (argsOf args) 1 1 ∧ fieldAt (argsOf args) 1 1 ≤ 15) ∧
    (1 ≤ fieldAt (argsOf args) 2 1 ∧ fieldAt (argsOf args) 2 1 ≤ 3) ∧
    1 ≤ fieldAt (argsOf args) 4 2 ∧ fieldAt (argsOf args) 4 2 ≤ 1000

theorem State.takeSelftest_judged {s : State} {q : SvcSrc} {args : List Byte} (fixed : argsFixed args 6 = true) (on : s.sessionOn q)
    (inRange : selfTestArgs args) :
    s.takeSelftest q args = if s.selftestAllowed then (s.answerSvc q 0x130 0 []).selfTested args else s.answerSvc q 0x130 8 [] := by
  obtain ⟨kind, ⟨lane, lanes⟩, ⟨slow, fast⟩, short, long⟩ := inRange
  unfold State.takeSelftest
  dsimp only
  rw [if_neg (by simp [fixed]), if_neg (by simp [State.needSession_on on]), if_neg (by simp; omega)]
  cases s.selftestAllowed <;> rfl

/-- What is answered before a self-test starts stays answered. -/
theorem State.svcReplied_selfTested {s u : State} {q : SvcSrc} {opcode status : Nat} {data : List Byte} (args : List Byte)
    (replied : s.svcReplied u q status opcode data) : s.svcReplied (u.selfTested args) q status opcode data := by
  obtain ⟨link, -, sent, -⟩ := u.endSession_cases
  obtain ⟨-, lost, kept, -⟩ := u.endSession.linkLost_keeps
  cases q with
  | uart => exact (kept.trans sent).trans replied
  | vc4 h =>
    have tqs : u.endSession.linkLost.link.tqs = u.endSession.link.tqs := (congrArg Link.tqs lost :)
    have blocked : u.endSession.linkLost.link.blocked = u.endSession.link.blocked := (congrArg Link.blocked lost :)
    rw [link] at tqs blocked
    exact ⟨tqs.trans replied.1, blocked.trans replied.2⟩

/-- A self-test that starts in a session: port A in its loopback, the hold running, the session ended, no light touched. -/
theorem State.selfTested_cases {s : State} (unlocked : s.svc.state = .unlocked) (args : List Byte) :
    (s.selfTested args).portA = { s.portA with
        st := .loopback, loopback := fieldAt (argsOf args) 0 1 + 1, loopLane := 0
        txBlock := if fieldAt (argsOf args) 0 1 + 1 = 3 then 8 else 0, gen := fieldAt (argsOf args) 2 1 } ∧
      (s.selfTested args).svc.state = .locked ∧ (s.selfTested args).link.holdRun = true ∧
      (s.selfTested args).safety = s.safety ∧ (s.selfTested args).store = s.store := by
  obtain ⟨-, -, -, ends⟩ := s.endSession_cases
  obtain ⟨-, -, -, locked⟩ := s.endSession.linkLost_keeps
  obtain ⟨portA, hold, -, -, safety, store⟩ := s.endSession.startLoopback_cases (fieldAt (argsOf args) 0 1 + 1) 0
  have ended := s.besideLink_endSession
  have endedA : s.endSession.portA = s.portA := (congrArg State.portA ended :)
  refine ⟨?_, locked (ends (.inr unlocked)), hold, safety.trans (congrArg State.safety ended :),
    store.trans (congrArg State.store ended :)⟩
  rw [endedA] at portA
  exact congrArg (fun q : Port => { q with gen := fieldAt (argsOf args) 2 1 }) portA

theorem State.svcReplied_withCredits {s u : State} {q : SvcSrc} {opcode status : Nat} {data : List Byte} (credits : Sparse RxCredit)
    (lcbs : List Lcb) (replied : s.svcReplied u q status opcode data) :
    s.svcReplied (u.withCredits credits lcbs) q status opcode data := by
  cases q <;> exact replied

section
variable {s : State} {q : SvcSrc} {args : List Byte} (serves : s.serves q 0x130 args) (fixed : argsFixed args 6 = true)
  (on : s.sessionOn q) (inRange : selfTestArgs args)
include serves fixed on inRange

theorem exec_linkSelftest_starts (allowed : s.selftestAllowed = true) :
    ∃ t, exec (.linkSelftest q args) s = .next t ∧ t.portA.st = .loopback ∧ t.portA.loopback = fieldAt (argsOf args) 0 1 + 1 ∧
      t.portA.gen = fieldAt (argsOf args) 2 1 ∧ t.portA.txBlock = 0 ∧
      t.selfTest = { running := true, gen := fieldAt (argsOf args) 2 1, ms := fieldAt (argsOf args) 4 2
                     lanes := BitVec.ofNat 4 (fieldAt (argsOf args) 1 1), errors := [], locks := 0 } ∧
      t.svc.state = .locked ∧ t.link.holdRun = true ∧ s.svcReplied t q 0 0x130 [] ∧ t.safety = s.safety ∧ t.store = s.store := by
  obtain ⟨l, credits, lcbs, arrives, run⟩ := State.service_runs serves (.linkSelftest q args) 2 fun t => t.takeSelftest q args
  rw [(State.takeSelftest_judged (s := { s with link := l }) fixed on inRange).trans (if_pos allowed)] at run
  have ready : s.mp.ready = true := State.serves_ready serves
  have replied := State.svcReplied_answer (s := s) (u := { s with link := l }) arrives rfl ready q 0x130 0 []
  have frame := ({ s with link := l } : State).answerSvc_frame q 0x130 0 []
  generalize ({ s with link := l } : State).answerSvc q 0x130 0 [] = u at run replied frame
  have unlocked : u.svc.state = .unlocked := (congrArg (·.svc.state) frame :).trans on.1
  obtain ⟨portA, locked, hold, safety, store⟩ := State.selfTested_cases unlocked args
  refine ⟨_, congrArg Host.Outcome.next run, (congrArg Port.st portA :), (congrArg Port.loopback portA :), (congrArg Port.gen portA :),
    (congrArg Port.txBlock portA :).trans (if_neg ?_), rfl, locked, hold,
    State.svcReplied_withCredits credits lcbs (State.svcReplied_selfTested args replied),
    safety.trans (congrArg State.safety frame :), store.trans (congrArg State.store frame :)⟩
  have := inRange.1
  omega

theorem exec_linkSelftest_busy (refused : s.selftestAllowed = false) :
    ∃ t, exec (.linkSelftest q args) s = .next t ∧ s.svcReplied t q 8 0x130 [] ∧ t.portA = s.portA ∧ t.selfTest = s.selfTest ∧
      t = { s with link := t.link, svc := t.svc } := by
  obtain ⟨l, t, run, replied, frame⟩ := State.service_answered (i := .linkSelftest q args) (who := 2)
    (f := fun t => t.takeSelftest q args) (e := id) (status := 8) (data := []) serves
    (fun l => (State.takeSelftest_judged (s := { s with link := l }) fixed on inRange).trans
      (if_neg (Bool.eq_false_iff.mp refused))) fun _ => ⟨rfl, rfl, rfl⟩
  refine ⟨t, congrArg _ run, replied, (congrArg State.portA frame :), (congrArg State.selfTest frame :), ?_⟩
  rw [frame]
  rfl

end

/-! ### The end of a self-test (R112) -/

/-- A lane's count is kept where the lane is tested, saturated at 32 bits. -/
def countError (lanes : BitVec 4) (m : Sparse Nat) (e : Fin 4 × Nat) : Sparse Nat :=
  if lanes.getLsbD e.1 then m.set 0 e.1 (sat32 e.2) else m

theorem wf_countErrors {lanes : BitVec 4} {m : Sparse Nat} (canonical : Sparse.wf 0 m = true) (es : List (Fin 4 × Nat)) :
    Sparse.wf 0 (es.foldl (countError lanes) m) = true := by
  refine List.foldlRecOn (motive := fun m : Sparse Nat => Sparse.wf 0 m = true) es _ canonical fun m wf e _ => ?_
  unfold countError
  split
  · exact Sparse.wf_set 0 m _ _ wf
  · exact wf

theorem get_countErrors_other {lanes : BitVec 4} {m : Sparse Nat} {l : Fin 4} {es : List (Fin 4 × Nat)}
    (canonical : Sparse.wf 0 m = true) (other : ∀ e ∈ es, e.1 ≠ l) : (es.foldl (countError lanes) m).get 0 l = m.get 0 l := by
  induction es generalizing m with
  | nil => rfl
  | cons e es ih =>
    have wf : Sparse.wf 0 (countError lanes m e) = true := wf_countErrors canonical [e]
    rw [List.foldl_cons, ih wf fun x mem => other x (List.mem_cons_of_mem _ mem)]
    unfold countError
    split
    · rw [Sparse.get_set 0 m _ _ _ canonical, if_neg fun same => other e List.mem_cons_self (Fin.ext same.symm)]
    · rfl

/-- The count of a lane that the results name once. -/
theorem get_countErrors {lanes : BitVec 4} {l : Fin 4} {n : Nat} {es : List (Fin 4 × Nat)}
    (once : es.filter (fun e => e.1 = l) = [(l, n)]) :
    (es.foldl (countError lanes) []).get 0 l = if lanes.getLsbD l = true then min n 0xFFFFFFFF else 0 := by
  obtain ⟨before, after, rfl, notBefore, -, notAfter⟩ := List.filter_eq_cons_iff.mp once
  have others : ∀ e ∈ before, e.1 ≠ l := fun e mem => by simpa using notBefore e mem
  have later : ∀ e ∈ after, e.1 ≠ l := fun e mem => by simpa using List.filter_eq_nil_iff.mp notAfter e mem
  have wf := wf_countErrors (lanes := lanes) (Sparse.wf_nil 0) before
  have read := get_countErrors_other (lanes := lanes) (Sparse.wf_nil 0) others
  rw [List.foldl_append, List.foldl_cons,
    get_countErrors_other (m := countError lanes _ (l, n)) (wf_countErrors wf [(l, n)]) later]
  generalize before.foldl (countError lanes) [] = m at wf read
  unfold countError
  split
  · rw [Sparse.get_set 0 m _ _ _ wf, if_pos rfl]
    rfl
  · exact read

theorem exec_selftestEnd {s : State} (loopback : s.portA.st = .loopback) (running : s.selfTest.running = true)
    (errors : List (Fin 4 × Nat)) (locks : BitVec 4) :
    exec (.selftestEnd errors locks) s = .next (({ s with
      selfTest := { s.selfTest with
        running := false, errors := errors.foldl (countError s.selfTest.lanes) [], locks := locks &&& s.selfTest.lanes }
      portA := s.portA.toDetect } : State).loopEvent s.portA.loopback false) :=
  if_pos (by simp [loopback, running])

theorem exec_selftestEnd_none {s : State} (none : s.portA.st ≠ .loopback ∨ s.selfTest.running = false)
    (errors : List (Fin 4 × Nat)) (locks : BitVec 4) : exec (.selftestEnd errors locks) s = .next s :=
  if_neg (by rcases none with other | idle <;> simp [*])

/-! ### The test access port (R430) -/

theorem exec_testAccessPort_held {s : State} (held : s.start.testEn = false ∨ s.start.vlog = false) (tms tdi : Bool)
    (lands : BitVec 12) : exec (.testAccessPort tms tdi lands) s = .next s :=
  if_pos (by rcases held with low | off <;> simp [*])

theorem exec_testAccessPort {s : State} (test : s.start.testEn = true) (vlog : s.start.vlog = true) (tms tdi : Bool)
    (lands : BitVec 12) :
    ∃ free, exec (.testAccessPort tms tdi lands) s = .next { s with tap := s.tap.clock tms tdi lands (s.freeVal 12), free } := by
  refine ⟨if s.tap.st = 10 then s.free + 1 else s.free, (if_neg (by simp [test, vlog])).trans (congrArg _ ?_)⟩
  by_cases captures : s.tap.st = 10
  · rw [if_pos captures]
    exact if_pos (by simp [captures])
  · rw [if_neg captures]
    exact if_neg (by simp [captures])

theorem Tap.fall_st (p : Tap) : p.fall.st = p.st := by
  unfold Tap.fall
  split <;> rfl

/-- The controller's next state with TMS high. -/
def tapHigh (n : Nat) : Nat := (tapNext.getD n (1, 0)).2

theorem Tap.clock_high_st (p : Tap) (d : Bool) (lands : BitVec 12) (u : Nat) : (p.clock true d lands u).st = tapHigh p.st :=
  Tap.fall_st _

/-- Test-logic reset selects BYPASS. -/
theorem Tap.clock_high_ir {p : Tap} (d : Bool) (lands : BitVec 12) (u : Nat) (reset : tapHigh p.st = 0) :
    (p.clock true d lands u).ir = 15 := by
  unfold Tap.clock Tap.fall
  dsimp only
  rw [if_pos rfl, show (tapNext.getD p.st (1, 0)).2 = 0 from reset]
  rfl

/-- Five cycles with TMS high reach test-logic reset from every state of the controller. -/
theorem tapHigh_five {n : Nat} (h : n < 16) : tapHigh (tapHigh (tapHigh (tapHigh (tapHigh n)))) = 0 := by
  decide +revert

theorem Tap.five_high {p : Tap} (h : p.st < 16) (d : Bool) (lands : BitVec 12) (u : Nat) :
    ((List.replicate 5 ()).foldl (fun q _ => q.clock true d lands u) p).st = 0 ∧
      ((List.replicate 5 ()).foldl (fun q _ => q.clock true d lands u) p).ir = 15 := by
  simp only [List.replicate, List.foldl_cons, List.foldl_nil]
  have reset := tapHigh_five h
  refine ⟨?_, Tap.clock_high_ir d lands u ?_⟩
  · simp only [Tap.clock_high_st, reset]
  · simp only [Tap.clock_high_st, reset]

/-- The boundary stage after a shift. -/
def shiftIn (cells : BitVec 12) (d : Bool) : BitVec 12 := BitVec.ofNat 12 (cells.toNat / 2 + 2048 * b2n d)

section
variable {p : Tap} (d : Bool) (lands : BitVec 12) (u : Nat)

/-- TDO is driven with the front of the selected stage as the controller comes to shift. -/
theorem Tap.clock_to_shift {q : Tap} (rise : p.rise d lands u = q) (next : (tapNext.getD p.st (1, 0)).1 = 4) :
    p.clock false d lands u =
      { q with st := 4, tdo := some (if q.boundary then q.cells.getLsbD 0 else q.bypass) } := by
  unfold Tap.clock
  dsimp only
  rw [if_neg Bool.false_ne_true, next, rise]
  rfl

theorem Tap.clock_bypass (shift : p.st = 4) (bypass : p.boundary = false) :
    p.clock false d lands u = { p with st := 4, bypass := d, tdo := some d } := by
  have rise : p.rise d lands u = { p with bypass := d } := by
    unfold Tap.rise
    rw [shift]
    exact if_neg (by simp [bypass])
  rw [Tap.clock_to_shift d lands u rise (by rw [shift]; rfl)]
  exact congrArg (fun b => ({ p with st := 4, bypass := d, tdo := some b } : Tap)) (if_neg (Bool.eq_false_iff.mp bypass))

theorem Tap.clock_capture (capture : p.st = 3) (boundary : p.boundary = true) :
    p.clock false d lands u = { p with st := 4, cells := lands, tdo := some (lands.getLsbD 0) } := by
  have rise : p.rise d lands u = { p with cells := lands } := by
    unfold Tap.rise
    rw [capture]
    exact if_pos boundary
  rw [Tap.clock_to_shift d lands u rise (by rw [capture]; rfl)]
  exact congrArg (fun b => ({ p with st := 4, cells := lands, tdo := some b } : Tap)) (if_pos boundary)

theorem Tap.clock_shift (shift : p.st = 4) (boundary : p.boundary = true) :
    p.clock false d lands u = { p with st := 4, cells := shiftIn p.cells d, tdo := some ((shiftIn p.cells d).getLsbD 0) } := by
  have rise : p.rise d lands u = { p with cells := shiftIn p.cells d } := by
    unfold Tap.rise
    rw [shift]
    exact if_pos boundary
  rw [Tap.clock_to_shift d lands u rise (by rw [shift]; rfl)]
  exact congrArg (fun b => ({ p with st := 4, cells := shiftIn p.cells d, tdo := some b } : Tap)) (if_pos boundary)

end

/-- A shift moves every cell one place towards TDO. -/
theorem getLsbD_shiftIn (cells : BitVec 12) (d : Bool) {j : Nat} (h : j < 11) : (shiftIn cells d).getLsbD j = cells.getLsbD (j + 1) := by
  have low : cells.toNat / 2 < 2 ^ 11 := by have := cells.isLt; omega
  have bits := Nat.testBit_two_pow_mul_add (b2n d) low j
  rw [if_pos h, Nat.testBit_div_two] at bits
  rw [shiftIn, BitVec.getLsbD_ofNat, Nat.add_comm, decide_eq_true (by omega), Bool.true_and]
  exact bits

/-- The boundary stage after `k` shifts. -/
def shifted (lands : BitVec 12) (d : Nat → Bool) : Nat → BitVec 12
  | 0 => lands
  | k + 1 => shiftIn (shifted lands d k) (d k)

theorem getLsbD_shifted (lands : BitVec 12) (d : Nat → Bool) {k j : Nat} (h : j + k < 12) :
    (shifted lands d k).getLsbD j = lands.getLsbD (j + k) := by
  induction k generalizing j with
  | zero => rfl
  | succ k ih => rw [shifted, getLsbD_shiftIn _ _ (by omega), ih (by omega), Nat.add_right_comm, Nat.add_assoc]

/-- After a capture and `k` shifts the boundary stage holds what is left of the lands, and TDO its first cell. -/
theorem Tap.shifts {p : Tap} (capture : p.st = 3) (boundary : p.boundary = true) (lands : BitVec 12) (u : Nat) (d : Nat → Bool)
    (k : Nat) :
    (List.range k).foldl (fun (r : Tap) i => r.clock false (d i) lands u) (p.clock false false lands u) =
      { p with st := 4, cells := shifted lands d k, tdo := some ((shifted lands d k).getLsbD 0) } := by
  induction k with
  | zero => exact Tap.clock_capture false lands u capture boundary
  | succ k ih =>
    rw [List.range_succ, List.foldl_append, ih]
    exact Tap.clock_shift (p := { p with st := 4, cells := shifted lands d k, tdo := some ((shifted lands d k).getLsbD 0) }) (d k) lands
      u rfl boundary

/-- Settles O53: a self-test by what it makes of port A, the session and the results, the test access port by one lemma for a cycle
of each kind. -/
theorem selfTestsAndTestPort : Obligations.SelfTestsAndTestPort := by
  refine ⟨fun s q args => ?selftest,
    fun s errors locks loopback running => ⟨_, exec_selftestEnd loopback running errors locks, ?ends⟩,
    fun s errors locks none => exec_selftestEnd_none none errors locks,
    fun s low => ⟨fun off => exec_testEnHigh_off low off, fun on => ⟨_, exec_testEnHigh_powered low on, ?powered⟩⟩,
    fun s high => exec_testEnHigh_high high, fun s tms tdi lands held => exec_testAccessPort_held held tms tdi lands,
    fun s tms tdi lands test vlog => ?clocks, fun p d lands u h => Tap.five_high h d lands u,
    fun p d lands u shift bypass => ?bypass, fun p lands u d capture boundary k h => ?shifts⟩
  case selftest =>
    intro a serves fixed on kind lane lanes slow fast short long
    have inRange : selfTestArgs args := ⟨kind, ⟨lane, lanes⟩, ⟨slow, fast⟩, short, long⟩
    exact ⟨exec_linkSelftest_starts serves fixed on inRange, exec_linkSelftest_busy serves fixed on inRange⟩
  case ends => exact ⟨rfl, rfl, rfl, rfl, fun l n once => get_countErrors once, rfl, rfl⟩
  case powered =>
    obtain ⟨portA, hold, tap, start, safety, store⟩ := ({ s with
      start := { s.start with testEn := true }, tap := {} } : State).startLoopback_cases 1 0
    exact ⟨congrArg Start.testEn start, tap, congrArg Port.st portA, congrArg Port.loopback portA, congrArg Port.txBlock portA, hold,
      safety, store⟩
  case clocks =>
    obtain ⟨free, run⟩ := exec_testAccessPort test vlog tms tdi lands
    exact ⟨_, run, rfl, rfl⟩
  case bypass =>
    rw [Tap.clock_bypass d lands u shift bypass]
    exact ⟨rfl, rfl⟩
  case shifts =>
    dsimp only
    rw [Tap.shifts capture boundary lands u d k, getLsbD_shifted lands d (by omega), Nat.zero_add]
    exact ⟨rfl, rfl, rfl, rfl⟩

end Sys2Proof.Machine
end

section
/-!
PROOFS. What the receive path of port A does with a packet (04 R120, R125, R126, R129, R140, 10 R273; O11).
-/
namespace Sys2Proof.Machine

/-! ### The link stage -/

theorem State.receive_noLink {s : State} (down : s.linkUp = false) (i : Instr) (p : Rx) (f : State → State) : s.receive i p f = s :=
  if_pos (by simp [down])

theorem State.receive_tooLong {s : State} (up : s.linkUp = true) {p : Rx} (long : 4096 < p.len) (i : Instr) (f : State → State) :
    s.receive i p f = (s.linkFailed .framing p.h.seq).restoreFor p.vc p.type :=
  (if_neg (by simp [up])).trans (if_pos long)

theorem State.receive_outOfOrder {s : State} (up : s.linkUp = true) {p : Rx} (short : p.len ≤ 4096)
    (other : seqClass s.link.expSeq p.h.seq ≠ 0) (i : Instr) (f : State → State) :
    s.receive i p f = (s.linkOther p.h.seq).restoreFor p.vc p.type :=
  (if_neg (by simp [up])).trans ((if_neg (Nat.not_lt.mpr short)).trans (if_pos other))

theorem State.linkOther_duplicate {s : State} {q : BitVec 12} (duplicate : seqClass s.link.expSeq q = 1) : s.linkOther q = s.sendAck :=
  if_pos duplicate

theorem State.linkOther_ahead {s : State} {q : BitVec 12} (ahead : seqClass s.link.expSeq q = 2) : s.linkOther q = s.sendNak :=
  if_neg (by omega)

theorem seqClass_same (q : BitVec 12) : seqClass q q = 0 := if_pos rfl

/-- A packet within its credits has its room in the staging (R129). -/
theorem State.noStaging_within {s : State} {vc len : Nat} (within : (s.link.credits.get {} vc).held + creditCost len ≤ s.grant vc) :
    s.noStaging vc len = false := by
  simp [State.noStaging, Nat.not_lt.mpr within]

/-! ### The content stage and the route (R120, R140) -/

section
variable {s : State} {p : Rx} (up : s.linkUp = true) (seq : p.h.seq = s.link.expSeq) (running : s.start.state ≠ .serviceOnly)
  (short : p.len ≤ 4096) (lenOk : p.lenOk = true) (fieldsOk : p.fieldsOk = true)
  (within : (s.link.credits.get {} p.vc).held + creditCost p.len ≤ s.grant p.vc)
include up seq running short lenOk fieldsOk within

/-- A packet in order that passes both stages is routed by its ADDR. -/
theorem State.receive_routes (addr : p.h.addr.toNat < 8 ∨ p.h.addr = 0xF) (i : Instr) (f : State → State) :
    s.receive i p f = s.linkPass.route i p f := by
  have start : s.linkPass.start = s.start := (congrArg State.start s.linkPass_frame :)
  have grant : s.linkPass.grant p.vc = s.grant p.vc := by unfold State.grant; rw [start]
  obtain ⟨-, -, -, credits, -⟩ := s.linkPass_link
  have passes : s.linkPass.content i p f = s.linkPass.route i p f := by
    unfold State.content
    rw [if_neg (by simp [start, running]), if_neg (by simpa using fun high => addr.resolve_left (Nat.not_lt.mpr high)),
      if_neg (by simp [lenOk]), if_neg (by simp [fieldsOk]), if_neg (by rw [grant, credits]; omega)]
  unfold State.receive
  rw [if_neg (by simp [up]), if_neg (Nat.not_lt.mpr short), if_neg (by simp [seq, seqClass_same]),
    if_neg (by simp [State.noStaging_within within]), passes]

/-- A packet for another module goes to port B, or is discarded where that link does not stand (R140). -/
theorem State.receive_otherModule (low : p.h.addr.toNat < 8) (other : p.h.addr ≠ BitVec.setWidth 4 s.link.addr) (i : Instr)
    (f : State → State) :
    s.receive i p f = if s.portB.linked then (s.admitted p).forward p (creditCost p.len) false
      else ((s.admitted p).freeCredits p.vc (creditCost p.len) p.len).raiseRated 0x0106 8 [(1, 8), (1, p.vc), (1, p.type)] := by
  have own : p.h.addr ≠ BitVec.setWidth 4 (s.admitted p).link.addr := by rwa [(s.admitted_link p).2.1]
  have notAll : isBcast p.h = false := decide_eq_false fun all => by rw [all] at low; exact absurd low (by decide)
  have portB : (s.admitted p).portB = s.portB := (congrArg State.portB (s.admitted_frame p) :)
  rw [State.receive_routes up seq running short lenOk fieldsOk within (.inl low), ← portB]
  exact (if_neg (by simp [notAll])).trans (if_neg own)

/-- A broadcast is forwarded and, where nothing keeps it waiting, consumed here too (R131, R140). -/
theorem State.receive_broadcast (all : p.h.addr = 0xF) (mp : s.mp.ready = true) (sp : s.sp.running = true)
    (serves : s.storeBlocked p.lo p.hi = false) (first : s.link.waiting = []) (linked : s.portB.linked = true) (i : Instr)
    (f : State → State) : s.receive i p f = f ((s.admitted p).forward p (creditCost p.len) false) := by
  have frame := s.admitted_frame p
  obtain ⟨-, -, waiting, -⟩ := s.admitted_link p
  have now : (s.admitted p).mustWait p.waiting = false := by
    have mp' : (s.admitted p).mp.ready = true := (congrArg (·.mp.ready) frame :).trans mp
    have sp' : (s.admitted p).sp.running = true := (congrArg (·.sp.running) frame :).trans sp
    have serves' : (s.admitted p).storeBlocked p.lo p.hi = false := (congrArg (·.storeBlocked p.lo p.hi) frame :).trans serves
    simp [State.mustWait, State.stays, Rx.waiting, waiting, first, mp', sp', serves']
  have portB : (s.admitted p).portB.linked = true := (congrArg (·.portB.linked) frame :).trans linked
  rw [State.receive_routes up seq running short lenOk fieldsOk within (.inr all)]
  exact (if_pos (decide_eq_true all)).trans ((if_pos portB).trans (if_neg (ne_true_of_eq_false now)))

end

/-- Settles O11: the link stage by the class of SEQ, then the content stage's three routes. -/
theorem packetsAreConsumedForwardedOrRejected : Obligations.PacketsAreConsumedForwardedOrRejected := by
  refine ⟨fun s i p f accepts => s.receive_accepts i p f accepts,
    fun s i p f up short => ⟨fun duplicate => ?_, fun ahead => ?_⟩,
    fun s i p f up long => State.receive_tooLong up long i f,
    fun s i p f up seq running short lenOk fieldsOk within =>
      ⟨fun low other => State.receive_otherModule up seq running short lenOk fieldsOk within low other i f,
        fun all mp sp serves first linked =>
          State.receive_broadcast up seq running short lenOk fieldsOk within all mp sp serves first linked i f⟩,
    fun s i p f down => State.receive_noLink down i p f⟩
  · rw [State.receive_outOfOrder up short (by omega), State.linkOther_duplicate duplicate]
  · rw [State.receive_outOfOrder up short (by omega), State.linkOther_ahead ahead]

end Sys2Proof.Machine
end

section
/-!
PROOFS. What an accepted packet finds and what is answered to it (04 R120, R124, R131), what the passing of time leaves (05 R145), and
what the acceptance of a request does to the quadrants (09 R262).
-/
namespace Sys2Proof.Machine

/-! ### The state an accepted packet is consumed in -/

/-- The link as the consumer of an accepted packet finds it: `l` differs from that at the arrival in its sequence and its accounts. -/
def State.AcceptedWith (s : State) (l : Link) : Prop :=
  s.ArrivesWith l ∧ l.expSeq = s.link.expSeq + 1 ∧ l.rev = s.link.rev

theorem State.accepts_ready {s : State} {p : Rx} (accepts : s.accepts p) : s.mp.ready = true := by
  obtain ⟨-, -, -, -, -, -, -, -, ready, -⟩ := accepts
  exact ready

theorem State.admitted_accepted (s : State) (p : Rx) : ∃ l, s.admitted p = { s with link := l } ∧ s.AcceptedWith l := by
  obtain ⟨seq, addr, -, tqs, rev, -⟩ := s.admitted_link p
  exact ⟨_, s.admitted_frame p, ⟨addr, tqs, s.linkPass_blocked⟩, seq, rev⟩

/-- An accepted packet is consumed in the state it arrived in but for the link, and its credits come back. -/
theorem State.receive_runs {s : State} {p : Rx} (accepts : s.accepts p) (i : Instr) (f : State → State) :
    ∃ l credits lcbs, s.admitted p = { s with link := l } ∧ s.AcceptedWith l ∧
      s.receive i p f = (f { s with link := l }).withCredits credits lcbs := by
  obtain ⟨l, admitted, accepted⟩ := s.admitted_accepted p
  have runs := s.receive_accepts i p f accepts
  rw [admitted, State.freeCredits_frame] at runs
  exact ⟨l, _, _, admitted, accepted, runs⟩

/-! ### Answers -/

theorem State.enqueue_frame (s : State) (q : Nat) (p : TxPkt) : s.enqueue q p = { s with link := (s.enqueue q p).link } := by
  rw [State.enqueue_link]

/-- A packet queued by the consumer of a packet that has arrived is queued as at the arrival. -/
theorem State.enqueue_arrives {s u : State} (arrives : s.ArrivesWith u.link) (type : Nat) (tag : BitVec 16) (payload : List Byte) :
    (u.enqueue 0 (u.upPkt 0 type tag payload)).link.tqs = (s.enqueue 0 (s.upPkt 0 type tag payload)).link.tqs ∧
      (u.enqueue 0 (u.upPkt 0 type tag payload)).link.blocked = (s.enqueue 0 (s.upPkt 0 type tag payload)).link.blocked := by
  obtain ⟨addr, tqs, blocked⟩ := arrives
  have packet : u.upPkt 0 type tag payload = s.upPkt 0 type tag payload := by simp only [State.upPkt, addr]
  rw [packet]
  generalize s.upPkt 0 type tag payload = p
  have room : u.tqRoom 0 p = s.tqRoom 0 p := by
    simp only [State.tqRoom, State.queued, tqs, blocked]
    rfl
  simp only [State.enqueue_link, room, tqs, blocked, and_self]

/-- With the MP ready the answer to a packet that has arrived stands on TQ0, or with its producer. -/
theorem State.replied_reply {s u : State} (arrives : s.ArrivesWith u.link) (ready : u.mp.ready = true) (h : Hdr)
    (type opcode status : Nat) (data : List Byte) : s.replied (u.reply h type opcode status data) h status type opcode data := by
  rw [State.reply_queued _ _ _ _ _ _ ready]
  unfold State.replied
  dsimp only
  split
  · obtain ⟨-, tqs, blocked⟩ := arrives
    exact ⟨tqs, blocked⟩
  · exact State.enqueue_arrives arrives ..

/-- A reply does not read the event memory. -/
theorem State.reply_setEv (s : State) (e : Events) (h : Hdr) (type opcode status : Nat) (data : List Byte) :
    ({ s with ev := e } : State).reply h type opcode status data = { s.reply h type opcode status data with ev := e } := by
  unfold State.reply
  split
  · rfl
  · dsimp only
    split
    · rw [State.enqueue_link, State.enqueue_link]
      rfl
    · rfl

/-- A change of the event memory that does not read the link may come before a reply or after it. -/
theorem State.reply_comm {g : State → State} (ev : ∀ u, g u = { u with ev := (g u).ev })
    (link : ∀ (u : State) (l : Link), (g { u with link := l }).ev = (g u).ev) (s : State) (h : Hdr) (type opcode status : Nat)
    (data : List Byte) : g (s.reply h type opcode status data) = (g s).reply h type opcode status data := by
  have frame := s.reply_frame h type opcode status data
  have same : (g (s.reply h type opcode status data)).ev = (g s).ev := by rw [frame, link]
  calc g (s.reply h type opcode status data)
    _ = { s.reply h type opcode status data with ev := (g (s.reply h type opcode status data)).ev } := ev _
    _ = { s.reply h type opcode status data with ev := (g s).ev } := by rw [same]
    _ = ({ s with ev := (g s).ev } : State).reply h type opcode status data := (State.reply_setEv ..).symm
    _ = (g s).reply h type opcode status data := by rw [← ev s]

theorem State.raise_reply (s : State) (h : Hdr) (type opcode status : Nat) (data : List Byte) (code : Nat) (d : List (Nat × Nat)) :
    (s.reply h type opcode status data).raise code d = (s.raise code d).reply h type opcode status data :=
  State.reply_comm (g := fun u => u.raise code d) (fun _ => rfl) (fun _ _ => rfl) s h type opcode status data

/-- A packet that is accepted and answered: the effect `e` it has, and its answer. -/
theorem State.receive_answers {s : State} {i : Instr} {p : Rx} {f e : State → State} {h : Hdr} {type opcode status : Nat}
    {data : List Byte} (accepts : s.accepts p)
    (run : ∀ l, s.admitted p = { s with link := l } → s.AcceptedWith l →
      f { s with link := l } = (e { s with link := l }).reply h type opcode status data)
    (rest : ∀ u, (e u).link = u.link ∧ (e u).mp = u.mp) :
    ∃ l t, s.receive i p f = t ∧ s.replied t h status type opcode data ∧ t.link.expSeq = s.link.expSeq + 1 ∧
      t = { e { s with link := l } with link := t.link } := by
  obtain ⟨l, credits, lcbs, admitted, accepted, runs⟩ := State.receive_runs accepts i f
  obtain ⟨link, mp⟩ := rest { s with link := l }
  have ready : (e { s with link := l }).mp.ready = true := (congrArg (·.ready) mp).trans (State.accepts_ready accepts)
  rw [run l admitted accepted] at runs
  obtain ⟨arrives, seq, -⟩ := accepted
  have replied := State.replied_reply (s := s) (u := e { s with link := l }) (link.symm ▸ arrives) ready h type opcode status data
  have frame := (e { s with link := l }).reply_frame h type opcode status data
  refine ⟨l, _, runs, replied, ?_, ?_⟩
  · rw [frame, link]
    exact seq
  · rw [frame]
    rfl

/-- A packet that is accepted and only answered. -/
theorem State.receive_onlyAnswers {s : State} {i : Instr} {p : Rx} {f : State → State} {h : Hdr} {type opcode status : Nat}
    {data : List Byte} (accepts : s.accepts p)
    (run : ∀ l, s.admitted p = { s with link := l } → s.AcceptedWith l →
      f { s with link := l } = ({ s with link := l } : State).reply h type opcode status data) :
    ∃ t, s.receive i p f = t ∧ s.replied t h status type opcode data ∧ t = { s with link := t.link } := by
  obtain ⟨l, t, received, replied, -, after⟩ := State.receive_answers (e := id) accepts run fun _ => ⟨rfl, rfl⟩
  exact ⟨t, received, replied, after⟩

/-! ### The passing of time -/

theorem State.regrid_frame (s : State) : ∃ clk sync e, s.regrid = { s with clk, sync, ev := e } := by
  unfold State.regrid
  split
  · dsimp only
    generalize (if s.grid.onLamp then s.grid.lampErr else s.gridError) = error
    split <;> exact ⟨_, _, _, rfl⟩
  · exact ⟨_, _, _, rfl⟩

/-- The passing of time moves the clocks, the grid's error and lock, and raises their event. -/
theorem State.elapse_frame (s : State) (n : Nat) :
    ∃ clk lampErr sync e, s.elapse n = { s with clk, grid := { s.grid with lampErr }, sync, ev := e } := by
  unfold State.elapse
  split
  · exact ⟨s.clk, s.grid.lampErr, s.sync, s.ev, rfl⟩
  · obtain ⟨clk, sync, e, regrid⟩ := State.regrid_frame { s with
      clk := s.clk.advance (s.steerSum n) n
      grid := { s.grid with lampErr :=
        if s.clk.crystal && s.grid.onLamp then s.grid.lampErr - s.steerSum n else s.grid.lampErr } }
    exact ⟨clk, _, sync, e, regrid⟩

/-! ### The may-be-lit bits (R262, R265) -/

/-- What the may-be-lit bits move: the quadrants, their latches, and events. -/
def State.OnlyLit (s t : State) : Prop := ∃ quads latches e, t = { s with quads, latches, ev := e }

theorem State.OnlyLit.refl (s : State) : s.OnlyLit s := ⟨_, _, _, rfl⟩

theorem State.OnlyLit.trans {s t u : State} : s.OnlyLit t → t.OnlyLit u → s.OnlyLit u := by
  rintro ⟨quads, latches, e, rfl⟩ ⟨quads', latches', e', rfl⟩
  exact ⟨_, _, _, rfl⟩

theorem State.OnlyLit.cond (s : State) (c : Bool) {f : State → State} (h : ∀ u : State, u.OnlyLit (f u)) : s.OnlyLit (s.cond c f) := by
  cases c
  · exact .refl s
  · exact h s

theorem State.onlyLit_withdrawOff (s : State) (q : Nat) : s.OnlyLit (s.withdrawOff q) :=
  .cond s _ fun u => .trans (t := u.modQuad q fun k => { k with granted := false }) ⟨_, _, _, rfl⟩
    (.cond _ _ fun _ => ⟨_, _, _, rfl⟩)

theorem State.onlyLit_wake (s : State) (q : Nat) : s.OnlyLit (s.wake q) := by
  unfold State.wake
  split <;> exact ⟨_, _, _, rfl⟩

theorem State.onlyLit_setLit (s : State) (q : Nat) (on : Bool) : s.OnlyLit (s.setLit q on) :=
  .trans (t := s.modQuad q fun k => { k with lit := on, darkFrom := if on || k.lit then s.now1 else k.darkFrom }) ⟨_, _, _, rfl⟩
    (.cond _ _ fun u => (u.onlyLit_withdrawOff q).trans (State.onlyLit_wake _ q))

theorem State.onlyLit_litOnAccept (s : State) : s.OnlyLit s.litOnAccept :=
  State.forEach_keeps .refl (fun _ _ _ => .trans) _
    (fun u q => by
      split
      · exact u.onlyLit_setLit q true
      · exact .refl u) _ s

end Sys2Proof.Machine
end

section
/-!
PROOFS. WRITE and SURFACE_COMPLETE (04 R122, R123, 07 R194, R196, R197, 10 R272; O15).
-/
namespace Sys2Proof.Machine

/-! ### The running context of a layer (R196, 10 R282) -/

/-- The layer with its running context checked. -/
def Layer.checked (l : Layer) : Layer := { l with run := l.run.map Run.checked }

/-- The check of a layer's context changes the layer and, where it fails, its CVU context and the event memory. -/
theorem State.checkRun_frame (s : State) (n : Nat) :
    ∃ cvu e, s.checkRun n = { s with cvu, ev := e, layers := s.layers.modify n Layer.checked } := by
  unfold State.checkRun
  dsimp only
  cases (s.layer n).run.any fun r => r.parBad
  · exact ⟨s.cvu, s.ev, rfl⟩
  · exact ⟨_, _, rfl⟩

theorem layer_modify {l : Layer} {layers : List Layer} {n : Nat} (listed : layers[n]? = some l) (f : Layer → Layer) :
    (layers.modify n f).getD n {} = f l := by
  rw [List.getD_eq_getElem?_getD, List.getElem?_modify_eq, listed]
  rfl

/-- A run is read as it was changed; a layer that does not exist has none before and after. -/
theorem run_modify_checked (layers : List Layer) (n : Nat) :
    ((layers.modify n Layer.checked).getD n {}).run = (layers.getD n {}).run.map Run.checked := by
  cases listed : layers[n]? with
  | none => simp [List.getD_eq_getElem?_getD, List.getElem?_modify_eq, listed]
  | some l =>
    rw [layer_modify listed, List.getD_eq_getElem?_getD, listed]
    rfl

/-! ### WRITE (R122) -/

/-- Bytes written to the store change its cells alone. -/
theorem Store.setBytes_frame (m : Store) (a : Nat) (bs : List Byte) : m.setBytes a bs = { m with cells := (m.setBytes a bs).cells } := by
  induction bs generalizing m a with
  | nil => rfl
  | cons b bs ih => exact ih (m.setByte a b) (a + 1)

theorem State.storeBytes_frame (s : State) (a : Nat) (bs : List Byte) :
    ∃ flips svc, s.storeBytes a bs = { s with store := { s.store.setBytes a bs with flips }, svc } :=
  ⟨_, _, s.storeBytes_cells a bs⟩

theorem State.cond_raise_frame (s : State) (c : Bool) (code : Nat) (d : List (Nat × Nat)) :
    ∃ e, (s.cond c fun u => u.raise code d) = { s with ev := e } := by
  cases c
  · exact ⟨s.ev, rfl⟩
  · exact ⟨_, rfl⟩

/-- A layer after a WRITE of [lo, hi) that makes its run `r`. -/
def Layer.written (r : Run) (lo hi : Nat) (l : Layer) : Layer :=
  { l with run := some r, chk := some r, spans := keepSpans lo hi l.spans, waits := keepSpans lo hi l.waits }

/-- The run of a layer after a WRITE whose data all reach the store. -/
def State.runAfter (s : State) (n off : Nat) (data : List Byte) : Run :=
  nextRun ((s.layer n).run.map Run.checked) off data false

/-- A WRITE without a staging error to a powered part of the store puts its data there and moves its layer's run. -/
theorem State.takeWrite_whole {s : State} {n off : Nat} {data : List Byte} (on : s.power.pd3 = true)
    (powered : s.unpowered ((s.env n).base + off) ((s.env n).base + off + data.length) = false) (corrected : Nat) :
    ∃ flips svc change cvu e, s.takeWrite n off data corrected [] = { s with
      store := { s.store.setBytes ((s.env n).base + off) data with flips, stagCorr := sat32 (s.store.stagCorr + corrected) }
      layers := s.layers.modify n (Layer.written (s.runAfter n off data) off (off + data.length))
      grid := { s.grid with change }, svc, cvu, ev := e } := by
  obtain ⟨cvu, e, checked⟩ := s.checkRun_frame n
  have run : (State.layer { s with cvu, ev := e, layers := s.layers.modify n Layer.checked } n).run = (s.layer n).run.map Run.checked :=
    run_modify_checked s.layers n
  have layers (r : Run) : (s.layers.modify n Layer.checked).modify n (Layer.written r off (off + data.length)) =
      s.layers.modify n (Layer.written r off (off + data.length)) := List.modify_modify_eq ..
  unfold State.takeWrite
  simp only [on, powered, checked, run, Bool.not_true, Bool.or_self, Bool.not_false, List.filter_nil, List.isEmpty_nil,
    State.cond_false, State.cond_true, State.forEach_nil, if_pos]
  generalize breaksRun ((s.layer n).run.map Run.checked) off = breaks
  obtain ⟨e', raised⟩ := State.cond_raise_frame { s with cvu, ev := e, layers := s.layers.modify n Layer.checked } breaks 0x0407 [(1, n)]
  rw [raised]
  obtain ⟨flips, svc, stored⟩ := State.storeBytes_frame { s with cvu, ev := e', layers := s.layers.modify n Layer.checked }
    ((s.env n).base + off) data
  have count : (s.store.setBytes ((s.env n).base + off) data).stagCorr = s.store.stagCorr :=
    (congrArg Store.stagCorr (s.store.setBytes_frame ..) :)
  simp only [stored, count]
  rw [← layers]
  exact ⟨flips, svc, _, cvu, e', rfl⟩

/-- An accepted WRITE to a powered part of the store, without a staging error. -/
theorem exec_write_taken {s : State} {h : Hdr} {n : Fin 12} {b : List Byte} (accepts : s.accepts (writeRx s h n.val b))
    (on : s.power.pd3 = true)
    (powered : s.unpowered ((s.env n).base + fieldAt b 0 4) ((s.env n).base + fieldAt b 0 4 + (b.drop 8).length) = false)
    (corrected : Nat) :
    ∃ l credits lcbs flips svc change cvu e, s.AcceptedWith l ∧
      exec (.write h n b corrected []) s = .next (State.withCredits { s with
        link := l
        store := { s.store.setBytes ((s.env n).base + fieldAt b 0 4) (b.drop 8) with
          flips, stagCorr := sat32 (s.store.stagCorr + corrected) }
        layers := s.layers.modify n (Layer.written (s.runAfter n (fieldAt b 0 4) (b.drop 8)) (fieldAt b 0 4)
          (fieldAt b 0 4 + (b.drop 8).length))
        grid := { s.grid with change }, svc, cvu, ev := e } credits lcbs) := by
  obtain ⟨l, credits, lcbs, -, accepted, runs⟩ := State.receive_runs accepts (.write h n b corrected []) fun u =>
    u.takeWrite n (fieldAt b 0 4) (b.drop 8) corrected []
  obtain ⟨flips, svc, change, cvu, e, taken⟩ := State.takeWrite_whole (s := { s with link := l }) on powered corrected
  exact ⟨l, credits, lcbs, flips, svc, change, cvu, e, accepted, congrArg Host.Outcome.next (runs.trans (by rw [taken]; rfl))⟩

/-! ### SURFACE_COMPLETE (R123) -/

/-- The layer with its run and its checkpoint ended. -/
def Layer.closed (l : Layer) : Layer := { l with run := none, chk := none }

/-- The layer with a span that is ready at once, or from the next latch point on. -/
def Layer.completed (now : Bool) (x : Span) (l : Layer) : Layer :=
  if now then { l with spans := addSpan l.spans x } else { l with waits := l.waits ++ [x] }

/-- The run of a layer is checked and closed. -/
def State.closeRun (s : State) (n : Nat) : State := (s.checkRun n).modLayer n Layer.closed

theorem State.closeRun_frame (s : State) (n : Nat) :
    ∃ cvu e, s.closeRun n = { s with cvu, ev := e, layers := s.layers.modify n Layer.closed } := by
  obtain ⟨cvu, e, checked⟩ := s.checkRun_frame n
  have layers : (s.layers.modify n Layer.checked).modify n Layer.closed = s.layers.modify n Layer.closed :=
    List.modify_modify_eq ..
  unfold State.closeRun
  rw [checked, ← layers]
  exact ⟨cvu, e, rfl⟩

/-- An arrival before the cutoff of the next latch point, or before the grid runs (R197). -/
def State.inTime (s : State) (a : Stamp) : Bool := !s.grid.started || a.before s.clk.epoch (s.cutoffOf s.grid.nextG)

section
variable {s : State} {n : Nat} {b : List Byte} (on : s.power.pd3 = true) (start : fieldAt b 0 4 % 8 = 0)
  (size : fieldAt b 4 4 % 8 = 0) (inside : fieldAt b 0 4 + fieldAt b 4 4 ≤ (s.env n).size) (enabled : (s.env n).enabled = true)
include on start size inside enabled

/-- A SURFACE_COMPLETE in range for an enabled layer is judged by the layer's run alone. -/
theorem State.takeComplete_judged (h : Hdr) (a : Stamp) :
    s.takeComplete h n b a =
      if runMatches ((s.layer n).run.map Run.checked) (fieldAt b 0 4) (fieldAt b 4 4) (fieldAt b 8 4) then
        ((s.closeRun n).modLayer n (Layer.completed (s.inTime a)
          { lo := fieldAt b 0 4, hi := fieldAt b 0 4 + fieldAt b 4 4 })).reply h 0x81 0 0 []
      else ((s.closeRun n).raise 0x0406 [(1, n)]).reply h 0x81 0 0x0A [] := by
  obtain ⟨cvu, e, checked⟩ := s.checkRun_frame n
  have env : (s.checkRun n).env n = s.env n := by rw [checked]; rfl
  have power : (s.checkRun n).power = s.power := by rw [checked]
  have time : (s.checkRun n).inTime a = s.inTime a := by rw [checked]; rfl
  have run : ((s.checkRun n).layer n).run = (s.layer n).run.map Run.checked := by rw [checked]; exact run_modify_checked s.layers n
  unfold State.takeComplete
  dsimp only
  rw [env, power, run, if_neg (by simp [start, size, inside]), if_neg (by simp [enabled]), if_neg (by simp [on])]
  split
  · rw [← time]
    rfl
  · exact State.raise_reply ..

/-- The signature a SURFACE_COMPLETE gives is that of the layer's unbroken run. -/
def State.completes (s : State) (n : Nat) (b : List Byte) : Bool :=
  runMatches ((s.layer n).run.map Run.checked) (fieldAt b 0 4) (fieldAt b 4 4) (fieldAt b 8 4)

/-- What a SURFACE_COMPLETE makes of its layer. -/
def State.spanAfter (s : State) (n : Nat) (b : List Byte) (l : Layer) : Layer :=
  if s.completes n b then
    l.closed.completed (s.inTime (s.capture 0)) { lo := fieldAt b 0 4, hi := fieldAt b 0 4 + fieldAt b 4 4 }
  else l.closed

/-- An accepted SURFACE_COMPLETE closes the run of its layer, and where it fits the run adds the span. -/
theorem State.receive_complete {h : Hdr} (accepts : s.accepts (completeRx h n b)) (i : Instr) :
    ∃ t, (s.receive i (completeRx h n b) fun t => t.takeComplete h n b (t.capture 0)) = t ∧
      t.layers = s.layers.modify n (s.spanAfter n b) ∧ s.replied t h (if s.completes n b then 0 else 0x0A) 0x81 0 [] ∧
      t = { s with layers := t.layers, link := t.link, cvu := t.cvu, ev := t.ev } := by
  let x : Span := { lo := fieldAt b 0 4, hi := fieldAt b 0 4 + fieldAt b 4 4 }
  let e (u : State) : State :=
    if s.completes n b then (u.closeRun n).modLayer n (Layer.completed (s.inTime (s.capture 0)) x)
    else (u.closeRun n).raise 0x0406 [(1, n)]
  have frame (u : State) : ∃ cvu ev, e u = { u with cvu, ev, layers := u.layers.modify n (s.spanAfter n b) } := by
    obtain ⟨cvu, ev, closed⟩ := u.closeRun_frame n
    have span : (u.layers.modify n Layer.closed).modify n (Layer.completed (s.inTime (s.capture 0)) x) =
        u.layers.modify n fun l => l.closed.completed (s.inTime (s.capture 0)) x := List.modify_modify_eq ..
    show ∃ cvu ev, (if s.completes n b then _ else _) = _
    unfold State.spanAfter
    rw [closed]
    cases s.completes n b
    · exact ⟨cvu, _, rfl⟩
    · exact ⟨cvu, ev, (congrArg (fun layers => ({ u with cvu, ev, layers } : State)) span :)⟩
  have rest (u : State) : (e u).link = u.link ∧ (e u).mp = u.mp := by
    obtain ⟨cvu, ev, after⟩ := frame u
    rw [after]
    exact ⟨rfl, rfl⟩
  have run (l : Link) : ({ s with link := l } : State).takeComplete h n b (s.capture 0) =
      (e { s with link := l }).reply h 0x81 0 (if s.completes n b then 0 else 0x0A) [] := by
    rw [State.takeComplete_judged (s := { s with link := l }) on start size inside enabled]
    show (if s.completes n b then _ else _) = State.reply (if s.completes n b then _ else _) ..
    cases s.completes n b <;> rfl
  obtain ⟨l, t, runs, replied, -, after⟩ := State.receive_answers (i := i) (e := e)
    (f := fun t => t.takeComplete h n b (t.capture 0)) accepts (fun l _ _ => run l) rest
  obtain ⟨cvu, ev, same⟩ := frame { s with link := l }
  rw [same] at after
  refine ⟨t, runs, ?_, replied, ?_⟩ <;> rw [after]

end

theorem State.spanAfter_fits {s : State} {n : Nat} {b : List Byte} (fits : s.completes n b = true) :
    s.spanAfter n b = fun l =>
      if s.grid.started = false ∨ (s.capture 0).before s.clk.epoch (s.cutoffOf s.grid.nextG) = true then
        { l with run := none, chk := none, spans := addSpan l.spans { lo := fieldAt b 0 4, hi := fieldAt b 0 4 + fieldAt b 4 4 } }
      else { l with run := none, chk := none, waits := l.waits ++ [{ lo := fieldAt b 0 4, hi := fieldAt b 0 4 + fieldAt b 4 4 }] } := by
  funext l
  unfold State.spanAfter Layer.completed State.inTime
  rw [if_pos fits]
  simp only [Bool.or_eq_true, Bool.not_eq_true']
  rfl

theorem State.spanAfter_other {s : State} {n : Nat} {b : List Byte} (other : s.completes n b = false) :
    s.spanAfter n b = Layer.closed := funext fun _ => if_neg (ne_true_of_eq_false other)

/-- Settles O15: a WRITE by what it puts in the store and its layer, a SURFACE_COMPLETE by the run it closes. -/
theorem writesReachTheStore : Obligations.WritesReachTheStore := by
  refine ⟨fun s h n b corrected wf accepts on powered => ?write, fun s dt h n b => ?complete⟩
  case write =>
    obtain ⟨l, credits, lcbs, flips, svc, change, cvu, e, ⟨-, seq, -⟩, run⟩ := exec_write_taken accepts on powered corrected
    refine ⟨_, run, fun a => s.store.byte_setBytes _ a _ wf.1, rfl, fun l listed => ?_, seq, rfl⟩
    have was : s.layer n = l := (List.getD_eq_getElem?_getD ..).trans (by rw [listed]; rfl)
    have now := layer_modify listed (Layer.written (s.runAfter n (fieldAt b 0 4) (b.drop 8)) (fieldAt b 0 4)
      (fieldAt b 0 4 + (b.drop 8).length))
    have run' : s.runAfter n (fieldAt b 0 4) (b.drop 8) = nextRun (l.run.map Run.checked) (fieldAt b 0 4) (b.drop 8) false := by
      rw [State.runAfter, was]
    exact ⟨(congrArg Layer.run now).trans (congrArg some run'), (congrArg Layer.chk now).trans (congrArg Layer.run now).symm, 
      (congrArg Layer.active now :), (congrArg Layer.spans now :)⟩
  case complete =>
    intro u accepts on start size inside enabled
    have run : exec (.surfaceComplete dt h n b) s = .next (u.receive (.surfaceComplete dt h n b) (completeRx h n b) fun t =>
      t.takeComplete h n b (t.capture 0)) := rfl
    obtain ⟨clk, lampErr, sync, e, elapsed⟩ : ∃ clk lampErr sync e, u = { s with
      clk, grid := { s.grid with lampErr }, sync, ev := e } := s.elapse_frame dt
    clear_value u
    have fits : u.completes n b =
        runMatches ((s.layer n).run.map Run.checked) (fieldAt b 0 4) (fieldAt b 4 4) (fieldAt b 8 4) := by rw [elapsed]; rfl
    have layers : u.layers = s.layers := by rw [elapsed]
    have started : u.grid.started = s.grid.started := by rw [elapsed]
    have kept : u.store = s.store ∧ u.comp = s.comp ∧ u.latches = s.latches ∧ u.tiles = s.tiles := by
      rw [elapsed]
      exact ⟨rfl, rfl, rfl, rfl⟩
    obtain ⟨t, received, after, replied, frame⟩ := State.receive_complete (s := u) (by rwa [elapsed]) start size
      (by rwa [elapsed]) (by rwa [elapsed]) accepts (.surfaceComplete dt h n b)
    obtain ⟨store, comp, latches, tiles⟩ : t.store = s.store ∧ t.comp = s.comp ∧ t.latches = s.latches ∧ t.tiles = s.tiles := by
      rw [frame]
      exact kept
    rw [layers] at after
    refine ⟨fun good => ⟨t, run.trans (congrArg _ received), ?_, ?_, store, comp, latches, tiles⟩,
      fun bad => ⟨t, run.trans (congrArg _ received), ?_, ?_, store, comp⟩⟩
    · rw [after, State.spanAfter_fits (fits.trans good), started]
    · rwa [if_pos (fits.trans good)] at replied
    · rw [after, State.spanAfter_other (fits.trans bad)]
      rfl
    · rwa [if_neg (ne_true_of_eq_false (fits.trans bad))] at replied

end Sys2Proof.Machine
end

section
/-!
PROOFS. DESCRIPTOR, COMMIT and POUR (04 R131, 05 R158, 07 R193, R207, R208, 08 R227, R228, R230, 09 R262; O16).
-/
namespace Sys2Proof.Machine

/-! ### DESCRIPTOR (R193) -/

/-- An accepted DESCRIPTOR in range for an enabled layer. -/
theorem exec_descriptor_taken {s : State} {h : Hdr} {b : List Byte} (accepts : s.accepts (descriptorRx h b)) (on : s.power.pd3 = true)
    (layer : fieldAt b 0 1 % 16 < 12) (ok : descOk (fieldAt b 0 1 % 16 < 4) (parseDesc (b.drop 16)) = true)
    (enabled : (s.env (fieldAt b 0 1 % 16)).enabled = true) :
    ∃ t, exec (.descriptor h b) s = .next t ∧
      t.layers = s.layers.modify (fieldAt b 0 1 % 16) (fun l => { l with shadow := parseDesc (b.drop 16) }) ∧
      t.link.expSeq = s.link.expSeq + 1 ∧ s.replied t h 0 0x20 0 [] ∧ t = { s with layers := t.layers, link := t.link } := by
  let e (u : State) : State := u.modLayer (fieldAt b 0 1 % 16) fun l => { l with shadow := parseDesc (b.drop 16) }
  have run (l : Link) : ({ s with link := l } : State).takeDescriptor h b = (e { s with link := l }).reply h 0x20 0 0 [] := by
    have enabled' : (State.env { s with link := l } (fieldAt b 0 1 % 16)).enabled = true := enabled
    exact (if_neg (by simpa [ok] using layer)).trans ((if_neg (by simp [enabled'])).trans (if_neg (by simp [on])))
  obtain ⟨l, t, received, replied, seq, after⟩ := State.receive_answers (i := .descriptor h b) (e := e)
    (f := fun t => t.takeDescriptor h b) accepts (fun l _ _ => run l) fun _ => ⟨rfl, rfl⟩
  refine ⟨t, congrArg Host.Outcome.next received, (congrArg State.layers after :), seq, replied, ?_⟩
  rw [after]
  rfl

/-! ### COMMIT (R207, R208) -/

/-- The commit that a COMMIT with arrival `a` makes: a copy of each named shadow, bound by its arrival (R208, R227). -/
def State.commitOf (s : State) (b : List Byte) (a : Stamp) : Commit :=
  { seq := BitVec.ofNat 16 (fieldAt b 0 2), mask := BitVec.ofNat 12 (fieldAt b 2 2 % 4096)
    copies := (layersOf (fieldAt b 2 2 % 4096)).map fun n => (n, (s.layer n).shadow)
    await := bitOf (fieldAt b 4 1) 0, pourId := BitVec.ofNat 8 (fieldAt b 5 1)
    due := if bitOf (fieldAt b 4 1) 0 then 0 else s.boundFor a, at1 := s.now1 }

/-- A commit joins the pending ones, with what its acceptance lights and what tells of a late arrival (R227, R262). -/
def State.joinCommit (s : State) (b : List Byte) (a : Stamp) : State :=
  State.cond { s with comp := { s.comp with pending := s.comp.pending ++ [s.commitOf b a] } }.litOnAccept
    (!bitOf (fieldAt b 4 1) 0 && s.inGuard a) fun v => (v.setFlag fCommitLate).raise 0x0501 [(2, fieldAt b 0 2)]

theorem State.joinCommit_frame (s : State) (b : List Byte) (a : Stamp) :
    ∃ quads latches e, s.joinCommit b a = { s with
      comp := { s.comp with pending := s.comp.pending ++ [s.commitOf b a] }, quads, latches, ev := e } :=
  (State.onlyLit_litOnAccept _).trans (.cond _ _ fun _ => ⟨_, _, _, rfl⟩)

/-- The checks of Table 7.7 read the link's revision alone of the link. -/
theorem State.commitStatus_link (s : State) {l : Link} (rev : l.rev = s.link.rev) (mask : Nat) (await : Bool) :
    ({ s with link := l } : State).commitStatus mask await = s.commitStatus mask await := by
  unfold State.commitStatus State.revAtLeast
  rw [← rev]
  rfl

theorem State.takeCommit_joins {s : State} {b : List Byte}
    (ok : s.commitStatus (fieldAt b 2 2 % 4096) (bitOf (fieldAt b 4 1) 0) = 0) (h : Hdr) (a : Stamp) :
    s.takeCommit h b a = (s.joinCommit b a).reply h 0x21 0 0 [] := by
  refine (if_neg (not_not.mpr ok)).trans ?_
  unfold State.joinCommit
  cases !bitOf (fieldAt b 4 1) 0 && s.inGuard a
  · rfl
  · exact State.reply_comm (g := fun v => (v.setFlag fCommitLate).raise 0x0501 [(2, fieldAt b 0 2)]) (fun _ => rfl) (fun _ _ => rfl) ..

/-- An accepted COMMIT that passes the checks of Table 7.7. -/
theorem State.receive_commit_joins {s : State} {h : Hdr} {b : List Byte} (accepts : s.accepts (commitRx h b)) (i : Instr)
    (ok : s.commitStatus (fieldAt b 2 2 % 4096) (bitOf (fieldAt b 4 1) 0) = 0) :
    ∃ t quads latches e, (s.receive i (commitRx h b) fun t => t.takeCommit h b (t.capture 0)) = t ∧ s.replied t h 0 0x21 0 [] ∧
      t = { s with
        comp := { s.comp with pending := s.comp.pending ++ [s.commitOf b (s.capture 0)] }, link := t.link, quads, latches, ev := e } := by
  have run (l : Link) (rev : l.rev = s.link.rev) : ({ s with link := l } : State).takeCommit h b (s.capture 0) =
      (State.joinCommit { s with link := l } b (s.capture 0)).reply h 0x21 0 0 [] :=
    State.takeCommit_joins ((s.commitStatus_link rev ..).trans ok) h _
  obtain ⟨l, t, received, replied, -, after⟩ := State.receive_answers (i := i) (e := fun u => u.joinCommit b (s.capture 0))
    (f := fun t => t.takeCommit h b (t.capture 0)) accepts (fun l _ accepted => run l accepted.2.2) fun u => by
      obtain ⟨quads, latches, e, joined⟩ := u.joinCommit_frame b (s.capture 0)
      rw [joined]
      exact ⟨rfl, rfl⟩
  obtain ⟨quads, latches, e, joined⟩ := State.joinCommit_frame { s with link := l } b (s.capture 0)
  rw [joined] at after
  exact ⟨t, quads, latches, e, received, replied, after⟩

/-- An accepted COMMIT that fails a check is only answered. -/
theorem State.receive_commit_refused {s : State} {h : Hdr} {b : List Byte} (accepts : s.accepts (commitRx h b)) (i : Instr)
    (bad : s.commitStatus (fieldAt b 2 2 % 4096) (bitOf (fieldAt b 4 1) 0) ≠ 0) :
    ∃ t, (s.receive i (commitRx h b) fun t => t.takeCommit h b (t.capture 0)) = t ∧
      s.replied t h (s.commitStatus (fieldAt b 2 2 % 4096) (bitOf (fieldAt b 4 1) 0)) 0x21 0 [] ∧ t = { s with link := t.link } := by
  have run (l : Link) (rev : l.rev = s.link.rev) : ({ s with link := l } : State).takeCommit h b (s.capture 0) =
      ({ s with link := l } : State).reply h 0x21 0 (s.commitStatus (fieldAt b 2 2 % 4096) (bitOf (fieldAt b 4 1) 0)) [] := by
    rw [← s.commitStatus_link rev] at bad ⊢
    exact if_pos bad
  exact State.receive_onlyAnswers accepts fun l _ accepted => run l accepted.2.2

/-! ### POUR (R158, R228, R230) -/

/-- A commit that a POUR of `pid` releases. -/
def Commit.poured (pid : BitVec 8) (c : Commit) : Bool := c.await && c.group = 0 && c.pourId = pid

theorem Commit.poured_iff (pid : BitVec 8) (c : Commit) : c.poured pid = true ↔ c.await = true ∧ c.group = 0 ∧ c.pourId = pid := by
  simp [Commit.poured, and_assoc]

section
variable {s : State} {h : Hdr} {b : List Byte} (all : h.addr = 0xF) (ready : s.start.state = .ready) (rev : 0x21 ≤ s.link.rev)
include all ready rev

/-- A broadcast POUR that no commit waits for. -/
theorem State.takePour_none (none : ∀ c ∈ s.comp.pending, c.poured (BitVec.ofNat 8 (fieldAt b 0 1)) = false) (now : Nat) :
    s.takePour h b now = s.raise 0x0504 [(1, (BitVec.ofNat 8 (fieldAt b 0 1)).toNat)] := by
  have any : (s.comp.pending.any fun c => c.poured (BitVec.ofNat 8 (fieldAt b 0 1))) = false :=
    List.any_eq_false.mpr fun c mem => ne_true_of_eq_false (none c mem)
  refine (if_neg (by simp [State.isReady, ready])).trans ((if_neg (by simp [State.revAtLeast, rev])).trans
    ((if_neg (by simp [isBcast, all])).trans (if_pos ?_)))
  exact (congrArg not any :)

/-- A broadcast POUR of the epoch in force releases the commits that wait for it, together. -/
theorem State.takePour_releases (some : ∃ c ∈ s.comp.pending, c.poured (BitVec.ofNat 8 (fieldAt b 0 1)) = true)
    (epoch : fieldAt b 1 1 = s.clk.epoch.toNat) (now : Nat) :
    let bound := s.bindTime (extend32 (fieldAt b 4 4) now)
    s.takePour h b now = { bound.1 with comp := { s.comp with
      pours := s.comp.pours + 1
      pending := s.comp.pending.map
        (releaseFor (BitVec.ofNat 8 (fieldAt b 0 1)) (s.comp.pours + 1) bound.2 (extend32 (fieldAt b 4 4) now)) } } := by
  have any : (s.comp.pending.any fun c => c.poured (BitVec.ofNat 8 (fieldAt b 0 1))) = true := List.any_eq_true.mpr some
  have comp (w : Int) : (s.bindTime w).1.comp = s.comp := by
    unfold State.bindTime
    split <;> rfl
  refine (if_neg (by simp [State.isReady, ready])).trans ((if_neg (by simp [State.revAtLeast, rev])).trans
    ((if_neg (by simp [isBcast, all])).trans ((if_neg (ne_true_of_eq_false (congrArg not any :))).trans ?_)))
  dsimp only
  rw [epoch, show decide (s.clk.epoch.toNat ≠ s.clk.epoch.toNat) = false by simp, State.cond_false, comp]

end

/-- A scheduled full time that is late is bound to the next latch point and told of (R158). -/
theorem State.bindTime_late {s : State} {w : Int} (late : w < s.now0 ∨ s.cutoffOf (s.latchFor w) ≤ s.now0) :
    s.bindTime w = (s.schedLate w, s.nextLatch) := if_pos (by simpa using late)

/-- A scheduled full time in time is bound to the first latch point at or after it (R228). -/
theorem State.bindTime_inTime {s : State} {w : Int} (inTime : ¬ (w < s.now0 ∨ s.cutoffOf (s.latchFor w) ≤ s.now0)) :
    s.bindTime w = (s, s.latchFor w) := if_neg (by simpa using inTime)

theorem releaseFor_eq (pid : BitVec 8) (group due : Nat) (held : Int) :
    releaseFor pid group due held = fun c =>
      if c.await = true ∧ c.group = 0 ∧ c.pourId = pid then { c with await := false, group, due, held } else c := by
  funext c
  simp [releaseFor, and_assoc]

/-- Settles O16: DESCRIPTOR and COMMIT by what they are answered, POUR by whether a commit waits for it. -/
theorem descriptorsCommitsAndPours : Obligations.DescriptorsCommitsAndPours := by
  refine ⟨fun s h b accepts on layer ok enabled => exec_descriptor_taken accepts on layer ok enabled,
    fun s dt h b accepts => ?commit, fun s dt h b accepts all ready rev => ?pour, fun s seq some => ?expired⟩
  case commit =>
    have run : exec (.commit dt h b) s = .next ((s.elapse dt).receive (.commit dt h b) (commitRx h b) fun t =>
      t.takeCommit h b (t.capture 0)) := rfl
    obtain ⟨clk, lampErr, sync, e, elapsed⟩ := s.elapse_frame dt
    rw [elapsed] at accepts run ⊢
    refine ⟨fun ok => ?_, fun bad => ?_⟩
    · obtain ⟨t, quads, latches, e', received, replied, frame⟩ := State.receive_commit_joins accepts (.commit dt h b) ok
      refine ⟨t, run.trans (congrArg _ received), ?_, replied, ?_⟩ <;> rw [frame]
      · rfl
      · exact ⟨rfl, rfl, rfl, rfl, rfl⟩
    · obtain ⟨t, received, replied, frame⟩ := State.receive_commit_refused accepts (.commit dt h b) bad
      refine ⟨t, run.trans (congrArg _ received), ?_, ?_, ?_, replied⟩ <;> rw [frame]
  case pour =>
    have run : exec (.pour dt h b) s = .next ((s.elapse dt).receive (.pour dt h b) (pourRx h b) fun t =>
      t.takePour h b t.now0) := rfl
    obtain ⟨clk, lampErr, sync, e, elapsed⟩ := s.elapse_frame dt
    rw [elapsed] at accepts run ⊢
    obtain ⟨l, credits, lcbs, -, ⟨-, -, rev'⟩, received⟩ := State.receive_runs accepts (.pour dt h b) fun t => t.takePour h b t.now0
    intro u pid w late
    refine ⟨fun some epoch => ?_, fun none => ?_⟩
    · have taken := State.takePour_releases (s := { u with link := l }) all ready (rev'.symm ▸ rev)
        (some.imp fun c hit => ⟨hit.1, (c.poured_iff pid).mpr hit.2⟩) epoch u.now0
      refine ⟨_, run.trans (congrArg _ (received.trans (congrArg (State.withCredits · credits lcbs) taken))), ?_⟩
      by_cases isLate : late
      · rw [State.bindTime_late (s := { u with link := l }) isLate, releaseFor_eq]
        simp only [if_pos isLate]
        exact ⟨rfl, rfl, rfl, rfl⟩
      · rw [State.bindTime_inTime (s := { u with link := l }) isLate, releaseFor_eq]
        simp only [if_neg isLate]
        exact ⟨rfl, rfl, rfl, rfl⟩
    · have taken := State.takePour_none (s := { u with link := l }) (h := h) (b := b) all ready (rev'.symm ▸ rev)
        (fun c mem => Bool.eq_false_iff.mpr fun hit => none c mem ((c.poured_iff pid).mp hit)) u.now0
      exact ⟨_, run.trans (congrArg _ (received.trans (congrArg (State.withCredits · credits lcbs) taken))), rfl, rfl⟩
  case expired =>
    exact if_pos (List.any_eq_true.mpr (by simpa using some))

end Sys2Proof.Machine
end

section
/-!
PROOFS. Requests that are answered at once, and requests bound to their latch point (04 R124, R138, R437, 07 R206, 08 R227, R233,
09 R258, 15 R398, R399, R402; O23).
-/
namespace Sys2Proof.Machine

section
variable {s : State} {h : Hdr} {args : List Byte}

/-! ### STATUS_READ (R398, R399, R402) -/

theorem State.reply_clearFlags (s : State) (h : Hdr) (type opcode status : Nat) (data : List Byte) (c : Bool) :
    (s.reply h type opcode status data).cond c State.clearFlags = (s.cond c State.clearFlags).reply h type opcode status data := by
  cases c
  · rfl
  · exact State.reply_comm (g := State.clearFlags) (fun _ => rfl) (fun _ _ => rfl) ..

/-- The flags that a STATUS_READ of `count` words from word `w` on clears: those of ST 0x0010, with CLEAR. -/
def clears (w count : Nat) : Bool := bitOf w 15 && w % 4096 ≤ 0x10 && 0x10 < w % 4096 + count

section
variable (fixed : argsFixed args 4 = true) (some : 0 < fieldAt (argsOf args) 2 2) (few : fieldAt (argsOf args) 2 2 ≤ 1022)
  (inside : fieldAt (argsOf args) 0 2 % 4096 + fieldAt (argsOf args) 2 2 ≤ 0x1000)
include fixed some few inside

/-- A STATUS_READ in range answers what its words read, or that one of them has no power. -/
theorem State.takeStatusRead_answer :
    s.takeStatusRead h args = match s.statusData (fieldAt (argsOf args) 0 2 % 4096) (fieldAt (argsOf args) 2 2) with
      | none => s.reply h 0x10 1 7 []
      | .some d => (s.cond (clears (fieldAt (argsOf args) 0 2) (fieldAt (argsOf args) 2 2)) State.clearFlags).reply h 0x10 1 0 d := by
  refine (if_neg (by simp [fixed]; omega)).trans ?_
  cases s.statusData (fieldAt (argsOf args) 0 2 % 4096) (fieldAt (argsOf args) 2 2) with
  | none => rfl
  | some d => exact State.reply_clearFlags ..

theorem exec_statusRead_data {d : List Byte} (accepts : s.accepts (requestRx h 1 args))
    (data : (s.admitted (requestRx h 1 args)).statusData (fieldAt (argsOf args) 0 2 % 4096) (fieldAt (argsOf args) 2 2) = .some d) :
    ∃ t, exec (.statusRead h args) s = .next t ∧ s.replied t h 0 0x10 1 d ∧
      t.ev = (s.cond (clears (fieldAt (argsOf args) 0 2) (fieldAt (argsOf args) 2 2)) State.clearFlags).ev ∧
      t = { s with link := t.link, ev := t.ev } := by
  let c := clears (fieldAt (argsOf args) 0 2) (fieldAt (argsOf args) 2 2)
  have frame (u : State) : u.cond c State.clearFlags = { u with ev := (u.cond c State.clearFlags).ev } := by cases c <;> rfl
  have ev (l : Link) : (({ s with link := l } : State).cond c State.clearFlags).ev = (s.cond c State.clearFlags).ev := by
    cases c <;> rfl
  obtain ⟨l, t, received, replied, -, after⟩ := State.receive_answers (i := .statusRead h args)
    (e := fun u => u.cond c State.clearFlags) (f := fun t => t.takeStatusRead h args) accepts
    (fun l admitted _ => by rw [State.takeStatusRead_answer fixed some few inside, ← admitted, data])
    fun u => by rw [frame]; exact ⟨rfl, rfl⟩
  rw [frame, ev] at after
  refine ⟨t, congrArg Host.Outcome.next received, replied, ?_, ?_⟩ <;> rw [after]

theorem exec_statusRead_off (accepts : s.accepts (requestRx h 1 args))
    (off : (s.admitted (requestRx h 1 args)).statusData (fieldAt (argsOf args) 0 2 % 4096) (fieldAt (argsOf args) 2 2) = none) :
    ∃ t, exec (.statusRead h args) s = .next t ∧ s.replied t h 7 0x10 1 [] ∧ t = { s with link := t.link } := by
  obtain ⟨t, received, rest⟩ := State.receive_onlyAnswers (i := .statusRead h args) (f := fun t => t.takeStatusRead h args) accepts
    fun l admitted _ => by rw [State.takeStatusRead_answer fixed some few inside, ← admitted, off]
  exact ⟨t, congrArg Host.Outcome.next received, rest⟩

end

/-! ### ECHO, an unknown opcode, ADDR_SET (R138, R437) -/

theorem exec_echo_answer (accepts : s.accepts (requestRx h 7 args)) (lenOk : argLenOk args = true)
    (short : (argsOf args).length ≤ 4088) :
    ∃ t, exec (.echo h args) s = .next t ∧ s.replied t h 0 0x10 7 (argsOf args) ∧ t = { s with link := t.link } := by
  obtain ⟨t, received, rest⟩ := State.receive_onlyAnswers (i := .echo h args) (f := fun t => t.takeEcho h args) accepts
    fun l _ _ => if_neg (by simp [lenOk, short])
  exact ⟨t, congrArg Host.Outcome.next received, rest⟩

theorem exec_unknownOpcode_request {op : BitVec 16} (accepts : s.accepts (requestRx h op.toNat args)) :
    ∃ t, exec (.unknownOpcode (.request h) op args) s = .next t ∧ s.replied t h 3 0x10 op.toNat [] ∧ t = { s with link := t.link } := by
  obtain ⟨t, received, rest⟩ := State.receive_onlyAnswers (i := .unknownOpcode (.request h) op args)
    (f := fun t => t.takeUnknown h op.toNat) accepts fun _ _ _ => rfl
  exact ⟨t, congrArg Host.Outcome.next received, rest⟩

theorem exec_unknownOpcode_service {q : SvcSrc} {op : BitVec 16} (serves : s.serves q op.toNat args) :
    ∃ t, exec (.unknownOpcode (.service q) op args) s = .next t ∧ s.svcReplied t q 3 op.toNat [] ∧
      t = { s with svc := { s.svc with uartTx := t.svc.uartTx }, link := t.link } := by
  obtain ⟨l, t, served, replied, frame⟩ := State.service_answered (i := .unknownOpcode (.service q) op args) (e := id)
    (f := fun t => t.answerSvc q op.toNat 3 []) (who := 2) serves (fun _ => rfl) fun _ => ⟨rfl, rfl, rfl⟩
  exact ⟨t, congrArg Host.Outcome.next served, replied, frame⟩

/-- An ADDR_SET that names this module's serial number, at revision 3.0, sets the address and is answered even as a broadcast. -/
theorem exec_addrSet_hit (accepts : s.accepts (requestRx h 5 args)) (fixed : argsFixed args 12 = true) (rev : 0x30 ≤ s.link.rev)
    (serial : fieldAt (argsOf args) 0 8 = s.fuse.serial.toNat) (mode : s.img.link.addrMode = 2) :
    ∃ t, exec (.addrSet h args) s = .next t ∧ t.link.addr = BitVec.ofNat 3 (fieldAt (argsOf args) 8 1) ∧ t.link.addrKnown = true ∧
      t.link.tqs = (s.enqueue 0 (s.upPkt 0 0x11 h.tag (replyBytes 0 0x10 5 []))).link.tqs ∧
      t.link.blocked = (s.enqueue 0 (s.upPkt 0 0x11 h.tag (replyBytes 0 0x10 5 []))).link.blocked ∧
      t = { s with link := t.link } := by
  obtain ⟨l, credits, lcbs, -, ⟨arrives, -, rev'⟩, received⟩ := State.receive_runs accepts (.addrSet h args) fun t => t.takeAddrSet h args
  let u : State := { s with link := l }
  let v : State := u.enqueue 0 (u.upPkt 0 0x11 h.tag (replyBytes 0 0x10 5 []))
  have reply : u.addrReply h = v := if_pos (State.accepts_ready accepts)
  have taken : u.takeAddrSet h args = { v with link := { v.link with
      addr := BitVec.ofNat 3 (fieldAt (argsOf args) 8 1), addrKnown := true } } := by
    rw [← reply]
    exact (if_neg (by simp [fixed])).trans ((if_neg (by simp [State.revAtLeast, u, rev', rev])).trans
      ((if_neg (by simp [u, serial])).trans (if_neg (by simp [u, serial, mode]))))
  obtain ⟨tqs, blocked⟩ := State.enqueue_arrives (s := s) (u := u) arrives 0x11 h.tag (replyBytes 0 0x10 5 [])
  have frame : v = { u with link := v.link } := u.enqueue_frame ..
  rw [taken] at received
  refine ⟨_, congrArg Host.Outcome.next received, rfl, rfl, tqs, blocked, ?_⟩
  rw [frame]
  rfl

/-! ### Requests bound to a latch point (R206, R227, R233, R258) -/

/-- An accepted request is bound by its arrival and answered OK. -/
theorem State.receive_bindsMode {p : Rx} {opcode : Nat} {f : State → State} {k : BoundKind} (accepts : s.accepts p) (i : Instr)
    (run : ∀ l, f { s with link := l } = (State.bindKind { s with link := l } k (s.capture 0)).reply h 0x10 opcode 0 []) :
    ∃ t, s.receive i p f = t ∧
      t.comp = { s.comp with bound := s.comp.bound ++ [{ due := s.boundFor (s.capture 0), kind := k }] } ∧
      s.replied t h 0 0x10 opcode [] ∧ t = { s with comp := t.comp, link := t.link } := by
  obtain ⟨l, t, received, replied, -, after⟩ := State.receive_answers (i := i) (e := fun u => u.bindKind k (s.capture 0)) accepts
    (fun l _ _ => run l) fun _ => ⟨rfl, rfl⟩
  exact ⟨t, received, (congrArg State.comp after :), replied, by rw [after]; rfl⟩

/-- An accepted request that may light a quadrant is bound by its arrival and answered OK. -/
theorem State.receive_bindsLight {p : Rx} {opcode : Nat} {f : State → State} {k : BoundKind} (accepts : s.accepts p) (i : Instr)
    (run : ∀ l, f { s with link := l } =
      (State.bindKind { s with link := l } k (s.capture 0)).litOnAccept.reply h 0x10 opcode 0 []) :
    ∃ t, s.receive i p f = t ∧
      t.comp = { s.comp with bound := s.comp.bound ++ [{ due := s.boundFor (s.capture 0), kind := k }] } ∧
      s.replied t h 0 0x10 opcode [] ∧
      t = { s with comp := t.comp, link := t.link, quads := t.quads, latches := t.latches, ev := t.ev } := by
  obtain ⟨l, t, received, replied, -, after⟩ := State.receive_answers (i := i)
    (e := fun u => (u.bindKind k (s.capture 0)).litOnAccept) accepts (fun l _ _ => run l) fun u => by
      obtain ⟨quads, latches, e, lit⟩ := (u.bindKind k (s.capture 0)).onlyLit_litOnAccept
      rw [lit]
      exact ⟨rfl, rfl⟩
  obtain ⟨quads, latches, e, lit⟩ := (State.bindKind { s with link := l } k (s.capture 0)).onlyLit_litOnAccept
  rw [lit] at after
  exact ⟨t, received, (congrArg State.comp after :), replied, by rw [after]; rfl⟩

end

/-- Settles O23: each request by the checks it passes and what its answer comes with. -/
theorem requestsAreAnsweredAndBound : Obligations.RequestsAreAnsweredAndBound := by
  refine ⟨fun s h args accepts fixed => ?status,
    fun s h args accepts lenOk short => exec_echo_answer accepts lenOk short,
    fun s h op args accepts => exec_unknownOpcode_request accepts, fun s q op args serves => exec_unknownOpcode_service serves,
    fun s h args accepts fixed rev serial mode => exec_addrSet_hit accepts fixed rev serial mode,
    fun s dt h args accepts fixed => ?mode, fun s dt h args accepts fixed => ?profile, fun s dt h args accepts fixed => ?master⟩
  case status =>
    intro w count some few inside
    refine ⟨fun d data => ?_, fun off => exec_statusRead_off fixed some few inside accepts off⟩
    obtain ⟨t, run, replied, ev, frame⟩ := exec_statusRead_data fixed some few inside accepts data
    refine ⟨t, run, replied, ev.trans ?_, frame⟩
    rw [State.cond_read State.ev]
    simp only [clears, Bool.and_eq_true, decide_eq_true_eq, and_assoc]
    rfl
  case mode =>
    have run : exec (.modeSelect dt h args) s = .next ((s.elapse dt).receive (.modeSelect dt h args) (requestRx h 2 args) fun t =>
      t.takeModeSelect h args (t.capture 0)) := rfl
    obtain ⟨clk, lampErr, sync, e, elapsed⟩ := s.elapse_frame dt
    rw [elapsed] at accepts run ⊢
    intro u m
    refine ⟨fun ready listed => ?_, fun notReady => ?_, fun ready unlisted => ?_⟩
    · obtain ⟨t, received, rest⟩ := State.receive_bindsMode (f := fun t => t.takeModeSelect h args (t.capture 0)) (k := .mode m) accepts
        (.modeSelect dt h args) fun l => (if_neg (by simp [fixed])).trans ((if_neg (by simp [State.isReady, ready])).trans
          (if_neg (by simpa using listed)))
      exact ⟨t, run.trans (congrArg _ received), rest⟩
    · obtain ⟨t, received, rest⟩ := State.receive_onlyAnswers (i := .modeSelect dt h args)
        (f := fun t => t.takeModeSelect h args (t.capture 0)) accepts fun l _ _ =>
          (if_neg (by simp [fixed])).trans (if_pos (by simp [State.isReady, notReady]))
      exact ⟨t, run.trans (congrArg _ received), rest⟩
    · obtain ⟨t, received, rest⟩ := State.receive_onlyAnswers (i := .modeSelect dt h args)
        (f := fun t => t.takeModeSelect h args (t.capture 0)) accepts fun l _ _ =>
          (if_neg (by simp [fixed])).trans ((if_neg (by simp [State.isReady, ready])).trans (if_pos unlisted))
      exact ⟨t, run.trans (congrArg _ received), rest⟩
  case profile =>
    have run : exec (.profileSelect dt h args) s = .next ((s.elapse dt).receive (.profileSelect dt h args) (requestRx h 3 args)
      fun t => t.takeProfileSelect h args (t.capture 0)) := rfl
    obtain ⟨clk, lampErr, sync, e, elapsed⟩ := s.elapse_frame dt
    rw [elapsed] at accepts run ⊢
    intro u p ms ready short listed powered
    have valid : ms ≤ 4000 ∧ (p ≠ 255 → p < s.img.profileCount) := ⟨short, listed.resolve_left⟩
    obtain ⟨t, received, rest⟩ := State.receive_bindsLight (f := fun t => t.takeProfileSelect h args (t.capture 0))
      (k := .profile p ms (bitOf (fieldAt (argsOf args) 1 1) 0)) accepts (.profileSelect dt h args) fun l =>
        (if_neg (by simp [fixed])).trans ((if_neg (by simp [State.isReady, ready])).trans ((if_neg (by simpa using valid)).trans
          (if_neg (ne_true_of_eq_false powered))))
    exact ⟨t, run.trans (congrArg _ received), rest⟩
  case master =>
    have run : exec (.masterDimmer dt h args) s = .next ((s.elapse dt).receive (.masterDimmer dt h args) (requestRx h 4 args)
      fun t => t.takeMasterDimmer h args (t.capture 0)) := rfl
    obtain ⟨clk, lampErr, sync, e, elapsed⟩ := s.elapse_frame dt
    rw [elapsed] at accepts run ⊢
    intro u v ms ready short inRange
    obtain ⟨t, received, rest⟩ := State.receive_bindsLight (f := fun t => t.takeMasterDimmer h args (t.capture 0))
      (k := .master (2 * v) ms (bitOf (fieldAt (argsOf args) 4 1) 0)) accepts (.masterDimmer dt h args) fun l =>
        (if_neg (by simp [fixed])).trans ((if_neg (by simp [State.isReady, ready])).trans (if_neg (by simp; omega)))
    exact ⟨t, run.trans (congrArg _ received), rest⟩

end Sys2Proof.Machine
end

section
/-!
PROOFS. The capability exchange and the link-up it ends in (04 R135, R137 to R139, Table 4.5; O12).
-/
namespace Sys2Proof.Machine

/-! ### The report at a link-up (R360) -/

/-- What the report at a link-up moves: the store as it is healed, the queues, the report's number and events. -/
def State.OnlyReports (s t : State) : Prop := ∃ store banks affin svc e tqs blocked,
  t = { s with store, banks, affin, svc, ev := e, link := { s.link with tqs, blocked } }

theorem State.OnlyReports.refl (s : State) : s.OnlyReports s := ⟨_, _, _, _, _, _, _, rfl⟩

theorem State.OnlyReports.trans {s t u : State} : s.OnlyReports t → t.OnlyReports u → s.OnlyReports u := by
  rintro ⟨_, _, _, _, _, _, _, rfl⟩ ⟨_, _, _, _, _, _, _, rfl⟩
  exact ⟨_, _, _, _, _, _, _, rfl⟩

theorem State.OnlyReports.forEach (s : State) (xs : List Nat) {f : State → Nat → State} (h : ∀ (u : State) x, u.OnlyReports (f u x)) :
    s.OnlyReports (s.forEach xs f) := State.forEach_keeps .refl (fun _ _ _ => .trans) f h xs s

theorem State.onlyReports_loadBytes (s : State) (a : Nat) (bs : List Byte) : s.OnlyReports (s.loadBytes a bs) :=
  ⟨_, s.banks, s.affin, _, s.ev, s.link.tqs, s.link.blocked, s.loadBytes_cells a bs⟩

theorem State.onlyReports_eccGranule (s : State) (g : Nat) : s.OnlyReports (s.eccGranule g) := by
  unfold State.eccGranule
  split
  · obtain ⟨e, rated⟩ := State.raiseRatedN_ev (s.modBank (bankOf (8 * g)) fun k =>
      let q := if k.rewrite.contains (rowOf (8 * g)) || 8 ≤ k.rewrite.length then k.rewrite else k.rewrite ++ [rowOf (8 * g)]
      { k with corrected := sat32 (k.corrected + 1), rewrite := q }) 0x0301 0 1 []
    exact ⟨s.store, _, s.affin, s.svc, e, s.link.tqs, s.link.blocked, rated⟩
  · split
    · exact ⟨_, s.banks, s.affin, s.svc, _, s.link.tqs, s.link.blocked, rfl⟩
    · exact .refl s

theorem State.onlyReports_eccRead (s : State) (a n : Nat) : s.OnlyReports (s.eccRead a n) := by
  unfold State.eccRead
  split
  · exact .refl s
  · exact .forEach _ _ State.onlyReports_eccGranule

theorem State.onlyReports_healCounter (s : State) (k : Nat) : s.OnlyReports (s.healCounter k) := by
  unfold State.healCounter
  dsimp only
  split
  · exact (s.onlyReports_loadBytes _ _).trans ⟨_, _, _, _, _, _, _, rfl⟩
  · exact .refl s

theorem State.onlyReports_healAll (s : State) : s.OnlyReports s.healAll := by
  unfold State.healAll
  split
  · exact .refl s
  · exact (s.onlyReports_eccRead _ _).trans (.forEach _ _ State.onlyReports_healCounter)

theorem State.onlyReports_enqueue (s : State) (q : Nat) (p : TxPkt) : s.OnlyReports (s.enqueue q p) :=
  ⟨s.store, s.banks, s.affin, s.svc, s.ev, _, _, s.enqueue_link q p⟩

theorem State.onlyReports_setAffin (s : State) (affin : Affin) : s.OnlyReports { s with affin } := ⟨_, _, _, _, _, _, _, rfl⟩

theorem State.onlyReports_affReport (s : State) (ps : List TilePred) : s.OnlyReports (s.affReport ps) :=
  .trans (.trans (s.onlyReports_enqueue 5 _) (.forEach _ _ fun u _ => u.onlyReports_enqueue 5 _)) (State.onlyReports_setAffin _ _)

theorem State.onlyReports_reportAtLinkUp (s : State) : s.OnlyReports s.reportAtLinkUp := by
  unfold State.reportAtLinkUp
  cases s.mp.ready && s.groupReady 0
  · exact .refl s
  · exact s.onlyReports_healAll.trans (State.onlyReports_affReport ..)

/-! ### Link-up (R76, R77, R113, R125, R129) -/

/-- What a link-up starts anew in the link. -/
def Link.fresh (l : Link) : Link :=
  { l with
    expSeq := 0, unacked := 0, nakFor := none, failRun := 0, txSeq := 0, replay := [], replayCount := 0
    nakCount := 0, replayNext := none, credits := [], txTotal := [], lcbs := [], starved := [], holdRun := false
    waiting := l.waiting.map fun w => { w with credits := 0, bytes := 0, shared := none } }

/-- A link-up of port A, but for what it makes of the start, of port B, and of what it begins anew elsewhere. -/
theorem State.linkUpNow_frame (s : State) :
    ∃ sync leg diag layers start portB e, s.linkUpNow = { s with
      portA := { s.portA with st := .up, backoff := 0, linkUps := sat32 (s.portA.linkUps + 1), txBlock := 5 }
      link := s.link.fresh, sync, leg, diag, layers, start, portB, ev := e } := by
  unfold State.linkUpNow
  dsimp only
  generalize latched : State.latchPersonality _ = u
  obtain ⟨portB, started⟩ := u.startPortB_portB
  rw [started, ← latched]
  unfold State.latchPersonality
  split
  · obtain ⟨pers, e, latch, -⟩ := State.latchByFraming_cases _
    rw [latch]
    exact ⟨_, _, _, _, _, portB, e, rfl⟩
  · exact ⟨_, _, _, _, _, portB, _, rfl⟩

/-! ### CAP_OFFER (R135, R137) -/

/-- The link as a good or a bad offer of `hop` leaves it, `sel` the highest common revision. -/
def State.offered (s : State) (b : List Byte) (sel hop : Nat) (addr : BitVec 3) (known : Bool) : State :=
  { s with link := { s.link with
    offered := sel, addr := addr, addrKnown := known, hop := hop
    txLeft := (List.range 6).foldl (fun m v => Sparse.set 0 m v (fieldAt b (0x20 + 2 * v) 2)) []
    txFree := (List.range 6).foldl (fun m v => setBit m v (fieldAt b (0x20 + 2 * v) 2 = 0xFFFF)) (0 : BitVec 32) } }

/-- The answer to an offer waits to be sent. -/
def State.answerOffer (s : State) (sel : Nat) : State := { s with link := { s.link with capTx := some (s.capAnswer sel) } }

section
variable {s : State} {b : List Byte} (exchange : s.portA.st = .exchange) (native : s.portA.framing = 1) (length : b.length = 0x60)
include exchange native length

section
variable (offer : fieldAt b 4 1 = 0) (host : bitOf (fieldAt b 7 1) 7 = true) (hop : fieldAt b 8 1 ≤ 7)
  (rich : ∀ v < 6, 16 ≤ fieldAt b (0x20 + 2 * v) 2)
include offer host hop rich

/-- An offer with credits and HOP in range is judged by the revisions alone. -/
theorem exec_capOffer_judged :
    exec (.capOffer b) s = .next (
      if s.revSelect (fieldAt b 5 1 % 8) = 0 then
        ((s.offered b 0 s.link.hop s.link.addr s.link.addrKnown).answerOffer 0).raise 0x0107 [(1, 0)]
      else (s.offered b (s.revSelect (fieldAt b 5 1 % 8)) (fieldAt b 8 1)
        (if s.link.addrKnown then s.link.addr else s.addrFrom (fieldAt b 8 1)) true).answerOffer
          (s.revSelect (fieldAt b 5 1 % 8))) := by
  have poor : ((List.range 6).any fun v => decide (fieldAt b (0x20 + 2 * v) 2 < 16)) = false := by
    simpa [List.any_eq_false] using rich
  refine (if_pos (by simp [exchange, native, length, offer])).trans ((if_neg (by simp [host])).trans (congrArg _ ?_))
  dsimp only
  rw [poor, Bool.or_false, show decide (7 < fieldAt b 8 1) = false by simpa using hop, Bool.or_false]
  by_cases common : s.revSelect (fieldAt b 5 1 % 8) = 0
  · simp only [common, decide_true, if_true, Bool.or_true, Bool.not_true, Bool.or_false]
    rfl
  · simp only [common, decide_false, if_false, Bool.or_false, Bool.not_false, Bool.or_true]
    rfl

end

/-! ### CAP_CONFIRM (R135) -/

/-- A CONFIRM that echoes REV_SEL is link-up at that revision, with its report. -/
theorem exec_capConfirm_echo (confirm : fieldAt b 4 1 = 2) (echo : fieldAt b 6 1 % 8 = s.link.offered) (some : s.link.offered ≠ 0) :
    exec (.capConfirm b) s =
      .next ({ s with link := { s.link with rev := revOf s.link.offered } } : State).linkUpNow.reportAtLinkUp :=
  if_pos (by simp [exchange, native, length, confirm, echo, some])

end

/-! ### CAP_ANSWER on port B (R138, R139) -/

/-- Port B as its link-up leaves it. -/
def Port.linkedUp (p : Port) : Port := { p with st := .up, backoff := 0, linkUps := sat32 (p.linkUps + 1), txBlock := 5 }

/-- The packet layer of port B after an answer that took port A's revision: confirmed, its numbering restarted, the credits of both
sides taken. -/
def State.confirmed (s : State) (b : List Byte) : LinkB :=
  { s.linkB with
    rev := s.link.rev, capTx := some (s.portBConfirm (fieldAt b 6 1 % 8)), downAddr := BitVec.ofNat 3 (fieldAt b 9 1)
    downHop := s.link.hop + 1, txSeq := 0, expSeq := 0, wait := [], sent := [], total := [], replayCount := 0, nakCount := 0
    unacked := 0, nakFor := none, failRun := 0, lcbs := [], replayNext := none, credits := []
    granted := (List.range 6).foldl (fun m v => Sparse.set 0 m v s.tq6Credits) []
    left := (List.range 32).foldl (fun m v => Sparse.set 0 m v (fieldAt b (0x20 + 2 * v) 2)) []
    free := (List.range 32).foldl (fun m v => setBit m v (fieldAt b (0x20 + 2 * v) 2 = 0xFFFF)) 0 }

theorem exec_capAnswer_took {s : State} {b : List Byte} (exchange : s.portB.st = .exchange) (length : b.length = 0x60)
    (answer : fieldAt b 4 1 = 1) (device : bitOf (fieldAt b 7 1) 7 = false) (some : fieldAt b 6 1 % 8 ≠ 0)
    (took : revOf (fieldAt b 6 1 % 8) = s.link.rev) :
    ∃ e, exec (.capAnswer b) s = .next { s with portB := s.portB.linkedUp, linkB := s.confirmed b, ev := e } := by
  have judged : execCapAnswer b s = .next (
      let up : State := { s with portB := s.portB.linkedUp, linkB := s.confirmed b }
      let told := up.raise 0x0101 [(1, 1), (1, up.portB.gen), (1, up.portB.width), (1, s.link.rev)]
      if BitVec.ofNat 3 (fieldAt b 9 1) = s.link.addr then told.raise 0x0109 [(1, (BitVec.ofNat 3 (fieldAt b 9 1)).toNat)] else told) := by
    refine (if_pos (by simp [exchange, length])).trans ((if_neg (by simp [device])).trans ((if_neg (by simp [answer])).trans
      ((if_neg (by simp [some, took])).trans ?_)))
    rw [took]
    rfl
  by_cases clash : BitVec.ofNat 3 (fieldAt b 9 1) = s.link.addr
  · exact ⟨_, judged.trans (congrArg _ (if_pos clash))⟩
  · exact ⟨_, judged.trans (congrArg _ (if_neg clash))⟩

/-- Settles O12: an offer by the revisions, a CONFIRM as the link-up it is, an answer on port B as what port B becomes. -/
theorem capabilityExchangeBringsLinksUp : Obligations.CapabilityExchangeBringsLinksUp := by
  refine ⟨fun s b exchange native length offer host hop rich => ⟨fun common => ?_, fun none => ?_⟩,
    fun s b exchange native length confirm echo some => ?_, fun s b exchange length answer device some took => ?_⟩
  · have run := exec_capOffer_judged exchange native length offer host hop rich
    rw [if_neg common] at run
    exact ⟨_, run, rfl, rfl, rfl, rfl, rfl, rfl⟩
  · have run := exec_capOffer_judged exchange native length offer host hop rich
    rw [if_pos none] at run
    exact ⟨_, run, rfl, rfl, rfl, rfl⟩
  · obtain ⟨sync, leg, diag, layers, start, portB, e, up⟩ :=
      State.linkUpNow_frame { s with link := { s.link with rev := revOf s.link.offered } }
    obtain ⟨store, banks, affin, svc, e', tqs, blocked, reported⟩ :=
      State.onlyReports_reportAtLinkUp ({ s with link := { s.link with rev := revOf s.link.offered } } : State).linkUpNow
    refine ⟨_, exec_capConfirm_echo exchange native length confirm echo some, ?_⟩
    rw [reported, up]
    exact ⟨rfl, rfl, rfl, rfl, rfl, rfl, rfl, rfl, rfl, rfl, rfl, rfl⟩
  · obtain ⟨e, run⟩ := exec_capAnswer_took exchange length answer device some took
    exact ⟨_, run, rfl, rfl, rfl, rfl, rfl, rfl⟩

end Sys2Proof.Machine
end

section
/-!
PROOFS. Failures of the link stage and of the content stage, acknowledgement and replay (04 R120, R125 to R128; O13).
-/
namespace Sys2Proof.Machine

/-! ### Failures of the link stage (R126, R128) -/

/-- A NAK stands for the expected SEQ, sent now or less than 20 us ago. -/
theorem State.sendNak_frame (s : State) : ∃ lcbs nakAt unacked naksSent, s.sendNak = { s with
    link := { s.link with lcbs, nakFor := some s.link.expSeq, nakAt, unacked }, portA := { s.portA with naksSent } } := by
  unfold State.sendNak
  split
  next sent =>
    have standing : s.link.nakFor = some s.link.expSeq := of_decide_eq_true (Bool.and_eq_true_iff.mp sent).1
    refine ⟨s.link.lcbs, s.link.nakAt, s.link.unacked, s.portA.naksSent, ?_⟩
    rw [← standing]
  next => exact ⟨_, _, _, _, rfl⟩

theorem exec_packetLinkFail_crc {s : State} (up : s.linkUp = true) (seq : BitVec 12) :
    exec (.packetLinkFail .a .crc seq) s = .next (s.linkFailed .crc seq) :=
  congrArg _ ((if_neg (by simp [up])).trans (if_neg (by decide)))

/-- The first CRC failure of a SEQ. -/
theorem State.linkFailed_first {s : State} (first : s.link.failRun = 0) (seq : BitVec 12) :
    ∃ lcbs nakAt unacked naksSent, s.linkFailed .crc seq = { s with
      link := { s.link with failSeq := seq, failRun := 1, lcbs, nakFor := some s.link.expSeq, nakAt, unacked }
      portA := { s.portA with crcFails := sat32 (s.portA.crcFails + 1), naksSent } } := by
  unfold State.linkFailed
  dsimp only
  rw [show (if s.link.failRun ≠ 0 && s.link.failSeq = seq then s.link.failRun + 1 else 1) = 1 from if_neg (by simp [first]),
    if_neg (by decide)]
  obtain ⟨lcbs, nakAt, unacked, naksSent, sent⟩ := State.sendNak_frame { s with
    link := { s.link with failSeq := seq, failRun := 1, nakFor := if seq = s.link.expSeq then none else s.link.nakFor }
    portA := { s.portA with crcFails := sat32 (s.portA.crcFails + 1) } }
  exact ⟨lcbs, nakAt, unacked, naksSent, sent⟩

/-- The fifth failure in a row of one SEQ is link down. -/
theorem State.linkFailed_fifth {s : State} {seq : BitVec 12} (fourth : s.link.failRun = 4) (same : s.link.failSeq = seq) :
    ∃ u : State, s.linkFailed .crc seq = u.linkDown 4 := by
  unfold State.linkFailed
  dsimp only
  rw [if_pos (by simp [fourth, same])]
  exact ⟨_, rfl⟩

/-! ### Failures of the content stage (R120, 10 R273) -/

theorem State.returnCredits_frame (s : State) (vc len : Nat) :
    ∃ credits lcbs, s.returnCredits vc len = { s with link := { s.link with credits, lcbs } } := by
  unfold State.returnCredits
  dsimp only
  split
  · exact ⟨s.link.credits, s.link.lcbs, rfl⟩
  · rw [State.freeCredits_frame]
    exact ⟨_, _, rfl⟩

/-- The checkpoint of a layer is copied back, with what its CVU context tells. -/
theorem State.restoreFor_frame (s : State) (vc type : Nat) :
    ∃ layers cvu e, s.restoreFor vc type = { s with layers, cvu, ev := e } := by
  unfold State.restoreFor
  cases type = 0x80 && 8 ≤ vc && vc ≤ 19
  · exact ⟨s.layers, s.cvu, s.ev, rfl⟩
  · rw [State.cond_true]
    unfold State.restoreRun
    dsimp only
    cases (s.layer (vc - 8)).chk.any fun r => r.parBad
    · exact ⟨_, s.cvu, s.ev, rfl⟩
    · exact ⟨_, _, _, rfl⟩

/-- A packet that fails the content stage is counted, gives back its credits, and is answered or reported. -/
theorem State.contentFail_frame (s : State) (h : Hdr) (vc type opcode status cause len : Nat) :
    ∃ link layers cvu e, link.expSeq = s.link.expSeq ∧ s.contentFail h vc type opcode status cause len = { s with
      portA := { s.portA with contentDiscards := sat32 (s.portA.contentDiscards + 1) }, link, layers, cvu, ev := e } := by
  unfold State.contentFail
  dsimp only
  obtain ⟨credits, lcbs, returned⟩ := State.returnCredits_frame
    { s with portA := { s.portA with contentDiscards := sat32 (s.portA.contentDiscards + 1) } } vc len
  rw [returned]
  generalize failed : State.restoreFor _ vc type = u
  obtain ⟨layers, cvu, e, restored⟩ := State.restoreFor_frame _ vc type
  rw [restored] at failed
  subst failed
  split
  · rw [State.reply_frame]
    refine ⟨_, layers, cvu, e, ?_, rfl⟩
    rfl
  · obtain ⟨e', rated⟩ := State.raiseRatedN_ev _ 0x0106 cause 1 [(1, cause), (1, vc), (1, type)]
    refine ⟨_, layers, cvu, e', ?_, rated⟩
    rfl

/-- A packet in order that fails the content stage passes the link stage. -/
theorem exec_packetDiscard_fails {s : State} {h : Hdr} {up : Bool} {vc : Fin 32} {type : BitVec 8} {len status cause : Nat}
    (linkUp : s.linkUp = true) (seq : h.seq = s.link.expSeq) (short : len ≤ 4096) (room : s.noStaging vc len = false)
    (running : s.start.state ≠ .serviceOnly) (fails : s.headFails h up vc.val type.toNat len = some (status, cause)) :
    exec (.packetDiscard h up vc type len) s = .next (s.linkPass.contentFail h vc.val type.toNat 0 status cause len) := by
  refine (if_neg (by simp [linkUp])).trans ((if_neg (by omega)).trans ((if_neg (by simp [seq, seqClass_same])).trans
    ((if_neg (ne_true_of_eq_false room)).trans ((if_neg (by simp [running])).trans ?_))))
  rw [fails]

/-! ### ACK and NAK (R126 to R128) -/

section
variable {α : Type} (seq : α → BitVec 12) {q : BitVec 12} {l : List α}

theorem ackUpTo_sent (sent : ∃ x ∈ l, seq x = q) : ackUpTo seq q l = (l.dropWhile fun x => seq x ≠ q).drop 1 :=
  if_pos (List.any_eq_true.mpr (by simpa using sent))

theorem ackUpTo_unsent (unsent : ∀ x ∈ l, seq x ≠ q) : ackUpTo seq q l = l :=
  if_neg (by simpa using unsent)

/-- An acknowledgement of a packet that was sent drops at least that packet. -/
theorem length_ackUpTo_lt (sent : ∃ x ∈ l, seq x = q) : (ackUpTo seq q l).length < l.length := by
  rw [ackUpTo_sent seq sent]
  obtain ⟨x, mem, same⟩ := sent
  have suffix : (l.dropWhile fun x => seq x ≠ q).length ≤ l.length := (List.dropWhile_suffix _).length_le
  have some : 0 < (l.dropWhile fun x => seq x ≠ q).length := by
    refine List.length_pos_iff.mpr fun none => ?_
    simpa [same] using List.dropWhile_eq_nil_iff.mp none x mem
  rw [List.length_drop]
  omega

end

theorem State.ackA_sent {s : State} {q : BitVec 12} (sent : ∃ x ∈ s.link.replay, x.seq = q) :
    s.ackA q = { s with link := { s.link with
      replay := ackUpTo TxPkt.seq q s.link.replay, replayCount := 0, nakCount := 0
      replayNext := replayFrom TxPkt.seq s.link.replayNext (ackUpTo TxPkt.seq q s.link.replay) } } :=
  if_pos (length_ackUpTo_lt TxPkt.seq sent)

theorem State.ackA_unsent {s : State} {q : BitVec 12} (unsent : ∀ x ∈ s.link.replay, x.seq ≠ q) : s.ackA q = s :=
  if_neg (by simp [ackUpTo_unsent TxPkt.seq unsent])

/-- A NAK that names the oldest packet replays from it, and the fifth of them is link down (R128). -/
theorem exec_nak_oldest {s : State} {q : BitVec 12} {x : TxPkt} {l : List TxPkt} (up : s.linkUp = true) (replay : s.link.replay = x :: l)
    (oldest : x.seq = q) (unsent : ∀ y ∈ x :: l, y.seq ≠ q - 1) :
    exec (.nak .a q) s = if 4 ≤ s.link.nakCount then .next (s.linkDown 4) else .next { s with
      link := { s.link with nakCount := s.link.nakCount + 1, replayCount := min 4 (s.link.replayCount + 1), replayNext := some q }
      portA := { s.portA with replays := sat32 (s.portA.replays + 1) } } := by
  refine (if_neg (by simp [up])).trans ?_
  rw [State.ackA_unsent (by rwa [replay])]
  refine (if_neg (by simp [replay, oldest])).trans ((if_neg (by simp [replay, oldest])).trans ?_)
  by_cases many : 4 ≤ s.link.nakCount
  · exact (if_pos (Nat.succ_le_succ many)).trans (if_pos many).symm
  · exact (if_neg (mt Nat.le_of_succ_le_succ many)).trans (if_neg many).symm

/-! ### Timers (R126 to R128) -/

section
variable {s : State} {due : PortId → Bool} (f : PortId → State → State)

theorem State.onTimer_a (a : due .a = true) (b : due .b = false) : s.onTimer due f = f .a s := by
  simp [State.onTimer, a, b]

theorem State.onTimer_b (a : due .a = false) (b : due .b = true) : s.onTimer due f = f .b s := by
  simp [State.onTimer, a, b]

/-- Where both timers run, a free value says which one ends. -/
theorem State.onTimer_both (a : due .a = true) (b : due .b = true) :
    s.onTimer due f = if s.freeVal 20 % 2 = 0 then f .a s.drawn else f .b s.drawn := by
  unfold State.onTimer
  rw [if_pos (by simp [a, b])]
  split <;> rfl

end

theorem State.replayEndA_replays {s : State} {x : TxPkt} {l : List TxPkt} (replay : s.link.replay = x :: l) :
    s.replayEndA = if 4 ≤ s.link.replayCount then s.linkDown 4 else { s with
      link := { s.link with replayCount := s.link.replayCount + 1, replayNext := some x.seq }
      portA := { s.portA with replays := sat32 (s.portA.replays + 1) } } := by
  unfold State.replayEndA
  rw [replay]
  rfl

theorem State.replayEndB_replays {s : State} {x : FwdPkt} {l : List FwdPkt} (sent : s.linkB.sent = x :: l) :
    s.replayEndB = if 4 ≤ s.linkB.replayCount then s.portBDown 4 else { s with
      linkB := { s.linkB with replayCount := s.linkB.replayCount + 1, replayNext := some x.seq }
      portB := { s.portB with replays := sat32 (s.portB.replays + 1) } } := by
  unfold State.replayEndB
  rw [sent]
  rfl

/-- Settles O13: failures by the stage they fail, acknowledgements by what they name, timers by the port whose timer runs. -/
theorem failuresAcksAndReplay : Obligations.FailuresAcksAndReplay := by
  refine ⟨fun s seq up => ⟨fun first => ?_, fun fourth same => ?_⟩,
    fun s h up vc type len status cause linkUp seq short room running fails => ?_, fun s q up sent => ?_,
    fun s q x l up replay oldest unsent => ⟨fun few => ?_, fun many => ?_⟩,
    fun s => ⟨fun a b => congrArg _ (State.onTimer_a _ a b), fun a b => congrArg _ (State.onTimer_b _ a b),
      fun a b => congrArg _ (State.onTimer_both _ a b)⟩,
    fun s x l up replay other => ?_, fun s x l up sent other => ?_, fun s a b => congrArg _ (State.onTimer_both _ a b)⟩
  · obtain ⟨lcbs, nakAt, unacked, naksSent, failed⟩ := State.linkFailed_first first seq
    exact ⟨_, (exec_packetLinkFail_crc up seq).trans (congrArg _ failed), rfl, rfl, rfl, rfl, rfl, rfl⟩
  · obtain ⟨u, failed⟩ := State.linkFailed_fifth fourth same
    obtain ⟨st, rev, -⟩ := u.linkDown_resets 4
    exact ⟨_, (exec_packetLinkFail_crc up seq).trans (congrArg _ failed), st, rev⟩
  · have run := exec_packetDiscard_fails linkUp seq short room running fails
    obtain ⟨passed, -⟩ := s.linkPass_link
    obtain ⟨link, layers, cvu, e, expSeq, failed⟩ := s.linkPass.contentFail_frame h vc type.toNat 0 status cause len
    rw [failed, s.linkPass_frame] at run
    exact ⟨_, run, expSeq.trans passed, rfl, rfl⟩
  · dsimp only
    rw [← ackUpTo_sent TxPkt.seq sent]
    exact congrArg _ ((if_pos up).trans (State.ackA_sent sent))
  · exact (exec_nak_oldest up replay oldest unsent).trans (if_neg (by omega))
  · exact (exec_nak_oldest up replay oldest unsent).trans (if_pos many)
  · have run : exec .replayTimer s = .next s.replayEndA :=
      congrArg _ (State.onTimer_a _ (by simp [State.replayDue, up, replay]) other)
    rw [run, State.replayEndA_replays replay]
    exact ⟨fun few => congrArg _ (if_neg (by omega)), fun many => congrArg _ (if_pos many)⟩
  · have run : exec .replayTimer s = .next s.replayEndB :=
      congrArg _ (State.onTimer_b _ other (by simp [State.replayDue, up, sent]))
    rw [run, State.replayEndB_replays sent]
    exact ⟨fun few => congrArg _ (if_neg (by omega)), fun many => congrArg _ (if_pos many)⟩

end Sys2Proof.Machine
end

section
/-!
PROOFS. Credits, transmit queues and forwarding (04 R117, R125, R127, R129, R132, R139, R140; O14).
-/
namespace Sys2Proof.Machine

/-! ### The credit timer (R129) -/

/-- The CREDIT of a VC: its cumulative TOTAL. -/
def State.creditLcb (s : State) (vc : Nat) : Lcb := { kind := 3, vc := vc, value := (s.link.credits.get {} vc).total }

/-- A CREDIT that CREDIT_HOLD does not hold joins the waiting LCBs and leaves the credits of every other VC. -/
theorem State.sendCredit_sends {s : State} {vc : Nat} (held : s.creditHeld vc = false) :
    ∃ credits, s.sendCredit vc = { s with link := { s.link with lcbs := s.link.lcbs ++ [s.creditLcb vc], credits } } ∧
      ∀ v ≠ vc, credits.get {} v = s.link.credits.get {} v :=
  ⟨_, if_neg (by simp [held]), fun _ other => Sparse.get_modify_other _ _ _ other⟩

/-- A round of the credit timer over VCs that are each listed once sends the TOTAL that each had before it. -/
theorem State.forEach_sendCredit {s : State} (held : ∀ v, s.creditHeld v = false) {vcs : List Nat} (once : vcs.Nodup) :
    ∃ credits, s.forEach vcs State.sendCredit =
      { s with link := { s.link with lcbs := s.link.lcbs ++ vcs.map s.creditLcb, credits } } := by
  induction vcs generalizing s with
  | nil => exact ⟨s.link.credits, by simp⟩
  | cons vc vcs ih =>
    obtain ⟨new, once⟩ := List.nodup_cons.mp once
    obtain ⟨credits, sent, others⟩ := State.sendCredit_sends (held vc)
    obtain ⟨last, rest⟩ := ih (s := s.sendCredit vc) (by rw [sent]; exact held) once
    have totals : vcs.map (s.sendCredit vc).creditLcb = vcs.map s.creditLcb := by
      refine List.map_congr_left fun v mem => ?_
      rw [sent]
      exact congrArg (fun c : RxCredit => ({ kind := 3, vc := v, value := c.total } : Lcb)) (others v fun same => new (same ▸ mem))
    refine ⟨last, ?_⟩
    rw [State.forEach_cons, rest, totals, sent]
    simp only [List.append_assoc, List.singleton_append, List.map_cons]

/-! ### Transmit queues (R127, R132) -/

/-- Once the waiting LCBs have left, none waits. -/
theorem State.flushLcbs_leaves (s : State) :
    ∃ line, s.flushLcbs = { s with portA := { s.portA with line }, link := { s.link with lcbs := [] } } := by
  unfold State.flushLcbs
  split
  next none =>
    refine ⟨s.portA.line, ?_⟩
    rw [← List.isEmpty_iff.mp none]
  next => exact ⟨_, rfl⟩

theorem State.refill_none {s : State} {q : Nat} (none : s.link.blocked.get [] q = []) : s.refill q = s := by
  unfold State.refill
  rw [none]
  rfl

theorem State.refill_frame (s : State) (q : Nat) :
    ∃ tqs blocked, s.refill q = { s with link := { s.link with tqs, blocked } } := by
  unfold State.refill
  dsimp only
  split
  · exact ⟨s.link.tqs, s.link.blocked, rfl⟩
  · exact ⟨_, _, rfl⟩

theorem State.freeCreditsB_frame (s : State) (vc n : Nat) : ∃ linkB, s.freeCreditsB vc n = { s with linkB } := by
  unfold State.freeCreditsB
  dsimp only
  split
  · exact ⟨_, rfl⟩
  · exact ⟨_, rfl⟩

/-- A head that is removed changes its queue, with the producers that wait for it, the credits of port B or the events. -/
theorem State.tqPop_frame (s : State) (q : Nat) :
    ∃ tqs blocked linkB e, s.tqPop q = { s with link := { s.link with tqs, blocked }, linkB, ev := e } ∧
      (q ≠ 1 → q ≠ 6 → s.link.blocked.get [] q = [] → tqs = s.link.tqs.modify [] q (fun l => l.drop 1) ∧ e = s.ev) := by
  unfold State.tqPop
  dsimp only
  by_cases event : q = 1
  · rw [if_pos event]
    exact ⟨s.link.tqs, s.link.blocked, s.linkB, _, rfl, fun other => absurd event other⟩
  · rw [if_neg event]
    obtain ⟨tqs, blocked, refilled⟩ := State.refill_frame
      { s with link := { s.link with tqs := s.link.tqs.modify [] q fun l => l.drop 1 } } q
    by_cases up : q = 6
    · obtain ⟨linkB, freed⟩ := State.freeCreditsB_frame { s with link := { s.link with tqs, blocked } }
        ((s.link.tqs.get [] 6).headD {}).vc (creditCost ((s.link.tqs.get [] 6).headD {}).payload.length)
      rw [if_pos up, refilled]
      exact ⟨tqs, blocked, linkB, s.ev, freed, fun _ other => absurd up other⟩
    · rw [if_neg up]
      refine ⟨tqs, blocked, s.linkB, s.ev, refilled, fun _ _ none => ⟨?_, rfl⟩⟩
      have same := refilled.symm.trans (State.refill_none none)
      exact congrArg (fun u : State => u.link.tqs) same

/-- A packet that is not a TIME packet leaves on port A, and uses up an injected CRC error. -/
theorem State.sendUp_frame {p : TxPkt} (type : p.type ≠ 0x40) (s : State) : ∃ portA svc, s.sendUp p = { s with portA, svc } := by
  unfold State.sendUp
  dsimp only
  rw [if_neg (c := (p.isReq && !p.fwd) = true) (by simp [TxPkt.isReq, type])]
  exact ⟨_, _, rfl⟩

/-- A head that is sent takes the next SEQ and is kept for replay. -/
theorem State.sendNew_frame (s : State) (q : Nat) {p : TxPkt} (type : p.type ≠ 0x40) :
    ∃ tqs blocked starved txLeft linkB portA cvu e svc, s.sendNew q p = { s with
        link := { s.link with tqs, blocked, starved, txLeft, txSeq := s.link.txSeq + 1
                              replay := s.link.replay ++ [{ p with seq := s.link.txSeq, fwd := decide (q = 6) }] }
        linkB, portA, cvu, ev := e, svc } ∧
      (q ≠ 1 → q ≠ 6 → s.link.blocked.get [] q = [] → tqs = s.link.tqs.modify [] q (fun l => l.drop 1) ∧ e = s.ev) := by
  obtain ⟨tqs, blocked, linkB, e, popped, only⟩ := s.tqPop_frame q
  unfold State.sendNew
  rw [popped]
  have type' : ({ p with seq := s.link.txSeq, fwd := decide (q = 6) } : TxPkt).type ≠ 0x40 := type
  obtain ⟨portA, svc, sent⟩ := State.sendUp_frame type' (State.setContext _ _ _)
  exact ⟨tqs, blocked, _, _, linkB, portA, _, e, svc, sent, only⟩

/-- Where no replay is in progress, the head of the chosen queue leaves after the waiting LCBs. -/
theorem exec_tqTransmit_chosen {s : State} {q : Nat} {p : TxPkt} (up : s.backUp = true) (lane : s.portA.backIdle = false)
    (det : s.portA.backDet = .present) (fresh : s.link.replayNext = none) (choice : s.tqChoice = some q) (head : s.tqHead q = some p) :
    exec .tqTransmit s = .next (s.flushLcbs.sendNew q p) := by
  obtain ⟨line, flushed⟩ := s.flushLcbs_leaves
  have fresh' : s.flushLcbs.link.replayNext = none := by rw [flushed]; exact fresh
  have choice' : s.flushLcbs.tqChoice = some q := by rw [flushed]; exact choice
  have head' : s.flushLcbs.tqHead q = some p := by rw [flushed]; exact head
  refine (if_neg (by simp [up, lane, det])).trans ?_
  rw [fresh', choice']
  dsimp only
  rw [head']

/-! ### Port B (R125, R139, R140) -/

theorem State.flushLcbsB_frame (s : State) :
    ∃ line, s.flushLcbsB = { s with portB := { s.portB with line }, linkB := { s.linkB with lcbs := [] } } := by
  unfold State.flushLcbsB
  split
  next none =>
    refine ⟨s.portB.line, ?_⟩
    rw [← List.isEmpty_iff.mp none]
  next => exact ⟨_, rfl⟩

/-- Where no replay is in progress, the chosen packet leaves after the waiting LCBs. -/
theorem exec_forwardPortB_chosen {s : State} {dt i : Nat} (drives : (s.elapse dt).portBDrives = true)
    (fresh : (s.elapse dt).linkB.replayNext = none) (choice : (s.elapse dt).fwdChoice = some i)
    (few : (s.elapse dt).linkB.sent.length < 2047) :
    exec (.forwardPortB dt) s = .next ((s.elapse dt).flushLcbsB.sendForward i) := by
  obtain ⟨line, flushed⟩ := (s.elapse dt).flushLcbsB_frame
  have fresh' : (s.elapse dt).flushLcbsB.linkB.replayNext = none := by rw [flushed]; exact fresh
  have choice' : (s.elapse dt).flushLcbsB.fwdChoice = some i := by rw [flushed]; exact choice
  have few' : (s.elapse dt).flushLcbsB.linkB.sent.length < 2047 := by rw [flushed]; exact few
  refine (if_neg (by simp [drives])).trans ?_
  rw [fresh', choice']
  exact congrArg _ (if_pos few')

/-- Port B's link stage leaves the clock, the credits of its VCs and what was granted. -/
theorem State.linkPassB_frame (s : State) :
    ∃ lcbs unacked, s.linkPassB = { s with linkB := { s.linkB with
      expSeq := s.linkB.expSeq + 1, nakFor := none, failRun := 0, lcbs, unacked } } := by
  unfold State.linkPassB
  dsimp only
  split
  · exact ⟨_, 0, rfl⟩
  · exact ⟨_, _, rfl⟩

/-- Settles O14: each clause is the branch its hypotheses choose, with the frame of what that branch calls. -/
theorem creditsQueuesAndForwarding : Obligations.CreditsQueuesAndForwarding := by
  refine ⟨fun s vc total up => ?_, fun s a b held => ?_, fun s resend a b => ?_,
    fun s q p up lane det fresh choice head type => ?_, fun s q p => ⟨fun room => if_pos room, fun full => ?_⟩,
    fun s q head fed => ?_, fun s dt i drives fresh choice few => ?_,
    fun s h vc type b linked up seq short within => ?_⟩
  · exact if_pos up
  · have once : (s.creditVcs false .a).Nodup := List.nodup_range.filter _
    obtain ⟨credits, sent⟩ := State.forEach_sendCredit held once
    have run : exec (.creditReturnTimer false) s = .next (s.forEach (s.creditVcs false .a) State.sendCredit) :=
      congrArg _ (State.onTimer_a _ a b)
    exact ⟨_, run.trans (congrArg _ sent), rfl, rfl⟩
  · exact congrArg _ (State.onTimer_both _ a b)
  · obtain ⟨line, flushed⟩ := s.flushLcbs_leaves
    obtain ⟨tqs, blocked, starved, txLeft, linkB, portA, cvu, e, svc, sent, only⟩ := s.flushLcbs.sendNew_frame q type
    have run := exec_tqTransmit_chosen up lane det fresh choice head
    rw [sent, flushed] at run
    rw [flushed] at only
    exact ⟨_, run, rfl, rfl, rfl, only, rfl⟩
  · exact if_neg (ne_true_of_eq_false full)
  · exact congrArg _ (if_pos (by simp [head, fed]))
  · obtain ⟨line, flushed⟩ := (s.elapse dt).flushLcbsB_frame
    refine ⟨_, exec_forwardPortB_chosen drives fresh choice few, ?_⟩
    rw [flushed]
    exact ⟨rfl, rfl, rfl, rfl⟩
  · obtain ⟨lcbs, unacked, passed⟩ := s.linkPassB_frame
    refine (if_neg (by simp [linked])).trans ((if_neg (Nat.not_lt.mpr short)).trans ((if_neg (by simp [seq, seqClass_same])).trans
      ((if_neg (by simp [up])).trans ((if_neg ?_).trans ?_))))
    · rw [passed]
      simpa using within
    · rw [passed]
      rfl

end Sys2Proof.Machine
end

section
/-!
PROOFS. What disciplines the time bases from outside: SYNC, FOLLOW_UP and DELAY_RESP, their timers, TSEVT and LAMPSYNC (05 R150-R154,
R156, R161, 08 R237, R238; O18).
-/
namespace Sys2Proof.Machine

/-! ### What the passing of time leaves of the discipline (R156, R157) -/

/-- Steering writes its term, the grid's error and lock, and raises the lock's event. -/
theorem State.regrid_discipline (s : State) :
    ∃ g gridErr locked e, s.regrid = { s with clk := { s.clk with g }, sync := { s.sync with gridErr, locked }, ev := e } := by
  unfold State.regrid
  split
  · dsimp only
    generalize (if s.grid.onLamp then s.grid.lampErr else s.gridError) = error
    split <;> exact ⟨_, _, _, _, rfl⟩
  · exact ⟨_, _, _, _, rfl⟩

/-- A follower on LAMPSYNC steers by the error of its last edge (R238). -/
theorem State.regrid_onLamp {s : State} (runs : s.gridRuns = true) (onLamp : s.grid.onLamp = true) :
    ∃ sync e, s.regrid = { s with clk := { s.clk with g := steer s.grid.lampErr }, sync, ev := e } := by
  obtain ⟨⟨-, on⟩, started⟩ : (s.clk.crystal = true ∧ s.clk.gridOn = true) ∧ s.grid.started = true := by
    simpa [State.gridRuns] using runs
  unfold State.regrid
  rw [if_pos (by simp [on, started])]
  dsimp only
  rw [if_pos onLamp]
  split <;> exact ⟨_, _, rfl⟩

/-- The passing of time keeps all of the synchronisation but the grid's error and lock. -/
theorem State.elapse_discipline (s : State) (n : Nat) :
    ∃ clk lampErr gridErr locked e, s.elapse n =
      { s with clk, grid := { s.grid with lampErr }, sync := { s.sync with gridErr, locked }, ev := e } := by
  unfold State.elapse
  split
  · exact ⟨s.clk, s.grid.lampErr, s.sync.gridErr, s.sync.locked, s.ev, rfl⟩
  · obtain ⟨g, gridErr, locked, e, regrid⟩ := State.regrid_discipline { s with
      clk := s.clk.advance (s.steerSum n) n
      grid := { s.grid with lampErr :=
        if s.clk.crystal && s.grid.onLamp then s.grid.lampErr - s.steerSum n else s.grid.lampErr } }
    exact ⟨_, _, gridErr, locked, e, regrid⟩

/-! ### SYNC (R150, R151) -/

theorem State.takeSync_saturated {s : State} {b : List Byte} (saturated : corrSat (timeCorr b) = true) (rx : Stamp) :
    s.takeSync b rx = s.raise 0x0205 [(1, 3)] := if_pos saturated

/-- A SYNC that is not saturated is kept; an older one without its FOLLOW_UP is told of. -/
theorem State.takeSync_kept {s : State} {b : List Byte} (good : corrSat (timeCorr b) = false) (rx : Stamp) :
    s.takeSync b rx = { s with
      sync := { s.sync with sync := some { seqid := timeSeqid b, rx := rx, cs := timeCorr b, slewed := s.clk.slewed } }
      ev := if s.sync.sync.isSome then (s.raise 0x0205 [(1, 1)]).ev else s.ev } := by
  refine (if_neg (ne_true_of_eq_false good)).trans ?_
  dsimp only
  cases s.sync.sync.isSome <;> rfl

theorem exec_sync_saturated {s : State} {dt : Nat} {h : Hdr} {b : List Byte} (accepts : (s.elapse dt).accepts (timeRx h b))
    (saturated : corrSat (timeCorr b) = true) :
    ∃ t, exec (.sync dt h b) s = .next t ∧ t.ev = ((s.elapse dt).raise 0x0205 [(1, 3)]).ev ∧
      t = { s.elapse dt with link := t.link, ev := t.ev } := by
  obtain ⟨l, credits, lcbs, -, -, received⟩ := State.receive_runs accepts (.sync dt h b) fun t => t.takeSync b (t.capture 0)
  rw [State.takeSync_saturated saturated] at received
  exact ⟨_, congrArg Host.Outcome.next received, rfl, rfl⟩

theorem exec_sync_kept {s : State} {dt : Nat} {h : Hdr} {b : List Byte} (accepts : (s.elapse dt).accepts (timeRx h b))
    (good : corrSat (timeCorr b) = false) :
    ∃ t, exec (.sync dt h b) s = .next t ∧
      t.sync = { (s.elapse dt).sync with sync := some {
        seqid := timeSeqid b, rx := (s.elapse dt).capture 0, cs := timeCorr b, slewed := (s.elapse dt).clk.slewed } } ∧
      t.ev = (if (s.elapse dt).sync.sync.isSome then ((s.elapse dt).raise 0x0205 [(1, 1)]).ev else (s.elapse dt).ev) ∧
      t = { s.elapse dt with sync := t.sync, link := t.link, ev := t.ev } := by
  obtain ⟨l, credits, lcbs, -, -, received⟩ := State.receive_runs accepts (.sync dt h b) fun t => t.takeSync b (t.capture 0)
  rw [State.takeSync_kept good] at received
  exact ⟨_, congrArg Host.Outcome.next received, rfl, rfl, rfl⟩

/-! ### FOLLOW_UP (R150-R154) -/

theorem State.tbGo_frame (s : State) (n : TbState) :
    ∃ state okRun e, s.tbGo n = { s with sync := { s.sync with state, okRun }, ev := e } := by
  unfold State.tbGo
  split <;> exact ⟨_, _, _, rfl⟩

theorem State.afterAccept_frame (s : State) (off : Int) (epochStep : Bool) :
    ∃ state okRun e, s.afterAccept off epochStep = { s with sync := { s.sync with state, okRun }, ev := e } := by
  unfold State.afterAccept
  dsimp only
  split
  case h_1 => exact s.tbGo_frame .acquire
  case h_2 => exact s.tbGo_frame .acquire
  case h_3 =>
    generalize (if off.natAbs < 250 * 65536 then s.sync.okRun + 1 else 0) = run
    split
    · exact s.tbGo_frame .locked
    · exact ⟨_, _, _, rfl⟩
  case h_4 =>
    split
    · exact s.tbGo_frame .acquire
    · exact ⟨_, _, _, rfl⟩

theorem State.slewSample_frame (s : State) (off : Int) (y : SyncRx) :
    ∃ f slewLeft freqRun e, s.slewSample off y = { s with
      clk := { s.clk with f, slew := slewFor off, slewLeft }, sync := { s.sync with freqRun }, ev := e } := by
  unfold State.slewSample
  dsimp only
  generalize decide (_ = 10) = limited
  cases limited <;> exact ⟨_, _, _, _, rfl⟩

/-- A valid sample below the step threshold sets the slew term and is recorded. -/
theorem State.sample_small {s : State} {off : Int} (running : s.sync.state ≠ .free) (small : off.natAbs < 655360000) (y : SyncRx)
    (ep : BitVec 8) :
    ∃ f slewLeft sync e, s.sample off y ep = { s with clk := { s.clk with f, slew := slewFor off, slewLeft }, sync, ev := e } ∧
      sync.offset = off ∧ sync.sync = s.sync.sync ∧ sync.delays = s.sync.delays := by
  unfold State.sample
  dsimp only
  rw [if_neg running, if_neg (by simpa using small)]
  generalize raised : s.cond _ (fun u => u.raise 0x0206 [(1, ep.toNat)]) = t
  obtain ⟨e₁, rfl⟩ : ∃ e, t = { s with ev := e } := raised ▸ s.cond_raise_frame ..
  obtain ⟨f, slewLeft, freqRun, e₂, slewed⟩ := State.slewSample_frame { s with ev := e₁ } off y
  rw [slewed]
  obtain ⟨state, okRun, e₃, after⟩ := State.afterAccept_frame (State.accepted { s with
    clk := { s.clk with f, slew := slewFor off, slewLeft }, sync := { s.sync with freqRun }, ev := e₂ } off off y ep) off false
  rw [after]
  exact ⟨f, slewLeft, _, e₃, rfl, rfl, rfl, rfl⟩

/-- What a DELAY_REQ that falls due, or does not, moves: its bookkeeping and the transmit queues. -/
def State.OnlyAsks (s t : State) : Prop := ∃ link req reqSeq lastReq postponed paired, t = { s with
  link, sync := { s.sync with req, reqSeq, lastReq, postponed, paired, firstDue := false } }

theorem State.onlyAsks_delayDue (s : State) (t1 t2 cs : Int) : s.OnlyAsks (s.delayDue t1 t2 cs) := by
  refine iteInduction (motive := s.OnlyAsks) (fun _ => ⟨_, _, _, _, _, _, rfl⟩) fun _ =>
    iteInduction (motive := s.OnlyAsks) (fun _ => ?_) fun _ => ⟨_, _, _, _, _, _, rfl⟩
  unfold State.sendDelayReq
  dsimp only
  rw [State.enqueue_link]
  exact ⟨_, _, _, _, _, _, rfl⟩

/-- The offset of a SYNC with its FOLLOW_UP: t2 - t1 - c_s - D (R151). -/
def State.offsetOf (s : State) (b : List Byte) (y : SyncRx) : Int :=
  (y.rx.tb0 - extend32 (timeStamp b) y.rx.tb0) * 65536 - y.cs - s.pathDelay

/-- A FOLLOW_UP of the SYNC received in the 10 ms before it is a sample of its offset, once a path delay is known. -/
theorem State.takeFollowUp_pairs {s : State} {b : List Byte} {y : SyncRx} {rx : Stamp} (kept : s.sync.sync = some y)
    (seqid : y.seqid = timeSeqid b) (inTime : rx.tb1 - y.rx.tb1 < 10000000) (delays : s.sync.delays ≠ []) :
    s.takeFollowUp b rx = (State.sample { s with sync := { s.sync with sync := none } } (s.offsetOf b y) y (timeEpoch b)).delayDue
      (extend32 (timeStamp b) y.rx.tb0) y.rx.tb0 y.cs := by
  unfold State.takeFollowUp
  rw [kept]
  refine (if_neg (by simp [seqid, inTime])).trans ?_
  exact congrArg (State.delayDue · _ _ _) (if_neg (by simpa using delays))

theorem exec_followUp_slews {s : State} {dt : Nat} {h : Hdr} {b : List Byte} {y : SyncRx}
    (accepts : (s.elapse dt).accepts (timeRx h b)) (kept : s.sync.sync = some y) (seqid : y.seqid = timeSeqid b)
    (inTime : (s.elapse dt).now1 - y.rx.tb1 < 10000000) (delays : s.sync.delays ≠ []) (running : s.sync.state ≠ .free)
    (small : (s.offsetOf b y).natAbs < 655360000) :
    ∃ t, exec (.followUp dt h b) s = .next t ∧ t.clk.slew = slewFor (s.offsetOf b y) ∧ t.sync.offset = s.offsetOf b y ∧
      t.sync.sync = none ∧ t.clk.tb0 = (s.elapse dt).clk.tb0 ∧ t.sync.delays = s.sync.delays ∧ t.comp = s.comp ∧
      t.grid = (s.elapse dt).grid := by
  have run : exec (.followUp dt h b) s = .next ((s.elapse dt).receive (.followUp dt h b) (timeRx h b) fun t =>
    t.takeFollowUp b (t.capture 0)) := rfl
  obtain ⟨clk, lampErr, gridErr, locked, e, elapsed⟩ := s.elapse_discipline dt
  rw [elapsed] at accepts inTime run ⊢
  obtain ⟨l, credits, lcbs, -, -, received⟩ := State.receive_runs accepts (.followUp dt h b) fun t => t.takeFollowUp b (t.capture 0)
  let u : State := { s with
    clk, grid := { s.grid with lampErr }, sync := { s.sync with gridErr, locked }, ev := e, link := l }
  have paired := State.takeFollowUp_pairs (s := u) (rx := u.capture 0) kept seqid inTime delays
  obtain ⟨f, slewLeft, sync, e', sampled, offset, unpaired, delays'⟩ := State.sample_small
    (s := { u with sync := { u.sync with sync := none } }) (off := u.offsetOf b y) running small y (timeEpoch b)
  rw [sampled] at paired
  obtain ⟨link, req, reqSeq, lastReq, postponed, count, due⟩ := State.onlyAsks_delayDue
    { u with clk := { u.clk with f, slew := slewFor (u.offsetOf b y), slewLeft }, sync, ev := e' }
    (extend32 (timeStamp b) y.rx.tb0) y.rx.tb0 y.cs
  have taken := paired.trans due
  exact ⟨_, run.trans (congrArg _ (received.trans (congrArg (State.withCredits · credits lcbs) taken))), rfl, offset, unpaired, rfl,
    delays', rfl, rfl⟩

/-! ### DELAY_RESP (R150, R151) -/

/-- The path delay of a request with its response: the mean of the two ways (R151). -/
def DelayReq.delay (r : DelayReq) (b : List Byte) : Int :=
  rdiv ((r.t2 - r.t1) * 65536 - r.cs + ((extend32 (timeStamp b) r.tx.tb0 - r.tx.tb0) * 65536 - timeCorr b)) 2

/-- A DELAY_RESP in time whose delay is in range joins the last eight. -/
theorem State.takeDelayResp_joins {s : State} {b : List Byte} {r : DelayReq} {rx : Stamp} (waits : s.sync.req = some r)
    (seqid : r.seqid = timeSeqid b) (inTime : rx.tb1 - r.tx.tb1 < 10000000) (good : corrSat (timeCorr b) = false)
    (nonneg : 0 ≤ r.delay b) (short : r.delay b ≤ 6553600000) :
    s.takeDelayResp b rx = { s with sync := { s.sync with req := none, delays := (r.delay b :: s.sync.delays).take 8 } } := by
  unfold State.takeDelayResp
  rw [waits]
  refine (if_neg (not_not.mpr seqid)).trans ((if_neg (Nat.not_le.mpr inTime)).trans ((if_neg (ne_true_of_eq_false good)).trans
    (if_neg ?_)))
  have inRange : ¬ (r.delay b < 0 ∨ 6553600000 < r.delay b) := by omega
  simpa [DelayReq.delay] using inRange

theorem exec_delayResp_joins {s : State} {dt : Nat} {h : Hdr} {b : List Byte} {r : DelayReq}
    (accepts : (s.elapse dt).accepts (timeRx h b)) (waits : s.sync.req = some r) (seqid : r.seqid = timeSeqid b)
    (inTime : (s.elapse dt).now1 - r.tx.tb1 < 10000000) (good : corrSat (timeCorr b) = false) (nonneg : 0 ≤ r.delay b)
    (short : r.delay b ≤ 6553600000) :
    ∃ t, exec (.delayResp dt h b) s = .next t ∧
      t.sync = { (s.elapse dt).sync with req := none, delays := (r.delay b :: s.sync.delays).take 8 } ∧
      t = { s.elapse dt with sync := t.sync, link := t.link } := by
  have run : exec (.delayResp dt h b) s = .next ((s.elapse dt).receive (.delayResp dt h b) (timeRx h b) fun t =>
    t.takeDelayResp b (t.capture 0)) := rfl
  obtain ⟨clk, lampErr, gridErr, locked, e, elapsed⟩ := s.elapse_discipline dt
  rw [elapsed] at accepts inTime run ⊢
  obtain ⟨l, credits, lcbs, -, -, received⟩ := State.receive_runs accepts (.delayResp dt h b) fun t =>
    t.takeDelayResp b (t.capture 0)
  let u : State := { s with
    clk, grid := { s.grid with lampErr }, sync := { s.sync with gridErr, locked }, ev := e, link := l }
  have taken := State.takeDelayResp_joins (s := u) (rx := u.capture 0) waits seqid inTime good nonneg short
  exact ⟨_, run.trans (congrArg _ (received.trans (congrArg (State.withCredits · credits lcbs) taken))), rfl, rfl⟩

/-! ### Timers and TSEVT (R151, R154, R161) -/

theorem exec_syncPairTimeout_delay {s : State} (waits : s.sync.req.isSome = true) :
    exec (.syncPairTimeout true) s = .next (({ s with sync := { s.sync with req := none } } : State).raise 0x0205 [(1, 2)]) :=
  if_pos waits

theorem exec_syncPairTimeout_pair {s : State} (waits : s.sync.sync.isSome = true) :
    exec (.syncPairTimeout false) s = .next (({ s with sync := { s.sync with sync := none } } : State).raise 0x0205 [(1, 1)]) :=
  if_pos waits

/-- Without a sample TB0 leaves LOCKED for HOLDOVER and its slew ends. -/
theorem exec_tb0Holdover_locked {s : State} (locked : s.sync.state = .locked) :
    exec .tb0Holdover s = .next (({ s with
      clk := { s.clk with slew := 0, slewLeft := 0 }, sync := { s.sync with state := .holdover, okRun := 0 } } : State).raise
        0x0201 [(1, 3), (1, 2)]) := by
  have held : s.tbHold = State.tbGo { s with clk := { s.clk with slew := 0, slewLeft := 0 } } .holdover :=
    if_pos (by simp [locked])
  have go : State.tbGo { s with clk := { s.clk with slew := 0, slewLeft := 0 } } .holdover = (({ s with
      clk := { s.clk with slew := 0, slewLeft := 0 }, sync := { s.sync with state := .holdover, okRun := 0 } } : State).raise
        0x0201 [(1, 3), (1, tbNum s.sync.state)]) := if_neg (by simp [locked])
  rw [locked] at go
  exact congrArg Host.Outcome.next (held.trans go)

/-- A TSEVT edge 1 us or more after the stamped one before it is stamped. -/
theorem exec_tsevtCapture_stamped {s : State} {dt : Nat} (crystal : (s.elapse dt).clk.crystal = true)
    (apart : ∀ l, (s.elapse dt).sync.tsLast = some l → l + 1000 ≤ (s.elapse dt).now1) :
    let u := s.elapse dt
    exec (.tsevtCapture dt) s = .next (({ u with sync := { u.sync with tsLast := some u.now1 } } : State).raise 0x0207
      [(4, toField 32 (u.stamp 2 u.now0)), (1, u.clk.epoch.toNat), (1, tbNum u.sync.state), (2, u.grid.frame.toNat),
       (4, u.now1 % 4294967296), (4, (u.now2 - u.grid.lastL) % 4294967296)]) := by
  refine (if_neg (by simp [crystal])).trans (if_neg ?_)
  cases last : (s.elapse dt).sync.tsLast with
  | none => exact Bool.false_ne_true
  | some l => simpa using apart l last

/-! ### LAMPSYNC (R237, R238) -/

theorem exec_lampsyncEdge_leader {s : State} {dt : Nat} (leader : (s.elapse dt).lampLeader = true) :
    exec (.lampsyncEdge dt) s = .next (s.elapse dt) := if_pos (by simp [leader])

/-- An edge at the spacing of the one before it, within 0.2 % of the period, or the first one. -/
def State.lampGood (s : State) : Bool :=
  match s.grid.lampLast with
  | some l => decide (((s.now2 - l : Int) - periodNs s.modeNow.rate).natAbs * 500 ≤ periodNs s.modeNow.rate)
  | none => true

theorem State.lampGood_iff (s : State) : s.lampGood = true ↔ ∀ l, s.grid.lampLast = some l →
    ¬ periodNs s.modeNow.rate < ((s.now2 - l : Int) - periodNs s.modeNow.rate).natAbs * 500 := by
  unfold State.lampGood
  cases s.grid.lampLast <;> simp

section
variable {s : State} {dt : Nat} (follower : (s.elapse dt).lampLeader = false) (runs : (s.elapse dt).gridRuns = true)
include follower runs

/-- In LOCKED, or off its spacing, an edge is only noted. -/
theorem exec_lampsyncEdge_noted (unused : (s.elapse dt).sync.state = .locked ∨ (s.elapse dt).lampGood = false) :
    exec (.lampsyncEdge dt) s = .next { s.elapse dt with
      grid := { (s.elapse dt).grid with lampLast := some (s.elapse dt).now2 } } := by
  refine (if_neg (by simp [follower, runs])).trans (if_pos ?_)
  show (!(s.elapse dt).lampGood || decide ((s.elapse dt).sync.state = .locked)) = true
  rcases unused with locked | bad
  · simp [locked]
  · simp [bad]

/-- A usable edge steers TB2 by its distance from the latch point. -/
theorem exec_lampsyncEdge_steers (unlocked : (s.elapse dt).sync.state ≠ .locked) (good : (s.elapse dt).lampGood = true) :
    let u := s.elapse dt
    ∃ t, exec (.lampsyncEdge dt) s = .next t ∧
      t.grid = { u.grid with
        lampLast := some u.now2, onLamp := true, lampLost := false
        lampErr := reduceHalf ((u.grid.nextL * nsUnit : Nat) - (u.clk.tb2 : Int)) (periodUnits u.modeNow.rate) } ∧
      t.clk = { u.clk with g := steer t.grid.lampErr } ∧
      t = { u with grid := t.grid, clk := t.clk, sync := t.sync, ev := t.ev } := by
  intro u
  let v : State := { u with grid := { u.grid with
    lampLast := some u.now2, onLamp := true, lampLost := false
    lampErr := reduceHalf ((u.grid.nextL * nsUnit : Nat) - (u.clk.tb2 : Int)) (periodUnits u.modeNow.rate) } }
  obtain ⟨sync, e, steered⟩ := State.regrid_onLamp (s := v) runs rfl
  obtain ⟨e', told⟩ := v.regrid.cond_raise_frame u.grid.lampLost 0x0509 [(1, 1)]
  have used : ¬ (!u.lampGood || decide (u.sync.state = .locked)) = true := by simp [good, unlocked, u]
  have run : exec (.lampsyncEdge dt) s = .next (v.regrid.cond u.grid.lampLost fun w => w.raise 0x0509 [(1, 1)]) :=
    (if_neg (by simp [follower, runs])).trans (if_neg used)
  rw [told, steered] at run
  exact ⟨_, run, rfl, rfl, rfl⟩

end

theorem exec_lampsyncLoss_ends {s : State} (onLamp : s.grid.onLamp = true) :
    ∃ t, exec .lampsyncLoss s = .next t ∧ t.grid = { s.grid with onLamp := false, lampLost := true } ∧
      t = { s with grid := t.grid, clk := t.clk, sync := t.sync, ev := t.ev } := by
  obtain ⟨clk, sync, e, steered⟩ := State.regrid_frame { s with grid := { s.grid with onLamp := false, lampLost := true } }
  have run : exec .lampsyncLoss s =
    .next ((State.regrid { s with grid := { s.grid with onLamp := false, lampLost := true } }).raise 0x0509 [(1, 0)]) := if_pos onLamp
  rw [steered] at run
  exact ⟨_, run, rfl, rfl⟩

/-- Settles O18: each command by what it takes, with the frame of the discipline it calls. -/
theorem timeIsDisciplinedFromOutside : Obligations.TimeIsDisciplinedFromOutside := by
  refine ⟨fun s dt h b accepts => ⟨fun good => ?kept, exec_sync_saturated accepts⟩,
    fun s dt h b y accepts kept seqid inTime delays running small => exec_followUp_slews accepts kept seqid inTime delays running small,
    fun s dt h b r accepts waits seqid inTime good nonneg short => exec_delayResp_joins accepts waits seqid inTime good nonneg short,
    fun s => ⟨exec_syncPairTimeout_delay, exec_syncPairTimeout_pair⟩, fun s locked => exec_tb0Holdover_locked locked,
    fun s dt crystal apart => exec_tsevtCapture_stamped crystal fun l last => apart l ?last,
    fun s dt leader => exec_lampsyncEdge_leader leader,
    fun s dt follower runs => ⟨fun unused => exec_lampsyncEdge_noted follower runs (unused.imp_right ?far),
      fun unlocked near => exec_lampsyncEdge_steers follower runs unlocked ((State.lampGood_iff _).mpr near)⟩,
    fun s onLamp => exec_lampsyncLoss_ends onLamp⟩
  case kept =>
    have same : (s.elapse dt).sync.sync = s.sync.sync := by
      obtain ⟨_, _, _, _, _, elapsed⟩ := s.elapse_discipline dt
      rw [elapsed]
    rw [← same]
    exact exec_sync_kept accepts good
  case last =>
    obtain ⟨_, _, _, _, _, elapsed⟩ := s.elapse_discipline dt
    rwa [elapsed] at last
  case far =>
    rintro ⟨l, last, far⟩
    exact Bool.eq_false_iff.mpr fun good => (State.lampGood_iff _).mp good l last far

end Sys2Proof.Machine
end

section
/-!
PROOFS. The bank arbiters (06 R171 to R186): what a transfer leaves of the bank that it serves, what a grant gives a bank, a lemma for
each outcome of a decision; the words of the shadow table; the release of a lock (O39).
-/
namespace Sys2Proof.Machine

/-! ### What a transfer leaves -/

theorem State.bank_modBank_listed {s : State} {b : Nat} {f : Bank → Bank} (h : f (s.bank b) ≠ {}) :
    (s.modBank b f).bank b = f (s.bank b) := Sparse.get_modify_listed ({} : Bank) s.banks h

/-- What a decision settles of its bank before the transfer: the grant, the pointer, the requests and the last idle winner. -/
def Bank.turn (k : Bank) : Option Nat × Nat × List StoreReq × Nat := (k.grant, k.ptr, k.reqs, k.lastIdle)

theorem Bank.turn_eq_iff {k : Bank} {grant : Option Nat} {ptr : Nat} {reqs : List StoreReq} {lastIdle : Nat} :
    k.turn = (grant, ptr, reqs, lastIdle) ↔ k.grant = grant ∧ k.ptr = ptr ∧ k.reqs = reqs ∧ k.lastIdle = lastIdle := by
  simp [Bank.turn]

/-- A bank with a grant is not the default value. -/
theorem Bank.ne_default_of_granted {k : Bank} (granted : k.grant ≠ none) : k ≠ {} := fun same => granted (same ▸ rfl)

/-- What a transfer may move: the banks, the store, the injected errors that wait and the events. Of bank `b` it keeps the turn as
long as the bank has a grant, which keeps the bank listed in whatever form the map of banks is. -/
def State.Transfers (s : State) (b : Nat) (t : State) : Prop :=
  (∃ banks store svc e, t = { s with banks, store, svc, ev := e }) ∧ ((s.bank b).grant ≠ none → (t.bank b).turn = (s.bank b).turn)

theorem State.Transfers.refl (b : Nat) (s : State) : s.Transfers b s := ⟨⟨_, _, _, _, rfl⟩, fun _ => rfl⟩

theorem State.Transfers.trans {b : Nat} {s t u : State} : s.Transfers b t → t.Transfers b u → s.Transfers b u := by
  rintro ⟨⟨_, _, _, _, rfl⟩, first⟩ ⟨⟨_, _, _, _, rfl⟩, second⟩
  refine ⟨⟨_, _, _, _, rfl⟩, fun granted => ?_⟩
  have kept := first granted
  have grant := congrArg Prod.fst kept
  exact (second fun ungranted => granted (grant.symm.trans ungranted)).trans kept

theorem State.Transfers.foldl {α : Type} {b : Nat} {f : State → α → State} (h : ∀ (u : State) x, u.Transfers b (f u x)) (s : State)
    (xs : List α) : s.Transfers b (xs.foldl f s) := by
  induction xs generalizing s with
  | nil => exact .refl b s
  | cons x xs ih => exact (h s x).trans (ih (f s x))

theorem State.transfers_modBank (s : State) (a b : Nat) {f : Bank → Bank} (keep : ∀ k, (f k).turn = k.turn) :
    s.Transfers b (s.modBank a f) := by
  refine ⟨⟨_, s.store, s.svc, s.ev, rfl⟩, fun granted => ?_⟩
  by_cases same : b = a
  · subst same
    have grant : (f (s.bank b)).grant = (s.bank b).grant := congrArg Prod.fst (keep (s.bank b))
    rw [State.bank_modBank_listed (Bank.ne_default_of_granted (grant ▸ granted)), keep]
  · rw [s.bank_modBank_other f same]

theorem State.transfers_raiseRated (s : State) (b code key : Nat) (data : List (Nat × Nat)) :
    s.Transfers b (s.raiseRated code key data) := by
  obtain ⟨e, rated⟩ := s.raiseRatedN_ev code key 1 data
  exact ⟨⟨s.banks, s.store, s.svc, e, rated⟩, fun _ => congrArg (fun t => (t.bank b).turn) rated⟩

theorem State.transfers_eccCorrected (b : Nat) (s : State) (g : Nat) : s.Transfers b (s.eccCorrected g) := by
  unfold State.eccCorrected
  refine .trans ?_ (State.transfers_raiseRated _ b 0x0301 0 [])
  exact s.transfers_modBank _ b fun _ => rfl

theorem State.transfers_eccPoison (b : Nat) (s : State) (g : Nat) : s.Transfers b (s.eccPoison g) :=
  ⟨⟨s.banks, _, s.svc, _, rfl⟩, fun _ => rfl⟩

theorem State.transfers_eccGranule (b : Nat) (s : State) (g : Nat) : s.Transfers b (s.eccGranule g) := by
  unfold State.eccGranule
  split
  · exact s.transfers_eccCorrected b g
  · split
    · exact s.transfers_eccPoison b g
    · exact .refl b s

theorem State.transfers_eccRead (b : Nat) (s : State) (a n : Nat) : s.Transfers b (s.eccRead a n) := by
  unfold State.eccRead
  split
  · exact .refl b s
  · exact .foldl (State.transfers_eccGranule b) s _

theorem State.transfers_storeBytes (b : Nat) (s : State) (a : Nat) (bs : List Byte) : s.Transfers b (s.storeBytes a bs) := by
  obtain ⟨flips, svc, stored⟩ := s.storeBytes_frame a bs
  exact ⟨⟨s.banks, _, svc, s.ev, stored⟩, fun _ => congrArg (fun t => (t.bank b).turn) stored⟩

theorem State.transfers_writeBeat (b : Nat) (s : State) (a : Nat) (mask : BitVec 4) (w : BitVec 256) :
    s.Transfers b (s.writeBeat a mask w) := .foldl (fun u _ => u.transfers_storeBytes b _ _) s _

theorem State.transfers_scrub (s : State) (b : Nat) : s.Transfers b (s.scrub b) := by
  unfold State.scrub
  split
  next row rest _ =>
    refine (s.transfers_modBank b b (f := fun k => { k with rewrite := rest }) fun _ => rfl).trans ?_
    dsimp only
    split
    · exact State.transfers_eccRead ..
    · exact State.transfers_modBank _ _ _ fun _ => rfl
  next => exact (s.transfers_eccRead b _ _).trans (State.transfers_modBank _ _ _ fun _ => rfl)

theorem State.transfers_transfer (s : State) (b : Nat) (r : StoreReq) : s.Transfers b (s.transfer b r) := by
  unfold State.transfer
  split
  case isTrue => exact s.transfers_scrub b
  case isFalse =>
    split
    case isTrue =>
      exact (State.Transfers.foldl (fun u _ => u.transfers_writeBeat b _ _ _) s _).trans (State.transfers_modBank _ _ _ fun _ => rfl)
    case isFalse =>
      exact (State.Transfers.foldl (fun u _ => u.transfers_eccRead b _ _) s _).trans (State.transfers_modBank _ _ _ fun _ => rfl)

/-! ### What a grant gives -/

/-- A grant: the bank is the winner's, its oldest request leaves the port, and the pointer advances unless the bank is locked. -/
theorem State.grantReq_grants {s : State} {b m : Nat} {r : StoreReq} (idle : Bool) (asks : (s.bank b).request m = some r) :
    (∃ banks store svc e, s.grantReq b m idle = { s with banks, store, svc, ev := e }) ∧
      ((s.grantReq b m idle).bank b).turn =
        (some m, if (s.bank b).owner.isSome then (s.bank b).ptr else ((s.bank b).ptr + 1) % 64, dropReq m (s.bank b).reqs,
          if idle then m else (s.bank b).lastIdle) := by
  unfold State.grantReq
  simp only [asks]
  generalize given : (fun k : Bank => _) = f
  have granted : (f (s.bank b)).grant = some m := given ▸ rfl
  have reads : (s.modBank b f).bank b = f (s.bank b) :=
    State.bank_modBank_listed (Bank.ne_default_of_granted fun ungranted => nomatch granted.symm.trans ungranted)
  obtain ⟨⟨_, _, _, _, moved⟩, turn⟩ := (s.modBank b f).transfers_transfer b r
  refine ⟨⟨_, _, _, _, moved⟩, ?_⟩
  rw [turn (by simp [reads, granted]), reads, ← given]
  cases (s.bank b).owner <;> rfl

/-- A bank after the RELEASE write of the scrubber's sequence. -/
def Bank.scrubReleased (k : Bank) : Bank := { k with owner := none, scrubFix := none, grant := some 10 }

/-- The RELEASE write of the scrubber's sequence: the bank is released, and of the store the check bits alone are written. -/
theorem State.scrubWrite_granules (s : State) (b row : Nat) : ∃ flips svc, s.scrubWrite b row =
    { s.modBank b Bank.scrubReleased with store := { s.store with flips }, svc } :=
  State.forEach_keeps (R := fun s t => ∃ flips svc, t = { s with store := { s.store with flips }, svc }) (fun _ => ⟨_, _, rfl⟩)
    (by rintro _ _ _ ⟨_, _, rfl⟩ ⟨_, _, rfl⟩; exact ⟨_, _, rfl⟩) _ (fun u _ => ⟨_, _, u.granuleWritten_cells _⟩) (List.range 4) _

/-! ### Decisions -/

theorem Bank.wrap_pending {k : Bank} (pending : k.swap = true) (first : k.ptr = 0) :
    k.wrap = { k with active := k.shadow, swap := false } := if_pos (by simp [pending, first])

/-- No swap is pending, or the pointer has not wrapped: the tables stay (R179). -/
theorem Bank.wrap_idle {k : Bank} (waits : k.swap = false ∨ k.ptr ≠ 0) : k.wrap = k := by
  refine if_neg ?_
  rcases waits with unswapped | later
  · simp [unswapped]
  · simp [later]

section
variable {s : State} {b : Nat}

theorem State.arbitrate_scrubFix {o row : Nat} (owned : (s.bank b).owner = some o) (fix : (s.bank b).scrubFix = some row) :
    s.arbitrate b = s.scrubWrite b row := by
  simp only [State.arbitrate, owned, fix]

theorem State.arbitrate_locked {o : Nat} (owned : (s.bank b).owner = some o) (noFix : (s.bank b).scrubFix = none) :
    s.arbitrate b =
      if ((s.bank b).request o).isSome then s.grantReq b o false else s.modBank b fun k => { k with grant := none } := by
  simp only [State.arbitrate, owned, noFix]

theorem State.arbitrate_unasked (free : (s.bank b).owner = none) (unasked : (s.bank b).reqs = []) :
    s.arbitrate b = s.modBank b fun k => { k.wrap with ptr := (k.wrap.ptr + 1) % 64, grant := none } := by
  simp only [State.arbitrate, free, unasked]
  rfl

theorem State.arbitrate_frozen (free : (s.bank b).owner = none) (asked : (s.bank b).reqs ≠ []) (frozen : (s.bank b).freeze = true) :
    s.arbitrate b = s.modBank b fun k => { k with grant := none } := by
  simp [State.arbitrate, free, asked, frozen]

/-- A bank with requests reads as wrapped after its wrap. -/
theorem State.bank_wrap (asked : (s.bank b).reqs ≠ []) : (s.modBank b Bank.wrap).bank b = (s.bank b).wrap := by
  refine State.bank_modBank_listed fun unlisted => asked ?_
  have kept : (s.bank b).wrap.reqs = (s.bank b).reqs := by
    unfold Bank.wrap
    split <;> rfl
  rw [← kept, unlisted]

section
variable (free : (s.bank b).owner = none) (asked : (s.bank b).reqs ≠ []) (thawed : (s.bank b).freeze = false)
include free asked thawed

/-- The owner of the slot asks: it is granted. -/
theorem State.arbitrate_slotOwner {o : Nat} (slot : (s.bank b).wrap.slotOwner (s.bank b).wrap.ptr = some o)
    (asks : ((s.bank b).wrap.request o).isSome = true) : s.arbitrate b = (s.modBank b Bank.wrap).grantReq b o false := by
  simp [State.arbitrate, free, asked, thawed, State.bank_wrap asked, slot, asks]

/-- The owner of the slot does not ask, or the slot is open: the winner of the idle slot is granted. -/
theorem State.arbitrate_idleSlot {m : Nat}
    (unasked : ∀ o, (s.bank b).wrap.slotOwner (s.bank b).wrap.ptr = some o → (s.bank b).wrap.request o = none)
    (winner : (s.bank b).wrap.idleWinner = some m) : s.arbitrate b = (s.modBank b Bank.wrap).grantReq b m true := by
  cases slot : (s.bank b).wrap.slotOwner (s.bank b).wrap.ptr with
  | none => simp [State.arbitrate, free, asked, thawed, State.bank_wrap asked, slot, winner]
  | some o => simp [State.arbitrate, free, asked, thawed, State.bank_wrap asked, slot, unasked o slot, winner]

end

end

/-- With its bank ready, no new request and no access waiting, the command is one decision. -/
theorem exec_arbiterDecision {s : State} {b : Fin 16} (ready : s.groupReady (b.val / 8) = true) {t : State} (decides : s.arbitrate b = t)
    (idle : t.link.waiting = []) : exec (.arbiterDecision b []) s = .next t := by
  have run : exec (.arbiterDecision b []) s = .next (if s.groupReady (b.val / 8) then s.arbitrate b else s).serveWaiting := rfl
  rw [run, if_pos ready, decides, State.serveWaiting_idle idle]

/-- A decision that grants: what it leaves of the bank, and what it may move beside it. -/
theorem exec_arbiterDecision_grants {s u : State} {b : Fin 16} {m : Nat} {r : StoreReq} {won : Bool}
    (ready : s.groupReady (b.val / 8) = true) (idle : s.link.waiting = []) (beside : ∃ banks, u = { s with banks })
    (same : u.bank b = s.bank b) (asks : (s.bank b).request m = some r) (decides : s.arbitrate b = u.grantReq b m won) :
    ∃ t, exec (.arbiterDecision b []) s = .next t ∧
      (t.bank b).turn = (some m, if (s.bank b).owner.isSome then (s.bank b).ptr else ((s.bank b).ptr + 1) % 64,
        dropReq m (s.bank b).reqs, if won then m else (s.bank b).lastIdle) ∧
      t = { s with banks := t.banks, store := t.store, svc := t.svc, ev := t.ev } := by
  obtain ⟨⟨_, _, _, _, moved⟩, turn⟩ := State.grantReq_grants won (same ▸ asks)
  obtain ⟨_, rfl⟩ := beside
  refine ⟨_, exec_arbiterDecision ready decides ?_, same ▸ turn, ?_⟩
  · rw [moved]; exact idle
  · rw [moved]

theorem Bank.reqs_ne_nil_of_request {k : Bank} {m : Nat} {r : StoreReq} (asks : k.request m = some r) : k.reqs ≠ [] :=
  fun unasked => by simp [Bank.request, unasked] at asks

theorem Bank.request_of_idleWinner {k : Bank} {m : Nat} (winner : k.idleWinner = some m) : ∃ r, k.request m = some r :=
  Option.isSome_iff_exists.mp (List.find?_some (p := fun m => (k.request m).isSome) winner)

section
variable {s : State} {b : Fin 16} (ready : s.groupReady (b.val / 8) = true) (idle : s.link.waiting = [])
include ready idle

section
variable (free : (s.bank b).owner = none) (thawed : (s.bank b).freeze = false) (unswapped : (s.bank b).swap = false)
include free thawed unswapped

/-- The owner of the slot with a request is granted it (R173). -/
theorem exec_arbiterDecision_slotOwner {o : Nat} {r : StoreReq} (slot : (s.bank b).slotOwner (s.bank b).ptr = some o)
    (asks : (s.bank b).request o = some r) :
    ∃ t, exec (.arbiterDecision b []) s = .next t ∧
      (t.bank b).turn = (some o, ((s.bank b).ptr + 1) % 64, dropReq o (s.bank b).reqs, (s.bank b).lastIdle) ∧
      t = { s with banks := t.banks, store := t.store, svc := t.svc, ev := t.ev } := by
  have asked := Bank.reqs_ne_nil_of_request asks
  have still := Bank.wrap_idle (.inl unswapped)
  have decides := State.arbitrate_slotOwner free asked thawed (o := o) (by rwa [still]) (by simp [still, asks])
  simpa [free] using exec_arbiterDecision_grants ready idle ⟨_, rfl⟩ ((State.bank_wrap asked).trans still) asks decides

/-- Where the owner of the slot does not ask, the next requester after the last idle winner is granted (R176). -/
theorem exec_arbiterDecision_idleSlot {m : Nat}
    (unasked : ∀ o, (s.bank b).slotOwner (s.bank b).ptr = some o → (s.bank b).request o = none)
    (winner : (s.bank b).idleWinner = some m) :
    ∃ t, exec (.arbiterDecision b []) s = .next t ∧
      (t.bank b).turn = (some m, ((s.bank b).ptr + 1) % 64, dropReq m (s.bank b).reqs, m) ∧
      t = { s with banks := t.banks, store := t.store, svc := t.svc, ev := t.ev } := by
  obtain ⟨r, asks⟩ := Bank.request_of_idleWinner winner
  have asked := Bank.reqs_ne_nil_of_request asks
  have still := Bank.wrap_idle (.inl unswapped)
  have decides := State.arbitrate_idleSlot free asked thawed (m := m) (by rwa [still]) (by rwa [still])
  simpa [free] using exec_arbiterDecision_grants ready idle ⟨_, rfl⟩ ((State.bank_wrap asked).trans still) asks decides

end

section
variable {o : Nat} (owned : (s.bank b).owner = some o)
include owned

/-- A locked bank grants its owner, and its pointer stands (R182). -/
theorem exec_arbiterDecision_owner (noFix : (s.bank b).scrubFix = none) (asks : (s.bank b).request o ≠ none) :
    ∃ t, exec (.arbiterDecision b []) s = .next t ∧ (t.bank b).grant = some o ∧ (t.bank b).ptr = (s.bank b).ptr := by
  obtain ⟨r, asks⟩ := Option.ne_none_iff_exists'.mp asks
  have decides : s.arbitrate b = s.grantReq b o false := (State.arbitrate_locked owned noFix).trans (if_pos (by simp [asks]))
  obtain ⟨t, run, turn, -⟩ := exec_arbiterDecision_grants ready idle ⟨_, rfl⟩ rfl asks decides
  obtain ⟨grant, ptr, -, -⟩ := Bank.turn_eq_iff.mp turn
  exact ⟨t, run, grant, by simpa [owned] using ptr⟩

/-- A locked bank whose owner does not ask grants nobody (R182). -/
theorem exec_arbiterDecision_ownerSilent (noFix : (s.bank b).scrubFix = none) (silent : (s.bank b).request o = none) :
    exec (.arbiterDecision b []) s = .next (s.modBank b fun k => { k with grant := none }) :=
  exec_arbiterDecision ready ((State.arbitrate_locked owned noFix).trans (if_neg (by simp [silent]))) idle

/-- The scrubber's sequence ends with its RELEASE write, which changes no data byte (R171). -/
theorem exec_arbiterDecision_scrubFix {row : Nat} (fix : (s.bank b).scrubFix = some row) :
    ∃ t, exec (.arbiterDecision b []) s = .next t ∧
      t.bank b = (s.bank b).scrubReleased ∧
      t.store.cells = s.store.cells ∧ t = { s with banks := t.banks, store := t.store, svc := t.svc } := by
  obtain ⟨flips, svc, wrote⟩ := s.scrubWrite_granules b row
  have released : (s.modBank b Bank.scrubReleased).bank b = (s.bank b).scrubReleased :=
    State.bank_modBank_listed (Bank.ne_default_of_granted (Option.some_ne_none 10))
  refine ⟨_, exec_arbiterDecision ready ((State.arbitrate_scrubFix owned fix).trans wrote) idle, released, rfl, rfl⟩

end

theorem exec_arbiterDecision_frozen (free : (s.bank b).owner = none) (asked : (s.bank b).reqs ≠ []) (frozen : (s.bank b).freeze = true) :
    exec (.arbiterDecision b []) s = .next (s.modBank b fun k => { k with grant := none }) :=
  exec_arbiterDecision ready (State.arbitrate_frozen free asked frozen) idle

theorem exec_arbiterDecision_unasked (free : (s.bank b).owner = none) (unasked : (s.bank b).reqs = []) :
    exec (.arbiterDecision b []) s =
      .next (s.modBank b fun k => { k.wrap with ptr := (k.wrap.ptr + 1) % 64, grant := none }) :=
  exec_arbiterDecision ready (State.arbitrate_unasked free unasked) idle

end

/-! ### Slot tables -/

theorem Bank.slotOwner_scanOut (k : Bank) {i : Nat} (floor : i % 8 = 0) : k.slotOwner i = some 0 := if_pos floor

/-- A block of consecutive entries written one after the other. -/
theorem Sparse.get_foldl_set {α : Type} [DecidableEq α] {d : α} {m : Sparse α} (canonical : Sparse.wf d m = true) (base : Nat)
    (v : Nat → α) (n : Nat) :
    let w := (List.range n).foldl (fun m i => m.set d (base + i) (v i)) m
    Sparse.wf d w = true ∧ ∀ x, w.get d x = if base ≤ x ∧ x < base + n then v (x - base) else m.get d x := by
  induction n with
  | zero => exact ⟨canonical, fun x => (if_neg (by omega)).symm⟩
  | succ n ih =>
    obtain ⟨before, reads⟩ := ih
    rw [List.range_succ, List.foldl_append]
    refine ⟨Sparse.wf_set d _ _ _ before, fun x => ?_⟩
    rw [List.foldl_cons, List.foldl_nil, Sparse.get_set d _ _ _ _ before, reads]
    by_cases last : x = base + n
    · rw [if_pos last, if_pos (by omega), last, Nat.add_sub_cancel_left]
    · rw [if_neg last]
      exact if_congr (by omega) rfl rfl

/-- The entry that a field of a shadow word stores: 11 to 14 as 0xF (R181). -/
def shadowEntry (v : BitVec 32) (i : Nat) : BitVec 4 :=
  BitVec.ofNat 4 (if 10 < bitsOf v.toNat (4 * i) 4 then 15 else bitsOf v.toNat (4 * i) 4)

/-- A table with the word `j` written (R179). -/
def withShadowWord (j : Nat) (v : BitVec 32) (m : Sparse (BitVec 4)) : Sparse (BitVec 4) :=
  (List.range 8).foldl (fun m i => m.set 0 (8 * j + i) (shadowEntry v i ^^^ defaultSlot (8 * j + i))) m

/-- The word's own entries read as written, the others as before. -/
theorem slotEntry_withShadowWord {m : Sparse (BitVec 4)} (canonical : Sparse.wf 0 m = true) (j : Nat) (v : BitVec 32) :
    (∀ i, i < 8 → slotEntry (withShadowWord j v m) (8 * j + i) = shadowEntry v i) ∧
      ∀ x, (x < 8 * j ∨ 8 * j + 8 ≤ x) → slotEntry (withShadowWord j v m) x = slotEntry m x := by
  obtain ⟨-, reads⟩ := Sparse.get_foldl_set canonical (8 * j) (fun i => shadowEntry v i ^^^ defaultSlot (8 * j + i)) 8
  refine ⟨fun i lt => ?_, fun x outside => ?_⟩
  · rw [slotEntry, withShadowWord, reads, if_pos (by omega), Nat.add_sub_cancel_left, BitVec.xor_assoc, BitVec.xor_self,
      BitVec.xor_zero]
  · rw [slotEntry, withShadowWord, reads, if_neg (by omega), slotEntry]

theorem exec_slotShadowWrite_taken {s : State} {b : Fin 16} (unswapped : (s.bank b).swap = false) (j : Fin 8) (v : BitVec 32) :
    exec (.slotShadowWrite b j v) s = .next (s.modBank b fun k => { k with shadow := withShadowWord j v k.shadow }) :=
  if_neg (by simp [unswapped])

theorem exec_slotShadowWrite_busy {s : State} {b : Fin 16} (pending : (s.bank b).swap = true) (j : Fin 8) (v : BitVec 32) :
    exec (.slotShadowWrite b j v) s = .next ((s.modBank b fun k => { k with busyBit := true }).raise 0x0306 [(1, b.val)]) :=
  if_pos pending

/-! ### The release of a lock -/

/-- A bank whose lock is broken. -/
def Bank.lockReleased (k : Bank) (o : Nat) (gone kept : List StoreReq) : Bank :=
  { k with
    owner := none, broken := true, grant := none, scrubFix := none, reqs := kept ++ retryOf o gone
    aborts := gone.map fun r => { who := r.who, abort := true, busError := decide (r.who = 5) } }

theorem State.bank_breakLock (s : State) (b o : Nat) (gone kept : List StoreReq) :
    (s.breakLock b o gone kept).bank b = (s.bank b).lockReleased o gone kept :=
  State.bank_modBank_listed (f := fun k => k.lockReleased o gone kept) fun same => nomatch congrArg Bank.broken same

/-- A release of a lock: a command that ends in LOCK_BROKEN and an event over a state that has changed the banks alone. -/
theorem exec_releases {s u : State} {c : Instr} {code : Nat} {data : List (Nat × Nat)} (idle : s.link.waiting = [])
    (beside : ∃ banks, u = { s.setFlag fLockBroken with banks }) (run : exec c s = .next (u.raise code data).serveWaiting) :
    ∃ t, exec c s = .next t ∧ t.bank = u.bank ∧ t.ev = ((s.setFlag fLockBroken).raise code data).ev ∧
      t = { s with banks := t.banks, ev := t.ev } := by
  obtain ⟨banks, rfl⟩ := beside
  exact ⟨_, run.trans (congrArg _ (State.serveWaiting_idle idle)), rfl, rfl, rfl⟩

section
variable {s : State} {b : Fin 16}

/-- The owner's reset or fault: the requests of its sequence are discarded (R183). -/
theorem exec_lockBroken_owned {o : Nat} (owned : (s.bank b).owner = some o) (idle : s.link.waiting = []) :
    ∃ t, exec (.lockBroken b) s = .next t ∧
      t.bank b = (s.bank b).lockReleased o (seqOf o (s.bank b).reqs) (dropSeq o (s.bank b).reqs) ∧
      t.ev = ((s.setFlag fLockBroken).raise 0x0303 [(1, b.val), (1, o), (1, (s.bank b).ptr)]).ev ∧
      t = { s with banks := t.banks, ev := t.ev } := by
  have beside : ∃ banks, s.breakLock b o (seqOf o (s.bank b).reqs) (dropSeq o (s.bank b).reqs) =
    { s.setFlag fLockBroken with banks } := ⟨_, rfl⟩
  obtain ⟨t, run, banks, ev, frame⟩ := exec_releases (c := .lockBroken b) (code := 0x0303)
    (data := [(1, b.val), (1, o), (1, (s.bank b).ptr)]) idle beside (by simp only [exec, execLockBroken, owned])
  exact ⟨t, run, (congrFun banks b).trans (s.bank_breakLock b o _ _), ev, frame⟩

/-- The watchdog: every request of the owner is discarded (R184). -/
theorem exec_arbWatchdog_owned {o : Nat} (owned : (s.bank b).owner = some o) (idle : s.link.waiting = []) :
    ∃ t, exec (.arbWatchdog b) s = .next t ∧
      t.bank b = { (s.bank b).lockReleased o ((s.bank b).reqs.filter fun r => r.who = o) ((s.bank b).reqs.filter fun r => r.who ≠ o) with
        wdog := true } ∧
      t.ev = ((s.setFlag fLockBroken).raise 0x0304 [(1, b.val), (1, o), (1, (s.bank b).ptr)]).ev ∧
      t = { s with banks := t.banks, ev := t.ev } := by
  generalize broken : s.breakLock b o ((s.bank b).reqs.filter fun r => r.who = o) ((s.bank b).reqs.filter fun r => r.who ≠ o) = u
  have beside : ∃ banks, u.modBank b (fun x => { x with wdog := true }) = { s.setFlag fLockBroken with banks } := broken ▸ ⟨_, rfl⟩
  obtain ⟨t, run, banks, ev, frame⟩ := exec_releases (c := .arbWatchdog b) (code := 0x0304)
    (data := [(1, b.val), (1, o), (1, (s.bank b).ptr)]) idle beside (by simp only [exec, execArbWatchdog, owned, broken])
  have barked : (u.modBank b fun x => { x with wdog := true }).bank b = { u.bank b with wdog := true } :=
    State.bank_modBank_listed fun same => nomatch congrArg Bank.wdog same
  exact ⟨t, run, (congrFun banks b).trans (barked.trans (by rw [← broken, s.bank_breakLock])), ev, frame⟩

theorem exec_lockBroken_free (free : (s.bank b).owner = none) : exec (.lockBroken b) s = .next s := by
  simp only [exec, execLockBroken, free]

theorem exec_arbWatchdog_free (free : (s.bank b).owner = none) : exec (.arbWatchdog b) s = .next s := by
  simp only [exec, execArbWatchdog, free]

theorem exec_scrubOverdue_first (first : (s.bank b).overdue = false) :
    exec (.scrubOverdue b) s = .next ((s.modBank b fun k => { k with overdue := true }).raise 0x0308 [(1, b.val)]) :=
  congrArg _ (if_neg (by simp [first]))

theorem exec_scrubOverdue_again (again : (s.bank b).overdue = true) : exec (.scrubOverdue b) s = .next s :=
  congrArg _ (if_pos again)

end

/-- Nobody but the accumulator and the fault-map writer makes an aborted sequence again (Table 6.6). -/
theorem retryOf_none {o : Nat} (notAcc : o ≠ 8) (notMap : o ≠ 9) (gone : List StoreReq) : retryOf o gone = [] := by
  simp [retryOf, notAcc, notMap]

/-- Settles O39: each decision by whom it grants and what the transfer leaves of the bank, the slot tables by the reads of a written
word, the release of a lock by the bank that it leaves. -/
theorem arbitersFollowTheirSlotTables : Obligations.ArbitersFollowTheirSlotTables := by
  refine ⟨fun k i floor => k.slotOwner_scanOut floor, by decide, ?slotOwner, ?idleSlot, ?locked, ?scrubFix,
    fun s b ready idle free asked frozen => exec_arbiterDecision_frozen ready idle free asked frozen,
    fun s b ready idle free unasked => exec_arbiterDecision_unasked ready idle free unasked,
    fun s b j v unswapped => ⟨withShadowWord j v, exec_slotShadowWrite_taken unswapped j v,
      fun m canonical => slotEntry_withShadowWord canonical j v⟩,
    fun s b j v pending => exec_slotShadowWrite_busy pending j v, fun s b => rfl,
    fun k pending => ⟨Bank.wrap_pending pending, fun later => Bank.wrap_idle (.inr later)⟩,
    fun s b on idle => congrArg Host.Outcome.next (State.serveWaiting_idle idle), ?released,
    fun s b free => ⟨exec_lockBroken_free free, exec_arbWatchdog_free free⟩,
    fun s b => ⟨exec_scrubOverdue_first, exec_scrubOverdue_again⟩⟩
  case slotOwner =>
    intro s b o r ready idle free thawed unswapped slot asks
    obtain ⟨t, run, turn, frame⟩ := exec_arbiterDecision_slotOwner ready idle free thawed unswapped slot asks
    obtain ⟨grant, ptr, reqs, lastIdle⟩ := Bank.turn_eq_iff.mp turn
    exact ⟨t, run, grant, ptr, reqs, lastIdle, frame⟩
  case idleSlot =>
    intro s b m ready idle free thawed unswapped unasked winner
    obtain ⟨t, run, turn, -⟩ := exec_arbiterDecision_idleSlot ready idle free thawed unswapped unasked winner
    obtain ⟨grant, ptr, -, lastIdle⟩ := Bank.turn_eq_iff.mp turn
    exact ⟨t, run, grant, lastIdle, ptr⟩
  case locked =>
    exact fun s b o ready idle owned noFix =>
      ⟨exec_arbiterDecision_ownerSilent ready idle owned noFix, exec_arbiterDecision_owner ready idle owned noFix⟩
  case scrubFix =>
    intro s b o row ready idle owned fix
    obtain ⟨t, run, released, cells, frame⟩ := exec_arbiterDecision_scrubFix ready idle owned fix
    exact ⟨t, run, by rw [released]; rfl, by rw [released]; rfl, by rw [released]; rfl, by rw [released]; rfl, cells, frame⟩
  case released =>
    intro s b o owned idle
    refine ⟨?_, ?_, fun notAcc notMap => retryOf_none notAcc notMap⟩
    · obtain ⟨t, run, released, ev, frame⟩ := exec_lockBroken_owned owned idle
      exact ⟨t, run, by rw [released]; rfl, by rw [released]; rfl, by rw [released]; rfl, by rw [released]; rfl, ev, frame⟩
    · obtain ⟨t, run, released, ev, frame⟩ := exec_arbWatchdog_owned owned idle
      exact ⟨t, run, by rw [released]; rfl, by rw [released]; rfl, by rw [released], by rw [released]; rfl, by rw [released]; rfl, ev,
        frame⟩

end Sys2Proof.Machine
end

section
/-!
PROOFS. A stripe scale that is written back to unity (09 R259), and where the statement on the commands that complete with their
effect fails (O59).
-/
namespace Sys2Proof.Machine

/-- Where the map of stripe scales is canonical a scale in range reads as written. -/
theorem exec_drvStripeWrite_reads {s : State} (canonical : Sparse.wf 0x8000 s.out.stripeNext = true) (leg : s.start.pers = .legacy)
    (c : Fin 64) {v : BitVec 32} (le : v.toNat % 65536 ≤ 0x8000) :
    ∃ t, exec (.drvStripeWrite c v) s = .next t ∧ t.out.stripeNext.get 0x8000 c = v.toNat % 65536 := by
  refine ⟨_, exec_drvStripeWrite_taken leg c le, ?_⟩
  exact (Sparse.get_set _ _ _ _ _ canonical).trans (if_pos rfl)

/-- The legacy personality with stripe 0 dark, in a state outside the canonical form: the stripe is listed twice. -/
def stripeTwice : State := { start := { pers := .legacy }, out := { stripeNext := [(0, 0), (0, 0)] } }

/-- Refutes O59, by its clause on a stripe scale in range: unity is the default value, which removes the entry, so that in
`stripeTwice` the second entry of stripe 0, dark still, is the one that reads. In a canonical map of stripe scales that clause holds
(`exec_drvStripeWrite_reads`). -/
theorem not_commandsCompleteWithTheirEffect : ¬ Obligations.CommandsCompleteWithTheirEffect := by
  rintro ⟨-, stripe, -⟩
  obtain ⟨t, run, unity, -⟩ := stripe stripeTwice 0 0x8000 rfl (by decide)
  rw [exec_drvStripeWrite_taken rfl 0 (by decide)] at run
  cases run
  exact absurd unity (by decide)

end Sys2Proof.Machine
end

section
/-!
PROOFS. At most eight commits are pending over every step (07 R208; O57). A COMMIT joins
only where fewer than eight are pending, the latch point keeps some of them, a POUR and a new time base change them one by one,
an expired wait and a restart drop them; every other operation leaves them.
There is one lemma for each operation that several meanings share, in the order
of the model's files; its proof has the operation's own shape.
-/
namespace Sys2Proof.Machine

/-- At most eight commits are pending (R208). -/
structure FewCommits (s : State) : Prop where
  bounded : s.CommitsBounded

/-- Whatever state an outcome reaches has at most eight commits pending. -/
def FewAfter (o : Host.Outcome State Fault Refusal) : Prop := ∀ t, o = .next t → FewCommits t

section
variable {u v : State}

section
variable {pending : List Instr} {start : Start} {fuse : Fuse} {flash : Flash} {img : Params} {power : Power} {portA portB : Port}
  {selfTest : SelfTest} {link : Link} {linkB : LinkB} {clk : Clocks} {sync : Sync} {grid : Grid} {store : Store} {banks : Sparse Bank}
  {layers : List Layer} {out : Out} {tiles : Sparse Tile} {latches : Sparse (BitVec 13)} {quads : Sparse Quad} {drive : Drive}
  {diag : Diag} {rb : Readback} {cvu : Sparse Cvu} {zones : Zones} {safety : Safety} {thermal : Thermal} {policy : Policy}
  {affin : Affin} {nvm : Nvm} {mp : Mp} {sp : Sp} {svc : Service} {leg : Legacy} {ev : Events} {tap : Tap} {free : Nat}
  {comp : Comp} {pA pB pours : Nat} {w master : Fade} {bound : List Bound} {lastSeq : BitVec 16} {nonzero : Sparse (BitVec 4)}

/-- Any new values of all fields but the pending commits. -/
theorem FewCommits.set (h : FewCommits u) : FewCommits { u with
    pending, start, fuse, flash, img, power, portA, portB, selfTest, link, linkB, clk, sync, grid, store, banks, layers, out, tiles,
    latches, quads, drive, diag, rb, cvu, zones, safety, thermal, policy, affin, nvm, mp, sp, svc, leg, ev, tap, free
    comp := { u.comp with pA, pB, pours, w, master, bound, lastSeq, nonzero } } := ⟨h.bounded⟩

/-- Any new values of all fields but the composition. -/
theorem FewCommits.setBeside (h : FewCommits u) : FewCommits { u with
    pending, start, fuse, flash, img, power, portA, portB, selfTest, link, linkB, clk, sync, grid, store, banks, layers, out, tiles,
    latches, quads, drive, diag, rb, cvu, zones, safety, thermal, policy, affin, nvm, mp, sp, svc, leg, ev, tap, free } :=
  ⟨h.bounded⟩

/-- Any new values of all fields, with no more commits pending. -/
theorem FewCommits.setComp (h : FewCommits u) (fewer : comp.pending.length ≤ u.comp.pending.length) : FewCommits { u with
    pending, start, fuse, flash, img, power, portA, portB, selfTest, link, linkB, clk, sync, grid, store, banks, layers, comp, out,
    tiles, latches, quads, drive, diag, rb, cvu, zones, safety, thermal, policy, affin, nvm, mp, sp, svc, leg, ev, tap, free } :=
  ⟨fewer.trans h.bounded⟩

end

/-- An operation that leaves the composition. -/
theorem FewCommits.of_comp (h : FewCommits u) (same : v.comp = u.comp) : FewCommits v :=
  ⟨(congrArg (·.pending.length) same).trans_le h.bounded⟩

/-! ### The pending commits -/

/-- The judgement of a commit at the latch point leaves pending at most that commit. -/
theorem Pass.length_kept_one_le (g : Nat) (p : Pass) (c : Commit) : (p.one g c).kept.length ≤ p.kept.length + 1 := by
  unfold Pass.one
  dsimp only
  split_ifs <;> simp

theorem Pass.length_kept_foldl_le (g : Nat) (cs : List Commit) (p : Pass) :
    (cs.foldl (Pass.one g) p).kept.length ≤ p.kept.length + cs.length := by
  induction cs generalizing p with
  | nil => exact le_rfl
  | cons c cs ih => calc
      _ ≤ (p.one g c).kept.length + cs.length := ih _
      _ ≤ p.kept.length + 1 + cs.length := Nat.add_le_add_right (p.length_kept_one_le g c) _
      _ = p.kept.length + (c :: cs).length := by rw [List.length_cons]; omega

/-- A pass leaves pending at most the commits that it judges (R209, R210). -/
theorem Pass.length_kept_le (g : Nat) (s : State) (cs : List Commit) :
    (cs.foldl (Pass.one g) { s := s }).kept.length ≤ cs.length := by
  simpa using Pass.length_kept_foldl_le g cs { s := s }

/-- A COMMIT is accepted where fewer than eight are pending (Table 7.7, check 7). -/
theorem State.length_pending_lt_of_commitStatus {mask : Nat} {await : Bool} (ok : u.commitStatus mask await = 0) :
    u.comp.pending.length < 8 := by
  unfold State.commitStatus at ok
  dsimp only at ok
  split_ifs at ok with _ _ _ _ _ _ full
  exact Nat.lt_of_not_le full

section
variable {q t n g k y b row key cause code vc type opcode status len addr step' mv : Nat} {hd : Hdr}
  {payload args data bs : List Byte} {p : PortId} {i : Instr} {f : T512Frame} {lane : Fin 4} {seq : BitVec 12} {on : Bool}
  {arrival rx : Stamp} {why : LinkFail} {src : SvcSrc} {w : Wait} {slot : SlotId} {c : Commit}

/-! ### Rules for the forms that operations are built of -/

theorem FewCommits.ite {c : Prop} [Decidable c] (yes : FewCommits u) (no : FewCommits v) : FewCommits (if c then u else v) := by
  split
  exacts [yes, no]

theorem FewCommits.dite {c : Prop} [Decidable c] {f : c → State} {g : ¬ c → State} (yes : ∀ x, FewCommits (f x))
    (no : ∀ x, FewCommits (g x)) : FewCommits (if x : c then f x else g x) := by
  split
  exacts [yes _, no _]

theorem FewCommits.cond {c : Bool} {f : State → State} (h : FewCommits u) (step : ∀ {v}, FewCommits v → FewCommits (f v)) :
    FewCommits (u.cond c f) :=
  .ite (step h) h

theorem FewCommits.foldl {α : Type} {xs : List α} {f : State → α → State} (h : FewCommits u)
    (step : ∀ {v x}, FewCommits v → FewCommits (f v x)) :
    FewCommits (xs.foldl f u) := by
  induction xs generalizing u with
  | nil => exact h
  | cons x xs ih => exact ih (step h)

theorem FewCommits.forEach {xs : List Nat} {f : State → Nat → State} (h : FewCommits u)
    (step : ∀ {v n}, FewCommits v → FewCommits (f v n)) :
    FewCommits (u.forEach xs f) :=
  .foldl h step

theorem FewAfter.next (h : FewCommits u) : FewAfter (.next u) := fun _ same => Host.Outcome.next.inj same ▸ h

theorem FewAfter.ite {c : Prop} [Decidable c] {o p : Host.Outcome State Fault Refusal} (yes : FewAfter o) (no : FewAfter p) :
    FewAfter (if c then o else p) := by
  split
  exacts [yes, no]

theorem FewCommits.landed {o : Host.Outcome State Fault Refusal} (h : FewCommits u) (lands : FewAfter o) :
    FewCommits (landed u o) := by
  cases o with
  | next t => exact lands t rfl
  | fault => exact h
  | refused => exact h

/-! ### Ops -/

theorem FewCommits.modPort {f : Port → Port} (h : FewCommits u) : FewCommits (u.modPort p f) := by
  unfold State.modPort
  split <;> exact .set h

theorem FewCommits.raiseRatedN {data : List (Nat × Nat)} (h : FewCommits u) : FewCommits (u.raiseRatedN code key n data) :=
  .ite (.set h) (.set h)

theorem FewCommits.raiseRated {data : List (Nat × Nat)} (h : FewCommits u) : FewCommits (u.raiseRated code key data) :=
  .raiseRatedN h

theorem FewCommits.regrid (h : FewCommits u) : FewCommits u.regrid := .ite (.ite (.set h) (.set h)) h
theorem FewCommits.elapse (h : FewCommits u) : FewCommits (u.elapse n) := .ite h (.regrid (.set h))
theorem FewCommits.sendNak (h : FewCommits u) : FewCommits u.sendNak := .ite h (.set h)
theorem FewCommits.emit {bs : List Blk} {cs : List (BitVec 9)} (h : FewCommits u) : FewCommits (u.emit p bs cs) := .modPort h
theorem FewCommits.flushLcbs (h : FewCommits u) : FewCommits u.flushLcbs := .ite h (.emit (.set h))
theorem FewCommits.sendCredit (h : FewCommits u) : FewCommits (u.sendCredit vc) := .ite h (.set h)

theorem FewCommits.freeCredits (h : FewCommits u) : FewCommits (u.freeCredits vc n len) :=
  .ite h (.ite (.sendCredit (.set h)) (.set h))

theorem FewCommits.enqueue {p : TxPkt} (h : FewCommits u) : FewCommits (u.enqueue q p) := .ite (.set h) (.set h)

theorem FewCommits.reply (h : FewCommits u) : FewCommits (u.reply hd type opcode status data) :=
  .ite h (.ite (.enqueue h) (.set h))

theorem FewCommits.checkRun (h : FewCommits u) : FewCommits (u.checkRun n) := .set (.cond h .set)
theorem FewCommits.restoreFor (h : FewCommits u) : FewCommits (u.restoreFor vc type) := .cond h fun h => .set (.cond h .set)

theorem FewCommits.contentFail (h : FewCommits u) : FewCommits (u.contentFail hd vc type opcode status cause len) :=
  .ite (.reply (.restoreFor (.ite (.set h) (.freeCredits (.set h)))))
    (.raiseRated (.restoreFor (.ite (.set h) (.freeCredits (.set h)))))

theorem FewCommits.linkPass (h : FewCommits u) : FewCommits u.linkPass := .ite (.set h) (.set h)
theorem FewCommits.linkOther {q : BitVec 12} (h : FewCommits u) : FewCommits (u.linkOther q) := .ite (.set h) (.sendNak h)

theorem FewCommits.deliver {p : Rx} {credits : Nat} {consume : State → State} (h : FewCommits u)
    (step : ∀ {v}, FewCommits v → FewCommits (consume v)) :
    FewCommits (u.deliver i p credits consume) :=
  .ite (.set h) (.freeCredits (step h))

theorem FewCommits.deliverShared {p : Rx} {consume : State → State} (h : FewCommits u)
    (step : ∀ {v}, FewCommits v → FewCommits (consume v)) :
    FewCommits (u.deliverShared i p n consume) :=
  .ite (.set h) (step (.set h))

theorem FewCommits.route {p : Rx} {consume : State → State} (h : FewCommits u)
    (step : ∀ {v}, FewCommits v → FewCommits (consume v)) :
    FewCommits (u.route i p consume) :=
  .ite (.ite (.deliverShared (.set h) step) (.deliver (.set h) step))
    (.ite (.deliver (.set h) step) (.ite (.set h) (.raiseRated (.freeCredits (.set h)))))

theorem FewCommits.content {p : Rx} {consume : State → State} (h : FewCommits u)
    (step : ∀ {v}, FewCommits v → FewCommits (consume v)) :
    FewCommits (u.content i p consume) :=
  .ite (.raiseRated (.set h)) (.ite (.contentFail h) (.ite (.contentFail h)
    (.ite (.contentFail h) (.ite (.contentFail h) (.route h step)))))

/-! ### LegReg -/

theorem FewCommits.legStatus {bit : Nat} (h : FewCommits u) : FewCommits (u.legStatus bit) := .ite (.set h) h

theorem FewCommits.setTemp {t : Int} (h : FewCommits u) : FewCommits (u.setTemp t) := by
  unfold State.setTemp
  exact .cond (.cond (.set h) .legStatus) .legStatus

/-! ### Nvm -/

theorem FewCommits.flashProgram (h : FewCommits u) : FewCommits (u.flashProgram addr bs) :=
  .of_comp h (congrArg State.comp (u.besideFlash_flashProgram addr bs) :)

theorem FewCommits.flashErase (h : FewCommits u) : FewCommits (u.flashErase addr) :=
  .of_comp h (congrArg State.comp (u.besideFlash_flashErase addr) :)

theorem FewCommits.flashEraseMany (h : FewCommits u) : FewCommits (u.flashEraseMany addr n) := .forEach h .flashErase
theorem FewCommits.nvmRefused {bytes : Nat} (h : FewCommits u) : FewCommits (u.nvmRefused bytes) := .raiseRatedN (.set h)
theorem FewCommits.doReserve (h : FewCommits u) : FewCommits (u.doReserve n) := .ite (.set h) (.set h)

theorem FewCommits.mpWrite {erase : Bool} (h : FewCommits u) : FewCommits (u.mpWrite addr bs erase) :=
  .ite (.nvmRefused (.set h)) (.ite (.nvmRefused (.set h)) (.flashProgram (.cond (.set h) .flashErase)))

theorem FewCommits.flashDo {c : FlashCmd} (h : FewCommits u) : FewCommits (u.flashDo c) := .ite (.flashErase h) (.flashProgram h)
theorem FewCommits.jobDone {j : FlashJob} (h : FewCommits u) : FewCommits (u.jobDone j) := .ite (.set h) (.cond (.set h) .set)

theorem FewAfter.flashCommandDone (h : FewCommits u) : FewAfter (execFlashCommandDone u) := by
  unfold execFlashCommandDone
  split
  exacts [.next h, .next (.jobDone (.flashDo h))]

theorem FewCommits.finishFlash (h : FewCommits u) : FewCommits u.finishFlash := by
  unfold State.finishFlash
  split
  exacts [.set h, .set (.flashDo h)]

/-! ### Power -/

theorem FewCommits.wake (h : FewCommits u) : FewCommits (u.wake q) := .ite h (.set h)
theorem FewCommits.withdrawOff (h : FewCommits u) : FewCommits (u.withdrawOff q) := .cond h fun h => .cond (.set h) .set
theorem FewCommits.setLit (h : FewCommits u) : FewCommits (u.setLit q on) := .cond (.set h) fun h => .wake (.withdrawOff h)
theorem FewCommits.litOnAccept (h : FewCommits u) : FewCommits u.litOnAccept := .forEach h fun h => .ite (.setLit h) h
theorem FewCommits.litAtLatch (h : FewCommits u) : FewCommits u.litAtLatch := .forEach h .setLit

/-! ### Safe -/

theorem FewCommits.sendFill {x0 x1 y0 y1 : Nat} {stall : Bool} (h : FewCommits u) :
    FewCommits (u.sendFill q x0 x1 y0 y1 code stall) :=
  .forEach h fun h => .ite h (.set h)

theorem FewCommits.checkInh (h : FewCommits u) : FewCommits u.checkInh := .cond (.set h) .set
theorem FewCommits.setCut (h : FewCommits u) : FewCommits (u.setCut t row on) := .ite h (.checkInh (.cond (.set h) .set))

theorem FewCommits.paintQuad (h : FewCommits u) : FewCommits (u.paintQuad q) :=
  .of_comp h (congrArg State.comp (u.besidePaint_paintQuad q) :)

theorem FewCommits.startPaint {beam : Bool} (h : FewCommits u) : FewCommits (u.startPaint beam) :=
  .forEach (.forEach (.forEach (.set h) .setCut) fun h => .cond h fun h => .wake (.withdrawOff (.set h))) .paintQuad

theorem FewCommits.repaint (h : FewCommits u) : FewCommits u.repaint := .forEach h .paintQuad
theorem FewCommits.paintAnew (h : FewCommits u) : FewCommits u.paintAnew := .ite h (.ite (.repaint h) (.startPaint h))

theorem FewCommits.changeState {n : SafeState} (h : FewCommits u) : FewCommits (u.changeState n) :=
  .ite h (.ite (.startPaint (.set h)) (.forEach (.set h) .setCut))

theorem FewCommits.judge (h : FewCommits u) : FewCommits u.judge := .ite (.set (.changeState (.set h))) (.changeState (.set h))

theorem FewCommits.setCause {rind : Bool} (h : FewCommits u) : FewCommits (u.setCause rind row on) :=
  .judge (.cond (.ite (.set (.ite (.set h) (.set h))) (.set (.ite (.set h) (.set h)))) .set)

/-! ### Tiles -/

theorem FewCommits.rowTouched {mask : BitVec 128} (h : FewCommits u) : FewCommits (u.rowTouched t row mask) := by
  unfold State.rowTouched
  split
  exacts [.ite (.set h) h, h]

theorem FewCommits.sendCtl {w : Nat} (h : FewCommits u) : FewCommits (u.sendCtl t key w) := .ite (.set h) h

theorem FewCommits.onWord {op : Nat} {w : BitVec 96} {seg : Option Nat} {sig : Nat} {f : Tile → Tile} (h : FewCommits u) :
    FewCommits (u.onWord t key op w seg row sig f) :=
  .ite h (.ite (.set h) (.set h))

theorem FewCommits.onCtl {op : Nat} {w : BitVec 96} {f : Tile → Tile} (h : FewCommits u) : FewCommits (u.onCtl t op w f) :=
  .onWord h

theorem FewCommits.setRequest (h : FewCommits u) : FewCommits (u.setRequest t q) := .cond (.cond (.set h) .sendCtl) .raiseRated

theorem FewAfter.drvTileWrite {t : Fin 64} {v : BitVec 32} (h : FewCommits u) : FewAfter (execDrvTileWrite t v u) :=
  .next (.setRequest h)

theorem FewCommits.busCommand {cmd : Nat} {w : BitVec 64} {nak : Tile → Bool} {f : State → Nat → State} (h : FewCommits u)
    (step : ∀ {v n}, FewCommits v → FewCommits (f v n)) :
    FewCommits (u.busCommand cmd q w nak f) :=
  .ite h (.forEach (.set h) fun h => .set (.ite h (step h)))

theorem FewAfter.fillSweepDone {t : Fin 64} (h : FewCommits u) : FewAfter (execFillSweepDone t u) := by
  refine .ite (.next h) (.next (.set ?_))
  split
  exacts [.rowTouched (.set h), .set h]

theorem FewCommits.darkDone (h : FewCommits u) : FewCommits (u.darkDone q) := .ite (.set h) h

theorem FewCommits.cmdFailed {i : Nat} (h : FewCommits u) : FewCommits (u.cmdFailed q i) :=
  .ite (.set h) (.darkDone (.set (.forEach (.set h) .setCut)))

theorem FewAfter.commandAnswer {q : Fin 4} {a : BitVec 16} (h : FewCommits u) : FewAfter (execCommandAnswer q a u) := by
  refine .ite (.next h) ?_
  split
  · exact .next h
  · exact .ite (.next (.cmdFailed h)) (.ite (.next h) (.next (.darkDone (.set h))))

theorem FewAfter.commandTimeout {q : Fin 4} (h : FewCommits u) : FewAfter (execCommandTimeout q u) := by
  unfold execCommandTimeout
  split
  exacts [.next h, .next (.cmdFailed h)]

theorem FewAfter.offReq {q : Fin 4} (h : FewCommits u) : FewAfter (execOffReq q u) :=
  .ite (.next (.set h)) (.ite (.next (.set h)) (.next (.set h)))

theorem FewAfter.wakeReq {q : Fin 4} (h : FewCommits u) : FewAfter (execWakeReq q u) := .next (.wake (.set h))

theorem FewAfter.drvStripeWrite {c : Fin 64} {v : BitVec 32} (h : FewCommits u) : FewAfter (execDrvStripeWrite c v u) :=
  .ite (.next (.set h)) (.next h)

/-! ### Heat -/

theorem FewCommits.updateBand (h : FewCommits u) : FewCommits (u.updateBand t) := by
  obtain same | ⟨_, _, _, _, moved⟩ := u.updateBand_writes t
  · rwa [same]
  · rw [moved]
    exact .set h

theorem FewCommits.trustStep {ready : Bool} (h : FewCommits u) : FewCommits (u.trustStep t ready) := by
  unfold State.trustStep
  dsimp only
  split
  exacts [.set h, .set h, .ite (.set h) (.ite (.set h) (.set h)), .ite (.set h) (.ite (.set h) (.set h))]

theorem FewCommits.commonMode (h : FewCommits u) : FewCommits (u.commonMode q) := by
  unfold State.commonMode
  dsimp only
  split
  exacts [h, .ite (.set h) (.ite (.set h) (.set h))]

theorem FewCommits.countShutdown (h : FewCommits u) : FewCommits (u.countShutdown t) := .ite (.set h) (.set h)

theorem FewCommits.policyTile {ma : Nat} (h : FewCommits u) : FewCommits (u.policyTile mv ma t) :=
  .ite (.countShutdown (.legStatus (.set (.cond (.set h) .raiseRated)))) (.cond (.set h) .raiseRated)

/-! ### Memory -/

theorem FewCommits.eccGranule (h : FewCommits u) : FewCommits (u.eccGranule g) := .ite (.raiseRated (.set h)) (.ite (.set h) h)
theorem FewCommits.eccHits {gs : List Nat} (h : FewCommits u) : FewCommits (u.eccHits gs) := .forEach h .eccGranule
theorem FewCommits.eccRead (h : FewCommits u) : FewCommits (u.eccRead addr n) := .ite h (.forEach h .eccGranule)

theorem FewCommits.granuleWritten (h : FewCommits u) : FewCommits (u.granuleWritten g) := by
  rw [State.granuleWritten_cells]
  exact .set h

theorem FewCommits.storeBytes (h : FewCommits u) : FewCommits (u.storeBytes addr bs) := by
  rw [State.storeBytes_cells]
  exact .set h

theorem FewCommits.loadBytes (h : FewCommits u) : FewCommits (u.loadBytes addr bs) := by
  rw [State.loadBytes_cells]
  exact .set h

/-! ### Affinage -/

theorem FewCommits.healCounter (h : FewCommits u) : FewCommits (u.healCounter k) := .ite (.set (.loadBytes h)) h
theorem FewCommits.healAll (h : FewCommits u) : FewCommits u.healAll := .of_comp h (congrArg State.comp u.besideFill_healAll :)

theorem FewCommits.chargeBlock {sigma units w : Nat} (h : FewCommits u) : FewCommits (u.chargeBlock k sigma units w) :=
  .ite (.set h) (.ite (.set (.storeBytes (.healCounter (.eccRead (.set h))))) (.storeBytes (.healCounter (.eccRead (.set h)))))

theorem FewCommits.predict {ps : List TilePred} (h : FewCommits u) : FewCommits (u.predict ps) :=
  .setBeside (.forEach h fun h => .cond (.set h) .set)

theorem FewCommits.affReport {ps : List TilePred} (h : FewCommits u) : FewCommits (u.affReport ps) :=
  .setBeside (.forEach (.enqueue h) .enqueue)

theorem FewCommits.reportAtLinkUp (h : FewCommits u) : FewCommits u.reportAtLinkUp := .cond h fun h => .affReport (.healAll h)

theorem FewCommits.saveCopy {magic : Nat} {as : List Nat} (h : FewCommits u) : FewCommits (u.saveCopy magic as data) :=
  .of_comp h (congrArg State.comp (u.besideFlash_saveCopy magic as data) :)

theorem FewCommits.restoreErases (h : FewCommits u) : FewCommits u.restoreErases := by
  unfold State.restoreErases
  split <;> exact .set h

theorem FewCommits.writeSave (h : FewCommits u) : FewCommits u.writeSave :=
  .affReport (.predict (.saveCopy (.set (.flashProgram (.flashProgram (.flashEraseMany (.healAll h)))))))

theorem FewCommits.saveRefused (h : FewCommits u) : FewCommits u.saveRefused := .set h

theorem FewCommits.affSave (h : FewCommits u) : FewCommits u.affSave :=
  .ite (.saveRefused (.nvmRefused (.set h))) (.ite (.writeSave (.setBeside (.doReserve (.set h))))
    (.saveRefused (.nvmRefused (.doReserve h))))

/-! ### Arbiter -/

theorem FewCommits.arrive {reqs : List StoreReq} (h : FewCommits u) : FewCommits (u.arrive b reqs) :=
  .foldl h fun h => .ite (.cond (.set h) .set) (.ite (.set h) (.raiseRated (.set h)))

theorem FewCommits.scrub (h : FewCommits u) : FewCommits (u.scrub b) := by
  unfold State.scrub
  split
  exacts [.ite (.eccRead (.set h)) (.set h), .set (.eccRead h)]

theorem FewCommits.transfer {r : StoreReq} (h : FewCommits u) : FewCommits (u.transfer b r) :=
  .ite (.scrub h) (.ite (.set (.foldl h fun h => .forEach h .storeBytes)) (.set (.forEach h .eccRead)))

theorem FewCommits.grantReq {m : Nat} {idle : Bool} (h : FewCommits u) : FewCommits (u.grantReq b m idle) := by
  unfold State.grantReq
  split
  exacts [h, .transfer (.set h)]

theorem FewCommits.arbitrate (h : FewCommits u) : FewCommits (u.arbitrate b) := by
  unfold State.arbitrate
  dsimp only
  split
  · split
    · exact .foldl (.set h) .granuleWritten
    · exact .ite (.grantReq h) (.set h)
  · refine .ite (.set h) (.ite (.set h) ?_)
    split
    · refine .ite (.grantReq (.set h)) ?_
      split
      · exact .grantReq (.set h)
      · exact .set h
    · split
      exacts [.grantReq (.set h), .set h]

theorem FewAfter.slotShadowWrite {b : Fin 16} {j : Fin 8} {v : BitVec 32} (h : FewCommits u) :
    FewAfter (execSlotShadowWrite b j v u) :=
  .ite (.next (.set h)) (.next (.set h))

theorem FewAfter.swap {b : Fin 16} (h : FewCommits u) : FewAfter (execSwap b u) := .next (.set h)

/-! ### Scan -/

theorem FewCommits.keepRow (h : FewCommits u) : FewCommits (u.keepRow y) := .ite h (.storeBytes h)
theorem FewCommits.rowLights {codes : List Nat} (h : FewCommits u) : FewCommits (u.rowLights y codes) := .cond (.cond h .set) .set

theorem FewCommits.fullRow {residue : List Nat} (h : FewCommits u) : FewCommits (u.fullRow residue y) :=
  .ite (.setBeside (.keepRow (.eccHits (.cond h .set)))) (.rowLights (.storeBytes (.eccHits (.cond h .set))))

theorem FewCommits.keepAliveRow {residue : List Nat} (h : FewCommits u) : FewCommits (u.keepAliveRow residue y) :=
  .ite (.set (.eccRead (.cond h .set))) (.eccRead (.cond h .set))

theorem FewCommits.chargeStep (h : FewCommits u) : FewCommits (u.chargeStep step') :=
  .ite h (.forEach h fun h => .forEach h .chargeBlock)

theorem FewCommits.releaseSeg {whole : List Nat} (h : FewCommits u) : FewCommits (u.releaseSeg whole step' t) :=
  .ite h (.ite h (.ite (.set h) (.set h)))

theorem FewCommits.judgeLines (h : FewCommits u) : FewCommits u.judgeLines :=
  .ite (.ite (.setCause (.set h)) (.set h)) (.ite (.setCause (.set h)) (.set h))

theorem FewCommits.stepDone (h : FewCommits u) : FewCommits (u.stepDone step') :=
  .ite (.judgeLines (.ite (.set (.chargeStep h)) (.set (.chargeStep h)))) (.set (.chargeStep h))

theorem FewCommits.starve {bank : Nat} (h : FewCommits u) : FewCommits (u.starve bank) :=
  .stepDone (.ite (.ite (.forEach h .keepRow) h) (.set (.ite (.forEach h .keepRow) h)))

theorem FewAfter.scanStepRelease {residueRows : List Nat} (h : FewCommits u) : FewAfter (execScanStepRelease residueRows u) := by
  refine .ite (.next h) (.ite (.next (.starve h)) ?_)
  split
  · exact .next (.starve h)
  · exact .next (.stepDone (.forEach (.forEach h fun h => .ite (.fullRow h) (.keepAliveRow h)) .releaseSeg))

/-! ### Diagnosis -/

theorem FewCommits.setMapped {p : Nat} (h : FewCommits u) : FewCommits (u.setMapped p on) := .storeBytes (.eccRead h)

theorem FewCommits.blockUpdate (h : FewCommits u) : FewCommits (u.blockUpdate k) :=
  .ite h (.cond (.cond (.set h) fun h => .set (.legStatus h)) .set)

theorem FewCommits.stuckChange {p : Nat} {enters : Bool} (h : FewCommits u) : FewCommits (u.stuckChange p enters) :=
  .ite (.set h) (.ite (.set h) (.setCause h))

theorem FewCommits.listCause {p : Nat} (h : FewCommits u) : FewCommits (u.listCause p) := .ite (.set h) (.ite h (.set h))

theorem FewCommits.enterMap {p : Nat} (h : FewCommits u) : FewCommits (u.enterMap p cause) :=
  .blockUpdate (.cond (.listCause (.set (.setMapped h))) .stuckChange)

theorem FewCommits.measured {p : Nat} {fail : Bool} (h : FewCommits u) : FewCommits (u.measured p cause fail) :=
  .ite (.ite (.set h) (.ite (.cond (.set h) .eccRead) (.enterMap (.set h))))
    (.ite (.set h) (.ite (.set h) (.ite (.cond (.set h) .eccRead)
    (.blockUpdate (.cond (.set (.setMapped (.set h))) .stuckChange)))))

theorem FewCommits.stallGood {f : BitVec 16} (h : FewCommits u) : FewCommits (u.stallGood f key) := by
  unfold State.stallGood
  split
  exacts [.ite (.set h) h, h]

theorem FewCommits.judgeBad {x : SegRec} {reason : Nat} {sig : BitVec 16} (h : FewCommits u) :
    FewCommits (u.judgeBad x reason sig) :=
  .cond (.ite (.set h) (.raiseRated (.set h))) .setCause

theorem FewAfter.readback {t : Fin 64} {w : BitVec 48} (h : FewCommits u) : FewAfter (execReadback t w u) := by
  refine .ite (.next h) ?_
  split
  · exact .next h
  · refine .next ?_
    split
    exacts [.cond (.stallGood (.set h)) .setCause, .cond (.judgeBad (.set h)) .set]

theorem FewAfter.readbackTimeout (h : FewCommits u) : FewAfter (execReadbackTimeout u) := by
  unfold execReadbackTimeout
  split
  exacts [.next h, .next (.ite (.judgeBad (.set h)) (.set h))]

theorem FewAfter.crcGenCheck (h : FewCommits u) : FewAfter (execCrcGenCheck u) := by
  refine .ite (.next h) ?_
  split
  · exact .next h
  · exact .ite (.next (.judgeBad (.set (.eccRead h)))) (.ite (.next (.set (.eccRead h))) (.next (.setCause (.set (.eccRead h)))))

theorem FewCommits.sendResult {start : Nat} (h : FewCommits u) : FewCommits (u.sendResult t cause start) := .sendCtl h

theorem FewCommits.takeResult {start : Nat} (h : FewCommits u) : FewCommits (u.takeResult t cause start) := by
  unfold State.takeResult
  dsimp only
  split
  · exact .ite (.sendResult (.forEach h .measured)) (.cond (.forEach h .measured) .sendResult)
  · exact .cond (.forEach h .measured) .sendResult

theorem FewAfter.measPeriodEnd {t : Fin 64} {opens shorts stuck : BitVec 128} (h : FewCommits u) :
    FewAfter (execMeasPeriodEnd t opens shorts stuck u) := by
  unfold execMeasPeriodEnd
  split
  · exact .next h
  · exact .ite (.next (.set h)) (.next (.sendResult (.cond (.set h) fun h => .ite (.set h) (.set h))))

theorem FewCommits.nextGap (h : FewCommits u) : FewCommits (u.nextGap q) := by
  unfold State.nextGap
  split
  exacts [.sendCtl (.set h), h]

theorem FewAfter.diagMapReport (h : FewCommits u) : FewAfter (execDiagMapReport u) :=
  .ite (.next h) (.ite (.next (.ite h (.setBeside (.foldl (.cond h fun h => .setBeside (.foldl h .enqueue)) .enqueue))))
    (.ite (.next h) (.ite (.next (.set h)) (.next (.set (.foldl h .enqueue))))))

theorem FewAfter.diagCtrlWrite {v : BitVec 32} (h : FewCommits u) : FewAfter (execDiagCtrlWrite v u) := .next (.set h)

/-! ### Link -/

theorem FewCommits.freeForwarded {ps : List FwdPkt} (h : FewCommits u) : FewCommits (u.freeForwarded ps) :=
  .foldl h fun h => .ite h (.freeCredits h)

theorem FewCommits.dropForwarded (h : FewCommits u) : FewCommits u.dropForwarded := .freeForwarded (.set h)
theorem FewCommits.portBDown (h : FewCommits u) : FewCommits (u.portBDown cause) := .set (.dropForwarded h)
theorem FewCommits.holdPortB (h : FewCommits u) : FewCommits u.holdPortB := .set (.dropForwarded h)
theorem FewCommits.startPortB (h : FewCommits u) : FewCommits u.startPortB := .ite (.set h) h
theorem FewCommits.roleConflict (h : FewCommits u) : FewCommits (u.roleConflict p) := .ite h (.setBeside (.modPort h))
theorem FewCommits.toDeskew (h : FewCommits u) : FewCommits (u.toDeskew p) := .ite (.modPort h) h
theorem FewCommits.endSession (h : FewCommits u) : FewCommits u.endSession := .ite (.set h) h
theorem FewCommits.tbGo {n : TbState} (h : FewCommits u) : FewCommits (u.tbGo n) := .ite h (.set h)
theorem FewCommits.tbHold (h : FewCommits u) : FewCommits u.tbHold := .ite (.tbGo (.set h)) h
theorem FewCommits.latchByFraming (h : FewCommits u) : FewCommits u.latchByFraming := .ite (.set h) h
theorem FewCommits.linkUpNow (h : FewCommits u) : FewCommits u.linkUpNow := .startPortB (.ite (.latchByFraming (.set h)) (.set h))

theorem FewCommits.linkLost (h : FewCommits u) : FewCommits u.linkLost :=
  .cond (.cond (.cond (.set (.tbHold (.holdPortB (.set h)))) .set) .set) .endSession

theorem FewCommits.linkDown (h : FewCommits u) : FewCommits (u.linkDown cause) := .set (.linkLost h)

theorem FewCommits.startRepair {surviving : BitVec 4} (h : FewCommits u) : FewCommits (u.startRepair surviving cause) :=
  .ite (.linkDown h) (.flushLcbs (.sendNak (.set h)))

theorem FewCommits.laneLost {lane : Nat} {squelchLost : Bool} (h : FewCommits u) : FewCommits (u.laneLost lane squelchLost) :=
  .ite (.set h) (.ite (.startRepair (.set h)) (.set h))

theorem FewCommits.linkFailed (h : FewCommits u) : FewCommits (u.linkFailed why seq) :=
  .ite (.linkDown (.set h)) (.sendNak (.set h))

theorem FewCommits.receive {p : Rx} {consume : State → State} (h : FewCommits u)
    (step : ∀ {v}, FewCommits v → FewCommits (consume v)) :
    FewCommits (u.receive i p consume) :=
  .ite h (.ite (.restoreFor (.linkFailed h)) (.ite (.restoreFor (.linkOther h))
    (.ite (.restoreFor (.linkFailed h)) (.content (.linkPass h) step))))

theorem FewCommits.freeShared (h : FewCommits u) : FewCommits (u.freeShared w) := by
  unfold State.freeShared
  split
  exacts [.freeCredits h, .ite (.set h) (.freeCredits h)]

theorem FewCommits.sendNakB (h : FewCommits u) : FewCommits u.sendNakB := .ite h (.set h)
theorem FewCommits.linkOtherB {q : BitVec 12} (h : FewCommits u) : FewCommits (u.linkOtherB q) := .ite (.set h) (.sendNakB h)

theorem FewCommits.linkFailedB (h : FewCommits u) : FewCommits (u.linkFailedB why seq) :=
  .ite (.portBDown (.set h)) (.sendNakB (.set h))

theorem FewCommits.freeCreditsB (h : FewCommits u) : FewCommits (u.freeCreditsB vc n) := .ite (.set h) (.set h)

/-! ### Schedule -/

theorem FewCommits.bindTime {w : Int} (h : FewCommits u) : FewCommits (u.bindTime w).1 := by
  unfold State.bindTime
  split
  exacts [.set h, h]

/-- What binds pending actions again renames their instants alone (R158). -/
theorem FewCommits.rebindPours (h : FewCommits u) : FewCommits u.rebindPours :=
  .foldl h fun h => .ite h (.setComp (.bindTime h) (List.length_map ..).le)

theorem FewCommits.afterStep (h : FewCommits u) : FewCommits u.afterStep :=
  .regrid (.rebindPours (.ite (.setComp h (List.length_map ..).le) h))

theorem FewCommits.stepTb0 {off : Int} (h : FewCommits u) : FewCommits (u.stepTb0 off) :=
  .ite h (.afterStep (.set (.cond (.set h) fun h => .setComp h (List.length_map ..).le)))

/-! ### Latch -/

theorem FewCommits.judgeStale (h : FewCommits u) : FewCommits u.judgeStale := by
  unfold State.judgeStale
  exact .cond h .setCause

/-- The latch point leaves pending the commits that its pass keeps (R209, R210). -/
theorem FewCommits.commitsAt (h : FewCommits u) : FewCommits (u.commitsAt g).1 := by
  refine .judgeStale (.foldl ⟨(Pass.length_kept_le ..).trans ?_⟩ .set)
  exact (List.length_filter_le ..).trans h.bounded

theorem FewCommits.showSlot {slot1 : Bool} (h : FewCommits u) : FewCommits (u.showSlot slot1) := .set (.legStatus (.set h))
theorem FewCommits.showsAt (h : FewCommits u) : FewCommits (u.showsAt g).1 := .cond (.cond h .showSlot) .showSlot
theorem FewCommits.lightAt (h : FewCommits u) : FewCommits (u.lightAt g) := .cond (.cond (.set h) .set) .set

theorem FewCommits.applyProfile {ms : Nat} {curve : Bool} (h : FewCommits u) : FewCommits (u.applyProfile n ms curve) := by
  refine .set (.cond (.setComp h ?_) .set)
  dsimp only
  split
  · exact le_rfl
  · split <;> exact le_rfl

theorem FewCommits.requestsAt (h : FewCommits u) : FewCommits (u.requestsAt g) := by
  have asked : FewCommits { u with comp := { u.comp with bound := u.comp.bound.filter fun b => !decide (b.due ≤ g) } } := .set h
  unfold State.requestsAt
  dsimp only
  split
  · refine .set ?_
    split
    exacts [.applyProfile asked, asked]
  · split
    exacts [.applyProfile asked, asked]

theorem FewCommits.fadesAt (h : FewCommits u) : FewCommits u.fadesAt := .cond (.set h) .set

theorem FewCommits.swapSet (h : FewCommits u) : FewCommits u.swapSet := by
  unfold State.swapSet
  split
  exacts [h, .ite (.set h) (.set h)]

theorem FewCommits.eachReady {f : State → Nat → State} (h : FewCommits u)
    (step : ∀ {v n}, FewCommits v → FewCommits (f v n)) :
    FewCommits (u.eachReady f) :=
  .forEach h fun h => .cond h step

theorem FewCommits.withdraw (h : FewCommits u) : FewCommits u.withdraw := .eachReady (.set h) .set
theorem FewCommits.takeOver (h : FewCommits u) : FewCommits u.takeOver := .changeState (.forEach (.eachReady (.set h) .set) .set)

theorem FewCommits.handoverAt {applied : Bool} (h : FewCommits u) : FewCommits (u.handoverAt applied) :=
  .ite h (.ite (.takeOver h) (.withdraw h))

theorem FewCommits.sendTiming {p : Nat} {set : Bool} (h : FewCommits u) : FewCommits (u.sendTiming p set) :=
  .forEach h fun h => .sendCtl (.cond h .sendCtl)

theorem FewCommits.timeTiles (h : FewCommits u) : FewCommits u.timeTiles := .ite h (.sendTiming (.set h))
theorem FewCommits.pwmRow (h : FewCommits u) : FewCommits u.pwmRow := .cond (.set h) .set

theorem FewCommits.decideKind {m : ModeP} {trans : Bool} (h : FewCommits u) : FewCommits (u.decideKind m trans) :=
  .cond (.cond (.set h) .set) .set

theorem FewCommits.mergeShows (h : FewCommits u) : FewCommits (u.mergeShows g) := by
  unfold State.mergeShows
  split <;> exact .set h

theorem FewCommits.carryOver {g' : Nat} (h : FewCommits u) : FewCommits (u.carryOver g g') :=
  .mergeShows (.setBeside (.foldl (.setComp h (List.length_map ..).le) fun h => .setComp (.bindTime h) (List.length_map ..).le))

theorem FewCommits.stripesAt (h : FewCommits u) : FewCommits u.stripesAt := .ite (.set h) h
theorem FewCommits.wakesAt (h : FewCommits u) : FewCommits u.wakesAt := .forEach h fun h => .ite (.set h) h

theorem FewCommits.applyAt (h : FewCommits u) : FewCommits (u.applyAt g) :=
  .lightAt (.requestsAt (.handoverAt (.showsAt (.commitsAt h))))

theorem FewCommits.latchNow (h : FewCommits u) : FewCommits u.latchNow := by
  have frame {v : State} {g l : Nat} (h : FewCommits v) : FewCommits
      ((((((v.nextGrid g l).applyAt g).stripesAt).pwmRow.fadesAt).litAtLatch).wakesAt).swapSet.spansAt :=
    .setBeside (.swapSet (.wakesAt (.litAtLatch (.fadesAt (.pwmRow (.stripesAt (.applyAt (.set h))))))))
  unfold State.latchNow
  dsimp only
  split
  · exact .ite (.decideKind (.setBeside (.wakesAt (.stripesAt
      (.litAtLatch (.fadesAt (.pwmRow (.cond (.setBeside (.carryOver (.set h))) .withdraw)))))))) (.decideKind (frame (.set h)))
  · exact .decideKind (frame (.set h))

/-! ### LegEnter -/

theorem FewCommits.enterLegacy (h : FewCommits u) : FewCommits u.enterLegacy := .set (.set h)

theorem FewCommits.latchAndEnter (h : FewCommits u) : FewCommits u.latchAndEnter :=
  .ite (.enterLegacy (.latchByFraming h)) (.latchByFraming h)

/-! ### Surfaces -/

theorem FewCommits.takeWrite {off corrected : Nat} {bad : List Nat} (h : FewCommits u) :
    FewCommits (u.takeWrite n off data corrected bad) :=
  .set (.cond (.set (.cond (.cond (.cond (.checkRun h) .raiseRated) .set) .storeBytes)) fun h => .forEach h .set)

theorem FewCommits.takeComplete (h : FewCommits u) : FewCommits (u.takeComplete hd n payload arrival) :=
  .ite (.reply (.setBeside (.checkRun h))) (.ite (.reply (.setBeside (.checkRun h)))
    (.ite (.reply (.setBeside (.checkRun h))) (.ite (.reply (.setBeside (.setBeside (.checkRun h))))
    (.set (.reply (.setBeside (.checkRun h)))))))

theorem FewCommits.takeDescriptor (h : FewCommits u) : FewCommits (u.takeDescriptor hd payload) :=
  .ite (.reply h) (.ite (.reply h) (.ite (.reply h) (.reply (.set h))))

/-- A COMMIT that joins the pending ones leaves at most eight (R208). -/
theorem FewCommits.takeCommit (h : FewCommits u) : FewCommits (u.takeCommit hd payload arrival) := by
  by_cases ok : u.commitStatus (fieldAt payload 2 2 % 4096) (bitOf (fieldAt payload 4 1) 0) = 0
  · obtain ⟨_, _, _, joined⟩ := u.joinCommit_frame payload arrival
    rw [State.takeCommit_joins ok, joined]
    refine .reply ⟨?_⟩
    simpa using State.length_pending_lt_of_commitStatus ok
  · rw [State.takeCommit, if_pos ok]
    exact .reply h

/-- A POUR releases commits that stay pending (R230). -/
theorem FewCommits.takePour {now : Nat} (h : FewCommits u) : FewCommits (u.takePour hd payload now) :=
  .ite (.reply h) (.ite (.reply h) (.ite (.reply h) (.ite (.set h)
    (.setComp (.bindTime (.cond h .set)) (List.length_map ..).le))))

/-! ### Legacy -/

theorem FewCommits.legWrite {due : Nat} {v : Byte} (h : FewCommits u) : FewCommits (u.legWrite due addr v) :=
  .ite (.setBeside (.forEach (.set h) .set)) (.ite h (.ite (.set (.cond (.set h) .set)) (.cond (.set h) .set)))

theorem FewCommits.legRead (h : FewCommits u) : FewCommits (u.legRead addr).1 := by
  simp only [State.legRead, apply_ite Prod.fst]
  exact .ite h (.ite h (.ite (.set h) (.ite h (.ite h (.ite (.set h)
      (.ite (.set h) (.ite (.set h) (.ite h (.ite (.set h) (.ite h (.ite (.set h) (.ite h h))))))))))))

theorem FewCommits.legReads {first count : Nat} (h : FewCommits u) : FewCommits (u.legReads first count).1 := by
  unfold State.legReads
  have reads (is : List Nat) (p : State × List Byte) (h : FewCommits p.1) :
      FewCommits (is.foldl (fun p i => ((p.1.legRead (first + i)).1, p.2 ++ [(p.1.legRead (first + i)).2])) p).1 := by
    induction is generalizing p with
    | nil => exact h
    | cons i is ih => exact ih _ (.legRead h)
  exact reads _ _ h

theorem FewCommits.ackT512 (h : FewCommits u) : FewCommits (u.ackT512 type f status) := .cond (.set h) .set
theorem FewCommits.takeShow {seq : Byte} (h : FewCommits u) : FewCommits (u.takeShow seq arrival) := .cond (.set h) .set

theorem FewCommits.takeRegWrite (h : FewCommits u) : FewCommits (u.takeRegWrite f arrival) :=
  .ite (.ackT512 (.foldl h .legWrite)) (.ackT512 h)

theorem FewCommits.takeRegRead (h : FewCommits u) : FewCommits (u.takeRegRead f) := .ite (.set (.legReads h)) (.ackT512 h)

theorem FewCommits.takeLines (h : FewCommits u) : FewCommits (u.takeLines f arrival) :=
  .ite (.ackT512 (.cond (.forEach h fun h => .cond (.set h) .storeBytes) .takeShow)) (.ackT512 h)

theorem FewCommits.takeShowFrame (h : FewCommits u) : FewCommits (u.takeShowFrame f arrival) :=
  .ite (.ackT512 h) (.ite (.ackT512 h) (.ackT512 (.takeShow h)))

theorem FewCommits.takeFrame (h : FewCommits u) : FewCommits (u.takeFrame type f arrival) := by
  refine .ite ?_ (.ite (.takeRegWrite (.set h)) (.ite (.takeRegRead (.set h))
      (.ite (.takeLines (.set h)) (.ite (.takeShowFrame (.set h))
      (.ite (.ite (.set h) (.ackT512 (.set h))) (.ackT512 (.set h)))))))
  split
  exacts [.set h, h]

theorem FewCommits.nakFrame {noRoom : Bool} (h : FewCommits u) : FewCommits (u.nakFrame noRoom) :=
  .ite (.linkDown (.raiseRated (.set (.legStatus (.set (.cond h .set)))))) (.raiseRated (.set (.legStatus (.set (.cond h .set)))))

theorem FewCommits.frameIn (h : FewCommits u) : FewCommits (u.frameIn i type f) :=
  .ite h (.ite (.nakFrame h) (.ite (.set h) (.takeFrame (.set h))))

theorem FewAfter.hs {sets : Nat} (h : FewCommits u) : FewAfter (execHs sets u) :=
  .ite (.next h) (.ite (.ite (.next (.set h)) (.next (.ite (.set (.cond (.linkUpNow h) .set)) (.cond (.linkUpNow h) .set))))
    (.ite (.next (.linkDown h)) (.next h)))

/-! ### Channels -/

theorem FewCommits.dropCand (h : FewCommits u) : FewCommits (u.dropCand cause) := by
  unfold State.dropCand
  split
  exacts [.set h, h]

theorem FewCommits.takePlain (h : FewCommits u) : FewCommits (u.takePlain hd payload) := by
  unfold State.takePlain
  dsimp only
  split
  exacts [.reply (.set (.dropCand (.cond h .dropCand))), .set (.reply (.set (.dropCand (.cond h .dropCand))))]

theorem FewCommits.confirmList {z : ZoneList} (h : FewCommits u) : FewCommits (u.confirmList z) :=
  .set (.foldl (.set h) fun h => .cond h .set)

theorem FewCommits.takeCompl (h : FewCommits u) : FewCommits (u.takeCompl hd payload) := by
  unfold State.takeCompl
  dsimp only
  split
  · exact .set (.reply (.cond h .dropCand))
  · split
    · exact .dropCand (.reply (.cond h .dropCand))
    · exact .ite (.reply (.confirmList (.cond h .dropCand))) (.dropCand (.reply (.cond h .dropCand)))

theorem FewCommits.foundDiff (h : FewCommits u) : FewCommits u.foundDiff := .cond (.raiseRated (.set h)) .setCause

theorem FewCommits.compareTick (h : FewCommits u) : FewCommits u.compareTick :=
  .ite (.foundDiff (.set h)) (.ite (.setCause (.set h)) (.set h))

theorem FewCommits.blank {rs : List (Nat × Nat × Nat × Nat)} (h : FewCommits u) : FewCommits (u.blank rs) :=
  .forEach h fun h => .ite h (.foldl (.set h) .sendFill)

theorem FewAfter.stallBlank (h : FewCommits u) : FewAfter (execStallBlank u) := by
  unfold execStallBlank
  split
  · exact .next h
  · exact .ite (.next (.set h)) (.ite (.next (.setCause (.set h))) (.next (.cond (.set (.blank (.set h))) .setCause)))

theorem FewCommits.recoverNow (h : FewCommits u) : FewCommits u.recoverNow.1 := by
  unfold State.recoverNow
  split
  · exact h
  · split <;> exact .set h

/-! ### Lanes -/

theorem FewCommits.toSweep (h : FewCommits u) : FewCommits (u.toSweep p) := by
  unfold State.toSweep
  split <;> exact .set h

theorem FewAfter.receiverDetectionDone {r : Detect} (h : FewCommits u) : FewAfter (execReceiverDetectionDone p lane r u) := by
  unfold execReceiverDetectionDone
  split
  · exact .ite (.next (.ite (.toSweep (.set h)) (.set h))) (.ite (.next (.set h)) (.next (.set h)))
  · exact .ite (.next (.ite (.toSweep (.cond (.set h) .set)) (.ite (.set (.cond (.set h) .set)) (.cond (.set h) .set))))
      (.next (.cond (.set h) .set))

theorem FewAfter.squelchClose (h : FewCommits u) : FewAfter (execSquelchClose p lane u) := by
  unfold execSquelchClose
  split
  exacts [.next (.laneLost h), .next (.ite (.portBDown (.set h)) (.set h))]

theorem FewAfter.commaAligned {t512 : Bool} (h : FewCommits u) : FewAfter (execCommaAligned p lane t512 u) := by
  refine .ite (.ite (.next (.modPort h)) ?_) (.next h)
  split
  · exact .next (.ite (.modPort h) (.modPort (.modPort h)))
  · exact .ite (.ite (.next (.set h)) (.next (.ite (.modPort h) (.set h))))
      (.ite (.next (.set h)) (.next (.ite (.modPort h) (.set h))))

theorem FewAfter.laneFault (h : FewCommits u) : FewAfter (execLaneFault p lane u) := by
  unfold execLaneFault
  split
  exacts [.next (.laneLost h), .next (.ite (.portBDown (.set h)) (.set h))]

theorem FewCommits.startLoopback {kind lane : Nat} (h : FewCommits u) : FewCommits (u.startLoopback kind lane) :=
  .set (.linkLost h)

theorem FewCommits.conflictB (h : FewCommits u) : FewCommits u.conflictB := .roleConflict (.modPort h)

theorem FewAfter.tsA {w0 : BitVec 64} (h : FewCommits u) : FewAfter (execTsA p lane w0 u) := by
  refine .ite (.next (.modPort (.toDeskew h))) ?_
  split
  · exact .ite (.ite (.next (.conflictB (.toDeskew h))) (.next (.set (.toDeskew h)))) (.next (.toDeskew h))
  · exact .ite (.next (.toDeskew h)) (.ite (.next (.roleConflict (.toDeskew h)))
      (.ite (.next (.linkDown (.toDeskew h))) (.ite (.next (.startLoopback (.set (.toDeskew h)))) (.next (.set (.toDeskew h))))))

theorem FewAfter.tsB {blocks : List (Fin 4 × Nat × BitVec 64)} (h : FewCommits u) : FewAfter (execTsB p blocks u) := by
  unfold execTsB
  dsimp only
  split
  · split
    · exact .next (.modPort (.toDeskew h))
    · exact .ite (.next (.modPort (.toDeskew h))) (.ite (.next (.conflictB (.modPort (.toDeskew h))))
        (.next (.set (.toDeskew h))))
  · exact .ite (.next (.modPort (.toDeskew h))) (.ite (.next (.roleConflict (.modPort (.toDeskew h))))
      (.ite (.next (.set (.toDeskew h))) (.next (.modPort (.toDeskew h)))))

theorem FewAfter.tsEnd {blocks : List (Fin 4 × BitVec 64)} (h : FewCommits u) : FewAfter (execTsEnd p blocks u) := by
  unfold execTsEnd
  dsimp only
  split
  · split
    · exact .next (.modPort h)
    · exact .ite (.next (.conflictB (.modPort h))) (.ite (.next (.modPort h))
        (.ite (.next (.set h)) (.ite (.next (.set h)) (.next (.modPort h)))))
  · exact .ite (.ite (.next (.set h)) (.next (.set h))) (.next (.set h))

/-! ### TimeSync -/

theorem FewCommits.takeSync (h : FewCommits u) : FewCommits (u.takeSync payload rx) := .ite (.set h) (.set (.cond h .set))

theorem FewCommits.delayDue {t1 t2 cs : Int} (h : FewCommits u) : FewCommits (u.delayDue t1 t2 cs) :=
  .ite (.set h) (.ite (.set (.enqueue (.set h))) (.set h))

theorem FewCommits.afterAccept {off : Int} {epochStep : Bool} (h : FewCommits u) : FewCommits (u.afterAccept off epochStep) := by
  unfold State.afterAccept
  dsimp only
  split
  exacts [.tbGo h, .tbGo h, .ite (.tbGo h) (.set h), .ite (.tbGo h) h]

theorem FewCommits.stepSample {off : Int} {y : SyncRx} {ep : BitVec 8} {epochStep : Bool} (h : FewCommits u) :
    FewCommits (u.stepSample off y ep epochStep) :=
  .afterAccept (.set (.stepTb0 h))

theorem FewCommits.sample {off : Int} {y : SyncRx} {ep : BitVec 8} (h : FewCommits u) : FewCommits (u.sample off y ep) :=
  .ite (.stepSample (.cond h .set)) (.ite (.ite (.stepSample (.cond h .set)) (.set (.cond h .set)))
    (.afterAccept (.set (.cond (.set (.cond h .set)) .set))))

theorem FewCommits.takeFollowUp (h : FewCommits u) : FewCommits (u.takeFollowUp payload rx) := by
  unfold State.takeFollowUp
  split
  exacts [h, .ite h (.delayDue (.ite (.set h) (.sample (.set h))))]

theorem FewCommits.takeDelayResp (h : FewCommits u) : FewCommits (u.takeDelayResp payload rx) := by
  unfold State.takeDelayResp
  split
  · exact h
  · exact .ite h (.ite (.set h) (.ite (.set h) (.ite (.set h) (.set h))))

/-! ### Requests -/

theorem FewCommits.answerReq (h : FewCommits u) : FewCommits (u.answerReq hd opcode status data) := .reply h

theorem FewCommits.takeStatusRead (h : FewCommits u) : FewCommits (u.takeStatusRead hd args) := by
  refine .ite (.answerReq h) ?_
  split
  exacts [.answerReq h, .cond (.answerReq h) .set]

theorem FewCommits.takeModeSelect (h : FewCommits u) : FewCommits (u.takeModeSelect hd args arrival) :=
  .ite (.answerReq h) (.ite (.answerReq h) (.ite (.answerReq h) (.answerReq (.set h))))

theorem FewCommits.takeProfileSelect (h : FewCommits u) : FewCommits (u.takeProfileSelect hd args arrival) :=
  .ite (.answerReq h) (.ite (.answerReq h) (.ite (.answerReq h) (.ite (.answerReq h) (.answerReq (.litOnAccept (.set h))))))

theorem FewCommits.takeMasterDimmer (h : FewCommits u) : FewCommits (u.takeMasterDimmer hd args arrival) :=
  .ite (.answerReq h) (.ite (.answerReq h) (.ite (.answerReq h) (.answerReq (.litOnAccept (.set h)))))

theorem FewCommits.takeAddrSet (h : FewCommits u) : FewCommits (u.takeAddrSet hd args) :=
  .ite (.answerReq h) (.ite (.answerReq h) (.ite h (.ite (.answerReq h) (.set (.ite (.enqueue h) (.set h))))))

theorem FewCommits.takeRecover (h : FewCommits u) : FewCommits (u.takeRecover hd args) :=
  .ite (.answerReq h) (.ite (.answerReq h) (.ite (.answerReq h) (.answerReq (.recoverNow h))))

theorem FewCommits.takeEcho (h : FewCommits u) : FewCommits (u.takeEcho hd args) := .ite (.answerReq h) (.answerReq h)

/-! ### Service -/

theorem FewCommits.answerSvc (h : FewCommits u) : FewCommits (u.answerSvc src opcode status data) := by
  unfold State.answerSvc
  split
  exacts [.reply h, .set h]

theorem FewCommits.service {who : Nat} {consume : State → State} (h : FewCommits u)
    (step : ∀ {v}, FewCommits v → FewCommits (consume v)) :
    FewCommits (u.service i src opcode args who consume) := by
  unfold State.service
  split
  exacts [.receive h step, .ite h (.ite (.set h) (step h))]

theorem FewCommits.takeUnlockReq (h : FewCommits u) : FewCommits (u.takeUnlockReq src args) :=
  .ite (.answerSvc h) (.ite (.answerSvc h) (.ite (.answerSvc h) (.answerSvc (.set h))))

theorem FewCommits.takeUnlockResp (h : FewCommits u) : FewCommits (u.takeUnlockResp src args) := by
  refine .ite (.answerSvc h) (.ite (.answerSvc h) ?_)
  split
  · exact .answerSvc h
  · exact .ite (.answerSvc h) (.ite (.answerSvc (.set h)) (.answerSvc (.set h)))

theorem FewCommits.takeSessionEnd (h : FewCommits u) : FewCommits (u.takeSessionEnd src args) :=
  .ite (.answerSvc h) (.ite (.answerSvc h) (.answerSvc (.ite (.set h) (.endSession h))))

theorem FewCommits.takeImageErase (h : FewCommits u) : FewCommits (u.takeImageErase src args) := by
  refine .ite (.answerSvc h) (.ite (.answerSvc h) (.ite (.answerSvc h) ?_))
  split
  exacts [.answerSvc h, .ite (.answerSvc h) (.answerSvc (.set h))]

theorem FewCommits.takeImageWrite (h : FewCommits u) : FewCommits (u.takeImageWrite src args) := by
  refine .ite (.answerSvc h) (.ite (.answerSvc h) (.ite (.answerSvc h) ?_))
  split
  · exact .answerSvc h
  · exact .ite (.answerSvc h) (.ite (.answerSvc h) (.answerSvc (.set h)))

theorem FewCommits.takeImageCheck (h : FewCommits u) : FewCommits (u.takeImageCheck src args) := by
  refine .ite (.answerSvc h) (.ite (.answerSvc h) ?_)
  split
  exacts [.answerSvc h, .answerSvc (.set h)]

theorem FewCommits.takeImageRead (h : FewCommits u) : FewCommits (u.takeImageRead src args) := by
  refine .ite (.answerSvc h) (.ite (.answerSvc h) ?_)
  split
  exacts [.answerSvc h, .ite (.answerSvc h) (.answerSvc h)]

theorem FewCommits.takeRecordRead (h : FewCommits u) : FewCommits (u.takeRecordRead src args) := by
  refine .ite (.answerSvc h) (.ite (.answerSvc h) ?_)
  split
  exacts [.answerSvc h, .ite (.answerSvc h) (.answerSvc h)]

theorem FewCommits.takeSelftest (h : FewCommits u) : FewCommits (u.takeSelftest src args) :=
  .ite (.answerSvc h) (.ite (.answerSvc h) (.ite (.answerSvc h)
    (.ite (.answerSvc h) (.setBeside (.startLoopback (.endSession (.answerSvc h)))))))

theorem FewCommits.takePerturbSet (h : FewCommits u) : FewCommits (u.takePerturbSet src args) :=
  .ite (.answerSvc h) (.ite (.answerSvc h) (.ite (.answerSvc h)
    (.answerSvc (.set (.ite (.ite (.set h) (.ite (.set h) (.set h))) (.set h))))))

theorem FewCommits.takePerturbClear (h : FewCommits u) : FewCommits (u.takePerturbClear src args) :=
  .ite (.answerSvc h) (.ite (.answerSvc h) (.ite (.answerSvc h) (.answerSvc (.cond h .set))))

theorem FewCommits.takePerturbStatus (h : FewCommits u) : FewCommits (u.takePerturbStatus src args) :=
  .ite (.answerSvc h) (.ite (.answerSvc h) (.answerSvc h))

theorem FewCommits.clearEnded (h : FewCommits u) : FewCommits u.clearEnded := .ite h (.ite (.set h) (.foldl (.set h) .set))

theorem FewAfter.unknownOpcode {src : OpSrc} {opcode : BitVec 16} (h : FewCommits u) :
    FewAfter (execUnknownOpcode src opcode args u) := by
  unfold execUnknownOpcode
  split
  exacts [.next (.receive h .answerReq), .next (.service h .answerSvc)]

/-! ### Resume -/

theorem FewCommits.consumeFrame {b : Instr} (h : FewCommits u) : FewCommits (u.consumeFrame arrival b) := by
  unfold State.consumeFrame
  split
  case h_13 => exact h
  all_goals exact .takeFrame h

theorem FewCommits.consumeService {b : Instr} (h : FewCommits u) : FewCommits (u.consumeService arrival b) := by
  unfold State.consumeService
  split
  exacts [.takeSelftest h, .takeUnlockReq h, .takeUnlockResp h, .takeSessionEnd h, .takeImageErase h, .takeImageWrite h,
      .takeImageCheck h, .takeImageRead h, .takeRecordRead h, .takePerturbSet h, .takePerturbClear h, .takePerturbStatus h,
      .answerSvc h, .consumeFrame h]

theorem FewCommits.consumeLater (h : FewCommits u) : FewCommits (u.consumeLater w) := by
  unfold State.consumeLater
  split
  exacts [.takeWrite h, .takeComplete h, .takeDescriptor h, .takeCommit h, .takePour h, .takePlain h, .takeCompl h, .takeSync h,
      .takeFollowUp h, .takeDelayResp h, .takeStatusRead h, .takeModeSelect h, .takeProfileSelect h, .takeMasterDimmer h,
      .takeAddrSet h, .takeRecover h, .takeEcho h, .answerReq h, .consumeService h]

theorem FewCommits.serveOne (h : FewCommits u) : FewCommits (u.serveOne w) := .ite (.set h) (.freeShared (.consumeLater h))
theorem FewCommits.serveWaiting (h : FewCommits u) : FewCommits u.serveWaiting := .foldl (.set h) .serveOne
theorem FewCommits.mpIsReady (h : FewCommits u) : FewCommits u.mpIsReady := .foldl (.set h) .enqueue

/-! ### Banks -/

theorem FewAfter.freeze {b : Fin 16} (h : FewCommits u) : FewAfter (execFreeze b on u) := .next (.serveWaiting (.set h))

theorem FewAfter.lockBroken {b : Fin 16} (h : FewCommits u) : FewAfter (execLockBroken b u) := by
  unfold execLockBroken
  dsimp only
  split
  exacts [.next h, .next (.serveWaiting (.set h))]

theorem FewAfter.arbWatchdog {b : Fin 16} (h : FewCommits u) : FewAfter (execArbWatchdog b u) := by
  unfold execArbWatchdog
  dsimp only
  split
  exacts [.next h, .next (.serveWaiting (.set h))]

/-! ### Registers -/

theorem FewCommits.writeArbCtrl {b : Fin 16} {v : BitVec 32} (h : FewCommits u) : FewCommits (u.writeArbCtrl b v) :=
  .cond (.landed h (.freeze h)) fun h => .landed h (.swap h)

theorem FewCommits.writeStorePage {v : BitVec 32} (h : FewCommits u) : FewCommits (u.writeStorePage addr v) :=
  .ite (.ite h (.set h)) (.dite (fun _ => .ite (.writeArbCtrl h)
    (.ite (.ite (.set h) (.set h)) (.ite (.landed h (.slotShadowWrite h)) (.ite h (.set h))))) fun _ => .set h)

theorem FewCommits.writeQpwr {v : BitVec 32} (h : FewCommits u) : FewCommits (u.writeQpwr v) :=
  .foldl h fun h => .ite (.landed h (.offReq h)) (.ite (.landed h (.wakeReq h)) h)

theorem FewCommits.writeDrivePage {off : Nat} {v : BitVec 32} (h : FewCommits u) : FewCommits (u.writeDrivePage off addr v) :=
  .ite (.set h) (.ite (.landed h (.drvTileWrite h)) (.ite (.writeQpwr h)
    (.ite (.ite h (.set h)) (.ite h (.ite (.landed h (.drvStripeWrite h)) (.set h))))))

theorem FewCommits.bridgeWrite {v : BitVec 32} (h : FewCommits u) : FewCommits (u.bridgeWrite addr v) := by
  unfold State.bridgeWrite
  dsimp only
  split
  exacts [.writeStorePage h, .writeDrivePage h, .ite (.landed h (.diagCtrlWrite h)) (.set h), .ite (.set h)
      (.ite (.ite (.set h) h) (.set h)), .ite (.set h) (.set h), .ite (.doReserve h) (.ite h (.set h)), h, .set h]

/-! ### Telemetry -/

theorem FewAfter.eventRateWindow {code : BitVec 16} (h : FewCommits u) : FewAfter (execEventRateWindow code key u) := by
  unfold execEventRateWindow
  dsimp only
  split
  exacts [.next h, .ite (.next (.set h)) (.next (.set h))]

theorem FewCommits.restoreList (h : FewCommits u) : FewCommits u.restoreList := by
  unfold State.restoreList
  split <;> exact .set h

theorem FewCommits.restoreMap (h : FewCommits u) : FewCommits u.restoreMap := .restoreList (.loadBytes h)

theorem FewAfter.telemetryHistory (h : FewCommits u) : FewAfter (execTelemetryHistory u) := by
  refine .ite (.next h) ?_
  split
  · exact .next (.mpWrite h)
  · split <;> exact .next (.mpWrite h)

/-! ### Domains -/

theorem FewCommits.fillGroup (h : FewCommits u) : FewCommits (u.fillGroup g data) :=
  .of_comp h (congrArg State.comp (u.besideFill_fillGroup g data) :)

theorem FewAfter.bankInitDone {g : Fin 2} (h : FewCommits u) : FewAfter (execBankInitDone g u) :=
  .ite (.next h) (.next (.serveWaiting (.fillGroup (.forEach (.set h) .set))))

theorem FewCommits.dropPd3 (h : FewCommits u) : FewCommits u.dropPd3 := .set (.freeForwarded (.foldl (.set h) .freeShared))
theorem FewCommits.dropPd4 (h : FewCommits u) : FewCommits u.dropPd4 := .set (.cond h .affSave)

theorem FewCommits.dropDomain {pd : Nat} (h : FewCommits u) : FewCommits (u.dropDomain pd) := by
  unfold State.dropDomain
  split
  exacts [.cond h fun h => .holdPortB (.set h), .cond h .dropPd3, .cond h .dropPd4, .cond h .set, h]

theorem FewCommits.raiseDomain {pd : Nat} (h : FewCommits u) : FewCommits (u.raiseDomain pd) := by
  unfold State.raiseDomain
  split
  exacts [.startPortB (.set h), .set h, .set h, .set h, h]

/-! ### Protocol -/

theorem FewAfter.packetLinkFail (h : FewCommits u) : FewAfter (execPacketLinkFail p why seq u) := by
  unfold execPacketLinkFail
  split
  · exact .next (.ite h (.ite (.ite h (.linkOther h)) (.linkFailed h)))
  · exact .next (.ite h (.ite (.ite h (.linkOtherB h)) (.linkFailedB h)))

theorem FewAfter.packetDiscard {up : Bool} {vc : Fin 32} {type : BitVec 8} (h : FewCommits u) :
    FewAfter (execPacketDiscard hd up vc type len u) := by
  refine .ite (.next h) (.ite (.next (.restoreFor (.linkFailed h)))
      (.ite (.next (.restoreFor (.linkOther h))) (.ite (.next (.restoreFor (.linkFailed h)))
      (.ite (.next (.raiseRated (.set (.linkPass h)))) ?_))))
  split
  exacts [.next (.contentFail (.linkPass h)), .next h]

theorem FewCommits.ackB {q : BitVec 12} (h : FewCommits u) : FewCommits (u.ackB q) := .ite h (.freeForwarded (.set h))

theorem FewAfter.ack (h : FewCommits u) : FewAfter (execAck p seq u) := by
  unfold execAck
  split
  exacts [.next (.ite (.ite (.set h) h) h), .next (.ite (.ackB h) h)]

theorem FewAfter.nak (h : FewCommits u) : FewAfter (execNak p seq u) := by
  unfold execNak
  split
  · exact .ite (.next h) (.ite (.next (.ite (.set h) h)) (.ite (.next (.set (.ite (.set h) h)))
      (.ite (.next (.linkDown (.ite (.set h) h))) (.next (.set (.ite (.set h) h))))))
  · exact .ite (.next h) (.ite (.next (.ackB h)) (.ite (.next (.set (.ackB h)))
      (.ite (.next (.portBDown (.ackB h))) (.next (.set (.ackB h))))))

theorem FewAfter.credit {vc : Fin 32} {total : BitVec 11} (h : FewCommits u) : FewAfter (execCredit p vc total u) := by
  unfold execCredit
  split <;> exact .ite (.next (.set h)) (.next h)

theorem FewCommits.onTimer {due : PortId → Bool} {f : PortId → State → State} (h : FewCommits u)
    (step : ∀ {n v}, FewCommits v → FewCommits (f n v)) :
    FewCommits (u.onTimer due f) :=
  .ite (step (.set h)) (.ite (step h) (.ite (step h) h))

theorem FewAfter.ackTimer (h : FewCommits u) : FewAfter (execAckTimer u) :=
  .next (.onTimer h fun h => by split <;> exact .set h)

theorem FewAfter.creditReturnTimer {resend : Bool} (h : FewCommits u) : FewAfter (execCreditReturnTimer resend u) :=
  .next (.onTimer h fun h => .forEach h fun h => by split; exacts [.sendCredit h, .set h])

theorem FewCommits.replayEndA (h : FewCommits u) : FewCommits u.replayEndA := by
  unfold State.replayEndA
  split
  exacts [h, .ite (.linkDown h) (.set h)]

theorem FewCommits.replayEndB (h : FewCommits u) : FewCommits u.replayEndB := by
  unfold State.replayEndB
  split
  exacts [h, .ite (.portBDown h) (.set h)]

theorem FewAfter.replayTimer (h : FewCommits u) : FewAfter (execReplayTimer u) :=
  .next (.onTimer h fun h => by split; exacts [.replayEndA h, .replayEndB h])

theorem FewCommits.tqPop (h : FewCommits u) : FewCommits (u.tqPop q) :=
  .ite (.set h) (.ite (.freeCreditsB (.ite (.set h) (.set h))) (.ite (.set h) (.set h)))

theorem FewCommits.sendUp {p : TxPkt} (h : FewCommits u) : FewCommits (u.sendUp p) :=
  .ite (.setBeside (.setBeside (.emit h))) (.setBeside (.emit h))

theorem FewCommits.resendUp {n : BitVec 12} (h : FewCommits u) : FewCommits (u.resendUp n) := by
  unfold State.resendUp
  split
  exacts [.set h, .sendUp (.set h)]

theorem FewAfter.tqTransmit (h : FewCommits u) : FewAfter (execTqTransmit u) := by
  refine .ite (.next h) ?_
  dsimp only
  split
  · exact .next (.resendUp (.flushLcbs h))
  · split
    · exact .next (.flushLcbs h)
    · split
      exacts [.next (.flushLcbs h), .next (.sendUp (.set (.tqPop (.flushLcbs h))))]

theorem FewCommits.resendB {n : BitVec 12} (h : FewCommits u) : FewCommits (u.resendB n) := by
  unfold State.resendB
  split <;> exact .set h

theorem FewAfter.forwardPortB {dt : Nat} (h : FewCommits u) : FewAfter (execForwardPortB dt u) := by
  refine .ite (.next (.elapse h)) ?_
  split
  · exact .next (.resendB (.ite (.elapse h) (.emit (.set (.elapse h)))))
  · split
    · exact .next (.ite (.elapse h) (.emit (.set (.elapse h))))
    · exact .next (.ite (.set (.ite (.elapse h) (.emit (.set (.elapse h))))) (.ite (.elapse h) (.emit (.set (.elapse h)))))

theorem FewAfter.portBUpstream {hd : UpHdr} {vc : Fin 32} {type : BitVec 8} (h : FewCommits u) :
    FewAfter (execPortBUpstream hd vc type payload u) :=
  .ite (.next h) (.ite (.next (.linkFailedB h)) (.ite (.next (.linkOtherB h))
    (.ite (.next (.raiseRated (.set (.ite (.ite (.set h) (.set h)) (.freeCreditsB (.set (.ite (.set h) (.set h))))))))
    (.ite (.next (.raiseRated (.set (.ite (.set h) (.set h))))) (.next (.enqueue (.set (.ite (.set h) (.set h)))))))))

/-! ### Supervision -/

theorem FewCommits.cyclePd10 (h : FewCommits u) : FewCommits u.cyclePd10 :=
  .cond (.set (.ite (.finishFlash h) (.set (.finishFlash h)))) .restoreMap

theorem FewCommits.reloadFw (h : FewCommits u) : FewCommits u.reloadFw := by
  unfold State.reloadFw
  split
  exacts [h, .cond h .set]

theorem FewCommits.restartMp (h : FewCommits u) : FewCommits u.restartMp := .set (.reloadFw (.cyclePd10 h))

theorem FewCommits.mpBite (h : FewCommits u) : FewCommits u.mpBite :=
  .ite (.set (.cyclePd10 (.set (.setCause (.set h))))) (.restartMp (.set (.setCause (.set h))))

theorem FewCommits.mpReload (h : FewCommits u) : FewCommits u.mpReload :=
  .cond h fun h => .cond (.restoreList (.restoreErases h)) fun h => .predict (.healAll h)

theorem FewAfter.mpRestartReady (h : FewCommits u) : FewAfter (execMpRestartReady u) :=
  .ite (.next h) (.next (.cond (.serveWaiting (.set (.setCause (.mpIsReady (.mpReload h))))) .reportAtLinkUp))

theorem FewCommits.spBite (h : FewCommits u) : FewCommits u.spBite := .set (.setCause (.set h))

/-! ### Startup -/

theorem FewCommits.setReason {r : Nat} (h : FewCommits u) : FewCommits (u.setReason slot r) := by
  unfold State.setReason
  split <;> exact .set h

theorem FewCommits.reject {r : Nat} (h : FewCommits u) : FewCommits (u.reject slot r) := .set (.setReason h)

theorem FewCommits.startPortA (h : FewCommits u) : FewCommits u.startPortA :=
  .cond (.set h) fun h => .setBeside (.startLoopback h)

theorem FewCommits.enterServiceOnly (h : FewCommits u) : FewCommits u.enterServiceOnly :=
  .ite (.paintAnew (.startPortA (.set (.mpIsReady (.set h)))))
    (.forEach (.paintAnew (.startPortA (.set (.mpIsReady (.set h))))) .set)

theorem FewCommits.tryNext {order : List SlotId} (h : FewCommits u) : FewCommits (u.tryNext order) := by
  unfold State.tryNext
  split
  exacts [.enterServiceOnly h, .set h]

theorem FewAfter.flashReadFail (h : FewCommits u) : FewAfter (execFlashReadFail u) := by
  unfold execFlashReadFail
  dsimp only
  split
  · split
    · exact .next h
    · exact .ite (.next (.set h)) (.ite (.next (.tryNext (.reject (.set h)))) (.next (.set h)))
  · exact .ite (.next h) (.ite (.next (.set h)) (.ite (.next (.set h)) (.next (.set h))))
  · exact .next h

theorem FewCommits.loadComposer {x : Slot} (h : FewCommits u) : FewCommits (u.loadComposer x) := .setComp h (Nat.zero_le _)
theorem FewCommits.startGrid (h : FewCommits u) : FewCommits u.startGrid := .regrid (.set h)
theorem FewCommits.takeSafety {p : SafetyP} (h : FewCommits u) : FewCommits (u.takeSafety p) := .cond (.set h) .setCause
theorem FewCommits.keepCeils (h : FewCommits u) : FewCommits u.keepCeils := .forEach h .set
theorem FewCommits.sendThreshs (h : FewCommits u) : FewCommits u.sendThreshs := .forEach h .sendCtl
theorem FewCommits.powerQuads (h : FewCommits u) : FewCommits u.powerQuads := .forEach h fun h => .cond h .set
theorem FewCommits.told (h : FewCommits u) : FewCommits (u.told slot) := .set (.setReason h)
theorem FewCommits.fillReady (h : FewCommits u) : FewCommits u.fillReady := .forEach h .fillGroup

theorem FewCommits.bringUp (h : FewCommits u) : FewCommits (u.bringUp slot) :=
  .fillReady (.sendThreshs (.keepCeils (.repaint (.startPortA
    (.startGrid (.powerQuads (.loadComposer (.takeSafety (.told (.set h))))))))))

theorem FewCommits.stripped {x : Slot} (h : FewCommits u) : FewCommits (u.stripped x) :=
  .ite (.forEach h .set) (.ite h (.foldl h .set))

theorem FewAfter.slotChecksDone (h : FewCommits u) : FewAfter (execSlotChecksDone u) := by
  unfold execSlotChecksDone
  split
  · exact .next h
  · exact .ite (.next h) (.ite (.next (.bringUp (.stripped h))) (.next (.tryNext (.reject (.stripped h)))))

theorem FewAfter.mpReady (h : FewCommits u) : FewAfter (execMpReady u) :=
  .ite (.next h) (.next (.cond (.startPortB (.set (.serveWaiting
    (.mpIsReady (.cond (.latchAndEnter (.cond h fun h => .predict (.healAll h))) fun h => .ite (.set h) h))))) .reportAtLinkUp))

theorem FewCommits.resetCore (h : FewCommits u) : FewCommits u.resetCore := .setComp h (Nat.zero_le _)

theorem FewAfter.nresetLow (h : FewCommits u) : FewAfter (execNresetLow u) :=
  .ite (.next h) (.next (.ite (.repaint (.keepCeils (.cond (.resetCore (.finishFlash h)) .set)))
    (.changeState (.keepCeils (.cond (.resetCore (.finishFlash h)) .set)))))

/-! ### Idle -/

theorem FewCommits.idle (h : FewCommits u) : FewCommits u.idle := .serveWaiting (.toDeskew (.toDeskew (.elapse (.set h))))

/-! ### Every command -/

/-- Every command leaves at most eight commits pending: each as its meaning is built. -/
theorem exec_fewAfter (c : Instr) (h : FewCommits u) : FewAfter (exec c u) := by
  cases c with
  | vlogValid => exact .next (.ite h (.set h))
  | lossOfVlog => exact .next (.cond (.setComp h (Nat.zero_le _)) .set)
  | safePllLocked => exact .ite (.next h) (.next (.forEach (.set h) .setCut))
  | fuseReadDone => exact .ite (.next (.set (.cond (.set h) .set))) (.ite (.next (.cond (.set h) .set)) (.next h))
  | headersChecked => exact .ite (.next h) (.next (.tryNext (.set (.cond (.cond h .reject) .reject))))
  | flashReadFail => exact .flashReadFail h
  | slotChecksDone => exact .slotChecksDone h
  | mpReady => exact .mpReady h
  | bringupTimeout => exact .ite (.next h) (.next (.ite (.restartMp (.set h)) (.set h)))
  | rollback => exact .ite (.next h) (.next (.set h))
  | nresetLow => exact .nresetLow h
  | nresetHigh => exact .ite (.next h) (.next (.set (.checkInh (.forEach (.set h) fun h => .setCut (.setCut h)))))
  | stuckReset => exact .ite (.next h) (.next (.set h))
  | startLogWrite => exact .ite (.next h) (.next (.set (.mpWrite h)))
  | receiverDetectionDone => exact .receiverDetectionDone h
  | squelchOpen => exact .ite (.next (.toSweep (.modPort h))) (.ite (.next (.modPort (.modPort h))) (.next (.modPort h)))
  | squelchClose => exact .squelchClose h
  | sweepDwellEnd => exact .ite (.ite (.next (.set h)) (.ite (.next (.set h)) (.next (.set h)))) (.next h)
  | bitLock => exact .ite (.next h) (.ite (.next h) (.ite (.next (.modPort (.modPort h))) (.next (.modPort h))))
  | commaAligned => exact .commaAligned h
  | blockLock => exact .ite (.ite (.next (.toDeskew (.modPort (.modPort h)))) (.next (.modPort h))) (.next h)
  | laneFault => exact .laneFault h
  | trainingTimeout => exact .next (.ite (.modPort h) h)
  | backoffElapsed => exact .next (.ite (.modPort h) h)
  | tsA => exact .tsA h
  | farEndLoopbackEnd => exact .next (.ite (.set h) h)
  | tsB => exact .tsB h
  | tsEnd => exact .tsEnd h
  | repair => exact .next (.ite (.set h) h)
  | repairTimeout => exact .next (.ite (.linkDown h) h)
  | idleEnter => exact .ite (.next (.ite (.set h) (.set h))) (.next h)
  | wake => exact .ite (.next (.ite (.set h) (.set h))) (.next h)
  | wakeEnd => exact .ite (.next (.ite (.linkDown (.set h)) (.ite (.set h) (.startRepair (.set h))))) (.next h)
  | backLaneIdleEntry => exact .next (.ite (.set h) h)
  | backLaneWake => exact .next (.ite (.set h) h)
  | backLaneDetect => exact .ite (.next (.ite (.linkDown (.set h)) (.set h))) (.next h)
  | linkSelftest => exact .next (.service h .takeSelftest)
  | selftestEnd => exact .ite (.next (.set h)) (.next h)
  | capOffer => exact .ite (.ite (.next (.roleConflict h)) (.next (.ite (.set h) (.set h)))) (.next h)
  | capConfirm => exact .ite (.next (.reportAtLinkUp (.linkUpNow (.set h)))) (.next h)
  | capAnswer =>
    exact .ite (.ite (.next (.conflictB h)) (.ite (.next h) (.ite (.next h) (.next (.ite (.set h) (.set h)))))) (.next h)
  | packetLinkFail => exact .packetLinkFail h
  | packetDiscard => exact .packetDiscard h
  | ack => exact .ack h
  | nak => exact .nak h
  | credit => exact .credit h
  | ackTimer => exact .ackTimer h
  | creditReturnTimer => exact .creditReturnTimer h
  | replayTimer => exact .replayTimer h
  | tqTransmit => exact .tqTransmit h
  | tqStarvation => exact .next (.ite (.set h) h)
  | forwardPortB => exact .forwardPortB h
  | portBUpstream => exact .portBUpstream h
  | write => exact .next (.receive h .takeWrite)
  | surfaceComplete => exact .next (.receive (.elapse h) .takeComplete)
  | descriptor => exact .next (.receive h .takeDescriptor)
  | commit => exact .next (.receive (.elapse h) .takeCommit)
  | pour => exact .next (.receive (.elapse h) .takePour)
  | awaitExpired => exact .ite (.next (.setComp h (List.length_eraseP_le ..))) (.next h)
  | zonePlain => exact .next (.receive h .takePlain)
  | zoneCompl => exact .next (.receive h .takeCompl)
  | candidateExpiry => exact .next (.dropCand h)
  | sync => exact .next (.receive (.elapse h) .takeSync)
  | followUp => exact .next (.receive (.elapse h) .takeFollowUp)
  | delayResp => exact .next (.receive (.elapse h) .takeDelayResp)
  | syncPairTimeout => exact .ite (.ite (.next (.set h)) (.next h)) (.ite (.next (.set h)) (.next h))
  | tb0Holdover => exact .next (.tbHold h)
  | statusRead => exact .next (.receive h .takeStatusRead)
  | modeSelect => exact .next (.receive (.elapse h) .takeModeSelect)
  | profileSelect => exact .next (.receive (.elapse h) .takeProfileSelect)
  | masterDimmer => exact .next (.receive (.elapse h) .takeMasterDimmer)
  | addrSet => exact .next (.receive h .takeAddrSet)
  | safetyRecover => exact .next (.receive h .takeRecover)
  | echo => exact .next (.receive h .takeEcho)
  | unknownOpcode => exact .unknownOpcode h
  | unlockReq => exact .next (.service h .takeUnlockReq)
  | unlockResp => exact .next (.service h .takeUnlockResp)
  | sessionEnd => exact .next (.service h .takeSessionEnd)
  | imageErase => exact .next (.service h .takeImageErase)
  | imageWrite => exact .next (.service h .takeImageWrite)
  | imageCheck => exact .next (.service h .takeImageCheck)
  | imageRead => exact .next (.service h .takeImageRead)
  | recordRead => exact .next (.service h .takeRecordRead)
  | perturbSet => exact .next (.service h .takePerturbSet)
  | perturbClear => exact .next (.service h .takePerturbClear)
  | perturbStatus => exact .next (.service h .takePerturbStatus)
  | perturbOff => exact .next (.clearEnded (.cond h fun h => .ite (.modPort (.set h)) (.set h)))
  | uartGapTimeout => exact .next (.set h)
  | challengeTimeout => exact .next (.ite (.set h) h)
  | sessionIdleTimeout => exact .next (.serveWaiting (.endSession h))
  | lockoutEnd => exact .next (.ite (.set h) h)
  | tsevtCapture => exact .ite (.next (.elapse h)) (.ite (.next (.raiseRated (.set (.elapse h)))) (.next (.set (.elapse h))))
  | lampsyncEdge =>
    exact .ite (.next (.elapse h)) (.ite (.next (.set (.elapse h))) (.next (.cond (.regrid (.set (.elapse h))) .set)))
  | lampsyncLoss => exact .ite (.next (.set (.regrid (.set h)))) (.next h)
  | latchPoint => exact .next (.ite (.latchNow (.timeTiles (.elapse h))) h)
  | cutoff =>
    exact .ite (.next h) (.ite (.next (.eachReady (.set (.timeTiles (.elapse (.elapse h)))) .set))
      (.next (.timeTiles (.elapse (.elapse h)))))
  | handoverAlign => exact .next (.ite (.sendTiming h) h)
  | scanStepRelease => exact .scanStepRelease h
  | scanoutStarved => exact .next (.ite (.starve h) h)
  | rowSegment =>
    exact .ite (.next h) (.ite (.next (.set h)) (.next (.set (.cond (.ite (.rowTouched (.set (.cond h .set))) (.cond h .set))
      .set))))
  | readback => exact .readback h
  | readbackTimeout => exact .readbackTimeout h
  | reread =>
    exact .ite (.next h) (.next (.forEach (.ite (.set h) (.forEach (.set h) fun h => .ite (.eccRead h) (.set (.eccRead h))))
      .sendCtl))
  | readbackPacket => exact .ite (.next h) (.next (.set h))
  | crcGenCheck => exact .crcGenCheck h
  | tilePeriodBoundary => exact .ite (.next (.set h)) (.next h)
  | curSet => exact .next (.onCtl h)
  | pwmSet => exact .next (.onCtl h)
  | align => exact .next (.onCtl h)
  | meas => exact .next (.onWord h)
  | tampAllow => exact .next (.onWord h)
  | switchGap => exact .next (.onCtl h)
  | result => exact .next (.ite (.takeResult (.onWord h)) (.onWord h))
  | parityScan => exact .next (.ite (.forEach (.onWord h) .measured) (.onWord h))
  | thresh => exact .next (.onCtl h)
  | measPeriodEnd => exact .measPeriodEnd h
  | gapPulseEnd => exact .ite (.next h) (.next (.sendResult (.nextGap (.cond (.set h) fun h => .checkInh (.setCause (.set h))))))
  | diagRowSlot => exact .ite (.next h) (.next (.forEach (.sendCtl h) fun h => .cond h .sendCtl))
  | gapTestDue => exact .ite (.next h) (.ite (.next (.set h)) (.next (.sendCtl h)))
  | sweepOverdue => exact .ite (.next h) (.next (.set h))
  | diagMapReport => exact .diagMapReport h
  | diagCtrlWrite => exact .diagCtrlWrite h
  | drvTileWrite => exact .drvTileWrite h
  | offReq => exact .offReq h
  | wakeReq => exact .wakeReq h
  | quadOff => exact .ite (.next (.set (.forEach (.set h) .set))) (.next h)
  | quadReady => exact .ite (.next (.paintQuad (.forEach (.set h) .set))) (.next h)
  | wakeCatchup => exact .ite (.next h) (.next (.set (.foldl h fun h => .ite h (.set h))))
  | drvStripeWrite => exact .drvStripeWrite h
  | powerDomainRequest =>
    exact .ite (.next h) (.ite (.ite (.next (.raiseDomain h)) (.ite (.next (.dropDomain h)) (.next (.set h))))
      (.ite (.ite (.wakeReq h) (.offReq h)) (.next (.set h))))
  | powerForceRelease => exact .ite (.next (.ite (.set h) (.darkDone (.set h)))) (.next h)
  | fillRect => exact .next (.busCommand h fun h => .ite h (.set h))
  | setCeil => exact .next (.busCommand h .set)
  | setOverride => exact .next (.busCommand h .set)
  | setSource => exact .next (.busCommand h fun h => .ite h (.set h))
  | quadStatus => exact .next (.busCommand h id)
  | fillSweepDone => exact .fillSweepDone h
  | commandAnswer => exact .commandAnswer h
  | commandTimeout => exact .commandTimeout h
  | moduleLimitUpdate => exact .next (.cond (.forEach (.set h) fun h => .cond h .set) .set)
  | overcurrent => exact .ite (.next (.set h)) (.next h)
  | vledLow =>
    exact .ite (.next (.raiseRated (.forEach (.set h) fun h => .ite (.set h) h))) (.ite (.next (.raiseRated (.set h))) (.next h))
  | vledPresent => exact .next (.cond (.set h) .paintAnew)
  | arbiterDecision => exact .next (.serveWaiting (.ite (.arbitrate (.arrive h)) (.arrive h)))
  | slotShadowWrite => exact .slotShadowWrite h
  | swap => exact .swap h
  | freeze => exact .freeze h
  | arbWatchdog => exact .arbWatchdog h
  | lockBroken => exact .lockBroken h
  | bankInitDone => exact .bankInitDone h
  | scrubOverdue => exact .next (.ite h (.set h))
  | lbreq => exact .ite (.next h) (.next (.judge (.set h)))
  | limiterTick => exact .ite (.next h) (.next (.forEach (.compareTick (.set h)) fun h => .setCut (.setCut h)))
  | setMismatch => exact .next (.ite (.foundDiff h) h)
  | requestWord => exact .ite (.next h) (.next (.set (.judge (.cond (.set h) .setCause))))
  | normalAgreement => exact .next (.ite (.changeState h) h)
  | degTimeout => exact .next (.ite (.setCause (.set h)) h)
  | channelDisagree => exact .ite (.next h) (.next (.setCause (.set h)))
  | voteMismatch => exact .ite (.next h) (.next (.set h))
  | stallBlank => exact .stallBlank h
  | stallRequestExpiry => exact .next (.ite (.setCause h) h)
  | linkHoldExpiry => exact .ite (.next (.setCause (.setCause (.set h)))) (.next h)
  | safetyCrcCheck => exact .ite (.next (.cond (.setCause (.set h)) .repaint)) (.next h)
  | clockFault => exact .ite (.next h) (.next (.setCause (.set h)))
  | oscillatorCheck => exact .ite (.next (.setCause (.set h))) (.next h)
  | mpWatchdogService => exact .ite (.next (.elapse h)) (.ite (.next (.set (.elapse h))) (.next (.mpBite (.elapse h))))
  | mpWatchdog => exact .next (.ite (.mpBite h) h)
  | mpRestartReady => exact .mpRestartReady h
  | spWatchdogService => exact .ite (.next h) (.ite (.next (.set h)) (.next (.spBite h)))
  | spWatchdog => exact .next (.ite (.spBite h) h)
  | spRestarted => exact .ite (.next h) (.next (.serveWaiting (.set h)))
  | rindHeartbeat => exact .ite (.next h) (.ite (.next (.setCause (.set h))) (.next (.set h)))
  | mpBadAccess => exact .next (.ite (.set h) h)
  | tileSensorSample => exact .ite (.next h) (.next (.setTemp (.updateBand (.trustStep (.set h)))))
  | quadSensorSample => exact .next (.forEach (.ite (.set h) (.ite (.set h) (.commonMode (.set h)))) .updateBand)
  | dieSensorSample => exact .next (.set h)
  | ntcSample => exact .next (.cond (.set h) .set)
  | mpPolicyTick => exact .ite (.next h) (.next (.forEach (.cond (.setBeside (.forEach (.set h) .policyTile)) .set) .setRequest))
  | shutdownRetry => exact .ite (.next (.set h)) (.next h)
  | hardCut =>
    exact .ite (.next h) (.next (.forEach (.legStatus (.set h)) fun h => .cond (.cond (.setCut (.set h)) .set) .countShutdown))
  | hardCutRelease => exact .ite (.next h) (.next (.forEach (.set h) .setCut))
  | heatRecordWrite => exact .ite (.next h) (.next (.ite (.flashProgram (.cond (.set h) .flashErase)) (.set h)))
  | affWWrite => exact .ite (.next h) (.next (.set h))
  | fillCharge => exact .ite (.next h) (.next (.forEach h fun h => .forEach h .chargeBlock))
  | affinageSave => exact .next (.ite (.affSave h) h)
  | saveDeferred => exact .next (.ite (.affSave h) h)
  | reserve => exact .next (.ite (.doReserve h) h)
  | flashCommand =>
    exact .ite (.next (.set h)) (.ite (.next (.set (.ite h (.ite (.set h) (.ite (.set h) (.set h))))))
      (.next (.cond (.set h) .nvmRefused)))
  | flashCommandDone => exact .flashCommandDone h
  | faultMapSave => exact .ite (.next h) (.next (.set (.saveCopy h)))
  | telemetryHistory => exact (FewAfter.telemetryHistory h :)
  | eventPacket => exact .ite (.next h) (.next (.set h))
  | eventRateWindow => exact .eventRateWindow h
  | registerWrite => exact .next (.ite (.bridgeWrite h) h)
  | hs => exact .hs h
  | regWrite => exact .next (.frameIn (.elapse h))
  | regRead => exact .next (.frameIn h)
  | lines => exact .next (.frameIn (.elapse h))
  | showRows => exact .next (.frameIn (.elapse h))
  | legacyEcho => exact .next (.frameIn h)
  | frameNak => exact .next (.ite (.nakFrame h) h)
  | frameRejected => exact .next (.frameIn h)
  | softReset => exact .next (.frameIn (.elapse h))
  | faultIdxWrite => exact .next (.frameIn h)
  | faultEntryRead => exact .next (.frameIn h)
  | legacyStatusRead => exact .next (.frameIn h)
  | linkErrCntRead => exact .next (.frameIn h)
  | lowByteRead => exact .next (.frameIn h)
  | crystalPllLocked => exact .ite (.next h) (.next (.cond (.set h) .set))
  | testEnHigh => exact .ite (.next h) (.next (.cond (.set h) fun h => .setBeside (.startLoopback h)))
  | testAccessPort => exact .ite (.next h) (.next (.cond (.set h) .set))
  | safetyOscillatorStop => exact .next (.set h)

end

end

/-- Settles O57: the front command lands with at most eight commits pending, and so do the clocks of an idle step. -/
theorem commitsStayBoundedThroughEveryStep : Obligations.CommitsStayBoundedThroughEveryStep := by
  intro s t few run
  unfold step at run
  split at run
  case h_1 =>
    cases run
    exact (FewCommits.idle ⟨few⟩).bounded
  case h_2 c rest _ => exact (exec_fewAfter (u := { s with pending := rest }) c ⟨few⟩ t run).bounded

end Sys2Proof.Machine
end

section
/-!
PROOFS. The fields of a readback word (08 R225, Table 8.4) and the latches of a row (09 R241).
-/
namespace Sys2Proof.Machine

/-! ### Readback words (R225) -/

theorem crcMsbShift_one_lt (w poly c : Nat) : crcMsbShift w poly 1 c < 2 ^ w := by
  unfold crcMsbShift crcMsbShift
  split
  · exact Nat.mod_lt _ (Nat.two_pow_pos w)
  · exact Nat.mod_lt _ (Nat.two_pow_pos w)

theorem crcMsbBits_lt {w poly n v c : Nat} (h : c < 2 ^ w) : crcMsbBits w poly n v c < 2 ^ w := by
  induction n generalizing c with
  | zero => exact h
  | succ n ih => exact ih (crcMsbShift_one_lt w poly _)

theorem b2n_le_one (b : Bool) : b2n b ≤ 1 := by
  cases b
  · exact Nat.zero_le 1
  · exact Nat.le_refl 1

theorem bitsOf_lt (v lo n : Nat) : bitsOf v lo n < 2 ^ n := Nat.mod_lt _ (Nat.two_pow_pos n)

/-- Where its fields are in range a readback word is their sum with the HCRC: none runs into the next (Table 8.4). -/
theorem readbackWord_toNat {kind row frame8 sig : Nat} (keep crcFail parity : Bool) (hKind : kind < 16) (hRow : row < 128)
    (hFrame : frame8 < 256) (hSig : sig < 65536) :
    ∃ hcrc < 256, (readbackWord kind row keep crcFail parity frame8 sig).toNat =
      kind * 2 ^ 44 + row * 2 ^ 37 + b2n keep * 2 ^ 36 + b2n crcFail * 2 ^ 35 + b2n parity * 2 ^ 34 + frame8 * 2 ^ 24 + sig * 2 ^ 8
        + hcrc := by
  have hHcrc (v : Nat) : crcMsbBits 8 0x07 40 v 0 < 256 := crcMsbBits_lt (by decide)
  have hKeep := b2n_le_one keep
  have hFail := b2n_le_one crcFail
  have hParity := b2n_le_one parity
  unfold readbackWord
  rw [BitVec.toNat_ofNat]
  exact ⟨_, hHcrc _, Nat.mod_eq_of_lt (by grind)⟩

/-- A readback word with a KIND is not the word that a tile holds before its first. -/
theorem readbackWord_ne_zero {kind row frame8 sig : Nat} (keep crcFail parity : Bool) (hPos : 0 < kind) (hKind : kind < 16)
    (hRow : row < 128) (hFrame : frame8 < 256) (hSig : sig < 65536) :
    readbackWord kind row keep crcFail parity frame8 sig ≠ 0 := by
  obtain ⟨hcrc, -, value⟩ := readbackWord_toNat keep crcFail parity hKind hRow hFrame hSig
  intro zero
  rw [zero, show (0 : BitVec 48).toNat = 0 from rfl] at value
  omega

/-- Bit 35 of a readback word is its CRC_FAIL. -/
theorem bitOf_readbackWord_crcFail {kind row frame8 sig : Nat} (keep crcFail parity : Bool) (hKind : kind < 16) (hRow : row < 128)
    (hFrame : frame8 < 256) (hSig : sig < 65536) :
    bitOf (readbackWord kind row keep crcFail parity frame8 sig).toNat 35 = crcFail := by
  obtain ⟨hcrc, hHcrc, value⟩ := readbackWord_toNat keep crcFail parity hKind hRow hFrame hSig
  have hFail := b2n_le_one crcFail
  have hParity := b2n_le_one parity
  have bit : (readbackWord kind row keep crcFail parity frame8 sig).toNat / 2 ^ 35 % 2 = b2n crcFail := by omega
  rw [bitOf, Nat.testBit_eq_decide_div_mod_eq, bit]
  cases crcFail
  · rfl
  · rfl

/-! ### A latch's word (R241) -/

/-- Bits from `m` on do not count among the `n` lowest. -/
theorem popCount_add_high {m n : Nat} (hn : n ≤ m) {v : Nat} (hv : v < 2 ^ m) (k : Nat) :
    popCount n (v + k * 2 ^ m) = popCount n v := by
  induction n with
  | zero => rfl
  | succ n ih =>
    have bit : bitOf (v + k * 2 ^ m) n = bitOf v n := by
      unfold bitOf
      rw [Nat.add_comm, Nat.mul_comm, Nat.testBit_two_pow_mul_add k hv, if_pos (by omega)]
    rw [popCount, popCount, bit, ih (by omega)]

theorem latchWord_toNat (c : BitVec 12) : (latchWord c).toNat = c.toNat + popCount 12 c.toNat % 2 * 2 ^ 12 := by
  unfold latchWord
  rw [BitVec.toNat_ofNat]
  omega

/-- A latch gives back the code it was written with. -/
@[simp] theorem latchCode_latchWord (c : BitVec 12) : latchCode (latchWord c) = c := by
  unfold latchCode
  rw [latchWord_toNat]
  exact BitVec.eq_of_toNat_eq (by rw [BitVec.toNat_ofNat]; omega)

/-- A latch that was written passes its parity check. -/
@[simp] theorem latchOk_latchWord (c : BitVec 12) : latchOk (latchWord c) = true := by
  have top : bitOf (c.toNat + popCount 12 c.toNat % 2 * 2 ^ 12) 12 = decide (popCount 12 c.toNat % 2 = 1) := by
    unfold bitOf
    rw [Nat.testBit_eq_decide_div_mod_eq]
    have := c.isLt
    exact decide_eq_decide.mpr (by omega)
  unfold latchOk
  rw [latchWord_toNat, popCount, popCount_add_high (Nat.le_refl 12) c.isLt, top]
  rcases Nat.mod_two_eq_zero_or_one (popCount 12 c.toNat) with even | odd
  · simp [even, b2n]
  · simp [odd, b2n, Nat.add_mod]

/-! ### A row's latches (R241) -/

theorem State.rowTouched_writes (s : State) (n row : Nat) (mask : BitVec 128) :
    ∃ tiles, s.rowTouched n row mask = { s with tiles } := by
  unfold State.rowTouched
  split
  · split
    · exact ⟨_, rfl⟩
    · exact ⟨s.tiles, rfl⟩
  · exact ⟨s.tiles, rfl⟩

/-- The latch writes of a row segment: its pixels, rising, and their words. -/
def rowWrites (n row : Nat) (codes : List (BitVec 12)) : List (Nat × BitVec 13) :=
  (codes.take 128).mapIdx fun i c => (tilePixel n row i, latchWord c)

theorem State.writeRow_writes (s : State) (n row : Nat) (codes : List (BitVec 12)) :
    ∃ tiles, s.writeRow n row codes = { s with latches := Sparse.merge 0 (rowWrites n row codes) s.latches, tiles } :=
  State.rowTouched_writes ..

theorem rowWrites_rising (n row : Nat) (codes : List (BitVec 12)) : (rowWrites n row codes).Pairwise fun a b => a.1 < b.1 :=
  pairwise_mapIdx _ (codes.take 128) fun _ c => latchWord c

theorem find_rowWrites {n row c : Nat} {codes : List (BitVec 12)} (full : codes.length = 128) (lt : c < 128) :
    (rowWrites n row codes).find? (fun e => e.1 = tilePixel n row c) = some (tilePixel n row c, latchWord (codes.getD c 0)) := by
  refine List.find?_eq_some_iff_getElem.mpr ⟨by simp, c, by simp [rowWrites, full, lt], ?_, fun i before => ?_⟩
  · simp [rowWrites, full, lt]
  · have : tilePixel n row i ≠ tilePixel n row c := by unfold tilePixel; omega
    simp [rowWrites, this]

theorem find_rowWrites_other {n row p : Nat} {codes : List (BitVec 12)} (other : ∀ c, c < 128 → p ≠ tilePixel n row c) :
    (rowWrites n row codes).find? (fun e => e.1 = p) = none := by
  rw [List.find?_eq_none]
  intro e mem
  obtain ⟨c, lt, rfl⟩ := List.mem_mapIdx.mp mem
  have := other c (by rw [List.length_take] at lt; omega)
  simpa using this.symm

section
variable {s : State} (wf : s.MemoryWf) (n row : Nat) {codes : List (BitVec 12)}
include wf

/-- The latches of a written row hold its codes. -/
theorem State.latch_writeRow (full : codes.length = 128) {c : Nat} (lt : c < 128) :
    (s.writeRow n row codes).latch n row c = latchWord (codes.getD c 0) := by
  obtain ⟨-, -, -, -, latches⟩ := wf
  obtain ⟨tiles, writes⟩ := s.writeRow_writes n row codes
  unfold State.latch
  rw [writes, Sparse.get_merge 0 _ _ _ (rowWrites_rising n row codes) ((Sparse.wf_iff 0 _).mp latches).1, find_rowWrites full lt]

/-- A written row leaves every other latch. -/
theorem State.latches_writeRow_other {p : Nat} (other : ∀ c, c < 128 → p ≠ tilePixel n row c) :
    (s.writeRow n row codes).latches.get 0 p = s.latches.get 0 p := by
  obtain ⟨-, -, -, -, latches⟩ := wf
  obtain ⟨tiles, writes⟩ := s.writeRow_writes n row codes
  rw [writes, Sparse.get_merge 0 _ _ _ (rowWrites_rising n row codes) ((Sparse.wf_iff 0 _).mp latches).1,
    find_rowWrites_other other]

/-- A written row reads as its codes, all of good parity. -/
theorem State.latchedRow_writeRow (full : codes.length = 128) :
    (s.writeRow n row codes).latchedRow n row = (codes.map BitVec.toNat, false) := by
  have words : (List.range 128).map (fun c => (s.writeRow n row codes).latch n row c) = codes.map latchWord := by
    refine List.ext_getElem (by simp [full]) fun c lt _ => ?_
    have lt : c < 128 := by simpa using lt
    simp [State.latch_writeRow wf n row full lt, full, lt]
  unfold State.latchedRow
  dsimp only
  rw [words]
  simp [Function.comp_def]

end

end Sys2Proof.Machine
end

section
/-!
PROOFS. A row segment at its tile, and the segments held for a woken quadrant (08 R222, R223, R225, 09 R241, R266; O28).
-/
namespace Sys2Proof.Machine

/-! ### A row segment at its tile (R222, R223, R225) -/

/-- A tile that answers a row segment holds its answer, in whatever form the map of tiles is. -/
theorem State.rbWord_modTile_answer {s : State} {n : Nat} {f : Tile → Tile} {hdr : BitVec 32} {keep crcFail parity : Bool}
    {sig : BitVec 16} (answer : (f (s.tile n)).rbWord =
      readbackWord 1 (bitsOf hdr.toNat 21 7) keep crcFail parity (bitsOf hdr.toNat 8 8) sig.toNat) :
    ((s.modTile n f).tile n).rbWord =
      readbackWord 1 (bitsOf hdr.toNat 21 7) keep crcFail parity (bitsOf hdr.toNat 8 8) sig.toNat := by
  have answered := readbackWord_ne_zero keep crcFail parity (by decide : 0 < 1) (by decide) (bitsOf_lt hdr.toNat 21 7)
    (bitsOf_lt hdr.toNat 8 8) sig.isLt
  rw [State.tile_modTile_listed fun same => answered (answer.symm.trans (congrArg Tile.rbWord same)), answer]

section
variable {s : State} {n : Fin 64} {hdr : BitVec 32} {codes : List (BitVec 12)} {crc : BitVec 16}
  (on : s.tileOn n = true)
include on

/-- A row segment with a bad header, or of another length, is counted alone (R223). -/
theorem exec_rowSegment_ignored (bad : headerOk 1 hdr.toNat = false ∨ codes.length ≠ 128) :
    exec (.rowSegment n hdr codes crc) s = .next (s.modTile n fun x => { x with ignored := x.ignored + 1 }) := by
  show execRowSegment n hdr codes crc s = _
  unfold execRowSegment
  rcases bad with header | length
  · simp [on, header]
  · simp [on, length]

variable (header : headerOk 1 hdr.toNat = true) (full : codes.length = 128) (unperturbed : s.svc.perturb = [])
include header full unperturbed

/-- A row segment whose LINE_CRC fails is answered with the signature of what the row holds (R223). -/
theorem exec_rowSegment_failed (fails : lineCrc (codes.map BitVec.toNat) ≠ crc) :
    exec (.rowSegment n hdr codes crc) s = .next (s.modTile n fun x => { x with
      rbWord := readbackWord 1 (bitsOf hdr.toNat 21 7) (bitOf hdr.toNat 20) true (s.latchedRow n (bitsOf hdr.toNat 21 7)).2
        (bitsOf hdr.toNat 8 8) (lineCrc (s.latchedRow n (bitsOf hdr.toNat 21 7)).1).toNat }) := by
  show execRowSegment n hdr codes crc s = _
  simp [execRowSegment, State.crcInject, on, header, full, unperturbed, fails]

/-- A row segment whose LINE_CRC passes writes its row and is answered with the signature of its codes (R223). -/
theorem exec_rowSegment_passed (wf : s.MemoryWf) (passes : lineCrc (codes.map BitVec.toNat) = crc) :
    exec (.rowSegment n hdr codes crc) s = .next ((s.writeRow n (bitsOf hdr.toNat 21 7) codes).modTile n fun x => { x with
      wrote := if x.held.isEmpty then x.wrote else setBit x.wrote (bitsOf hdr.toNat 21 7) true
      rbWord := readbackWord 1 (bitsOf hdr.toNat 21 7) (bitOf hdr.toNat 20) false false (bitsOf hdr.toNat 8 8)
        (lineCrc (codes.map BitVec.toNat)).toNat }) := by
  have quiet : (s.writeRow n (bitsOf hdr.toNat 21 7) codes).svc.perturb = [] := by
    obtain ⟨tiles, writes⟩ := s.writeRow_writes n (bitsOf hdr.toNat 21 7) codes
    rw [writes]
    exact unperturbed
  show execRowSegment n hdr codes crc s = _
  simp [execRowSegment, State.crcInject, on, header, full, unperturbed, passes, quiet, State.latchedRow_writeRow wf]

end

/-! ### Catch-up (R266) -/

/-- The record of a segment held for a woken quadrant, as the state at the window's end has it. -/
def State.heldRec (s : State) (x : Nat × Nat) : SegRec :=
  s.segRec x.1 x.2 (s.grid.kind = .keepAlive) (segCodes (s.bufRow s.windowBuf (tileY x.1 + x.2)) x.1)

/-- One held segment is sent, but to a tile held under fill. -/
def State.sendHeld (s u : State) (x : Nat × Nat) : State :=
  if u.isHeld x.1 then u else u.released (s.heldRec x) (segCodes (s.bufRow s.windowBuf (tileY x.1 + x.2)) x.1)

/-- The held segments are sent, in order. -/
def State.caughtUp (s : State) (held : List (Nat × Nat)) : State := held.foldl s.sendHeld s

theorem exec_wakeCatchup {s : State} {q : Fin 4} (ready : s.quadReady q = true) (waiting : (s.quad q).heldSegs ≠ [])
    (done : s.grid.step = 128) :
    exec (.wakeCatchup q) s = .next (((s.caughtUp (s.quad q).heldSegs).modQuad q fun k => { k with heldSegs := [] }).raise 0x0605
      [(1, q.val), (2, (s.quad q).heldSegs.length)]) := by
  show execWakeCatchup q s = _
  unfold execWakeCatchup
  exact if_neg (by simp [ready, waiting, done])

theorem State.sendHeld_writes (s u : State) (x : Nat × Nat) : ∃ rb tiles, s.sendHeld u x = { u with rb, tiles } := by
  unfold State.sendHeld
  split
  · exact ⟨u.rb, u.tiles, rfl⟩
  · exact ⟨_, _, rfl⟩

theorem State.foldl_sendHeld_writes (s u : State) (held : List (Nat × Nat)) :
    ∃ rb tiles, held.foldl s.sendHeld u = { u with rb, tiles } := by
  induction held generalizing u with
  | nil => exact ⟨u.rb, u.tiles, rfl⟩
  | cons x held ih =>
    obtain ⟨rb, tiles, first⟩ := s.sendHeld_writes u x
    obtain ⟨rb', tiles', rest⟩ := ih (s.sendHeld u x)
    exact ⟨rb', tiles', by rw [List.foldl_cons, rest, first]⟩

/-- With no tile held under fill, the SP expects a readback of every held segment, in order. -/
theorem State.expect_foldl_sendHeld (s u : State) {held : List (Nat × Nat)} (free : ∀ x ∈ held, u.isHeld x.1 = false) :
    (held.foldl s.sendHeld u).rb.expect = u.rb.expect ++ held.map s.heldRec := by
  induction held generalizing u with
  | nil => simp
  | cons x held ih =>
    have sent : s.sendHeld u x = u.released (s.heldRec x) (segCodes (s.bufRow s.windowBuf (tileY x.1 + x.2)) x.1) := by
      simp [State.sendHeld, free x List.mem_cons_self]
    have others : ∀ y ∈ held, (s.sendHeld u x).isHeld y.1 = false := by
      rw [sent]
      exact fun y mem => free y (List.mem_cons_of_mem x mem)
    rw [List.foldl_cons, ih _ others, sent]
    show u.rb.expect ++ [s.heldRec x] ++ held.map s.heldRec = _
    simp

/-! ### The statement -/

/-- Settles O28: a segment that passes by the reads of its written row, one that fails by the CRC_FAIL of its answer, the held
segments by what sending them leaves and lets the SP expect. -/
theorem segmentsReachTheLatches : Obligations.SegmentsReachTheLatches := by
  refine ⟨fun s n hdr codes crc wf on header full unperturbed => ⟨fun passes => ?_, fun fails => ?_⟩,
    fun s n hdr codes crc on bad => exec_rowSegment_ignored on bad,
    fun s n hdr codes crc off => if_pos (by simp [off]), fun s q ready waiting done => ?_⟩
  · refine ⟨_, exec_rowSegment_passed on header full unperturbed wf passes, fun c lt => State.latch_writeRow wf n _ full lt,
      fun p other => State.latches_writeRow_other wf n _ other, State.rbWord_modTile_answer rfl, ?_⟩
    obtain ⟨tiles, writes⟩ := s.writeRow_writes n (bitsOf hdr.toNat 21 7) codes
    rw [writes]
    rfl
  · refine ⟨_, exec_rowSegment_failed on header full unperturbed fails, rfl, ?_, rfl⟩
    rw [State.rbWord_modTile_answer rfl]
    exact bitOf_readbackWord_crcFail _ _ _ (by decide) (bitsOf_lt _ _ 7) (bitsOf_lt _ _ 8) (BitVec.isLt _)
  · obtain ⟨rb, tiles, writes⟩ := s.foldl_sendHeld_writes s (s.quad q).heldSegs
    refine ⟨_, exec_wakeCatchup ready waiting done, ?_, ?_, fun free => s.expect_foldl_sendHeld s free, ?_⟩
    all_goals
      unfold State.caughtUp
      rw [writes]
      rfl

end Sys2Proof.Machine
end

section
/-!
PROOFS. A write of DRV_TILE (09 R255, Table 9.9), and where the statement on control words and tile current fails (O30).
-/
namespace Sys2Proof.Machine

/-- An event changes no tile. -/
theorem State.tile_cond_raiseRated (s : State) (c : Bool) (code key : Nat) (data : List (Nat × Nat)) (n : Nat) :
    (s.cond c fun v => v.raiseRated code key data).tile n = s.tile n := by
  obtain ⟨e, raised⟩ := s.raiseRatedN_ev code key 1 data
  unfold State.raiseRated
  rw [State.cond_read (State.tile · n), raised]
  exact ite_self _

/-- In a canonical map of tiles a tile reads as it was changed. -/
theorem State.tile_modTile {s : State} (canonical : Sparse.wf {} s.tiles = true) (n : Nat) (f : Tile → Tile) :
    (s.modTile n f).tile n = f (s.tile n) := Sparse.get_modify ({} : Tile) s.tiles f canonical

/-- In a canonical map of tiles a CUR_SET that is sent to a tile changes nothing of it but what waits for its reception. -/
theorem State.tile_sendCurSet {s : State} (canonical : Sparse.wf {} s.tiles = true) (n : Nat) :
    ∃ ctl ctlHead, (s.sendCurSet n).tile n = { s.tile n with ctl, ctlHead } := by
  unfold State.sendCurSet State.sendCtl
  split
  · exact ⟨_, _, State.tile_modTile canonical n _⟩
  · exact ⟨_, _, rfl⟩

/-- A tile's request takes a value (Table 9.9, Table 9.12). -/
def Tile.requested (q : Nat) (beyond : Bool) (x : Tile) : Tile := { x with req := BitVec.ofNat 8 q, ceilSeen := beyond }

/-- In a canonical map of tiles a request that is set is the tile's, whether it is forwarded or reported or not, and the applied
code stays (R255). -/
theorem State.tile_setRequest {s : State} (canonical : Sparse.wf {} s.tiles = true) (n q : Nat) :
    ((s.setRequest n q).tile n).applied = (s.tile n).applied ∧ ((s.setRequest n q).tile n).req = BitVec.ofNat 8 q := by
  let f := Tile.requested q (decide (s.fusedCeil n < q))
  have set : (s.modTile n f).tile n = f (s.tile n) := State.tile_modTile canonical n f
  have unreported : (s.setRequest n q).tile n =
      ((s.modTile n f).cond (decide ((s.tile n).req.toNat ≠ q % 256)) fun v => v.sendCurSet n).tile n :=
    State.tile_cond_raiseRated ..
  obtain ⟨ctl, ctlHead, sent⟩ := State.tile_sendCurSet (s := s.modTile n f) (Sparse.wf_modify {} s.tiles n f canonical) n
  rw [unreported, State.cond_read (State.tile · n)]
  split
  · rw [sent, set]
    exact ⟨rfl, rfl⟩
  · rw [set]
    exact ⟨rfl, rfl⟩

/-- Where the map of tiles is canonical a write of DRV_TILE sets the request and leaves the applied code. -/
theorem exec_drvTileWrite_reads {s : State} (canonical : Sparse.wf {} s.tiles = true) (n : Fin 64) (v : BitVec 32) :
    ∃ t, exec (.drvTileWrite n v) s = .next t ∧ (t.tile n).applied = (s.tile n).applied ∧
      (t.tile n).req = BitVec.ofNat 8 v.toNat := by
  obtain ⟨applied, request⟩ := State.tile_setRequest canonical n (v.toNat % 256)
  exact ⟨_, rfl, applied, request.trans (BitVec.eq_of_toNat_eq (by simp))⟩

/-- Tile 0 with request 1, in a state outside the canonical form: the tile is listed twice. -/
def requestTwice : State := { tiles := [(0, { req := 1 }), (0, { req := 1 })] }

/-- Refutes O30, by its clause on the request that a write of DRV_TILE sets: a tile off with every value at its default but the
request, written back to 160, is the default value, which removes the entry, so that in `requestTwice` the second entry of tile 0,
request 1 still, is the one that reads. In a canonical map of tiles that clause holds (`exec_drvTileWrite_reads`). -/
theorem not_controlWordsAndTileCurrent : ¬ Obligations.ControlWordsAndTileCurrent := by
  rintro ⟨-, -, -, -, -, -, -, -, -, -, written, -⟩
  obtain ⟨t, run, -, request, -⟩ := written requestTwice 0 160
  cases run
  exact absurd request (by decide)

end Sys2Proof.Machine
end

section
/-!
PROOFS. Words on a quadrant command bus (09 R252, R254, R267, R268, Table 9.6): what each does at the tiles it addresses, and their
answers.
-/
namespace Sys2Proof.Machine

/-! ### Answers (R268) -/

/-- A tile answers a command on its quadrant's status line. -/
def State.answered (s : State) (q n : Nat) (nak : Bool) : State :=
  s.modQuad q fun k => { k with answers := k.answers ++ [s.answer n nak] }

/-- A quadrant that hears a command has answered nothing of it yet. -/
def State.heard (s : State) (q : Nat) : State := s.modQuad q fun k => { k with answers := [] }

/-- Every tile that a word addresses refuses it. -/
def State.refused (s : State) (q : Nat) (w : BitVec 64) : State :=
  (s.heard q).forEach (qTiles q w) fun u n => u.answered q n true

/-- A quadrant that a change leaves powered reads as it was changed, in whatever form the map is. -/
theorem State.quad_modQuad_on {s : State} {q : Nat} {f : Quad → Quad} (on : (f (s.quad q)).powered = true) :
    (s.modQuad q f).quad q = f (s.quad q) :=
  State.quad_modQuad_listed fun same => Bool.noConfusion (on.symm.trans (congrArg Quad.powered same))

theorem State.quad_heard {s : State} {q : Nat} (on : (s.quad q).powered = true) :
    (s.heard q).quad q = { s.quad q with answers := [] } := State.quad_modQuad_on on

theorem State.quad_answered {s : State} {q : Nat} (on : (s.quad q).powered = true) (n : Nat) (nak : Bool) :
    (s.answered q n nak).quad q = { s.quad q with answers := (s.quad q).answers ++ [s.answer n nak] } := State.quad_modQuad_on on

/-- A loop over tiles each round of which brings one answer brings one for each tile, in their order. -/
theorem State.answers_forEach {q : Nat} {I : State → Prop} {p : Nat → BitVec 16 → Prop} {round : State → Nat → State}
    (step : ∀ u n, I u → I (round u n) ∧ ∃ a, p n a ∧ ((round u n).quad q).answers = (u.quad q).answers ++ [a])
    (ns : List Nat) {s : State} (start : I s) :
    ∃ as, List.Forall₂ p ns as ∧ ((s.forEach ns round).quad q).answers = (s.quad q).answers ++ as := by
  induction ns generalizing s with
  | nil => exact ⟨[], .nil, by simp⟩
  | cons n ns ih =>
    obtain ⟨keeps, a, first, answer⟩ := step s n start
    obtain ⟨as, rest, answers⟩ := ih keeps
    exact ⟨a :: as, .cons first rest, by rw [State.forEach_cons, answers, answer, List.append_assoc]; rfl⟩

/-! ### A word on the bus (R267) -/

/-- A quadrant without power hears no command. -/
theorem State.busCommand_off {s : State} {q : Nat} (off : (s.quad q).powered = false) (cmd : Nat) (w : BitVec 64)
    (nak : Tile → Bool) (f : State → Nat → State) : s.busCommand cmd q w nak f = s := by
  simp [State.busCommand, off]

/-- A word whose CRC8 fails or whose CMD is reserved is refused, whatever command it may have been. -/
theorem State.busCommand_invalid {s : State} {q : Nat} {w : BitVec 64} (on : (s.quad q).powered = true) (bad : qValid w = false)
    (cmd : Nat) (nak : Tile → Bool) (f : State → Nat → State) : s.busCommand cmd q w nak f = s.refused q w := by
  simp [State.busCommand, State.refused, State.heard, State.answered, on, bad]

theorem State.refused_writes (s : State) (q : Nat) (w : BitVec 64) : s.refused q w = { s with quads := (s.refused q w).quads } :=
  State.forEach_keeps (R := fun s t => t = { s with quads := t.quads }) (fun _ => rfl)
    (fun _ _ _ first second => second.trans (by rw [first])) _ (fun _ _ => rfl) _ (s.heard q)

/-- A refused word is answered with NAK by every tile that it addresses. -/
theorem State.answers_refused {s : State} {q : Nat} (on : (s.quad q).powered = true) (w : BitVec 64) :
    ((s.refused q w).quad q).answers = (qTiles q w).map fun n => s.answer n true := by
  have heard := State.quad_heard on
  obtain ⟨as, each, answers⟩ := State.answers_forEach (q := q) (I := fun u => (u.quad q).powered = true ∧ u.tiles = s.tiles)
    (p := fun n a => s.answer n true = a) (round := fun u n => u.answered q n true) (fun u n ⟨on, tiles⟩ => by
      refine ⟨⟨by rw [State.quad_answered on]; exact on, tiles⟩, _, ?_, by rw [State.quad_answered on]⟩
      unfold State.answer State.tile
      rw [tiles]) (qTiles q w) (s := s.heard q) ⟨by rw [heard]; exact on, rfl⟩
  have listed : (qTiles q w).map (fun n => s.answer n true) = as := by
    rw [← List.forall₂_eq_eq_eq, List.forall₂_map_left_iff]
    exact each
  rw [State.refused, answers, heard, listed]
  rfl

section
variable {s : State} {q cmd : Nat} {w : BitVec 64} (on : (s.quad q).powered = true) (valid : qValid w = true) (is : qCmd w = cmd)
include on valid is

/-- A valid word is taken by each tile that it addresses, unless it is refused there. -/
theorem State.busCommand_valid (nak : Tile → Bool) (f : State → Nat → State) :
    s.busCommand cmd q w nak f = (s.heard q).forEach (qTiles q w) fun u n =>
      (if nak (u.tile n) then u else f u n).answered q n (nak (u.tile n)) := by
  simp [State.busCommand, State.heard, State.answered, on, valid, is]

/-- A valid word to one tile, which takes or refuses it and answers. -/
theorem State.busCommand_one (one : qAll w = false) (nak : Tile → Bool) (f : State → Nat → State) :
    s.busCommand cmd q w nak f =
      (if nak (s.tile (tileOf q (qTile w))) then s.heard q else f (s.heard q) (tileOf q (qTile w))).answered q (tileOf q (qTile w))
        (nak (s.tile (tileOf q (qTile w)))) := by
  rw [State.busCommand_valid on valid is]
  simp only [qTiles, one]
  rfl

section
variable (nak : Tile → Bool) {f : State → Nat → State} (effect : ∀ u n, ∃ tiles, f u n = { u with tiles })
include effect

/-- A valid word whose effect lies in the tiles is answered once by each tile that it addresses. -/
theorem State.answers_busCommand : ((s.busCommand cmd q w nak f).quad q).answers.length = (qTiles q w).length := by
  have heard := State.quad_heard on
  obtain ⟨as, each, answers⟩ := State.answers_forEach (q := q) (I := fun u => (u.quad q).powered = true) (p := fun _ _ => True)
    (round := fun u n => (if nak (u.tile n) then u else f u n).answered q n (nak (u.tile n))) (fun u n on => by
      have same : (if nak (u.tile n) then u else f u n).quad q = u.quad q := by
        obtain ⟨tiles, acts⟩ := effect u n
        split
        · rfl
        · rw [acts]; rfl
      have quad := State.quad_answered (n := n) (nak := nak (u.tile n)) (same.symm ▸ on)
      rw [quad, same]
      exact ⟨on, _, trivial, rfl⟩) (qTiles q w) (s := s.heard q) (by rw [heard]; exact on)
  rw [State.busCommand_valid on valid is, answers, heard, List.nil_append]
  exact each.length_eq.symm

theorem State.busCommand_writes :
    s.busCommand cmd q w nak f =
      { s with tiles := (s.busCommand cmd q w nak f).tiles, quads := (s.busCommand cmd q w nak f).quads } := by
  rw [State.busCommand_valid on valid is]
  refine State.forEach_keeps (R := fun s t => t = { s with tiles := t.tiles, quads := t.quads }) (fun _ => rfl)
    (fun _ _ _ first second => second.trans (by rw [first])) _ (fun u n => ?_) _ (s.heard q)
  obtain ⟨tiles, acts⟩ := effect u n
  split
  · rfl
  · rw [acts]; rfl

end

end

/-! ### The commands (Table 9.6) -/

/-- A rectangle that covers no pixel (Table 9.6). -/
def Rect.isEmpty (r : Rect) : Bool := r.x1 < r.x0 || r.y1 < r.y0

theorem Rect.isEmpty_iff {r : Rect} : r.isEmpty = true ↔ r.x1 < r.x0 ∨ r.y1 < r.y0 := by simp [Rect.isEmpty]

/-- A tile holds one more rectangle, and its sweep starts again (R268). -/
def Tile.holds (r : Rect) (x : Tile) : Tile := { x with held := x.held ++ [r], wrote := 0 }

/-- A tile with room takes a rectangle: an empty one paints nothing and is not held (R267). -/
def State.takeRect (s : State) (r : Rect) (n : Nat) : State := if r.isEmpty then s else s.modTile n (Tile.holds r)

/-- A tile takes a ceiling, above which its applied code does not stay (R254). -/
def Tile.ceiled (c : Nat) (x : Tile) : Tile :=
  { x with ceil := some (BitVec.ofNat 8 c), applied := BitVec.ofNat 8 (min x.applied.toNat c) }

section
variable {s : State} {q : Fin 4} {w : BitVec 64} (on : (s.quad q).powered = true) (valid : qValid w = true)
include on valid

/-- FILL_RECT is answered once by each tile that it addresses. -/
theorem exec_fillRect_answers (is : qCmd w = 1) :
    ∃ t, exec (.fillRect q w) s = .next t ∧ (t.quad q).answers.length = (qTiles q w).length ∧
      t = { s with tiles := t.tiles, quads := t.quads } := by
  have effect (u : State) (n : Nat) : ∃ tiles, u.takeRect (qRect w) n = { u with tiles } := by
    unfold State.takeRect
    split
    · exact ⟨u.tiles, rfl⟩
    · exact ⟨_, rfl⟩
  exact ⟨_, rfl, State.answers_busCommand on valid is _ effect, State.busCommand_writes on valid is _ effect⟩

/-- SET_CEIL reaches each tile that it addresses, and is answered once by it. -/
theorem exec_setCeil_answers (is : qCmd w = 2) :
    ∃ t, exec (.setCeil q w) s = .next t ∧ (t.quad q).answers.length = (qTiles q w).length ∧
      (∀ n ∈ qTiles q w, (t.tile n).ceil = some (BitVec.ofNat 8 (qArg w / 16))) ∧
      t = { s with tiles := t.tiles, quads := t.quads } := by
  have effect (u : State) (n : Nat) : ∃ tiles, u.modTile n (Tile.ceiled (qArg w / 16)) = { u with tiles } := ⟨_, rfl⟩
  refine ⟨_, rfl, State.answers_busCommand on valid is _ effect, fun n addressed => ?_,
    State.busCommand_writes on valid is _ effect⟩
  rw [State.busCommand_valid on valid is]
  refine State.forEach_reaches (I := fun _ => True) (P := fun u => (u.tile n).ceil = some (BitVec.ofNat 8 (qArg w / 16)))
    (fun _ _ _ => trivial) (fun u _ => ?_) (fun u m other set => ?_) addressed trivial
  · have ceiled : (u.modTile n (Tile.ceiled (qArg w / 16))).tile n = (u.tile n).ceiled (qArg w / 16) :=
      State.tile_modTile_listed fun same => by cases congrArg Tile.ceil same
    exact congrArg Tile.ceil ceiled
  · exact (congrArg Tile.ceil (u.tile_modTile_other (Tile.ceiled (qArg w / 16)) other.symm)).trans set

/-- FILL_RECT to one tile: it takes the rectangle, or refuses a ninth (R267, R268). -/
theorem exec_fillRect_one (one : qAll w = false) (is : qCmd w = 1) :
    exec (.fillRect q w) s = .next ((if decide (8 ≤ (s.tile (tileOf q (qTile w))).held.length) then s.heard q
      else (s.heard q).takeRect (qRect w) (tileOf q (qTile w))).answered q (tileOf q (qTile w))
        (decide (8 ≤ (s.tile (tileOf q (qTile w))).held.length))) :=
  congrArg Host.Outcome.next (State.busCommand_one on valid is one _ _)

/-- SET_SOURCE to one tile: with the source that it has already, its answer alone (R252). -/
theorem exec_setSource_one (one : qAll w = false) (is : qCmd w = 4) :
    exec (.setSource q w) s = .next ((if (s.tile (tileOf q (qTile w))).localSrc = bitOf (qArg w) 11 then s.heard q
      else ((s.heard q).modTile (tileOf q (qTile w)) fun x => { x with
        localSrc := bitOf (qArg w) 11
        align := if bitOf (qArg w) 11 then some (s.tileNow + rdivNat (tileOf q (qTile w) * localPeriod) 16384) else none }).raise
        0x0608 [(1, tileOf q (qTile w)), (1, b2n (bitOf (qArg w) 11))]).answered q (tileOf q (qTile w)) false) :=
  congrArg Host.Outcome.next (State.busCommand_one on valid is one _ _)

end

end Sys2Proof.Machine
end

section
/-!
PROOFS. The sweep of a tile's fill engine (09 R245, R268), and what the quadrant command bus and the sweeps do (O31).
-/
namespace Sys2Proof

section
variable {α : Type} [DecidableEq α] (d : α) {ws : List (Nat × α)} {m : Sparse α} {j : Nat}
  (writes : ws.Pairwise fun a b => a.1 < b.1) (rising : m.Pairwise fun a b => a.1 < b.1)
include writes rising

/-- A key that a block of writes holds reads as it was written. -/
theorem Sparse.get_merge_of_mem {v : α} (mem : (j, v) ∈ ws) : (Sparse.merge d ws m).get d j = v := by
  have once : (ws.map Prod.fst).Nodup := List.pairwise_map.mpr (writes.imp Nat.ne_of_lt)
  rw [Sparse.get_merge d ws m j writes rising]
  split
  next e found =>
    have key : e.1 = j := by simpa using List.find?_some found
    exact congrArg Prod.snd (List.inj_on_of_nodup_map once (List.mem_of_find?_eq_some found) mem key)
  next none => exact absurd (List.find?_eq_none.mp none _ mem) (by simp)

/-- A key that a block of writes does not hold reads as before. -/
theorem Sparse.get_merge_of_notMem (other : ∀ e ∈ ws, e.1 ≠ j) : (Sparse.merge d ws m).get d j = m.get d j := by
  rw [Sparse.get_merge d ws m j writes rising, List.find?_eq_none.mpr (by simpa using other)]

end

end Sys2Proof

namespace Sys2Proof.Machine

/-! ### The writes of a sweep (R245, R268) -/

/-- The most recently received of the held rectangles that covers a pixel. -/
def lastCover (held : List Rect) (row col : Nat) : Option Rect := held.reverse.find? fun r => r.covers row col

/-- The latch writes of a sweep: those of the rows that no segment has written meanwhile. -/
def sweepWrites (n : Nat) (x : Tile) : List (Nat × BitVec 13) :=
  ((List.range 128).filter fun row => !x.wrote.getLsbD row).flatMap fun row => sweepRowWrites n row x.held

theorem sweepRowWrites_eq (n row : Nat) (held : List Rect) :
    sweepRowWrites n row held = (List.range 128).filterMap fun col =>
      (lastCover held row col).map fun r => (tilePixel n row col, latchWord r.code) := by
  have inRow (r : Rect) (col : Nat) :
      decide ((decide (r.y0 ≤ row) && decide (row ≤ r.y1)) = true ∧ r.covers row col = true) = r.covers row col := by
    rw [Bool.eq_iff_iff]
    simp +contextual [Rect.covers]
  have last (col : Nat) : (held.filter fun r => decide (r.y0 ≤ row) && decide (row ≤ r.y1)).reverse.find? (·.covers row col) =
      lastCover held row col := by
    rw [← List.filter_reverse, List.find?_filter]
    exact congrArg (fun p => List.find? p held.reverse) (funext fun r => inRow r col)
  unfold sweepRowWrites
  simp only [← last]
  split
  next none => simp [List.isEmpty_iff.mp none]
  next => rfl

/-- A sweep writes each pixel of an unwritten row with the code of the last rectangle that covers it. -/
theorem mem_sweepWrites {n : Nat} {x : Tile} {e : Nat × BitVec 13} :
    e ∈ sweepWrites n x ↔ ∃ row < 128, x.wrote.getLsbD row = false ∧ ∃ col < 128, ∃ r, lastCover x.held row col = some r ∧
      (tilePixel n row col, latchWord r.code) = e := by
  simp [sweepWrites, sweepRowWrites_eq, and_assoc]

theorem tilePixel_inj {n row row' col col' : Nat} (lt : col < 128) (lt' : col' < 128)
    (same : tilePixel n row col = tilePixel n row' col') : row = row' ∧ col = col' := by
  unfold tilePixel at same
  omega

/-- A tile whose held rectangles are painted. -/
def Tile.painted (x : Tile) : Tile := { x with held := [], wrote := 0 }

/-- The latches of a tile with its held rectangles painted. -/
def State.sweptLatches (s : State) (n : Nat) : Sparse (BitVec 13) := Sparse.merge 0 (sweepWrites n (s.tile n)) s.latches

section
variable {s : State} {n : Nat} (wf : s.MemoryWf)
include wf

/-- What a sweep writes, its latches hold. -/
theorem State.get_sweptLatches_of_mem {p : Nat} {v : BitVec 13} (mem : (p, v) ∈ sweepWrites n (s.tile n)) :
    (s.sweptLatches n).get 0 p = v := by
  obtain ⟨-, -, -, -, latches⟩ := wf
  exact Sparse.get_merge_of_mem 0 (sweepWrites_rising n _ (.filter _ List.pairwise_lt_range)) ((Sparse.wf_iff 0 _).mp latches).1 mem

/-- What it does not write, it leaves. -/
theorem State.get_sweptLatches_of_notMem {p : Nat} (other : ∀ e ∈ sweepWrites n (s.tile n), e.1 ≠ p) :
    (s.sweptLatches n).get 0 p = s.latches.get 0 p := by
  obtain ⟨-, -, -, -, latches⟩ := wf
  exact Sparse.get_merge_of_notMem 0 (sweepWrites_rising n _ (.filter _ List.pairwise_lt_range)) ((Sparse.wf_iff 0 _).mp latches).1
    other

/-- A covered pixel of an unwritten row takes the code of the last rectangle that covers it. -/
theorem State.get_sweptLatches_covered {row col : Nat} (hRow : row < 128) (hCol : col < 128)
    (free : (s.tile n).wrote.getLsbD row = false) {r : Rect} (covered : lastCover (s.tile n).held row col = some r) :
    (s.sweptLatches n).get 0 (tilePixel n row col) = latchWord r.code :=
  State.get_sweptLatches_of_mem wf (mem_sweepWrites.mpr ⟨row, hRow, free, col, hCol, r, covered, rfl⟩)

/-- A pixel that no rectangle covers stays, as does a row that a segment has written. -/
theorem State.get_sweptLatches_spared {row col : Nat} (hCol : col < 128)
    (spared : (s.tile n).wrote.getLsbD row = true ∨ lastCover (s.tile n).held row col = none) :
    (s.sweptLatches n).get 0 (tilePixel n row col) = s.latch n row col := by
  refine State.get_sweptLatches_of_notMem wf fun e mem key => ?_
  obtain ⟨row', -, free, col', lt, r, covered, rfl⟩ := mem_sweepWrites.mp mem
  obtain ⟨rfl, rfl⟩ := tilePixel_inj lt hCol key
  rcases spared with wrote | uncovered
  · exact Bool.noConfusion (free.symm.trans wrote)
  · exact Option.some_ne_none r (covered.symm.trans uncovered)

/-- A sweep leaves the pixels of the other tiles. -/
theorem State.get_sweptLatches_other {p : Nat} (other : ∀ row col, row < 128 → col < 128 → p ≠ tilePixel n row col) :
    (s.sweptLatches n).get 0 p = s.latches.get 0 p := by
  refine State.get_sweptLatches_of_notMem wf fun e mem key => ?_
  obtain ⟨row, hRow, -, col, hCol, r, -, rfl⟩ := mem_sweepWrites.mp mem
  exact other row col hRow hCol key.symm

end

/-! ### The end of a sweep -/

theorem State.canonical_modTile {s : State} (canonical : Sparse.wf {} s.tiles = true) (n : Nat) (f : Tile → Tile) :
    Sparse.wf {} (s.modTile n f).tiles = true := Sparse.wf_modify {} s.tiles n f canonical

theorem State.canonical_rowTouched {s : State} (canonical : Sparse.wf {} s.tiles = true) (n row : Nat) (mask : BitVec 128) :
    Sparse.wf {} (s.rowTouched n row mask).tiles = true := by
  unfold State.rowTouched
  split
  · split
    · exact State.canonical_modTile canonical n _
    · exact canonical
  · exact canonical

/-- A sweep writes its latches, touches the tile's measured row, and its rectangles leave the tile's set. -/
theorem exec_fillSweepDone {s : State} {n : Fin 64} (on : s.tileOn n = true) (held : (s.tile n).held ≠ []) :
    ∃ tiles, (Sparse.wf {} s.tiles = true → Sparse.wf {} tiles = true) ∧ exec (.fillSweepDone n) s = .next
      (({ s with latches := s.sweptLatches n, tiles } : State).modTile n Tile.painted) := by
  have run : ¬ (!s.tileOn n || (s.tile n).held.isEmpty) = true := by simp [on, held]
  show ∃ tiles, _ ∧ execFillSweepDone n s = _
  unfold execFillSweepDone
  simp only [if_neg run]
  split
  next m _ =>
    let swept : State := { s with latches := s.sweptLatches n }
    obtain ⟨tiles, touched⟩ := swept.rowTouched_writes n m.row (coverMask m.row (s.tile n).held)
    refine ⟨tiles, fun canonical => ?_, congrArg (fun u => Host.Outcome.next (u.modTile n Tile.painted)) touched⟩
    have kept := State.canonical_rowTouched (s := swept) canonical n m.row (coverMask m.row (s.tile n).held)
    rwa [touched] at kept
  next => exact ⟨s.tiles, id, rfl⟩

/-! ### The statement -/

/-- Settles O31: the bus by what a word does at one tile and what a loop over the addressed tiles leaves, a sweep by which pixels
its writes name. -/
theorem busCommandsAndFillSweeps : Obligations.BusCommandsAndFillSweeps := by
  refine ⟨fun s q w on valid one => ⟨?joins, ?empty, ?ninth, fun is => ?ceiling, fun is => ?override, ?changes, ?stays,
      fun is => ?status⟩,
    fun s q w on valid => ⟨exec_fillRect_answers on valid, exec_setCeil_answers on valid⟩,
    fun s q w on bad => ?invalid, fun s q w off => ?off, fun s n wf on held => ?sweep⟩
  case joins =>
    intro is room cols rows
    rw [exec_fillRect_one on valid one is, decide_eq_false (Nat.not_le.mpr room), State.takeRect,
      if_neg (mt Rect.isEmpty_iff.mp (by omega))]
    rfl
  case empty =>
    intro is room empty
    rw [exec_fillRect_one on valid one is, decide_eq_false (Nat.not_le.mpr room), State.takeRect,
      if_pos (Rect.isEmpty_iff.mpr empty)]
    rfl
  case ninth =>
    intro is full
    rw [exec_fillRect_one on valid one is, decide_eq_true full]
    rfl
  case changes =>
    intro is change
    rw [exec_setSource_one on valid one is, if_neg change]
    rfl
  case stays =>
    intro is same
    rw [exec_setSource_one on valid one is, if_pos same]
    rfl
  case ceiling | override | status => exact congrArg Host.Outcome.next (State.busCommand_one on valid is one _ _)
  case invalid =>
    have refuse cmd nak f := congrArg (Host.Outcome.next (φ := Fault) (ρ := Refusal)) (State.busCommand_invalid on bad cmd nak f)
    exact ⟨s.refused q w, refuse _ _ _, refuse _ _ _, refuse _ _ _, refuse _ _ _, refuse _ _ _, s.refused_writes q w,
      State.answers_refused on w⟩
  case off =>
    have unheard cmd nak f := congrArg (Host.Outcome.next (φ := Fault) (ρ := Refusal)) (State.busCommand_off off cmd w nak f)
    exact ⟨unheard _ _ _, unheard _ _ _, unheard _ _ _, unheard _ _ _, unheard _ _ _⟩
  case sweep =>
    obtain ⟨tiles, canonical, run⟩ := exec_fillSweepDone on held
    refine ⟨_, run, fun row col hRow hCol => ?_, fun p other => State.get_sweptLatches_other wf other, fun wf => ?_, rfl⟩
    · split
      next wrote => exact State.get_sweptLatches_spared wf hCol (.inl wrote)
      next free =>
        split
        next r covered => exact State.get_sweptLatches_covered wf hRow hCol (by simpa using free) covered
        next uncovered => exact State.get_sweptLatches_spared wf hCol (.inr uncovered)
    · rw [State.tile_modTile (canonical wf)]
      exact ⟨rfl, rfl⟩

end Sys2Proof.Machine
end

section
/-!
PROOFS. The timing sent to the tiles at the cutoff (09 R251), and the handover that is prepared there (11 R320; O26).
-/
namespace Sys2Proof.Machine

/-! ### Control words that wait at a tile (R250, R251) -/

/-- Operation code of the control word that waits at a tile under a key. -/
def State.opAt (s : State) (n key : Nat) : Nat := ctlOp ((s.tile n).ctl.get 0 key)

theorem Sparse.put_ne_nil {α : Type} (m : Sparse α) (k : Nat) (v : α) : m.put k v ≠ [] := by
  unfold Sparse.put
  split
  · exact List.cons_ne_nil _ _
  · split_ifs
    · exact List.cons_ne_nil _ _
    · exact List.cons_ne_nil _ _
    · exact List.cons_ne_nil _ _

/-- A control word that is sent to a tile that is on waits there under its key, and those of its other keys stay. -/
theorem State.opAt_sendCtl {s : State} {n : Nat} (on : s.tileOn n = true) (key w key' : Nat) :
    (s.sendCtl n key w).opAt n key' = if key' = key then ctlOp (BitVec.ofNat 96 w) else s.opAt n key' := by
  unfold State.opAt State.sendCtl
  rw [if_pos on, State.tile_modTile_listed fun same => Sparse.put_ne_nil _ _ _ (congrArg Tile.ctl same), Sparse.get_put]
  exact apply_ite ctlOp _ _ _

theorem State.opAt_sendCtl_other (s : State) {m n : Nat} (other : m ≠ n) (key w key' : Nat) :
    (s.sendCtl n key w).opAt m key' = s.opAt m key' := by
  unfold State.opAt State.sendCtl
  split
  · rw [s.tile_modTile_other _ other]
  · rfl

/-- The operation code of a control word whose other fields lie below it (Table 9.1). -/
theorem ctlOp_ofNat {op rest : Nat} (hOp : op < 256) (hRest : rest < 2 ^ 88) :
    ctlOp (BitVec.ofNat 96 (op * 2 ^ 88 + rest)) = op := by
  unfold ctlOp bitsOf
  rw [BitVec.toNat_ofNat, Nat.shiftRight_eq_div_pow]
  omega

theorem State.tileOn_sendCtl (s : State) (m key w n : Nat) : (s.sendCtl m key w).tileOn n = s.tileOn n := by
  obtain ⟨tiles, sent⟩ := s.sendCtl_tiles m key w
  rw [sent]
  rfl

/-! ### PWM_SET and ALIGN for every tile (R251) -/

/-- One round of the timing that a state sends: a tile's PWM_SET where it is due, then its ALIGN. -/
def State.timeTile (s : State) (p : Nat) (set : Bool) (u : State) (n : Nat) : State :=
  (u.cond set fun v => v.sendCtl n 8 (2 * 2 ^ 88 + p % 2 ^ 28 * 2 ^ 60 + n * 2 ^ 54)).sendCtl n 12
    (3 * 2 ^ 88 + s.alignDelay s.grid.nextL p n % 2 ^ 24 * 2 ^ 64)

/-- The timing waits at a tile: its ALIGN, and the PWM_SET where it was due. -/
def State.TimingWaits (set : Bool) (n : Nat) (s : State) : Prop := s.opAt n 12 = 3 ∧ (set = true → s.opAt n 8 = 2)

section
variable (s : State) (p : Nat) (set : Bool)

theorem State.tileOn_timeTile (u : State) (m n : Nat) : (s.timeTile p set u m).tileOn n = u.tileOn n := by
  unfold State.timeTile
  rw [State.tileOn_sendCtl, State.cond_read (State.tileOn · n), State.tileOn_sendCtl, ite_self]

/-- The round of a tile that is on leaves its timing waiting there. -/
theorem State.timingWaits_timeTile {u : State} {n : Nat} (lt : n < 64) (on : u.tileOn n = true) :
    (s.timeTile p set u n).TimingWaits set n := by
  have align := ctlOp_ofNat (op := 3) (rest := s.alignDelay s.grid.nextL p n % 2 ^ 24 * 2 ^ 64) (by decide) (by omega)
  have pwmSet := ctlOp_ofNat (op := 2) (rest := p % 2 ^ 28 * 2 ^ 60 + n * 2 ^ 54) (by decide) (by omega)
  unfold State.timeTile
  cases set
  · exact ⟨by rw [State.cond_false, State.opAt_sendCtl on, if_pos rfl, align], nofun⟩
  · have on' := (u.tileOn_sendCtl n 8 (2 * 2 ^ 88 + p % 2 ^ 28 * 2 ^ 60 + n * 2 ^ 54) n).trans on
    refine ⟨by rw [State.cond_true, State.opAt_sendCtl on', if_pos rfl, align], fun _ => ?_⟩
    rw [State.cond_true, State.opAt_sendCtl on', if_neg (by decide), State.opAt_sendCtl on, if_pos rfl, Nat.add_assoc, pwmSet]

/-- The round of another tile leaves what waits at a tile. -/
theorem State.opAt_timeTile_other (u : State) {m n : Nat} (other : m ≠ n) (key : Nat) :
    (s.timeTile p set u m).opAt n key = u.opAt n key := by
  unfold State.timeTile
  rw [State.opAt_sendCtl_other _ other.symm, State.cond_read (State.opAt · n key), State.opAt_sendCtl_other _ other.symm, ite_self]

/-- Every tile that is on is sent its timing. -/
theorem State.timingWaits_sendTiming {n : Nat} (lt : n < 64) (on : s.tileOn n = true) : (s.sendTiming p set).TimingWaits set n :=
  State.forEach_reaches (f := s.timeTile p set) (I := fun u => u.tileOn n = true) (P := State.TimingWaits set n)
    (fun u _ on => (s.tileOn_timeTile p set u _ n).trans on) (fun _ on => s.timingWaits_timeTile p set lt on)
    (fun u _ other ⟨align, pwmSet⟩ => ⟨(s.opAt_timeTile_other p set u other 12).trans align,
      fun due => (s.opAt_timeTile_other p set u other 8).trans (pwmSet due)⟩) (List.mem_range.mpr lt) on

theorem State.besideTiles_sendCtl (n key w : Nat) : (s.sendCtl n key w).besideTiles = s.besideTiles := by
  obtain ⟨tiles, sent⟩ := s.sendCtl_tiles n key w
  rw [sent]
  rfl

/-- The timing goes to the tiles alone. -/
theorem State.sendTiming_writes : s.sendTiming p set = { s with tiles := (s.sendTiming p set).tiles } := by
  refine State.eq_of_besideTiles (State.forEach_leaves (g := State.besideTiles) (fun u n => ?_) s _)
  rw [State.besideTiles_sendCtl, State.cond_read State.besideTiles, State.besideTiles_sendCtl, ite_self]

end

/-! ### The timing of a frame (R251) -/

theorem State.timeTiles_writes (s : State) :
    ∃ tiles, s.timeTiles = { s with grid := { s.grid with timed := true }, tiles } := by
  unfold State.timeTiles
  split
  next timed => exact ⟨s.tiles, by rw [← timed]⟩
  next => exact ⟨_, State.sendTiming_writes ..⟩

/-- The first time in a frame, every tile that is on is sent its ALIGN, and its PWM_SET before a new period. -/
theorem State.timingWaits_timeTiles {s : State} (first : s.grid.timed = false) {n : Nat} (lt : n < 64) (on : s.tileOn n = true) :
    s.timeTiles.TimingWaits (s.nextPeriod ≠ s.pwmPeriod) n := by
  unfold State.timeTiles
  rw [if_neg (by simp [first])]
  exact State.timingWaits_sendTiming _ _ _ lt on

/-! ### The cutoff (R251, R320) -/

/-- Time has passed until the cutoff of the next latch point. -/
def State.toCutoff (s : State) : State :=
  let t := s.elapse (s.cyclesTo0 (s.cutoffOf s.grid.nextG))
  t.elapse (t.cyclesTo0 (s.cutoffOf s.grid.nextG))

/-- A commit or a SHOW is bound to the next latch point. -/
def State.commitBound (s : State) : Bool :=
  (s.comp.pending.any fun c => !c.await && decide (c.due ≤ s.grid.nextG)) || slotDue s.grid.nextG s.leg.slot0 ||
    slotDue s.grid.nextG s.leg.slot1

/-- The handover is prepared: each ready quadrant is told to leave its local source. -/
def State.prepared (s : State) : State :=
  ({ s with safety := { s.safety with handover := true } } : State).eachReady fun u q => u.sendSource q false

theorem State.toCutoff_writes (s : State) :
    ∃ clk lampErr sync e, s.toCutoff = { s with clk, grid := { s.grid with lampErr }, sync, ev := e } := by
  obtain ⟨clk, lampErr, sync, e, first⟩ := s.elapse_frame (s.cyclesTo0 (s.cutoffOf s.grid.nextG))
  unfold State.toCutoff
  rw [first]
  exact State.elapse_frame ..

/-- Up to the cutoff and its timing, nothing moves that the handover rests on. -/
theorem State.timeTiles_toCutoff_writes (s : State) : ∃ clk lampErr sync e tiles,
    s.toCutoff.timeTiles = { s with clk, grid := { s.grid with lampErr, timed := true }, sync, ev := e, tiles } := by
  obtain ⟨clk, lampErr, sync, e, passed⟩ := s.toCutoff_writes
  obtain ⟨tiles, timed⟩ := s.toCutoff.timeTiles_writes
  exact ⟨clk, lampErr, sync, e, tiles, by rw [timed, passed]⟩

theorem exec_cutoff {s : State} (runs : s.gridRuns = true) :
    exec .cutoff s = .next (if s.toCutoff.timeTiles.clearable && s.toCutoff.timeTiles.commitBound &&
      !s.toCutoff.timeTiles.safety.handover then s.toCutoff.timeTiles.prepared else s.toCutoff.timeTiles) := by
  have run : exec .cutoff s = if s.toCutoff.timeTiles.clearable && s.toCutoff.timeTiles.commitBound &&
      !s.toCutoff.timeTiles.safety.handover then .next s.toCutoff.timeTiles.prepared else .next s.toCutoff.timeTiles :=
    if_neg (by simp [runs])
  rw [run]
  exact (apply_ite Host.Outcome.next _ _ _).symm

/-! ### The prepared handover (R320) -/

theorem State.prepared_writes (s : State) :
    s.prepared = { s with safety := { s.safety with handover := true, cmds := s.prepared.safety.cmds } } := by
  refine State.forEach_keeps (R := fun s t => t = { s with safety := { s.safety with cmds := t.safety.cmds } }) (fun _ => rfl)
    (fun _ _ _ first second => second.trans (by rw [first])) _ (fun u q => ?_) _ _
  unfold State.cond
  split
  · rfl
  · rfl

/-- Each ready quadrant is sent SET_SOURCE with ALL and the link source. -/
theorem State.mem_cmds_prepared {s : State} {q : Nat} (lt : q < 4) (ready : s.quadReady q = true) :
    (⟨q, quadWord 4 0 true 0 0 0 0 0, false, false⟩ : QuadCmd) ∈ s.prepared.safety.cmds := by
  let told : QuadCmd := ⟨q, quadWord 4 0 true 0 0 0 0 0, false, false⟩
  refine State.forEach_reaches (I := fun u => u.quadReady q = true) (P := fun u => told ∈ u.safety.cmds) (n := q)
    (fun u m ready => ?_) (fun u ready => ?_) (fun u m _ sent => ?_) (by simp; omega) ready
  · rw [State.cond_read (State.quadReady · q)]
    exact (ite_self _).trans ready
  · rw [ready]
    exact List.mem_append_right _ List.mem_cons_self
  · rw [State.cond_read fun u => told ∈ u.safety.cmds]
    split
    · exact List.mem_append_left _ sent
    · exact sent

/-! ### The statement -/

/-- Settles O26: the cutoff by what its timing leaves waiting at a tile and what the preparation sends; HANDOVER_ALIGN is that
timing once more. -/
theorem cutoffPreparesTheHandover : Obligations.CutoffPreparesTheHandover := by
  refine ⟨fun s runs => ?cutoff, fun s handover => ?align⟩
  case align =>
    have run : exec .handoverAlign s = .next (s.sendTiming s.nextPeriod true) := congrArg Host.Outcome.next (if_pos handover)
    refine ⟨_, run, s.sendTiming_writes _ _, fun n lt on => ?_⟩
    obtain ⟨align, pwmSet⟩ := s.timingWaits_sendTiming s.nextPeriod true lt on
    exact ⟨align, pwmSet rfl⟩
  case cutoff =>
    obtain ⟨clk, lampErr, sync, e, tiles, timed⟩ := s.timeTiles_toCutoff_writes
    have safety : s.toCutoff.timeTiles.safety = s.safety := by rw [timed]
    have sameBound : s.toCutoff.timeTiles.commitBound = s.commitBound := by rw [timed]; rfl
    have run := exec_cutoff runs
    rw [sameBound, safety] at run
    refine ⟨fun clear ⟨c, waits, await, due⟩ fresh => ?prepares, fun none slot0 slot1 => ?unbound,
      (congrArg (·.grid.timed) timed :), fun first n lt on => ?timing⟩
    case prepares =>
      have bound : s.commitBound = true := by
        simp only [State.commitBound, Bool.or_eq_true, List.any_eq_true]
        exact .inl (.inl ⟨c, waits, by simp [await, due]⟩)
      have writes := s.toCutoff.timeTiles.prepared_writes
      refine ⟨s.toCutoff.timeTiles.prepared, ?_, ?_, fun q lt ready => State.mem_cmds_prepared lt ready,
        writes.trans (congrArg (fun x => { s.toCutoff.timeTiles with safety := x }) (congrArg State.safety writes).symm)⟩
      · have clear : s.toCutoff.timeTiles.clearable = true := clear
        rw [run, clear, bound, fresh]
        rfl
      · rw [← safety]
        exact congrArg State.safety writes
    case unbound =>
      have unbound : s.commitBound = false := by simp [State.commitBound, none, slot0, slot1, slotDue]
      rw [run, unbound, Bool.and_false, Bool.false_and]
      rfl
    case timing =>
      obtain ⟨clk, lampErr, sync, e, passed⟩ := s.toCutoff_writes
      have waits := State.timingWaits_timeTiles (s := s.toCutoff) (by rw [passed]; exact first) lt (by rw [passed]; exact on)
      have next : s.toCutoff.nextPeriod = s.nextPeriod := by rw [passed]; rfl
      have now : s.toCutoff.pwmPeriod = s.pwmPeriod := by rw [passed]; rfl
      rw [next, now] at waits
      obtain ⟨align, pwmSet⟩ := waits
      exact ⟨align, fun change => pwmSet (decide_eq_true change)⟩

end Sys2Proof.Machine
end

section
/-!
PROOFS. A measurement of a pixel: what it counts, and what a change of the fault map writes (10 R293, 11 R325, 14 R386).
-/
namespace Sys2Proof.Machine

/-! ### What a change of the fault map leaves (R293, R325, R386) -/

/-- What no measurement of a pixel writes: the tiles, the link and the flash. -/
def State.offMap (s : State) : Sparse Tile × Link × Flash := (s.tiles, s.link, s.flash)

theorem State.keeps_of_offMap {s t : State} (h : t.offMap = s.offMap) : t.tiles = s.tiles ∧ t.link = s.link ∧ t.flash = s.flash :=
  ⟨congrArg Prod.fst h, congrArg (·.2.1) h, congrArg (·.2.2) h⟩

/-- What no reaction to a pixel's change of state writes, be it the Rind's or the legacy personality's. -/
def State.offReactions (s : State) : Diag × (Sparse Tile × Link × Flash) := (s.diag, s.offMap)

theorem State.offReactions_cond (s : State) (c : Bool) {f : State → State} (h : ∀ u, (f u).offReactions = u.offReactions) :
    (s.cond c f).offReactions = s.offReactions := by
  cases c
  · rfl
  · exact h s

theorem State.offReactions_raise (s : State) (code : Nat) (data : List (Nat × Nat)) :
    (s.raise code data).offReactions = s.offReactions := rfl

theorem State.offReactions_setCause (s : State) (rind : Bool) (row : Nat) (on : Bool) :
    (s.setCause rind row on).offReactions = s.offReactions := by
  have rest := s.besideCauses_setCause rind row on
  generalize s.setCause rind row on = t at rest
  have diag : t.diag = s.diag := (congrArg State.diag rest :)
  have tiles : t.tiles = s.tiles := (congrArg State.tiles rest :)
  have link : t.link = s.link := (congrArg State.link rest :)
  have flash : t.flash = s.flash := (congrArg State.flash rest :)
  unfold State.offReactions State.offMap
  rw [diag, tiles, link, flash]

theorem State.offReactions_stuckChange (s : State) (p : Nat) (enters : Bool) :
    (s.stuckChange p enters).offReactions = s.offReactions := by
  unfold State.stuckChange
  split
  · rfl
  split
  · rfl
  · exact s.offReactions_setCause true cStuckFull true

theorem State.offReactions_legStatus (s : State) (bit : Nat) : (s.legStatus bit).offReactions = s.offReactions := by
  obtain ⟨leg, set, -⟩ := s.legStatus_leg bit
  rw [set]
  rfl

theorem State.offReactions_blockUpdate (s : State) (k : Nat) : (s.blockUpdate k).offReactions = s.offReactions := by
  unfold State.blockUpdate
  split
  · rfl
  · dsimp only
    rw [State.offReactions_cond _ _ fun u => u.offReactions_raise _ _,
      State.offReactions_cond _ _ fun u => (State.offReactions_raise ..).trans (u.offReactions_legStatus 7)]
    rfl

theorem State.offReactions_eccRead (s : State) (a n : Nat) : (s.eccRead a n).offReactions = s.offReactions := by
  obtain ⟨⟨banks, store, svc, e, writes⟩, -⟩ := s.transfers_eccRead 0 a n
  rw [writes]
  rfl

theorem State.offReactions_mapProbe (s : State) (p : Nat) : (s.mapProbe p).offReactions = s.offReactions :=
  s.offReactions_cond _ fun u => u.offReactions_eccRead _ 1

theorem State.offReactions_setMapped (s : State) (p : Nat) (on : Bool) : (s.setMapped p on).offReactions = s.offReactions :=
  (congrArg State.offReactions (State.storeBytes_cells ..) :).trans (s.offReactions_eccRead _ 1)

/-- The fault map's records as a pixel enters it. -/
def Diag.entered (d : Diag) (p cause : Nat) : Diag := { d with
  cause := d.cause.set 0 p cause, passes := d.passes.drop p
  delta := d.delta ++ [(p, if d.list.length < listDepth then cause else 0, false)], mapDirty := true }

/-- The fault map's records as a pixel leaves it. -/
def Diag.left (d : Diag) (p cause : Nat) : Diag := { d with
  cause := d.cause.drop p, passes := d.passes.drop p
  delta := d.delta ++ [(p, if d.list.contains p then cause else 0, true)]
  list := d.list.filter fun x => x ≠ p, mapDirty := true }

/-- The fault list with one more pixel, or with what says that it is full. -/
def Diag.listed (d : Diag) (p : Nat) : Diag :=
  if d.list.length < listDepth then { d with list := d.list ++ [p] } else { d with listFull := true }

theorem State.offReactions_listCause (s : State) (p : Nat) : (s.listCause p).offReactions = (s.diag.listed p, s.offMap) := by
  unfold State.listCause Diag.listed
  split
  · rfl
  split
  next full => exact congrArg (·, s.offMap) (show s.diag = { s.diag with listFull := true } by rw [← full])
  · rfl

theorem State.offReactions_enterMap (s : State) (p cause : Nat) :
    (s.enterMap p cause).offReactions = ((s.diag.entered p cause).listed p, s.offMap) := by
  let set := s.setMapped p true
  have kept : set.offReactions = s.offReactions := s.offReactions_setMapped p true
  let recorded : State := { set.raise 0x0701 [(1, cause), (4, p)] with diag := set.diag.entered p cause }
  calc (s.enterMap p cause).offReactions
    _ = (recorded.listCause p).offReactions := (State.offReactions_blockUpdate _ _).trans
      (State.offReactions_cond _ _ fun u => u.offReactions_stuckChange p true)
    _ = ((set.diag.entered p cause).listed p, set.offMap) := recorded.offReactions_listCause p
    _ = ((s.diag.entered p cause).listed p, s.offMap) :=
      congrArg (fun d : Diag × (Sparse Tile × Link × Flash) => ((d.1.entered p cause).listed p, d.2)) kept

theorem State.offReactions_leaveMap (s : State) (p cause : Nat) :
    (s.leaveMap p cause).offReactions = (s.diag.left p cause, s.offMap) := by
  let cleared := s.setMapped p false
  have kept : cleared.offReactions = s.offReactions := s.offReactions_setMapped p false
  calc (s.leaveMap p cause).offReactions
    _ = (cleared.diag.left p cause, cleared.offMap) := (State.offReactions_blockUpdate _ _).trans
      (State.offReactions_cond _ _ fun u => u.offReactions_stuckChange p false)
    _ = (s.diag.left p cause, s.offMap) :=
      congrArg (fun d : Diag × (Sparse Tile × Link × Flash) => (d.1.left p cause, d.2)) kept

/-! ### Measurements (R293) -/

/-- One more failing measurement is counted. -/
def Diag.failed (d : Diag) (p cause : Nat) : Diag := { d with
  fails := d.fails.set 0 (8 * p + cause) (min 2 (d.fails.get 0 (8 * p + cause) + 1))
  passes := if d.cause.get 0 p = cause then d.passes.drop p else d.passes }

/-- A passing measurement ends the run of failing ones. -/
def Diag.passed (d : Diag) (p cause : Nat) : Diag := { d with fails := d.fails.drop (8 * p + cause) }

/-- A passing measurement of a mapped pixel for its cause is counted. -/
def Diag.recovering (d : Diag) (p : Nat) : Diag := { d with passes := d.passes.set 0 p (min 8 (d.passes.get 0 p + 1)) }

section
variable (s : State) (p cause : Nat)

theorem State.measured_failed : s.measured p cause true =
    if min 2 (s.diag.fails.get 0 (8 * p + cause) + 1) < 2 || s.mapped p then { s with diag := s.diag.failed p cause }
    else if s.mapBlocked p then ({ s with diag := s.diag.failed p cause } : State).mapProbe p
    else ({ s with diag := s.diag.failed p cause } : State).enterMap p cause := rfl

theorem State.measured_passed : s.measured p cause false =
    if s.diag.cause.get 0 p ≠ cause then { s with diag := s.diag.passed p cause }
    else if min 8 (s.diag.passes.get 0 p + 1) < 8 then { s with diag := (s.diag.passed p cause).recovering p }
    else if s.mapBlocked p then ({ s with diag := (s.diag.passed p cause).recovering p } : State).mapProbe p
    else ({ s with diag := (s.diag.passed p cause).recovering p } : State).leaveMap p cause := rfl

theorem State.offMap_measured (fail : Bool) : (s.measured p cause fail).offMap = s.offMap := by
  have probed (u : State) : (u.mapProbe p).offMap = u.offMap := congrArg Prod.snd (u.offReactions_mapProbe p)
  cases fail
  case false =>
    rw [State.measured_passed]
    split_ifs
    · rfl
    · rfl
    · exact probed _
    · exact congrArg Prod.snd (State.offReactions_leaveMap _ p cause)
  case true =>
    rw [State.measured_failed]
    split_ifs
    · rfl
    · exact probed _
    · exact congrArg Prod.snd (State.offReactions_enterMap _ p cause)

end

end Sys2Proof.Machine
end

section
/-!
PROOFS. Measured periods and the fault map (10 R288, R290, R293; O35).
-/
namespace Sys2Proof.Machine

/-! ### The end of a measured period (R288, R290) -/

/-- The results that a tile keeps of a clean measured period: the comparators' outputs for the columns that could be checked. -/
def State.measuredTile (s : State) (n : Nat) (m : Meas) (opens shorts stuck : BitVec 128) (x : Tile) : Tile :=
  let lit := s.codeMask n m.row fun i v => m.cmin ≤ v || ((s.tile n).tamp.getLsbD i && 0 < v)
  let dark := s.codeMask n m.row fun _ v => v ≤ 4096 - m.cmin || m.cgap ≤ v
  { x with
    meas := none, resRow := m.row, resLit := lit, resDark := dark
    resOpen := opens &&& lit, resShort := shorts &&& lit, resStuck := stuck &&& dark }

section
variable {s : State} {n : Fin 64} {m : Meas} (measured : (s.tile n).meas = some m) (opens shorts stuck : BitVec 128)
include measured

theorem exec_measPeriodEnd_dirty (dirty : m.dirty = true) :
    exec (.measPeriodEnd n opens shorts stuck) s = .next (s.modTile n fun x => { x with meas := none }) := by
  show execMeasPeriodEnd n opens shorts stuck s = _
  unfold execMeasPeriodEnd
  rw [measured]
  exact if_pos dirty

theorem exec_measPeriodEnd_clean (clean : m.dirty = false) :
    exec (.measPeriodEnd n opens shorts stuck) s = .next (((s.modTile n (s.measuredTile n m opens shorts stuck)).cond
      (m.row = (s.tile n).sweepRow) fun v => v.rowMeasured n).sendResult n 0 0) := by
  show execMeasPeriodEnd n opens shorts stuck s = _
  unfold execMeasPeriodEnd
  rw [measured]
  exact if_neg (by simp [clean])

end

/-! ### Failing measurements (R293) -/

section
variable (s : State) {p cause : Nat}

/-- The first failing measurement is counted, and no more. -/
theorem State.measured_first (first : s.diag.fails.get 0 (8 * p + cause) = 0) :
    s.measured p cause true = { s with diag := s.diag.failed p cause } := by
  rw [State.measured_failed]
  exact if_pos (by simp [first])

/-- The second puts a pixel into the fault map whose bit can be written. -/
theorem State.measured_second (second : s.diag.fails.get 0 (8 * p + cause) = 1) (writable : s.mapBlocked p = false)
    (unmapped : s.mapped p = false) :
    s.measured p cause true = ({ s with diag := s.diag.failed p cause } : State).enterMap p cause := by
  rw [State.measured_failed, if_neg (by simp [second, unmapped]), if_neg (by simp [writable])]

end

theorem Diag.fails_failed_first {d : Diag} {p cause : Nat} (first : d.fails.get 0 (8 * p + cause) = 0) :
    (d.failed p cause).fails.get 0 (8 * p + cause) = 1 := by
  show (d.fails.set 0 _ (min 2 (d.fails.get 0 _ + 1))).get 0 _ = 1
  rw [first]
  exact Sparse.get_set_listed 0 d.fails _ (by decide)

/-- The records of a pixel that has entered the fault map: its cause, and its place in a list that is not full. -/
theorem Diag.listed_entered (d : Diag) (p : Nat) {cause : Nat} (some : cause ≠ 0) :
    ((d.entered p cause).listed p).cause.get 0 p = cause ∧ ((d.entered p cause).listed p).mapDirty = true ∧
      (d.list.length < listDepth → p ∈ ((d.entered p cause).listed p).list) := by
  have recorded : (d.entered p cause).cause.get 0 p = cause := Sparse.get_set_listed 0 d.cause p some
  unfold Diag.listed
  split
  next => exact ⟨recorded, rfl, fun _ => List.mem_append_right _ List.mem_cons_self⟩
  next full => exact ⟨recorded, rfl, fun room => absurd room full⟩

/-! ### The statement -/

/-- Settles O35: a period's end by its results and the sweep's step, the second failing measurement by the entry into the fault map
and what that entry leaves. -/
theorem measuredPeriodsFeedTheFaultMap : Obligations.MeasuredPeriodsFeedTheFaultMap := by
  refine ⟨fun s n opens shorts stuck m measured => ⟨exec_measPeriodEnd_dirty measured opens shorts stuck, fun clean => ?period⟩,
    fun s p cause second some writable unmapped => ?second, fun s p cause first => ?first⟩
  case period =>
    have run := exec_measPeriodEnd_clean measured opens shorts stuck clean
    refine ⟨fun other => ?_, fun own => ?_⟩
    · rw [run, decide_eq_false other]
      rfl
    · rw [run, decide_eq_true own]
      rfl
  case second =>
    have kept := State.offReactions_enterMap { s with diag := s.diag.failed p cause } p cause
    rw [← s.measured_second second writable unmapped] at kept
    have records : (s.measured p cause true).diag = ((s.diag.failed p cause).entered p cause).listed p := congrArg Prod.fst kept
    obtain ⟨tiles, link, flash⟩ := State.keeps_of_offMap (s.offMap_measured p cause true)
    obtain ⟨recorded, dirty, listed⟩ := (s.diag.failed p cause).listed_entered p some
    dsimp only
    rw [records]
    exact ⟨recorded, dirty, listed, tiles, link, flash⟩
  case first =>
    dsimp only
    rw [s.measured_first first]
    exact ⟨Diag.fails_failed_first first, rfl, rfl⟩

end Sys2Proof.Machine
end

section
/-!
PROOFS. Diagnosis words at a tile (10 R287 to R291, Table 10.6; O34).
-/
namespace Sys2Proof.Machine

/-! ### Control words that a tile takes (R225, R250, R287) -/

/-- A tile acknowledges the segment of a word that waited under a key, KEEPALIVE and FRAME8 copied from its header (R225). -/
def State.acknowledged (s : State) (n key : Nat) (seg : Option Nat) (row sig : Nat) (x : Tile) : Tile := { x with
  segRow := seg
  rbWord := readbackWord 2 row (bitOf (s.ctlHeader n key).toNat 20) false false (bitsOf (s.ctlHeader n key).toNat 8 8) sig }

/-- A tile has taken the word of a key, with effect `f`, and acknowledges its segment. -/
def State.wordTaken (s : State) (n key : Nat) (seg : Option Nat) (row sig : Nat) (f : Tile → Tile) : State :=
  s.modTile n fun x => s.acknowledged n key seg row sig (f { x with ctl := x.ctl.drop key, ctlHead := x.ctlHead.drop key })

/-- A tile that acknowledges a word reads as it was changed, in whatever form the map of tiles is. -/
theorem State.tile_wordTaken (s : State) (n key : Nat) (seg : Option Nat) {row sig : Nat} (hRow : row < 128) (hSig : sig < 65536)
    (f : Tile → Tile) : (s.wordTaken n key seg row sig f).tile n = s.acknowledged n key seg row sig
      (f { s.tile n with ctl := (s.tile n).ctl.drop key, ctlHead := (s.tile n).ctlHead.drop key }) := by
  have answered := readbackWord_ne_zero (bitOf (s.ctlHeader n key).toNat 20) false false (by decide : 0 < 2) (by decide) hRow
    (bitsOf_lt (s.ctlHeader n key).toNat 8 8) hSig
  exact State.tile_modTile_listed fun same => answered (congrArg Tile.rbWord same)

section
variable {s : State} {n : Fin 64} {w : BitVec 96} (on : s.tileOn n = true)
include on

theorem State.onWord_taken {key op : Nat} (code : ctlOp w = op) (header : headerOk 2 (s.ctlHeader n key).toNat = true)
    (seg : Option Nat) (row sig : Nat) (f : Tile → Tile) : s.onWord n key op w seg row sig f = s.wordTaken n key seg row sig f := by
  unfold State.onWord
  exact (if_neg (by simp [on, code])).trans (if_neg (by simp [header]))

theorem exec_meas (code : ctlOp w = 0x40) (header : headerOk 2 (s.ctlHeader n 256).toNat = true) :
    exec (.meas n w) s = .next (s.wordTaken n 256 (some (bitsOf w.toNat 81 7)) (bitsOf w.toNat 81 7) 0 fun x => { x with
      measNext := some { row := bitsOf w.toNat 81 7, cmin := bitsOf w.toNat 69 12, cgap := bitsOf w.toNat 57 12 }
      tamp := 0, resOpen := 0, resShort := 0, resStuck := 0, resParity := 0, resLit := 0, resDark := 0 }) :=
  congrArg Host.Outcome.next (State.onWord_taken on code header ..)

theorem exec_tampAllow (code : ctlOp w = 0x41) (header : headerOk 2 (s.ctlHeader n (260 + bitsOf w.toNat 79 2)).toNat = true) :
    exec (.tampAllow n w) s = .next (s.wordTaken n (260 + bitsOf w.toNat 79 2) (s.tile n).segRow ((s.tile n).segRow.getD 0) 0 fun x =>
      if (s.tile n).segRow = some (bitsOf w.toNat 81 7)
      then { x with tamp := x.tamp ||| BitVec.ofNat 128 (bitsOf w.toNat 47 32 * 2 ^ (32 * bitsOf w.toNat 79 2)) } else x) :=
  congrArg Host.Outcome.next (State.onWord_taken on code header ..)

theorem exec_switchGap (code : ctlOp w = 0x42) (header : headerOk 2 (s.ctlHeader n 264).toNat = true) :
    exec (.switchGap n w) s = .next (s.wordTaken n 264 none 0 0 fun x =>
      if gapPlaced (bitsOf w.toNat 64 24) x.periodUsed then { x with gap := some (bitsOf w.toNat 64 24) }
      else { x with gapPass := false, gapLoad := false, gapTime := 0 }) :=
  congrArg Host.Outcome.next (State.onWord_taken on code header ..)

/-- A RESULT for a cause above STUCK is answered, and the engine makes nothing of it. -/
theorem exec_result_unjudged (code : ctlOp w = 0x43) (header : headerOk 2 (s.ctlHeader n 268).toNat = true)
    (above : 2 < bitsOf w.toNat 85 3) :
    exec (.result n w) s = .next (s.wordTaken n 268 none 0 ((s.tile n).resultSig (bitsOf w.toNat 85 3) (bitsOf w.toNat 78 7)) id) :=
  (congrArg Host.Outcome.next (if_neg (by simp [above]))).trans (congrArg Host.Outcome.next (State.onWord_taken on code header ..))

end

/-! ### Parity scans (R280) -/

theorem getLsbD_setBit_true {w : Nat} (v : BitVec w) {c : Nat} (h : c < w) (i : Nat) :
    (setBit v i true).getLsbD c = (v.getLsbD c || decide (c = i)) := by
  simp [setBit, h]

/-- A mask of those among the listed columns that fail. -/
theorem getLsbD_foldl_setBit {w : Nat} (ok : Nat → Bool) (cols : List Nat) (m : BitVec w) {c : Nat} (h : c < w) :
    (cols.foldl (fun m c => if ok c then m else setBit m c true) m).getLsbD c = (m.getLsbD c || (decide (c ∈ cols) && !ok c)) := by
  induction cols generalizing m with
  | nil => simp
  | cons i cols ih =>
    rw [List.foldl_cons, ih]
    by_cases same : c = i
    · subst same
      cases good : ok c
      · simp [getLsbD_setBit_true m h]
      · simp
    · cases good : ok i
      · simp [getLsbD_setBit_true m h, same]
      · simp [same]

/-- The columns of a tile's row whose latch fails its parity. -/
def State.oddColumns (s : State) (n row : Nat) : BitVec 128 :=
  (List.range 128).foldl (fun m c => if latchOk (s.latch n row c) then m else setBit m c true) 0

theorem State.getLsbD_oddColumns (s : State) (n row : Nat) {c : Nat} (lt : c < 128) :
    (s.oddColumns n row).getLsbD c = !latchOk (s.latch n row c) := by
  unfold State.oddColumns
  rw [getLsbD_foldl_setBit (fun c => latchOk (s.latch n row c)) _ _ lt]
  simp [lt]

/-- A parity scan at a tile: its columns of odd parity, and no other result. -/
def State.scanned (s : State) (n row : Nat) : State :=
  s.wordTaken n 272 none row 0 fun x => { x with
    resParity := s.oddColumns n row, resOpen := 0, resShort := 0, resStuck := 0, resLit := 0, resDark := 0 }

/-- The measurements of a row's columns leave every tile. -/
theorem State.tile_forEach_measured (s : State) (cols : List Nat) (p : Nat → Nat) (cause : Nat) (fail : Nat → Bool) (n : Nat) :
    (s.forEach cols fun v c => v.measured (p c) cause (fail c)).tile n = s.tile n :=
  State.forEach_leaves (g := fun u => u.tile n)
    (fun u c => congrArg (fun o => o.1.get {} n) (u.offMap_measured (p c) cause (fail c))) s cols

/-- Each column of a scanned row is a measurement for cause PARITY (R293). -/
theorem exec_parityScan {s : State} {n : Fin 64} {w : BitVec 96} (on : s.tileOn n = true) (code : ctlOp w = 0x44)
    (header : headerOk 2 (s.ctlHeader n 272).toNat = true) :
    exec (.parityScan n w) s = .next ((s.scanned n (bitsOf w.toNat 81 7)).forEach (List.range 128) fun v c =>
      v.measured (tilePixel n (bitsOf w.toNat 81 7) c) 4 ((s.oddColumns n (bitsOf w.toNat 81 7)).getLsbD c)) := by
  refine (congrArg Host.Outcome.next (if_pos (by simp [on, code]))).trans ?_
  rw [State.onWord_taken on code header]
  rfl

/-- What a tile holds after a parity scan. -/
theorem State.tile_scanned (s : State) (n : Nat) {row : Nat} (hRow : row < 128) :
    ((s.scanned n row).tile n).resParity = s.oddColumns n row ∧ ((s.scanned n row).tile n).ctl = (s.tile n).ctl.drop 272 ∧
      ((s.scanned n row).tile n).rbWord = readbackWord 2 row (bitOf (s.ctlHeader n 272).toNat 20) false false
        (bitsOf (s.ctlHeader n 272).toNat 8 8) 0 := by
  unfold State.scanned
  rw [s.tile_wordTaken n 272 none hRow (by decide)]
  simp only [State.acknowledged, and_self]

/-! ### The statement -/

/-- Settles O34: each word by what the tile that takes it does, a parity scan by the mask of the failing columns, which the
measurements that follow leave. -/
theorem diagnosisWordsAtTheTile : Obligations.DiagnosisWordsAtTheTile := by
  refine ⟨fun s n w on code header => exec_meas on code header, fun s n w on code header => ?tamp,
    fun s n w on code header => ?gap, fun s n w on code header cause => ?result, fun s n w on code header => ?scan⟩
  case tamp =>
    rw [exec_tampAllow on code header]
    unfold State.wordTaken
    by_cases named : (s.tile n).segRow = some (bitsOf w.toNat 81 7)
    · simp only [if_pos named]
      rfl
    · simp only [if_neg named]
      rfl
  case gap =>
    rw [exec_switchGap on code header]
    exact congrArg (fun f => Host.Outcome.next (s.modTile n f)) (funext fun x => apply_ite (s.acknowledged n 264 none 0 0) _ _ _)
  case result =>
    rw [exec_result_unjudged on code header (by omega), cause]
    rfl
  case scan =>
    refine ⟨_, exec_parityScan on code header, ?_⟩
    obtain ⟨parity, ctl, rbWord⟩ := s.tile_scanned n (bitsOf_lt w.toNat 81 7)
    rw [State.tile_forEach_measured, parity, ctl, rbWord]
    exact ⟨fun c lt => s.getLsbD_oddColumns n _ lt, rfl, rfl⟩

end Sys2Proof.Machine
end

section
/-!
PROOFS. The diagnosis engine's schedule and its gap tests (10 R288 to R294, 11 R327; O36).
-/
namespace Sys2Proof.Machine

/-! ### Words that the engine sends (R287) -/

/-- The word that waits at a tile under another key stays, whether the tile is on or not. -/
theorem State.ctl_sendCtl_otherKey (s : State) (n w : Nat) {key other : Nat} (h : other ≠ key) :
    ((s.sendCtl n key w).tile n).ctl.get 0 other = (s.tile n).ctl.get 0 other := by
  unfold State.sendCtl
  split
  · rw [State.tile_modTile_listed fun same => Sparse.put_ne_nil _ _ _ (congrArg Tile.ctl same), Sparse.get_put, if_neg h]
  · rfl

theorem State.ctl_sendCtl {s : State} {n : Nat} (on : s.tileOn n = true) (key w : Nat) :
    ((s.sendCtl n key w).tile n).ctl.get 0 key = BitVec.ofNat 96 w := by
  unfold State.sendCtl
  rw [if_pos on, State.tile_modTile_listed fun same => Sparse.put_ne_nil _ _ _ (congrArg Tile.ctl same), Sparse.get_put, if_pos rfl]

/-! ### Row slots (R288 to R290) -/

/-- The MEAS that the engine sends a tile for its sweep's row. -/
def State.measWord (s : State) (n : Nat) : Nat :=
  0x40 * 2 ^ 88 + (s.tile n).sweepRow * 2 ^ 81 + s.minCode 1500 % 4096 * 2 ^ 69 + s.minCode 4000 % 4096 * 2 ^ 57

/-- The TAMP_ALLOW of a quarter of that row, where a column of it is permitted. -/
def State.sendTamp (s : State) (n : Nat) (v : State) (q : Nat) : State :=
  v.cond (s.tampMask n (s.tile n).sweepRow q (s.minCode 1500) ≠ 0) fun x => x.sendCtl n (260 + q)
    (0x41 * 2 ^ 88 + (s.tile n).sweepRow * 2 ^ 81 + q * 2 ^ 79 + s.tampMask n (s.tile n).sweepRow q (s.minCode 1500) * 2 ^ 47)

/-- A slot's words: the MEAS and the TAMP_ALLOWs of its row. -/
def State.sendSlot (s : State) (n : Nat) : State := (s.sendCtl n 256 (s.measWord n)).forEach [0, 1, 2, 3] (s.sendTamp n)

theorem exec_diagRowSlot {s : State} {n : Fin 64} (ready : s.quadReady (quadOfTile n) = true) (done : s.grid.step = 128)
    (power : s.power.pd3 = true) : exec (.diagRowSlot n) s = .next (if s.slotFits n then s.sendSlot n else s) := by
  show execDiagRowSlot n s = _
  unfold execDiagRowSlot
  cases fits : s.slotFits n
  · exact if_pos (by simp)
  · exact if_neg (by simp [ready, done, power])

theorem State.besideTiles_sendTamp (s : State) (n : Nat) (v : State) (q : Nat) : (s.sendTamp n v q).besideTiles = v.besideTiles := by
  unfold State.sendTamp
  rw [State.cond_read State.besideTiles, State.besideTiles_sendCtl, ite_self]

theorem State.sendSlot_writes (s : State) (n : Nat) : s.sendSlot n = { s with tiles := (s.sendSlot n).tiles } :=
  State.eq_of_besideTiles ((State.forEach_leaves (g := State.besideTiles) (s.besideTiles_sendTamp n) _ _).trans
    (s.besideTiles_sendCtl n _ _))

/-- The MEAS of a slot waits at its tile; the TAMP_ALLOWs wait under other keys. -/
theorem State.ctl_sendSlot {s : State} {n : Nat} (on : s.tileOn n = true) :
    ((s.sendSlot n).tile n).ctl.get 0 256 = BitVec.ofNat 96 (s.measWord n) := by
  have kept (v : State) (q : Nat) : ((s.sendTamp n v q).tile n).ctl.get 0 256 = (v.tile n).ctl.get 0 256 := by
    unfold State.sendTamp
    rw [State.cond_read fun u : State => (u.tile n).ctl.get 0 256, State.ctl_sendCtl_otherKey _ _ _ (by omega), ite_self]
  exact (State.forEach_leaves (g := fun u => (u.tile n).ctl.get 0 256) kept _ _).trans (State.ctl_sendCtl on 256 _)

theorem ctlOp_measWord {s : State} {n : Nat} (row : (s.tile n).sweepRow < 128) : ctlOp (BitVec.ofNat 96 (s.measWord n)) = 0x40 := by
  unfold State.measWord
  rw [Nat.add_assoc, Nat.add_assoc]
  exact ctlOp_ofNat (by decide) (by omega)

/-- The ROW field of a MEAS (Table 10.6). -/
theorem row_measWord {s : State} {n : Nat} (row : (s.tile n).sweepRow < 128) :
    bitsOf (BitVec.ofNat 96 (s.measWord n)).toNat 81 7 = (s.tile n).sweepRow := by
  unfold State.measWord bitsOf
  rw [BitVec.toNat_ofNat, Nat.shiftRight_eq_div_pow]
  omega

theorem State.tileOn_of_quadReady {s : State} {n : Nat} (ready : s.quadReady (quadOfTile n) = true) : s.tileOn n = true := by
  unfold State.quadReady at ready
  exact (Bool.and_eq_true_iff.mp ready).1

/-! ### Gap tests that fall due (R291) -/

section
variable {s : State} {n : Fin 64} (ready : s.quadReady (quadOfTile n) = true) (power : s.power.pd3 = true)
include ready power

theorem exec_gapTestDue_free (free : (tilesOfQuad (quadOfTile n)).any s.gapBusy = false) :
    exec (.gapTestDue n) s = .next (s.sendGap n) := by
  show execGapTestDue n s = _
  unfold execGapTestDue
  exact (if_neg (by simp [ready, power])).trans (if_neg (by simp [free]))

theorem exec_gapTestDue_busy (busy : (tilesOfQuad (quadOfTile n)).any s.gapBusy = true)
    (fresh : s.diag.gapOrder.contains n.val = false) :
    exec (.gapTestDue n) s = .next { s with diag := { s.diag with gapOrder := s.diag.gapOrder ++ [n.val] } } := by
  show execGapTestDue n s = _
  unfold execGapTestDue
  rw [if_neg (by simp [ready, power]), if_pos busy, fresh]
  rfl

end

/-! ### Sweeps and DIAG_CTRL (R290, Table 10.9) -/

theorem exec_sweepOverdue {s : State} {n : Fin 64} (first : (s.tile n).overdue = false) :
    exec (.sweepOverdue n) s = .next ((s.modTile n fun x => { x with overdue := true }).raise 0x070A [(1, n.val)]) :=
  if_neg (by simp [first])

theorem exec_diagCtrlWrite (s : State) (v : BitVec 32) : exec (.diagCtrlWrite v) s = .next { s with diag := { s.diag with
    sweepMs := if 100 ≤ bitsOf v.toNat 16 11 ∧ bitsOf v.toNat 16 11 ≤ 1500 then bitsOf v.toNat 16 11 else s.diag.sweepMs
    gapMs := if 16 ≤ bitsOf v.toNat 8 8 ∧ bitsOf v.toNat 8 8 ≤ 250 then bitsOf v.toNat 8 8 else s.diag.gapMs } } := by
  show execDiagCtrlWrite v s = _
  simp [execDiagCtrlWrite]

/-! ### Reports of the fault map (R294) -/

/-- The packets of a report of the changes since the last. -/
def State.deltaPackets (s : State) : List TxPkt := s.mapPackets false (s.diag.delta.map fun x => mapEntry x.1 x.2.1 x.2.2)

/-- Packets put on TQ4, in order. -/
def State.queueMap (s : State) (ps : List TxPkt) : State := ps.foldl (fun v p => v.enqueue 4 p) s

theorem State.queueMap_frame (s : State) (ps : List TxPkt) : s.queueMap ps = { s with link := (s.queueMap ps).link } := by
  induction ps generalizing s with
  | nil => rfl
  | cons p ps ih =>
    show (s.enqueue 4 p).queueMap ps = { s with link := ((s.enqueue 4 p).queueMap ps).link }
    rw [ih, s.enqueue_frame]

section
variable {s : State} (up : s.linkUp = true) (native : s.isLegacy = false) (noFull : s.diag.fullDue = false)
  (news : s.diag.delta ≠ [])
include up native noFull news

theorem exec_diagMapReport_delta : exec .diagMapReport s = .next (
    if queueDepth 4 < s.queued 4 + (s.deltaPackets.map TxPkt.size).foldl (· + ·) 0
    then { s with diag := { s.diag with delta := [], lost := true, fullDue := true } }
    else { s.queueMap s.deltaPackets with diag := { (s.queueMap s.deltaPackets).diag with
      reportSeq := (s.queueMap s.deltaPackets).diag.reportSeq + 1, delta := [], fullDue := false, lost := false } }) := by
  show execDiagMapReport s = _
  unfold execDiagMapReport
  rw [if_neg (by simp [up, native])]
  dsimp only
  rw [if_neg (by simp [noFull]), if_neg (by simpa using news)]
  exact (apply_ite Host.Outcome.next _ _ _).symm

theorem exec_diagMapReport_room (room : s.queued 4 + (s.deltaPackets.map TxPkt.size).foldl (· + ·) 0 ≤ queueDepth 4) :
    exec .diagMapReport s = .next { s with
      link := (s.queueMap s.deltaPackets).link
      diag := { s.diag with reportSeq := s.diag.reportSeq + 1, delta := [], lost := false } } := by
  rw [exec_diagMapReport_delta up native noFull news, if_neg (Nat.not_lt.mpr room), s.queueMap_frame, ← noFull]

theorem exec_diagMapReport_full (full : queueDepth 4 < s.queued 4 + (s.deltaPackets.map TxPkt.size).foldl (· + ·) 0) :
    exec .diagMapReport s = .next { s with diag := { s.diag with delta := [], lost := true, fullDue := true } } := by
  rw [exec_diagMapReport_delta up native noFull news, if_pos full]

end

/-! ### Gap tests (R291, R292) -/

/-- A tile's pulse has ended: its result is kept, and the run of failures counted. -/
def State.gapEnded (s : State) (n : Nat) (pass load : Bool) (ns : Nat) : State := s.modTile n fun x => { x with
  gap := none, gapPass := pass, gapLoad := load, gapTime := min 255 ns
  gapFails := if pass then 0 else min 2 ((s.tile n).gapFails + 1) }

theorem State.nextGap_writes (s : State) (q : Nat) :
    ∃ tiles gapOrder, s.nextGap q = { s with tiles, diag := { s.diag with gapOrder } } := by
  unfold State.nextGap
  split
  next m _ =>
    let left := s.diag.gapOrder.filter fun x => x ≠ m
    obtain ⟨tiles, sent⟩ := State.sendCtl_tiles { s with diag := { s.diag with gapOrder := left } } m 264
      (0x42 * 2 ^ 88 + cyc4000 * 2 ^ 64)
    exact ⟨tiles, left, sent⟩
  · exact ⟨s.tiles, s.diag.gapOrder, rfl⟩

/-- After a pulse the quadrant's next gap test is sent, and the result is asked for. -/
def State.gapFollowed (s : State) (n : Nat) : State := (s.nextGap (quadOfTile n)).sendResult n 4 0

theorem State.gapFollowed_writes (s : State) (n : Nat) :
    ∃ tiles gapOrder, s.gapFollowed n = { s with tiles, diag := { s.diag with gapOrder } } := by
  obtain ⟨tiles, gapOrder, next⟩ := s.nextGap_writes (quadOfTile n)
  obtain ⟨tiles', asked⟩ := (s.nextGap (quadOfTile n)).sendCtl_tiles n 268 (0x43 * 2 ^ 88 + 4 * 2 ^ 85 + 0 % 128 * 2 ^ 78)
  exact ⟨tiles', gapOrder, asked.trans (by rw [next])⟩

section
variable {s : State} {n : Fin 64} {g : Nat} (pulsed : (s.tile n).gap = some g) (load : Bool) (ns : Nat)
include pulsed

theorem exec_gapPulseEnd_pass :
    exec (.gapPulseEnd n true true load ns) s = .next ((s.gapEnded n true load ns).gapFollowed n) := by
  show execGapPulseEnd n true true load ns s = _
  unfold execGapPulseEnd
  exact if_neg (by simp [pulsed])

/-- The second failing test running is a switch fault. -/
theorem exec_gapPulseEnd_fault (falls : Bool) (uncut : s.isCut n = false) (again : 1 ≤ (s.tile n).gapFails)
    (first : s.safety.switchFault.getLsbD n = false) :
    exec (.gapPulseEnd n falls false load ns) s =
      .next (((s.gapEnded n false load ns).switchFault n (!falls)).gapFollowed n) := by
  have second : min 2 ((s.tile n).gapFails + 1) = 2 := by omega
  show execGapPulseEnd n falls false load ns s = _
  unfold execGapPulseEnd State.gapEnded
  rw [if_neg (by simp [pulsed])]
  simp only [uncut, Bool.or_false, Bool.and_false, Bool.false_eq_true, if_false, second, first, decide_true, Bool.not_false,
    Bool.and_true, State.cond_true]
  rfl

end

/-! ### Switch faults (R291, R327) -/

theorem getLsbD_setBit_other {w : Nat} (v : BitVec w) {i row : Nat} (h : row ≠ i) (b : Bool) :
    (setBit v i b).getLsbD row = v.getLsbD row := by
  cases b
  · by_cases lt : row < w
    · simp [setBit, lt, h]
    · simp [setBit, BitVec.getLsbD_of_ge v row (Nat.not_lt.mp lt)]
  · simp [setBit, h.symm]

/-- A judgement keeps every cause but the two that the off class ends (Table 11.6). -/
theorem State.rindCauses_judge (s : State) {row : Nat} (notTime : row ≠ cDegTime) (notCap : row ≠ cCapStall) :
    s.judge.safety.rindCauses.getLsbD row = s.safety.rindCauses.getLsbD row := by
  let latched : State := { s with safety := { s.safety with offLatch := s.latchNext } }
  obtain ⟨-, rest⟩ := latched.changeState_cases s.stateNext
  have kept : (latched.changeState s.stateNext).safety.rindCauses = s.safety.rindCauses := (congrArg (·.safety.rindCauses) rest :)
  have judged : s.judge = (latched.changeState s.stateNext).endCauses := rfl
  rw [judged, ← kept]
  unfold State.endCauses
  split
  · exact (getLsbD_setBit_other _ notCap _).trans (getLsbD_setBit_other _ notTime _)
  · rfl

/-- VLED_INH follows from a switch that is stuck closed on a tile that is cut. -/
theorem State.checkInh_safety (s : State) : s.checkInh.safety = { s.safety with
    inhSwitch := (List.range 64).any fun t => s.safety.switchClosed.getLsbD t && s.isCut t } := by
  unfold State.checkInh
  exact (State.cond_read State.safety _ _ _).trans (ite_self _)

/-- The Rind's record of a switch fault. -/
def State.switchNoted (s : State) (n : Nat) (closed : Bool) : State := { s with safety := { s.safety with
  switchFault := setBit s.safety.switchFault n true
  switchClosed := if closed then setBit s.safety.switchClosed n true else s.safety.switchClosed } }

/-- A switch fault: its records, the Rind's cause, and FAULT_N; the store and the link stay. -/
theorem State.switchFault_cases (s : State) {n : Nat} (lt : n < 64) (closed : Bool) :
    (s.switchFault n closed).safety.switchFault.getLsbD n = true ∧
      (s.switchFault n closed).safety.rindCauses.getLsbD cSwitch = true ∧
      (closed = true → (s.switchFault n closed).safety.switchClosed.getLsbD n = true) ∧
      (s.switchFault n closed).store = s.store ∧ (s.switchFault n closed).link = s.link := by
  let noted := (s.switchNoted n closed).raise 0x0703 [(1, n)]
  let u := noted.setCause true cSwitch true
  have run : s.switchFault n closed = u.checkInh := rfl
  have rest : u.besideCauses = noted.besideCauses := noted.besideCauses_setCause true cSwitch true
  have fault : u.safety.switchFault = noted.safety.switchFault := (congrArg (·.safety.switchFault) rest :)
  have stuck : u.safety.switchClosed = noted.safety.switchClosed := (congrArg (·.safety.switchClosed) rest :)
  obtain ⟨link, store, -⟩ := State.keeps_of_besideCauses rest
  have linkInh : u.checkInh.link = u.link := (congrArg State.link u.besidePaint_checkInh :)
  have storeInh : u.checkInh.store = u.store := (congrArg State.store u.besidePaint_checkInh :)
  have cause : u.safety.rindCauses.getLsbD cSwitch = true := by
    obtain ⟨v, judged, -, -, -, causes, -⟩ := noted.setCause_cases true cSwitch true
    show (noted.setCause true cSwitch true).safety.rindCauses.getLsbD cSwitch = true
    rw [judged, v.rindCauses_judge (by decide) (by decide), causes, if_pos rfl]
    exact getLsbD_setBit_same _ (by decide) _
  rw [run, u.checkInh_safety]
  refine ⟨?_, cause, fun isClosed => ?_, storeInh.trans store, linkInh.trans link⟩
  · show u.safety.switchFault.getLsbD n = true
    rw [fault]
    exact getLsbD_setBit_same _ lt _
  · show u.safety.switchClosed.getLsbD n = true
    have recorded : noted.safety.switchClosed = setBit s.safety.switchClosed n true := if_pos isClosed
    rw [stuck, recorded]
    exact getLsbD_setBit_same _ lt _

theorem State.faultN_of_switchFault {s : State} {n : Nat} (fault : s.safety.switchFault.getLsbD n = true) : s.faultN = true := by
  have some : s.safety.switchFault ≠ 0#64 := fun zero => by simp [zero] at fault
  simp [State.faultN, some]

/-- A tile whose switch stays closed while it is cut raises VLED_INH. -/
theorem State.vledInh_checkInh {s : State} {n : Nat} (lt : n < 64) (closed : s.safety.switchClosed.getLsbD n = true)
    (cut : s.isCut n = true) : s.checkInh.vledInh = true := by
  have raised : s.checkInh.safety.inhSwitch = true := by
    rw [s.checkInh_safety]
    exact List.any_eq_true.mpr ⟨n, List.mem_range.mpr lt, by simp [closed, cut]⟩
  simp [State.vledInh, raised]

/-! ### The statement -/

/-- Settles O36: a slot by the word that waits at its tile, a report by whether TQ4 has room, a pulse's end by the run of failures,
the switch fault by what the Rind records and raises. -/
theorem diagnosisSchedulesAndGapTests : Obligations.DiagnosisSchedulesAndGapTests := by
  refine ⟨fun s n ready done power row => ⟨fun late => ?late, fun fits => ?slot⟩,
    fun s n ready power => ⟨exec_gapTestDue_free ready power, exec_gapTestDue_busy ready power⟩,
    fun s n first => exec_sweepOverdue first, fun s v => ⟨_, exec_diagCtrlWrite s v, rfl, rfl, rfl⟩,
    fun s up native noFull news => ⟨fun room => ⟨_, exec_diagMapReport_room up native noFull news room, rfl, rfl, rfl⟩,
      exec_diagMapReport_full up native noFull news⟩,
    fun s n g load ns pulsed => ?pass, fun s n g falls load ns pulsed uncut again first => ?fault,
    fun s n lt closed cut => State.vledInh_checkInh lt closed cut⟩
  case late => rw [exec_diagRowSlot ready done power, late]; rfl
  case slot =>
    have waits := State.ctl_sendSlot (State.tileOn_of_quadReady ready)
    refine ⟨s.sendSlot n, ?_, ?_, ?_, s.sendSlot_writes n⟩
    · rw [exec_diagRowSlot ready done power, fits]
      rfl
    · rw [waits, ctlOp_measWord row]
    · rw [waits, row_measWord row]
  case pass =>
    obtain ⟨tiles, gapOrder, followed⟩ := (s.gapEnded n true load ns).gapFollowed_writes n
    refine ⟨_, exec_gapPulseEnd_pass pulsed load ns, ?_⟩
    rw [followed]
    exact ⟨rfl, rfl, rfl⟩
  case fault =>
    obtain ⟨tiles, gapOrder, followed⟩ := ((s.gapEnded n false load ns).switchFault n (!falls)).gapFollowed_writes n
    obtain ⟨fault, cause, closed, store, link⟩ := (s.gapEnded n false load ns).switchFault_cases n.isLt (!falls)
    refine ⟨_, exec_gapPulseEnd_fault pulsed load ns falls uncut again first, ?_⟩
    rw [followed]
    exact ⟨fault, cause, fun stays => closed (by rw [stays]; rfl), State.faultN_of_switchFault fault, store, link⟩

end Sys2Proof.Machine
end

section
/-!
PROOFS. The READBACK packets that wait (10 R295), and where the statement on readbacks and re-reads fails (O29).
-/
namespace Sys2Proof.Machine

/-- What fits into a queue and what does not are the packets, in order. -/
theorem fitting_append (room : Nat) (ps : List TxPkt) : (fitting room ps).1 ++ (fitting room ps).2 = ps := by
  induction ps generalizing room with
  | nil => rfl
  | cons p ps ih =>
    unfold fitting
    split
    · exact congrArg (p :: ·) (ih _)
    · rfl

section
variable {s : State} (tqs : Sparse.wf [] s.link.tqs = true) (blocked : Sparse.wf [] s.link.blocked = true)
include tqs blocked

/-- In canonical maps of queues the unsent READBACK packets read as they were set. -/
theorem State.readbacks_setReadbacks (ps : List TxPkt) : (s.setReadbacks ps).readbacks = ps := by
  show (s.link.tqs.set [] 2 _).get [] 2 ++ (s.link.blocked.set [] 2 _).get [] 2 = ps
  rw [Sparse.get_set [] _ 2 2 _ tqs, Sparse.get_set [] _ 2 2 _ blocked, if_pos rfl, if_pos rfl]
  exact fitting_append (queueDepth 2) ps

/-- Where the maps of queues are canonical the frame's packet joins those unsent, of three the oldest dropped (R295). -/
theorem exec_readbackPacket_joins (judged : s.rb.checked ≠ 0) (runs : s.sp.running = true) :
    ∃ t, exec .readbackPacket s = .next t ∧
      t.readbacks = dropReadback (s.readbacks ++ [s.upPkt 2 0x32 0 s.readbackBytes]) := by
  refine ⟨_, if_neg (by simp [judged, runs]), ?_⟩
  exact State.readbacks_setReadbacks tqs blocked _

end

/-- A READBACK packet that waits for room, in a state outside the canonical form: the queue is listed twice. -/
def waitingTwice : State :=
  { sp := { running := true }, rb := { checked := 1 }
    link := { blocked := [(2, [{ vc := 2, type := 0x32 }]), (2, [{ vc := 2, type := 0x32 }])] } }

/-- Refutes O29, by its clause on the packets that wait: with room for all of them nothing waits any longer, the default value, which
removes the entry, so that in `waitingTwice` the second entry of TQ2, one packet still, reads beside the two in the queue. In
canonical maps of queues that clause holds (`exec_readbackPacket_joins`). -/
theorem not_readbacksAndRereads : ¬ Obligations.ReadbacksAndRereads := by
  rintro ⟨-, -, -, -, -, -, packet, -⟩
  obtain ⟨t, run, -, queued, -⟩ := packet waitingTwice (by decide) rfl
  cases run
  exact absurd (congrArg List.length queued) (by decide)

end Sys2Proof.Machine
end

section
/-!
PROOFS. What every command leaves alone: the queue, and the off class while the off latch is set (11 R314; O54, O55). One lemma for
each operation that several meanings share, in the order of the model's files; its proof has the operation's own shape. The effective
state is written by `changeState`, the latch set by the judgement, released by a recovery and a start; every other operation leaves both.
-/
namespace Sys2Proof.Machine

/-- From `s` to `u` the queue stays, and the off latch goes on holding the off class (R314); what neither lets time pass nor starts
the safety clock keeps, with `paced`, the count of TB3 too. -/
structure Guarded (paced : Prop) (s u : State) : Prop where
  queue : u.pending = s.pending
  latch : s.LatchHolds → u.LatchHolds
  pace : paced → u.clk.tb3 = s.clk.tb3

/-- The outcome is a next state, and so guarded. -/
def Answered (paced : Prop) (s : State) (o : Host.Outcome State Fault Refusal) : Prop := ∃ t, o = .next t ∧ Guarded paced s t

section
variable {paced : Prop} {s u v : State}

theorem Guarded.refl (s : State) : Guarded paced s s := ⟨rfl, id, fun _ => rfl⟩

section
variable {start : Start} {fuse : Fuse} {flash : Flash} {img : Params} {power : Power} {portA portB : Port}
  {selfTest : SelfTest} {link : Link} {linkB : LinkB} {clk : Clocks} {sync : Sync} {grid : Grid} {store : Store} {banks : Sparse Bank}
  {layers : List Layer} {comp : Comp} {out : Out} {tiles : Sparse Tile} {latches : Sparse (BitVec 13)} {quads : Sparse Quad}
  {drive : Drive} {diag : Diag} {rb : Readback} {cvu : Sparse Cvu} {zones : Zones} {thermal : Thermal} {policy : Policy}
  {affin : Affin} {nvm : Nvm} {mp : Mp} {sp : Sp} {svc : Service} {leg : Legacy} {ev : Events} {tap : Tap} {free : Nat}
  {firstNormal lbreq disagree voteBad oscFault oscStopped handover romParams crcBad inhSwitch stuckReset : Bool}
  {rindCauses spCauses : BitVec 19} {rindSent spSent rindMiss spMiss degMs rindOkMs spOkMs recoveries : Nat}
  {recover stuckOn : List Nat} {clockFault : BitVec 2} {held switchFault switchClosed : BitVec 64} {paint : Paint}
  {cuts : Sparse (BitVec 5)} {copy : Option SafetyP} {cmds : List QuadCmd}

/-- Any new values of all fields but the queue, the effective state and the off latch, where TB3 stays as it is, or may move. -/
theorem Guarded.setClk (h : Guarded paced s u) (pace : paced → clk.tb3 = u.clk.tb3) : Guarded paced s { u with
    start, fuse, flash, img, power, portA, portB, selfTest, link, linkB, clk, sync, grid, store, banks, layers, comp, out, tiles,
    latches, quads, drive, diag, rb, cvu, zones, thermal, policy, affin, nvm, mp, sp, svc, leg, ev, tap, free
    safety := { u.safety with
      firstNormal, lbreq, disagree, voteBad, oscFault, oscStopped, handover, romParams, crcBad, inhSwitch, stuckReset, rindCauses
      spCauses, rindSent, spSent, rindMiss, spMiss, degMs, rindOkMs, spOkMs, recoveries, recover, stuckOn, clockFault, held
      switchFault, switchClosed, paint, cuts, copy, cmds } } :=
  ⟨h.queue, h.latch, fun on => (pace on).trans (h.pace on)⟩

/-- The same, and the clocks as they are. -/
theorem Guarded.set (h : Guarded paced s u) : Guarded paced s { u with
    start, fuse, flash, img, power, portA, portB, selfTest, link, linkB, sync, grid, store, banks, layers, comp, out, tiles,
    latches, quads, drive, diag, rb, cvu, zones, thermal, policy, affin, nvm, mp, sp, svc, leg, ev, tap, free
    safety := { u.safety with
      firstNormal, lbreq, disagree, voteBad, oscFault, oscStopped, handover, romParams, crcBad, inhSwitch, stuckReset, rindCauses
      spCauses, rindSent, spSent, rindMiss, spMiss, degMs, rindOkMs, spOkMs, recoveries, recover, stuckOn, clockFault, held
      switchFault, switchClosed, paint, cuts, copy, cmds } } :=
  ⟨h.queue, h.latch, h.pace⟩

/-- Any new values of all fields but the queue, the clocks and the safety states. -/
theorem Guarded.setBeside (h : Guarded paced s u) : Guarded paced s { u with
    start, fuse, flash, img, power, portA, portB, selfTest, link, linkB, sync, grid, store, banks, layers, comp, out, tiles,
    latches, quads, drive, diag, rb, cvu, zones, thermal, policy, affin, nvm, mp, sp, svc, leg, ev, tap, free } :=
  ⟨h.queue, h.latch, h.pace⟩

end

/-- An operation that leaves the queue and the safety states. -/
theorem Guarded.of_safety (h : Guarded paced s u) (queue : v.pending = u.pending) (safety : v.safety = u.safety)
    (clk : v.clk = u.clk) : Guarded paced s v :=
  ⟨queue.trans h.queue, fun start => by rw [State.LatchHolds, safety]; exact h.latch start,
    fun on => (congrArg Clocks.tb3 clk).trans (h.pace on)⟩

/-- An operation that paints, and sends commands to the quadrants. -/
theorem Guarded.of_besidePaint (h : Guarded paced s u) (same : v.besidePaint = u.besidePaint) : Guarded paced s v :=
  ⟨(congrArg State.pending same :).trans h.queue, fun start =>
    (congrArg State.LatchHolds same :).mpr (h.latch start), fun on => (congrArg (·.clk.tb3) same :).trans (h.pace on)⟩

theorem Guarded.ite {c : Prop} [Decidable c] (yes : Guarded paced s u) (no : Guarded paced s v) : Guarded paced s (if c then u else v) := by
  split
  · exact yes
  · exact no

theorem Guarded.dite {c : Prop} [Decidable c] {f : c → State} {g : ¬ c → State} (yes : ∀ x, Guarded paced s (f x))
    (no : ∀ x, Guarded paced s (g x)) : Guarded paced s (if x : c then f x else g x) := by
  split
  · exact yes _
  · exact no _

theorem Guarded.cond {c : Bool} {f : State → State} (h : Guarded paced s u) (step : ∀ {v}, Guarded paced s v → Guarded paced s (f v)) :
    Guarded paced s (u.cond c f) :=
  .ite (step h) h

theorem Guarded.foldl {α : Type} {xs : List α} {f : State → α → State} (h : Guarded paced s u)
    (step : ∀ {v x}, Guarded paced s v → Guarded paced s (f v x)) : Guarded paced s (xs.foldl f u) := by
  induction xs generalizing u with
  | nil => exact h
  | cons x xs ih => exact ih (step h)

theorem Guarded.forEach {xs : List Nat} {f : State → Nat → State} (h : Guarded paced s u)
    (step : ∀ {v n}, Guarded paced s v → Guarded paced s (f v n)) : Guarded paced s (u.forEach xs f) :=
  .foldl h step

theorem Answered.next (h : Guarded paced s u) : Answered paced s (.next u) := ⟨u, rfl, h⟩

theorem Answered.ite {c : Prop} [Decidable c] {o p : Host.Outcome State Fault Refusal} (yes : Answered paced s o) (no : Answered paced s p) :
    Answered paced s (if c then o else p) := by
  split
  · exact yes
  · exact no

theorem Guarded.landed {o : Host.Outcome State Fault Refusal} (answered : Answered paced s o) : Guarded paced s (landed u o) := by
  obtain ⟨t, rfl, kept⟩ := answered
  exact kept

/-! ### Flags -/

theorem Guarded.setFlag {i : Nat} (h : Guarded paced s u) : Guarded paced s (u.setFlag i) := .set h

/-! ### Ops -/

theorem Guarded.modTile {t : Nat} {f : Tile → Tile} (h : Guarded paced s u) : Guarded paced s (u.modTile t f) := .set h
theorem Guarded.modBank {b : Nat} {f : Bank → Bank} (h : Guarded paced s u) : Guarded paced s (u.modBank b f) := .set h
theorem Guarded.modQuad {q : Nat} {f : Quad → Quad} (h : Guarded paced s u) : Guarded paced s (u.modQuad q f) := .set h
theorem Guarded.modLayer {n : Nat} {f : Layer → Layer} (h : Guarded paced s u) : Guarded paced s (u.modLayer n f) := .set h

theorem Guarded.modPort {p : PortId} {f : Port → Port} (h : Guarded paced s u) : Guarded paced s (u.modPort p f) := by
  unfold State.modPort
  split
  · exact .set h
  · exact .set h

theorem Guarded.drawn (h : Guarded paced s u) : Guarded paced s u.drawn := .set h
theorem Guarded.raise {code : Nat} {data : List (Nat × Nat)} (h : Guarded paced s u) : Guarded paced s (u.raise code data) := .set h

theorem Guarded.raiseRatedN {code key n : Nat} {data : List (Nat × Nat)} (h : Guarded paced s u) :
    Guarded paced s (u.raiseRatedN code key n data) :=
  .ite (.set h) (.set (.raise h))

theorem Guarded.raiseRated {code key : Nat} {data : List (Nat × Nat)} (h : Guarded paced s u) :
    Guarded paced s (u.raiseRated code key data) :=
  .raiseRatedN h

theorem Guarded.regrid (h : Guarded paced s u) : Guarded paced s u.regrid :=
  .ite (.ite (.setClk h fun _ => rfl) (.raise (.set (.setClk h fun _ => rfl)))) h

/-- TB3 counts time in the idle step alone. -/
theorem Clocks.tb3_advance (c : Clocks) (d : Int) (n : Nat) : (c.advance d n).tb3 = c.tb3 := by
  unfold Clocks.advance
  split
  · rfl
  · rfl

theorem Guarded.elapse {n : Nat} (h : Guarded paced s u) : Guarded paced s (u.elapse n) :=
  .ite h (.regrid (.setClk h fun _ => u.clk.tb3_advance _ _))

theorem Guarded.sendAck (h : Guarded paced s u) : Guarded paced s u.sendAck := .set (.set h)
theorem Guarded.sendNak (h : Guarded paced s u) : Guarded paced s u.sendNak := .ite h (.set (.set h))
theorem Guarded.emit {p : PortId} {bs : List Blk} {cs : List (BitVec 9)} (h : Guarded paced s u) : Guarded paced s (u.emit p bs cs) :=
  .modPort h
theorem Guarded.flushLcbs (h : Guarded paced s u) : Guarded paced s u.flushLcbs := .ite h (.emit (.set h))
theorem Guarded.sendCredit {vc : Nat} (h : Guarded paced s u) : Guarded paced s (u.sendCredit vc) := .ite h (.set (.set h))

theorem Guarded.freeCredits {vc n len : Nat} (h : Guarded paced s u) : Guarded paced s (u.freeCredits vc n len) :=
  .ite h (.ite (.sendCredit (.set h)) (.set h))

theorem Guarded.enqueue {q : Nat} {p : TxPkt} (h : Guarded paced s u) : Guarded paced s (u.enqueue q p) := .ite (.set h) (.set h)

theorem Guarded.reply {hd : Hdr} {type opcode status : Nat} {data : List Byte} (h : Guarded paced s u) :
    Guarded paced s (u.reply hd type opcode status data) :=
  .ite h (.ite (.enqueue h) (.set h))

theorem Guarded.setContext {n : Nat} {bs : List Byte} (h : Guarded paced s u) : Guarded paced s (u.setContext n bs) := .set h
theorem Guarded.checkRun {n : Nat} (h : Guarded paced s u) : Guarded paced s (u.checkRun n) := .modLayer (.cond h fun h => .raise (.set h))

theorem Guarded.restoreFor {vc type : Nat} (h : Guarded paced s u) : Guarded paced s (u.restoreFor vc type) :=
  .cond h fun h => .modLayer (.cond h fun h => .raise (.set h))

theorem Guarded.contentFail {hd : Hdr} {vc type opcode status cause len : Nat} (h : Guarded paced s u) :
    Guarded paced s (u.contentFail hd vc type opcode status cause len) :=
  .ite (.reply (.restoreFor (.ite (.set h) (.freeCredits (.set (.set h)))))) (.raiseRated (.restoreFor (.ite (.set h)
    (.freeCredits (.set (.set h))))))

theorem Guarded.linkPass (h : Guarded paced s u) : Guarded paced s u.linkPass := .ite (.sendAck (.set h)) (.set h)
theorem Guarded.linkOther {q : BitVec 12} (h : Guarded paced s u) : Guarded paced s (u.linkOther q) := .ite (.sendAck h) (.sendNak h)

theorem Guarded.deliver {i : Instr} {p : Rx} {credits : Nat} {consume : State → State} (h : Guarded paced s u)
    (step : ∀ {v}, Guarded paced s v → Guarded paced s (consume v)) : Guarded paced s (u.deliver i p credits consume) :=
  .ite (.set h) (.freeCredits (step h))

theorem Guarded.deliverShared {i : Instr} {p : Rx} {n : Nat} {consume : State → State} (h : Guarded paced s u)
    (step : ∀ {v}, Guarded paced s v → Guarded paced s (consume v)) : Guarded paced s (u.deliverShared i p n consume) :=
  .ite (.set (.set h)) (step (.set h))

theorem Guarded.route {i : Instr} {p : Rx} {consume : State → State} (h : Guarded paced s u)
    (step : ∀ {v}, Guarded paced s v → Guarded paced s (consume v)) : Guarded paced s (u.route i p consume) :=
  .ite (.ite (.deliverShared (.set h) step) (.deliver (.set h) step)) (.ite (.deliver (.set h) step) (.ite (.set (.set h))
    (.raiseRated (.freeCredits (.set h)))))

theorem Guarded.content {i : Instr} {p : Rx} {consume : State → State} (h : Guarded paced s u)
    (step : ∀ {v}, Guarded paced s v → Guarded paced s (consume v)) : Guarded paced s (u.content i p consume) :=
  .ite (.raiseRated (.set h)) (.ite (.contentFail h) (.ite (.contentFail h) (.ite (.contentFail h) (.ite (.contentFail h)
    (.route h step)))))

/-! ### LegReg -/

theorem Guarded.legStatus {bit : Nat} (h : Guarded paced s u) : Guarded paced s (u.legStatus bit) := .ite (.set h) h

theorem Guarded.setTemp {t : Int} (h : Guarded paced s u) : Guarded paced s (u.setTemp t) := by
  unfold State.setTemp
  exact .cond (.cond (.set h) .legStatus) .legStatus

/-! ### Nvm -/

theorem Guarded.flashProgram {a : Nat} {bs : List Byte} (h : Guarded paced s u) : Guarded paced s (u.flashProgram a bs) := by
  unfold State.flashProgram
  exact .ite (.set h) (.drawn (.set h))

theorem Guarded.flashErase {a : Nat} (h : Guarded paced s u) : Guarded paced s (u.flashErase a) := by
  unfold State.flashErase
  exact .ite (.raise (.set (.set h))) (.set h)

theorem Guarded.flashEraseMany {a n : Nat} (h : Guarded paced s u) : Guarded paced s (u.flashEraseMany a n) := .forEach h .flashErase
theorem Guarded.setNvm {v : Nvm} (h : Guarded paced s u) : Guarded paced s (u.setNvm v) := .set h
theorem Guarded.nvmRefill (h : Guarded paced s u) : Guarded paced s u.nvmRefill := .setNvm h
theorem Guarded.nvmRefused {bytes : Nat} (h : Guarded paced s u) : Guarded paced s (u.nvmRefused bytes) := .raiseRatedN (.setNvm h)
theorem Guarded.payProg {n : Nat} (h : Guarded paced s u) : Guarded paced s (u.payProg n) := .setNvm h
theorem Guarded.payErase {n : Nat} (h : Guarded paced s u) : Guarded paced s (u.payErase n) := .setNvm h
theorem Guarded.doReserve {n : Nat} (h : Guarded paced s u) : Guarded paced s (u.doReserve n) :=
  .ite (.setNvm (.nvmRefill h)) (.setNvm (.nvmRefill h))

theorem Guarded.reservedWrite {a : Nat} {bs : List Byte} {erase : Bool} (h : Guarded paced s u) :
    Guarded paced s (u.reservedWrite a bs erase) :=
  .ite (.flashProgram (.cond (.setNvm h) .flashErase)) (.nvmRefill h)

theorem Guarded.mpWrite {a : Nat} {bs : List Byte} {erase : Bool} (h : Guarded paced s u) : Guarded paced s (u.mpWrite a bs erase) :=
  .ite (.nvmRefused (.nvmRefill h)) (.ite (.nvmRefused (.nvmRefill h)) (.flashProgram (.cond (.payProg (.payErase h))
    .flashErase)))

theorem Guarded.payCmd {c : FlashCmd} (h : Guarded paced s u) : Guarded paced s (u.payCmd c) :=
  .ite h (.ite (.setNvm h) (.ite (.payErase h) (.payProg h)))

theorem Answered.flashCommand {c : FlashCmd} (h : Guarded paced s u) : Answered paced s (execFlashCommand c u) :=
  .ite (.next (.raise h)) (.ite (.next (.set (.payCmd h)))
    (.next (.cond (.nvmRefill h) .nvmRefused)))

theorem Guarded.flashDo {c : FlashCmd} (h : Guarded paced s u) : Guarded paced s (u.flashDo c) := .ite (.flashErase h) (.flashProgram h)
theorem Guarded.imageOp {opcode slot result : Nat} (h : Guarded paced s u) : Guarded paced s (u.imageOp opcode slot result) := .raise h

theorem Guarded.jobDone {j : FlashJob} (h : Guarded paced s u) : Guarded paced s (u.jobDone j) :=
  .ite (.set h) (.cond (.set h) .imageOp)

theorem Answered.flashCommandDone (h : Guarded paced s u) : Answered paced s (execFlashCommandDone u) := by
  unfold execFlashCommandDone
  split
  · exact .next h
  · exact .next (.jobDone (.flashDo h))

theorem Guarded.finishFlash (h : Guarded paced s u) : Guarded paced s u.finishFlash := by
  unfold State.finishFlash
  split
  · exact .set h
  · exact .set (.flashDo h)

theorem Guarded.flashQueue {j : FlashJob} (h : Guarded paced s u) : Guarded paced s (u.flashQueue j) := .set h
theorem Guarded.settleJob {j : FlashJob} (h : Guarded paced s u) : Guarded paced s (u.settleJob j) :=
  .ite (.flashEraseMany h) (.flashProgram h)
theorem Guarded.settled (h : Guarded paced s u) : Guarded paced s u.settled := .foldl h .settleJob

/-! ### Limiter -/

theorem Guarded.runLimiter {dt : Nat} (h : Guarded paced s u) : Guarded paced s (u.runLimiter dt) := .set h

/-! ### Power -/

theorem Guarded.badSwitch {addr : Nat} (h : Guarded paced s u) : Guarded paced s (u.badSwitch addr) := .raise h

theorem Guarded.closeSwitch {q : Nat} (h : Guarded paced s u) : Guarded paced s (u.closeSwitch q) :=
  .set (.modQuad h)

theorem Guarded.wake {q : Nat} (h : Guarded paced s u) : Guarded paced s (u.wake q) := .ite h (.raise (.closeSwitch h))
theorem Guarded.withdrawOff {q : Nat} (h : Guarded paced s u) : Guarded paced s (u.withdrawOff q) :=
  .cond h fun h => .cond (.modQuad h) .badSwitch

theorem Guarded.setLit {q : Nat} {on : Bool} (h : Guarded paced s u) : Guarded paced s (u.setLit q on) :=
  .cond (.modQuad h) fun h => .wake (.withdrawOff h)

theorem Guarded.litOnAccept (h : Guarded paced s u) : Guarded paced s u.litOnAccept := .forEach h fun h => .ite (.setLit h) h
theorem Guarded.litAtLatch (h : Guarded paced s u) : Guarded paced s u.litAtLatch := .forEach h .setLit

/-! ### Safe -/

theorem Guarded.sendCmd {q : Nat} {w : BitVec 64} {stall : Bool} (h : Guarded paced s u) : Guarded paced s (u.sendCmd q w stall) := .set h
theorem Guarded.sendSource {q : Nat} {localSrc : Bool} (h : Guarded paced s u) : Guarded paced s (u.sendSource q localSrc) := .sendCmd h

theorem Guarded.sendFill {q x0 x1 y0 y1 code : Nat} {stall : Bool} (h : Guarded paced s u) :
    Guarded paced s (u.sendFill q x0 x1 y0 y1 code stall) :=
  .forEach h fun h => .ite h (.sendCmd h)

/-- An operation that releases the latch: there is nothing more to hold. -/
theorem Guarded.unlatched (h : Guarded paced s u) (queue : v.pending = u.pending) (clear : v.safety.offLatch = false)
    (clk : v.clk = u.clk) : Guarded paced s v :=
  ⟨queue.trans h.queue, fun _ set => absurd set (by rw [clear]; exact Bool.false_ne_true),
    fun on => (congrArg Clocks.tb3 clk).trans (h.pace on)⟩

theorem Guarded.checkInh (h : Guarded paced s u) : Guarded paced s u.checkInh := .cond (.set h) .raise

theorem Guarded.setCut {t row : Nat} {on : Bool} (h : Guarded paced s u) : Guarded paced s (u.setCut t row on) :=
  .ite h (.checkInh (.cond (.set h) .raise))

theorem Guarded.paintBeam {q : Nat} (h : Guarded paced s u) : Guarded paced s (u.paintBeam q) :=
  .forEach (.sendCmd (.sendSource h)) fun h => .cond (.cond h .sendFill) .sendFill

theorem Guarded.paintQuad {q : Nat} (h : Guarded paced s u) : Guarded paced s (u.paintQuad q) := by
  refine .ite h ?_
  split
  · exact h
  · exact .paintBeam h
  · exact .sendCmd h

theorem Guarded.startPaint {beam : Bool} (h : Guarded paced s u) : Guarded paced s (u.startPaint beam) :=
  .forEach (.forEach (.forEach (.set h) .setCut) fun h => .cond h fun h => .wake (.withdrawOff (.modQuad h))) .paintQuad

theorem Guarded.repaint (h : Guarded paced s u) : Guarded paced s u.repaint := .forEach h .paintQuad
theorem Guarded.paintAnew (h : Guarded paced s u) : Guarded paced s u.paintAnew := .ite h (.ite (.repaint h) (.startPaint h))

/-- The queue is in none of what a change, a judgement or a cause writes. -/
theorem State.pending_of_besideChange (h : v.besideChange = u.besideChange) : v.pending = u.pending := (congrArg State.pending h :)

theorem State.offLatch_of_besideChange (h : v.besideChange = u.besideChange) : v.safety.offLatch = u.safety.offLatch :=
  (congrArg (·.safety.offLatch) h :)

theorem State.pending_of_besideJudge (h : v.besideJudge = u.besideJudge) : v.pending = u.pending := (congrArg State.pending h :)
theorem State.pending_of_besideCauses (h : v.besideCauses = u.besideCauses) : v.pending = u.pending := (congrArg State.pending h :)
theorem State.clk_of_besideChange (h : v.besideChange = u.besideChange) : v.clk = u.clk := (congrArg State.clk h :)
theorem State.clk_of_besideJudge (h : v.besideJudge = u.besideJudge) : v.clk = u.clk := (congrArg State.clk h :)
theorem State.clk_of_besideCauses (h : v.besideCauses = u.besideCauses) : v.clk = u.clk := (congrArg State.clk h :)

theorem Guarded.changeState {n : SafeState} (h : Guarded paced s u) (held : s.LatchHolds → u.safety.offLatch = true → n.off = true) :
    Guarded paced s (u.changeState n) := by
  obtain ⟨state, rest⟩ := u.changeState_cases n
  refine ⟨(State.pending_of_besideChange rest).trans h.queue, fun start => ?_,
    fun on => (congrArg Clocks.tb3 (State.clk_of_besideChange rest)).trans (h.pace on)⟩
  rw [State.LatchHolds, state, State.offLatch_of_besideChange rest]
  exact held start

/-- Into the off class it always does. -/
theorem Guarded.changeState_off (h : Guarded paced s u) : Guarded paced s (u.changeState u.offState) :=
  .changeState h fun _ _ => u.offState_off

/-- A judgement sets the latch with the off class, and ends neither (R314, R315). -/
theorem Guarded.judge (h : Guarded paced s u) : Guarded paced s u.judge := by
  obtain ⟨state, latch, rest, -⟩ := u.judge_cases
  refine ⟨(State.pending_of_besideJudge rest).trans h.queue, fun _ set => ?_,
    fun on => (congrArg Clocks.tb3 (State.clk_of_besideJudge rest)).trans (h.pace on)⟩
  rw [latch] at set
  rw [state, State.stateNext, set]
  exact u.offState_off

theorem Guarded.setCause {rind : Bool} {row : Nat} {on : Bool} (h : Guarded paced s u) : Guarded paced s (u.setCause rind row on) := by
  obtain ⟨v, judged, rest, state, latch, -⟩ := u.setCause_cases rind row on
  rw [judged]
  refine .judge ⟨(State.pending_of_besideCauses rest).trans h.queue, fun start => ?_,
    fun on => (congrArg Clocks.tb3 (State.clk_of_besideCauses rest)).trans (h.pace on)⟩
  rw [State.LatchHolds, state, latch]
  exact h.latch start

/-! ### Tiles -/

theorem Guarded.rowTouched {t row : Nat} {mask : BitVec 128} (h : Guarded paced s u) : Guarded paced s (u.rowTouched t row mask) := by
  unfold State.rowTouched
  split
  · exact .ite (.modTile h) h
  · exact h

theorem Guarded.writeRow {t row : Nat} {codes : List (BitVec 12)} (h : Guarded paced s u) : Guarded paced s (u.writeRow t row codes) :=
  .rowTouched (.set h)

theorem Guarded.sendCtl {t key w : Nat} (h : Guarded paced s u) : Guarded paced s (u.sendCtl t key w) := .ite (.modTile h) h

theorem Guarded.onWord {t key op : Nat} {w : BitVec 96} {seg : Option Nat} {row sig : Nat} {f : Tile → Tile} (h : Guarded paced s u) :
    Guarded paced s (u.onWord t key op w seg row sig f) :=
  .ite h (.ite (.modTile h) (.modTile h))

theorem Guarded.onCtl {t op : Nat} {w : BitVec 96} {f : Tile → Tile} (h : Guarded paced s u) : Guarded paced s (u.onCtl t op w f) := .onWord h
theorem Guarded.setRequest {t q : Nat} (h : Guarded paced s u) : Guarded paced s (u.setRequest t q) :=
  .cond (.cond (.modTile h) .sendCtl) .raiseRated
theorem Answered.drvTileWrite {t : Fin 64} {v : BitVec 32} (h : Guarded paced s u) : Answered paced s (execDrvTileWrite t v u) :=
  .next (.setRequest h)

theorem Guarded.busCommand {cmd q : Nat} {w : BitVec 64} {nak : Tile → Bool} {f : State → Nat → State} (h : Guarded paced s u)
    (step : ∀ {v n}, Guarded paced s v → Guarded paced s (f v n)) : Guarded paced s (u.busCommand cmd q w nak f) :=
  .ite h (.forEach (.modQuad h) fun h => .modQuad (.ite h (step h)))

theorem Answered.fillSweepDone {t : Fin 64} (h : Guarded paced s u) : Answered paced s (execFillSweepDone t u) := by
  refine .ite (.next h) (.next (.modTile ?_))
  split
  · exact .rowTouched (.set h)
  · exact .set h

theorem Guarded.darkDone {q : Nat} (h : Guarded paced s u) : Guarded paced s (u.darkDone q) := .ite (.modQuad h) h

theorem Guarded.cmdFailed {q i : Nat} (h : Guarded paced s u) : Guarded paced s (u.cmdFailed q i) :=
  .ite (.set h) (.darkDone (.raise (.forEach (.set h) .setCut)))

theorem Answered.commandAnswer {q : Fin 4} {a : BitVec 16} (h : Guarded paced s u) : Answered paced s (execCommandAnswer q a u) := by
  refine .ite (.next h) ?_
  split
  · exact .next h
  · exact .ite (.next (.cmdFailed h)) (.ite (.next h) (.next (.darkDone (.set h))))

theorem Answered.commandTimeout {q : Fin 4} (h : Guarded paced s u) : Answered paced s (execCommandTimeout q u) := by
  unfold execCommandTimeout
  split
  · exact .next h
  · exact .next (.cmdFailed h)

theorem Answered.vledLow {mv : Nat} (h : Guarded paced s u) : Answered paced s (execVledLow mv u) :=
  .ite (.next (.raiseRated (.forEach (.set h) fun h => .ite (.modTile h) h))) (.ite (.next (.raiseRated (.set h))) (.next h))

theorem Answered.offReq {q : Fin 4} (h : Guarded paced s u) : Answered paced s (execOffReq q u) :=
  .ite (.next (.modQuad h)) (.ite (.next (.modQuad (.modQuad h))) (.next (.badSwitch (.modQuad h))))

theorem Answered.wakeReq {q : Fin 4} (h : Guarded paced s u) : Answered paced s (execWakeReq q u) := .next (.wake (.modQuad h))

theorem Answered.drvStripeWrite {c : Fin 64} {v : BitVec 32} (h : Guarded paced s u) : Answered paced s (execDrvStripeWrite c v u) :=
  .ite (.next (.set h)) (.next h)

/-! ### Heat -/

theorem Guarded.moduleBand (h : Guarded paced s u) : Guarded paced s u.moduleBand := by
  unfold State.moduleBand
  exact .ite h (.raise (.set h))

theorem Guarded.updateBand {t : Nat} (h : Guarded paced s u) : Guarded paced s (u.updateBand t) :=
  .ite h (.moduleBand (.cond (.set h) fun h => .sendCtl (.sendCtl h)))

theorem Guarded.trustStep {t : Nat} {ready : Bool} (h : Guarded paced s u) : Guarded paced s (u.trustStep t ready) := by
  unfold State.trustStep
  dsimp only
  split
  · exact .set h
  · exact .set h
  · exact .ite (.raise (.set h)) (.ite (.raise (.set h)) (.set h))
  · exact .ite (.raise (.set h)) (.ite (.raise (.set h)) (.set h))

theorem Guarded.commonMode {q : Nat} (h : Guarded paced s u) : Guarded paced s (u.commonMode q) := by
  unfold State.commonMode
  dsimp only
  split
  · exact h
  · exact .ite (.raise (.set h)) (.ite (.raise (.set h)) (.set h))

theorem Answered.quadSensorSample {q : Fin 4} {raw : BitVec 16} (h : Guarded paced s u) : Answered paced s (execQuadSensorSample q raw u) :=
  .next (.forEach (.ite (.set (.set h)) (.ite (.raise (.set (.set h))) (.commonMode (.set (.set h))))) .updateBand)

theorem Guarded.modHeat {t : Nat} {f : Heat → Heat} (h : Guarded paced s u) : Guarded paced s (u.modHeat t f) := .set h

theorem Guarded.countShutdown {t : Nat} (h : Guarded paced s u) : Guarded paced s (u.countShutdown t) :=
  .ite (.raise (.setFlag (.modHeat (.modHeat h)))) (.modHeat h)

theorem Guarded.policyTile {mv ma t : Nat} (h : Guarded paced s u) : Guarded paced s (u.policyTile mv ma t) :=
  .ite (.countShutdown (.legStatus (.raise (.modHeat (.cond (.modHeat h) .raiseRated))))) (.cond (.modHeat h) .raiseRated)

theorem Answered.mpPolicyTick {mv ma : Nat} {branch : List Nat} (h : Guarded paced s u) :
    Answered paced s (execMpPolicyTick mv ma branch u) :=
  .ite (.next h) (.next (.forEach (.cond (.setBeside (.forEach (.setBeside h) .policyTile)) .raise) .setRequest))

theorem Guarded.cutTile {t : Nat} (h : Guarded paced s u) : Guarded paced s (u.cutTile t) :=
  .cond (.cond (.setCut (.modHeat h)) fun h => .raise (.setFlag h)) .countShutdown

/-! ### Memory -/

theorem Guarded.eccPoison {g : Nat} (h : Guarded paced s u) : Guarded paced s (u.eccPoison g) := .raise (.set h)

theorem Guarded.eccGranule {g : Nat} (h : Guarded paced s u) : Guarded paced s (u.eccGranule g) :=
  .ite (.raiseRated (.modBank h)) (.ite (.eccPoison h) h)

theorem Guarded.eccHits {gs : List Nat} (h : Guarded paced s u) : Guarded paced s (u.eccHits gs) := .forEach h .eccGranule
theorem Guarded.eccRead {a n : Nat} (h : Guarded paced s u) : Guarded paced s (u.eccRead a n) := .ite h (.forEach h .eccGranule)

theorem Guarded.granuleWritten {g : Nat} (h : Guarded paced s u) : Guarded paced s (u.granuleWritten g) :=
  by
  rw [State.granuleWritten_cells]
  exact .set h

theorem Guarded.storeBytes {a : Nat} {bs : List Byte} (h : Guarded paced s u) : Guarded paced s (u.storeBytes a bs) := by
  rw [State.storeBytes_cells]
  exact .set h

theorem Guarded.loadBytes {a : Nat} {bs : List Byte} (h : Guarded paced s u) : Guarded paced s (u.loadBytes a bs) := by
  rw [State.loadBytes_cells]
  exact .set h

/-! ### Affinage -/

theorem Guarded.healCounter {k : Nat} (h : Guarded paced s u) : Guarded paced s (u.healCounter k) :=
  .ite (.raise (.raise (.set (.loadBytes h)))) h

theorem Guarded.healAll (h : Guarded paced s u) : Guarded paced s u.healAll := .ite h (.forEach (.eccRead h) .healCounter)

theorem Guarded.chargeBlock {k sigma units w : Nat} (h : Guarded paced s u) : Guarded paced s (u.chargeBlock k sigma units w) :=
  .ite (.set h) (.ite (.raise (.set (.storeBytes (.healCounter (.eccRead (.set h)))))) (.storeBytes (.healCounter (.eccRead
    (.set h)))))

theorem Guarded.compensate {t : Nat} {p : TilePred} (h : Guarded paced s u) : Guarded paced s (u.compensate t p) :=
  .cond (.modHeat h) fun h => .raise (.setFlag h)

theorem Guarded.predict {ps : List TilePred} (h : Guarded paced s u) : Guarded paced s (u.predict ps) := .setBeside (.forEach h .compensate)
theorem Guarded.affReport {ps : List TilePred} (h : Guarded paced s u) : Guarded paced s (u.affReport ps) :=
  .setBeside (.forEach (.enqueue h) .enqueue)
theorem Guarded.reportAtLinkUp (h : Guarded paced s u) : Guarded paced s u.reportAtLinkUp := .cond h fun h => .affReport (.healAll h)

theorem Guarded.writeCopy {a seq magic : Nat} {body : List Byte} (h : Guarded paced s u) : Guarded paced s (u.writeCopy a seq magic body) :=
  .flashProgram (.flashProgram (.flashEraseMany h))

theorem Guarded.saveCopy {magic : Nat} {as : List Nat} {body : List Byte} (h : Guarded paced s u) :
    Guarded paced s (u.saveCopy magic as body) :=
  .ite (.writeCopy (.payProg (.payErase h))) (.nvmRefused (.nvmRefill h))

theorem Guarded.restoreErases (h : Guarded paced s u) : Guarded paced s u.restoreErases := by
  unfold State.restoreErases
  split
  · exact .set h
  · exact .set h

theorem Guarded.writeSave (h : Guarded paced s u) : Guarded paced s u.writeSave :=
  .affReport (.predict (.saveCopy (.raise (.setBeside (.flashProgram (.flashProgram (.flashEraseMany (.healAll h))))))))

theorem Guarded.affSave (h : Guarded paced s u) : Guarded paced s u.affSave :=
  .ite (.raise (.setBeside (.nvmRefused (.nvmRefill h)))) (.ite (.writeSave (.setNvm (.doReserve (.payErase h)))) (.raise (.setBeside
    (.nvmRefused (.doReserve h)))))

theorem Guarded.restoreCounters (h : Guarded paced s u) : Guarded paced s u.restoreCounters := by
  unfold State.restoreCounters
  split
  · exact .loadBytes h
  · exact .loadBytes h

theorem Guarded.affRestore (h : Guarded paced s u) : Guarded paced s u.affRestore := by
  refine .predict ?_
  split
  · exact .raise (.set (.restoreCounters h))
  · exact .raise (.set (.restoreCounters h))

/-! ### Arbiter -/

theorem Guarded.arrive {b : Nat} {reqs : List StoreReq} (h : Guarded paced s u) : Guarded paced s (u.arrive b reqs) :=
  .foldl h fun h => .ite (.cond (.modBank h) .raise) (.ite (.modBank h) (.raiseRated (.modBank h)))

theorem Guarded.scrub {b : Nat} (h : Guarded paced s u) : Guarded paced s (u.scrub b) := by
  unfold State.scrub
  split
  · exact .ite (.eccRead (.modBank h)) (.modBank (.modBank h))
  · exact .modBank (.eccRead h)

theorem Guarded.transfer {b : Nat} {r : StoreReq} (h : Guarded paced s u) : Guarded paced s (u.transfer b r) :=
  .ite (.scrub h) (.ite (.modBank (.foldl h fun h => .forEach h .storeBytes)) (.modBank (.forEach h .eccRead)))

theorem Guarded.grantReq {b m : Nat} {idle : Bool} (h : Guarded paced s u) : Guarded paced s (u.grantReq b m idle) := by
  unfold State.grantReq
  split
  · exact h
  · exact .transfer (.modBank h)

theorem Guarded.arbitrate {b : Nat} (h : Guarded paced s u) : Guarded paced s (u.arbitrate b) := by
  unfold State.arbitrate
  dsimp only
  split
  · split
    · exact .foldl (.modBank h) .granuleWritten
    · exact .ite (.grantReq h) (.modBank h)
  · refine .ite (.modBank h) (.ite (.modBank h) ?_)
    split
    · refine .ite (.grantReq (.modBank h)) ?_
      split
      · exact .grantReq (.modBank h)
      · exact .modBank h
    · split
      · exact .grantReq (.modBank h)
      · exact .modBank h

theorem Answered.slotShadowWrite {b : Fin 16} {j : Fin 8} {v : BitVec 32} (h : Guarded paced s u) :
    Answered paced s (execSlotShadowWrite b j v u) :=
  .ite (.next (.raise (.modBank h))) (.next (.modBank h))

theorem Answered.swap {b : Fin 16} (h : Guarded paced s u) : Answered paced s (execSwap b u) := .next (.modBank h)

theorem Guarded.breakLock {b o : Nat} {gone kept : List StoreReq} (h : Guarded paced s u) : Guarded paced s (u.breakLock b o gone kept) :=
  .setFlag (.modBank h)

/-! ### Scan -/

theorem Guarded.injectSpent {y : Nat} (h : Guarded paced s u) : Guarded paced s (u.injectSpent y) := .set h
theorem Guarded.keepRow {y : Nat} (h : Guarded paced s u) : Guarded paced s (u.keepRow y) := .ite h (.storeBytes h)

theorem Guarded.rowLights {y : Nat} {codes : List Nat} (h : Guarded paced s u) : Guarded paced s (u.rowLights y codes) :=
  .cond (.cond h .modQuad) .modQuad

theorem Guarded.fullRow {residue : List Nat} {y : Nat} (h : Guarded paced s u) : Guarded paced s (u.fullRow residue y) :=
  .ite (.setBeside (.keepRow (.eccHits (.cond h .injectSpent)))) (.rowLights (.storeBytes (.eccHits (.cond h .injectSpent))))

theorem Guarded.keepAliveRow {residue : List Nat} {y : Nat} (h : Guarded paced s u) : Guarded paced s (u.keepAliveRow residue y) :=
  .ite (.set (.eccRead (.cond h .injectSpent))) (.eccRead (.cond h .injectSpent))

theorem Guarded.chargeStep {step' : Nat} (h : Guarded paced s u) : Guarded paced s (u.chargeStep step') :=
  .ite h (.forEach h fun h => .forEach h .chargeBlock)

theorem Guarded.released {x : SegRec} {codes : List Nat} (h : Guarded paced s u) : Guarded paced s (u.released x codes) :=
  .modTile (.set (.set h))

theorem Guarded.releaseSeg {whole : List Nat} {step' t : Nat} (h : Guarded paced s u) : Guarded paced s (u.releaseSeg whole step' t) :=
  .ite h (.ite h (.ite (.modQuad h) (.released h)))

theorem Guarded.judgeLines (h : Guarded paced s u) : Guarded paced s u.judgeLines :=
  .ite (.ite (.setCause (.set (.set h))) (.set h)) (.ite (.setCause (.raise (.setFlag (.set (.raise (.set h)))))) (.raise (.set
    h)))

theorem Guarded.stepDone {step' : Nat} (h : Guarded paced s u) : Guarded paced s (u.stepDone step') :=
  .ite (.judgeLines (.ite (.set (.set (.chargeStep h))) (.set (.chargeStep h)))) (.set (.chargeStep h))

theorem Guarded.starve {bank : Nat} (h : Guarded paced s u) : Guarded paced s (u.starve bank) :=
  .stepDone (.ite (.ite (.forEach h .keepRow) h) (.raise (.setFlag (.set (.ite (.forEach h .keepRow) h)))))

theorem Answered.scanStepRelease {residueRows : List Nat} (h : Guarded paced s u) : Answered paced s (execScanStepRelease residueRows u) := by
  refine .ite (.next h) (.ite (.next (.starve h)) ?_)
  split
  · exact .next (.starve h)
  · exact .next (.stepDone (.forEach (.forEach h fun h => .ite (.fullRow h) (.keepAliveRow h)) .releaseSeg))

theorem Answered.rowSegment {t : Fin 64} {hdr : BitVec 32} {codes : List (BitVec 12)} {crc : BitVec 16} (h : Guarded paced s u) :
    Answered paced s (execRowSegment t hdr codes crc u) :=
  .ite (.next h) (.ite (.next (.modTile h)) (.next (.modTile (.cond (.ite (.writeRow (.cond h .set)) (.cond h .set)) .set))))

/-! ### Diagnosis -/

theorem Guarded.setMapped {p : Nat} {on : Bool} (h : Guarded paced s u) : Guarded paced s (u.setMapped p on) := .storeBytes (.eccRead h)

theorem Guarded.blockUpdate {k : Nat} (h : Guarded paced s u) : Guarded paced s (u.blockUpdate k) :=
  .ite h (.cond (.cond (.set h) fun h => .raise (.legStatus h)) .raise)

theorem Guarded.stuckChange {p : Nat} {enters : Bool} (h : Guarded paced s u) : Guarded paced s (u.stuckChange p enters) :=
  .ite (.set h) (.ite (.set h) (.setCause h))

theorem Guarded.listCause {p : Nat} (h : Guarded paced s u) : Guarded paced s (u.listCause p) := .ite (.set h) (.ite h (.raise (.set h)))

theorem Guarded.enterMap {p cause : Nat} (h : Guarded paced s u) : Guarded paced s (u.enterMap p cause) :=
  .blockUpdate (.cond (.listCause (.set (.raise (.setMapped h)))) .stuckChange)

theorem Guarded.leaveMap {p cause : Nat} (h : Guarded paced s u) : Guarded paced s (u.leaveMap p cause) :=
  .blockUpdate (.cond (.set (.raise (.setMapped h))) .stuckChange)

theorem Guarded.measured {p cause : Nat} {fail : Bool} (h : Guarded paced s u) : Guarded paced s (u.measured p cause fail) :=
  .ite (.ite (.set h) (.ite (.cond (.set h) .eccRead) (.enterMap (.set h)))) (.ite (.set h) (.ite (.set (.set h)) (.ite (.cond
    (.set (.set h)) .eccRead) (.leaveMap (.set (.set h))))))

theorem Guarded.stallGood {f : BitVec 16} {key : Nat} (h : Guarded paced s u) : Guarded paced s (u.stallGood f key) := by
  unfold State.stallGood
  split
  · exact .ite (.set h) h
  · exact h

theorem Guarded.judgeGood {x : SegRec} (h : Guarded paced s u) : Guarded paced s (u.judgeGood x) :=
  .cond (.stallGood (.set (.set h))) .setCause

theorem Guarded.judgeBad {x : SegRec} {reason : Nat} {sig : BitVec 16} (h : Guarded paced s u) : Guarded paced s (u.judgeBad x reason sig) :=
  .cond (.ite (.raise (.setFlag (.set (.set h)))) (.raiseRated (.set (.set h)))) .setCause

theorem Answered.readback {t : Fin 64} {w : BitVec 48} (h : Guarded paced s u) : Answered paced s (execReadback t w u) := by
  refine .ite (.next h) ?_
  split
  · exact .next h
  · refine .next ?_
    split
    · exact .judgeGood (.set h)
    · exact .cond (.judgeBad (.set h)) .set

theorem Answered.readbackTimeout (h : Guarded paced s u) : Answered paced s (execReadbackTimeout u) := by
  unfold execReadbackTimeout
  split
  · exact .next h
  · exact .next (.ite (.judgeBad (.set h)) (.set h))

theorem Guarded.resend {key : Nat} (h : Guarded paced s u) : Guarded paced s (u.resend key) :=
  .ite (.eccRead h) (.modTile (.set (.eccRead h)))

theorem Answered.crcGenCheck (h : Guarded paced s u) : Answered paced s (execCrcGenCheck u) := by
  refine .ite (.next h) ?_
  split
  · exact .next h
  · exact .ite (.next (.judgeBad (.set (.eccRead h)))) (.ite (.next (.set (.eccRead h))) (.next (.setCause (.raise (.setFlag
      (.set (.set (.eccRead h))))))))

theorem Guarded.sendResult {t cause start : Nat} (h : Guarded paced s u) : Guarded paced s (u.sendResult t cause start) := .sendCtl h

theorem Guarded.takeResult {t cause start : Nat} (h : Guarded paced s u) : Guarded paced s (u.takeResult t cause start) := by
  unfold State.takeResult
  dsimp only
  split
  · exact .ite (.sendResult (.forEach h .measured)) (.cond (.forEach h .measured) .sendResult)
  · exact .cond (.forEach h .measured) .sendResult

theorem Guarded.rowMeasured {t : Nat} (h : Guarded paced s u) : Guarded paced s (u.rowMeasured t) := .ite (.modTile h) (.set (.modTile h))

theorem Answered.measPeriodEnd {t : Fin 64} {opens shorts stuck : BitVec 128} (h : Guarded paced s u) :
    Answered paced s (execMeasPeriodEnd t opens shorts stuck u) := by
  unfold execMeasPeriodEnd
  split
  · exact .next h
  · exact .ite (.next (.modTile h)) (.next (.sendResult (.cond (.modTile h) .rowMeasured)))

theorem Guarded.nextGap {q : Nat} (h : Guarded paced s u) : Guarded paced s (u.nextGap q) := by
  unfold State.nextGap
  split
  · exact .sendCtl (.set h)
  · exact h

theorem Guarded.switchFault {t : Nat} {closed : Bool} (h : Guarded paced s u) : Guarded paced s (u.switchFault t closed) :=
  .checkInh (.setCause (.raise (.set h)))

theorem Answered.diagMapReport (h : Guarded paced s u) : Answered paced s (execDiagMapReport u) :=
  .ite (.next h) (.ite (.next (.ite h (.setBeside (.foldl (.cond h fun h => .setBeside (.foldl h .enqueue)) .enqueue)))) (.ite (.next h)
    (.ite (.next (.set h)) (.next (.setBeside (.foldl h .enqueue))))))

theorem Answered.diagCtrlWrite {v : BitVec 32} (h : Guarded paced s u) : Answered paced s (execDiagCtrlWrite v u) := .next (.set h)

/-! ### Link -/

theorem Guarded.freeForwarded {ps : List FwdPkt} (h : Guarded paced s u) : Guarded paced s (u.freeForwarded ps) :=
  .foldl h fun h => .ite h (.freeCredits h)

theorem Guarded.dropForwarded (h : Guarded paced s u) : Guarded paced s u.dropForwarded := .freeForwarded (.set h)
theorem Guarded.portBDown {cause : Nat} (h : Guarded paced s u) : Guarded paced s (u.portBDown cause) := .raise (.set (.dropForwarded h))
theorem Guarded.holdPortB (h : Guarded paced s u) : Guarded paced s u.holdPortB := .set (.dropForwarded h)
theorem Guarded.startPortB (h : Guarded paced s u) : Guarded paced s u.startPortB := .ite (.set h) h
theorem Guarded.roleConflict {p : PortId} (h : Guarded paced s u) : Guarded paced s (u.roleConflict p) := .ite h (.raise (.modPort h))
theorem Guarded.toDeskew {p : PortId} (h : Guarded paced s u) : Guarded paced s (u.toDeskew p) := .ite (.modPort h) h
theorem Guarded.endSession (h : Guarded paced s u) : Guarded paced s u.endSession := .ite (.set (.raise h)) h
theorem Guarded.tbGo {n : TbState} (h : Guarded paced s u) : Guarded paced s (u.tbGo n) := .ite h (.raise (.set h))
theorem Guarded.tbHold (h : Guarded paced s u) : Guarded paced s u.tbHold := .ite (.tbGo (.setClk h fun _ => rfl)) h
theorem Guarded.latchByFraming (h : Guarded paced s u) : Guarded paced s u.latchByFraming := .ite (.raise (.set h)) h

theorem Guarded.linkUpNow (h : Guarded paced s u) : Guarded paced s u.linkUpNow :=
  .startPortB (.ite (.latchByFraming (.raise (.set h))) (.raise (.set h)))

theorem Guarded.linkLost (h : Guarded paced s u) : Guarded paced s u.linkLost :=
  .cond (.cond (.cond (.set (.tbHold (.holdPortB (.set h)))) .raise) .raise) .endSession

theorem Guarded.linkDown {cause : Nat} (h : Guarded paced s u) : Guarded paced s (u.linkDown cause) := .raise (.set (.linkLost h))

theorem Guarded.startRepair {surviving : BitVec 4} {cause : Nat} (h : Guarded paced s u) : Guarded paced s (u.startRepair surviving cause) :=
  .ite (.linkDown h) (.flushLcbs (.sendNak (.set (.set h))))

theorem Guarded.laneLost {lane : Nat} {squelchLost : Bool} (h : Guarded paced s u) : Guarded paced s (u.laneLost lane squelchLost) :=
  .ite (.set h) (.ite (.startRepair (.set h)) (.set h))

theorem Guarded.linkFailed {why : LinkFail} {seq : BitVec 12} (h : Guarded paced s u) : Guarded paced s (u.linkFailed why seq) :=
  .ite (.linkDown (.set h)) (.sendNak (.set h))

theorem Guarded.receive {i : Instr} {p : Rx} {consume : State → State} (h : Guarded paced s u)
    (step : ∀ {v}, Guarded paced s v → Guarded paced s (consume v)) : Guarded paced s (u.receive i p consume) :=
  .ite h (.ite (.restoreFor (.linkFailed h)) (.ite (.restoreFor (.linkOther h)) (.ite (.restoreFor (.linkFailed h)) (.content
    (.linkPass h) step))))

theorem Guarded.freeShared {w : Wait} (h : Guarded paced s u) : Guarded paced s (u.freeShared w) := by
  unfold State.freeShared
  split
  · exact .freeCredits h
  · exact .ite (.set h) (.freeCredits h)

theorem Guarded.sendAckB (h : Guarded paced s u) : Guarded paced s u.sendAckB := .set (.set h)
theorem Guarded.sendNakB (h : Guarded paced s u) : Guarded paced s u.sendNakB := .ite h (.set (.set h))
theorem Guarded.linkOtherB {q : BitVec 12} (h : Guarded paced s u) : Guarded paced s (u.linkOtherB q) := .ite (.sendAckB h) (.sendNakB h)

theorem Guarded.linkFailedB {why : LinkFail} {seq : BitVec 12} (h : Guarded paced s u) : Guarded paced s (u.linkFailedB why seq) :=
  .ite (.portBDown (.set h)) (.sendNakB (.set h))

theorem Guarded.freeCreditsB {vc n : Nat} (h : Guarded paced s u) : Guarded paced s (u.freeCreditsB vc n) :=
  .ite (.set (.set (.set h))) (.set h)

/-! ### Schedule -/

theorem Guarded.schedLate {w : Int} (h : Guarded paced s u) : Guarded paced s (u.schedLate w) := .raise (.setFlag h)

theorem Guarded.bindTime {w : Int} (h : Guarded paced s u) : Guarded paced s (u.bindTime w).1 := by
  unfold State.bindTime
  split
  · exact .schedLate h
  · exact h

theorem Guarded.rebindPours (h : Guarded paced s u) : Guarded paced s u.rebindPours := .foldl h fun h => .ite h (.set (.bindTime h))
theorem Guarded.afterStep (h : Guarded paced s u) : Guarded paced s u.afterStep := .regrid (.rebindPours (.ite (.set (.set h)) h))

theorem Guarded.stepTb0 {off : Int} (h : Guarded paced s u) : Guarded paced s (u.stepTb0 off) :=
  .ite h (.afterStep (.raise (.set (.cond (.setClk h fun _ => rfl) .set))))

/-! ### Latch -/

theorem Guarded.markChange (h : Guarded paced s u) : Guarded paced s u.markChange := .set h

theorem Guarded.applyCommit {c : Commit} (h : Guarded paced s u) : Guarded paced s (u.applyCommit c) :=
  .markChange (.raise (.set (.foldl h fun h => .cond (.modLayer h) .raise)))

theorem Guarded.markStale {n : Nat} (h : Guarded paced s u) : Guarded paced s (u.markStale n) := .ite h (.raise (.setFlag (.modLayer h)))

theorem Guarded.one {g : Nat} {p : Pass} {c : Commit} (h : Guarded paced s p.s) : Guarded paced s (p.one g c).s := by
  unfold Pass.one
  split
  · exact h
  split
  · exact h
  split
  · split
    · exact h
    · exact h
  dsimp only
  split
  · exact .applyCommit h
  split
  · exact h
  split
  · exact .raise (.setFlag h)
  · exact .forEach (.raise (.raise (.setFlag h))) .markStale

theorem Guarded.pass {g : Nat} {p : Pass} {cs : List Commit} (h : Guarded paced s p.s) : Guarded paced s (cs.foldl (Pass.one g) p).s := by
  induction cs generalizing p with
  | nil => exact h
  | cons c cs ih => exact ih (.one h)

theorem Guarded.pourMiss {group : Nat} (h : Guarded paced s u) : Guarded paced s (u.pourMiss group) := .raise (.setFlag h)
theorem Guarded.judgeStale (h : Guarded paced s u) : Guarded paced s u.judgeStale := by
  unfold State.judgeStale
  exact .cond h .setCause

theorem Guarded.commitsAt {g : Nat} (h : Guarded paced s u) : Guarded paced s (u.commitsAt g).1 :=
  .judgeStale (.foldl (.set (.pass (.forEach h .pourMiss))) .raise)

theorem Guarded.showSlot {slot1 : Bool} (h : Guarded paced s u) : Guarded paced s (u.showSlot slot1) :=
  .markChange (.raise (.legStatus (.set (.set h))))

theorem Guarded.showsAt {g : Nat} (h : Guarded paced s u) : Guarded paced s (u.showsAt g).1 := .cond (.cond h .showSlot) .showSlot
theorem Guarded.lightAt {g : Nat} (h : Guarded paced s u) : Guarded paced s (u.lightAt g) := .cond (.cond (.set h) .set) .set

theorem Guarded.requestsAt {g : Nat} (h : Guarded paced s u) : Guarded paced s (u.requestsAt g) := by
  unfold State.requestsAt
  dsimp only
  split
  · refine .set ?_
    split
    · exact .raise (.cond (.set (.set h)) .markChange)
    · exact .set h
  · split
    · exact .raise (.cond (.set (.set h)) .markChange)
    · exact .set h

theorem Guarded.dropModes {g : Nat} (h : Guarded paced s u) : Guarded paced s (u.dropModes g) := .set h
theorem Guarded.fadesAt (h : Guarded paced s u) : Guarded paced s u.fadesAt := .cond (.set h) .markChange

theorem Guarded.swapSet (h : Guarded paced s u) : Guarded paced s u.swapSet := by
  unfold State.swapSet
  split
  · exact h
  · exact .ite (.set h) (.markChange (.set h))

theorem Guarded.eachReady {f : State → Nat → State} (h : Guarded paced s u) (step : ∀ {v n}, Guarded paced s v → Guarded paced s (f v n)) :
    Guarded paced s (u.eachReady f) :=
  .forEach h fun h => .cond h step

theorem Guarded.withdraw (h : Guarded paced s u) : Guarded paced s u.withdraw := .eachReady (.set h) .sendSource
theorem State.latch_of_besidePaint (same : v.besidePaint = u.besidePaint) : v.safety.offLatch = u.safety.offLatch :=
  (congrArg (·.safety.offLatch) same :)

/-- A handover takes NORMAL only where the latch is clear (R320). -/
theorem Guarded.takeOver (h : Guarded paced s u) (clear : u.safety.offLatch = false) : Guarded paced s u.takeOver := by
  refine .changeState (.forEach (.eachReady (.set h) .sendCmd) .modQuad) fun _ set => ?_
  refine absurd set (ne_true_of_eq_false (Eq.trans ?_ clear))
  refine (State.forEach_leaves (g := (·.safety.offLatch)) (fun _ _ => ?_) _ _).trans
    ((State.forEach_leaves (g := (·.safety.offLatch)) (fun v q => ?_) _ _).trans ?_)
  · rfl
  · exact State.latch_of_besidePaint (v.besidePaint_cond _ fun w => w.besidePaint_sendCmd q _ _)
  · rfl

theorem Guarded.handoverAt {applied : Bool} (h : Guarded paced s u) : Guarded paced s (u.handoverAt applied) := by
  unfold State.handoverAt
  split
  · exact h
  split
  case isTrue taken =>
    simp only [State.clearable, Bool.and_eq_true, Bool.not_eq_true'] at taken
    exact .takeOver h taken.2.1.2
  case isFalse => exact .withdraw h

theorem Guarded.sendTiming {p : Nat} {set : Bool} (h : Guarded paced s u) : Guarded paced s (u.sendTiming p set) :=
  .forEach h fun h => .sendCtl (.cond h .sendCtl)

theorem Guarded.timeTiles (h : Guarded paced s u) : Guarded paced s u.timeTiles := .ite h (.sendTiming (.set h))
theorem Guarded.pwmRow (h : Guarded paced s u) : Guarded paced s u.pwmRow := .cond (.set h) .raise

theorem Guarded.decideKind {m : ModeP} {trans : Bool} (h : Guarded paced s u) : Guarded paced s (u.decideKind m trans) :=
  .cond (.cond (.set h) .raise) .raise

theorem Guarded.mergeShows {g : Nat} (h : Guarded paced s u) : Guarded paced s (u.mergeShows g) := by
  unfold State.mergeShows
  split
  · exact .set (.set h)
  · exact .set h

theorem Guarded.carryOver {g g' : Nat} (h : Guarded paced s u) : Guarded paced s (u.carryOver g g') :=
  .mergeShows (.set (.foldl (.set h) fun h => .set (.bindTime h)))

theorem Guarded.nextGrid {g l : Nat} (h : Guarded paced s u) : Guarded paced s (u.nextGrid g l) := .set h
theorem Guarded.stripesAt (h : Guarded paced s u) : Guarded paced s u.stripesAt := .ite (.raise (.markChange (.set h))) h
theorem Guarded.wakesAt (h : Guarded paced s u) : Guarded paced s u.wakesAt := .forEach h fun h => .ite (.markChange (.modQuad h)) h
theorem Guarded.spansAt (h : Guarded paced s u) : Guarded paced s u.spansAt := .set h

theorem Guarded.applyAt {g : Nat} (h : Guarded paced s u) : Guarded paced s (u.applyAt g) :=
  .lightAt (.requestsAt (.handoverAt (.showsAt (.commitsAt h))))

theorem Guarded.latchNow (h : Guarded paced s u) : Guarded paced s u.latchNow := by
  unfold State.latchNow
  dsimp only
  split
  · exact .ite (.decideKind (.spansAt (.wakesAt (.stripesAt (.litAtLatch (.fadesAt (.pwmRow (.cond (.raise (.carryOver (.set
      (.set (.dropModes h))))) .withdraw)))))))) (.decideKind (.spansAt (.swapSet (.wakesAt (.litAtLatch (.fadesAt (.pwmRow
      (.stripesAt (.applyAt (.nextGrid (.set (.dropModes h))))))))))))
  · exact .decideKind (.spansAt (.swapSet (.wakesAt (.litAtLatch (.fadesAt (.pwmRow (.stripesAt (.applyAt (.nextGrid (.set
      (.dropModes h)))))))))))

theorem Answered.cutoff (h : Guarded paced s u) : Answered paced s (execCutoff u) :=
  .ite (.next h) (.ite (.next (.eachReady (.set (.timeTiles (.elapse (.elapse h)))) .sendSource)) (.next (.timeTiles (.elapse
    (.elapse h)))))

theorem Answered.lampsyncEdge {dt : Nat} (h : Guarded paced s u) : Answered paced s (execLampsyncEdge dt u) :=
  .ite (.next (.elapse h)) (.ite (.next (.set (.elapse h))) (.next (.cond (.regrid (.set (.set (.elapse h)))) .raise)))

theorem Guarded.legacyRecover (h : Guarded paced s u) : Guarded paced s u.legacyRecover := by
  unfold State.legacyRecover
  exact .ite (.unlatched h rfl rfl rfl) h

/-! ### LegEnter -/

theorem Guarded.enterLegacy (h : Guarded paced s u) : Guarded paced s u.enterLegacy := .raise (.runLimiter (.set (.set (.set h))))
theorem Guarded.latchAndEnter (h : Guarded paced s u) : Guarded paced s u.latchAndEnter :=
  .ite (.enterLegacy (.latchByFraming h)) (.latchByFraming h)

/-! ### Surfaces -/

theorem Guarded.stagingBad {vc a : Nat} (h : Guarded paced s u) : Guarded paced s (u.stagingBad vc a) := .raise (.set h)

theorem Guarded.takeWrite {n off : Nat} {data : List Byte} {corrected : Nat} {bad : List Nat} (h : Guarded paced s u) :
    Guarded paced s (u.takeWrite n off data corrected bad) :=
  .set (.modLayer (.cond (.set (.cond (.cond (.cond (.checkRun h) .raiseRated) .raise) .storeBytes)) fun h => .forEach h
    .stagingBad))

theorem Guarded.takeComplete {hd : Hdr} {n : Nat} {payload : List Byte} {a : Stamp} (h : Guarded paced s u) :
    Guarded paced s (u.takeComplete hd n payload a) :=
  .ite (.reply (.modLayer (.checkRun h))) (.ite (.reply (.modLayer (.checkRun h))) (.ite (.reply (.modLayer (.checkRun h)))
    (.ite (.reply (.modLayer (.modLayer (.checkRun h)))) (.raise (.reply (.modLayer (.checkRun h)))))))

theorem Guarded.takeDescriptor {hd : Hdr} {payload : List Byte} (h : Guarded paced s u) : Guarded paced s (u.takeDescriptor hd payload) :=
  .ite (.reply h) (.ite (.reply h) (.ite (.reply h) (.reply (.modLayer h))))

theorem Guarded.takeCommit {hd : Hdr} {payload : List Byte} {a : Stamp} (h : Guarded paced s u) :
    Guarded paced s (u.takeCommit hd payload a) :=
  .ite (.reply h) (.cond (.reply (.litOnAccept (.set h))) fun h => .raise (.setFlag h))

theorem Guarded.takePour {hd : Hdr} {payload : List Byte} {now : Nat} (h : Guarded paced s u) : Guarded paced s (u.takePour hd payload now) :=
  .ite (.reply h) (.ite (.reply h) (.ite (.reply h) (.ite (.raise h) (.set (.bindTime (.cond h .raise))))))

/-! ### Legacy -/

theorem Guarded.legWrite {due a : Nat} {v : Byte} (h : Guarded paced s u) : Guarded paced s (u.legWrite due a v) :=
  .ite (.raise (.forEach (.set h) .set)) (.ite h (.ite (.set (.cond (.set h) .set)) (.cond (.set h) .set)))

theorem Guarded.latchHi {a v : Nat} (h : Guarded paced s u) : Guarded paced s (u.latchHi a v) := .set h
theorem Guarded.nextFault (h : Guarded paced s u) : Guarded paced s u.nextFault := .set (.set h)
theorem Guarded.readLow {a v : Nat} (h : Guarded paced s u) : Guarded paced s (u.readLow a v).1 := .latchHi h

theorem Guarded.legRead {a : Nat} (h : Guarded paced s u) : Guarded paced s (u.legRead a).1 := by
  simp only [State.legRead, apply_ite Prod.fst]
  exact .ite h (.ite h (.ite (.set h) (.ite h (.ite h (.ite (.readLow h) (.ite (.readLow h) (.ite (.readLow h) (.ite h
    (.ite (.nextFault h) (.ite h (.ite (.set h) (.ite h h))))))))))))

theorem Guarded.legReads {first count : Nat} (h : Guarded paced s u) : Guarded paced s (u.legReads first count).1 := by
  unfold State.legReads
  have round (is : List Nat) (p : State × List Byte) (h : Guarded paced s p.1) :
      Guarded paced s (is.foldl (fun p i => ((p.1.legRead (first + i)).1, p.2 ++ [(p.1.legRead (first + i)).2])) p).1 := by
    induction is generalizing p with
    | nil => exact h
    | cons i is ih => exact ih _ (.legRead h)
  exact round _ _ h

theorem Guarded.sendT512 {r : T512Reply} (h : Guarded paced s u) : Guarded paced s (u.sendT512 r) := .emit (.set h)
theorem Guarded.answerT512 {r : T512Reply} (h : Guarded paced s u) : Guarded paced s (u.answerT512 r) := .sendT512 (.set h)

theorem Guarded.ackT512 {type : Nat} {f : T512Frame} {status : Nat} (h : Guarded paced s u) : Guarded paced s (u.ackT512 type f status) :=
  .cond (.answerT512 h) .raise

theorem Guarded.takeShow {seq : Byte} {a : Stamp} (h : Guarded paced s u) : Guarded paced s (u.takeShow seq a) :=
  .cond (.set (.set h)) fun h => .raise (.setFlag h)

theorem Guarded.takeRegWrite {f : T512Frame} {arrival : Stamp} (h : Guarded paced s u) : Guarded paced s (u.takeRegWrite f arrival) :=
  .ite (.ackT512 (.foldl h .legWrite)) (.ackT512 h)

theorem Guarded.takeRegRead {f : T512Frame} (h : Guarded paced s u) : Guarded paced s (u.takeRegRead f) :=
  .ite (.answerT512 (.legReads h)) (.ackT512 h)

theorem Guarded.takeLines {f : T512Frame} {a : Stamp} (h : Guarded paced s u) : Guarded paced s (u.takeLines f a) :=
  .ite (.ackT512 (.cond (.forEach h fun h => .cond (.set h) .storeBytes) .takeShow)) (.ackT512 h)

theorem Guarded.takeShowFrame {f : T512Frame} {a : Stamp} (h : Guarded paced s u) : Guarded paced s (u.takeShowFrame f a) :=
  .ite (.ackT512 h) (.ite (.ackT512 h) (.ackT512 (.takeShow h)))

theorem Guarded.takeFrame {type : Nat} {f : T512Frame} {a : Stamp} (h : Guarded paced s u) : Guarded paced s (u.takeFrame type f a) := by
  refine .ite ?_ (.ite (.takeRegWrite (.set h)) (.ite (.takeRegRead (.set h)) (.ite (.takeLines (.set h)) (.ite (.takeShowFrame
      (.set h)) (.ite (.ite (.answerT512 (.set h)) (.ackT512 (.set h))) (.ackT512 (.set h)))))))
  split
  · exact .sendT512 h
  · exact h

theorem Guarded.nakFrame {noRoom : Bool} (h : Guarded paced s u) : Guarded paced s (u.nakFrame noRoom) :=
  .ite (.linkDown (.raiseRated (.sendT512 (.legStatus (.set (.cond h .drawn)))))) (.raiseRated (.sendT512 (.legStatus (.set
    (.cond h .drawn)))))

theorem Guarded.frameIn {i : Instr} {type : Nat} {f : T512Frame} (h : Guarded paced s u) : Guarded paced s (u.frameIn i type f) :=
  .ite h (.ite (.nakFrame h) (.ite (.set (.set h)) (.takeFrame (.set h))))

theorem Answered.hs {sets : Nat} (h : Guarded paced s u) : Answered paced s (execHs sets u) :=
  .ite (.next h) (.ite (.ite (.next (.set h)) (.next (.legacyRecover (.cond (.linkUpNow h) .enterLegacy)))) (.ite (.next (.linkDown h)) (.next h)))

/-! ### Channels -/

theorem Guarded.zoneRejected {seq cause : Nat} (h : Guarded paced s u) : Guarded paced s (u.zoneRejected seq cause) := .raise h

theorem Guarded.dropCand {cause : Nat} (h : Guarded paced s u) : Guarded paced s (u.dropCand cause) := by
  unfold State.dropCand
  split
  · exact .zoneRejected (.set h)
  · exact h

theorem Guarded.takePlain {hd : Hdr} {payload : List Byte} (h : Guarded paced s u) : Guarded paced s (u.takePlain hd payload) := by
  unfold State.takePlain
  dsimp only
  split
  · exact .reply (.set (.dropCand (.cond h .dropCand)))
  · exact .zoneRejected (.reply (.set (.dropCand (.cond h .dropCand))))

theorem Guarded.confirmList {z : ZoneList} (h : Guarded paced s u) : Guarded paced s (u.confirmList z) :=
  .runLimiter (.foldl (.raise (.set h)) fun h => .cond h .raise)

theorem Guarded.takeCompl {hd : Hdr} {payload : List Byte} (h : Guarded paced s u) : Guarded paced s (u.takeCompl hd payload) := by
  unfold State.takeCompl
  dsimp only
  split
  · exact .zoneRejected (.reply (.cond h .dropCand))
  · split
    · exact .dropCand (.reply (.cond h .dropCand))
    · exact .ite (.reply (.confirmList (.cond h .dropCand))) (.dropCand (.reply (.cond h .dropCand)))

theorem Guarded.tickCuts (h : Guarded paced s u) : Guarded paced s u.tickCuts := .forEach h fun h => .setCut (.setCut h)
theorem Guarded.foundDiff (h : Guarded paced s u) : Guarded paced s u.foundDiff := .cond (.raiseRated (.set h)) .setCause

theorem Guarded.compareTick (h : Guarded paced s u) : Guarded paced s u.compareTick :=
  .ite (.foundDiff (.set h)) (.ite (.setCause (.set (.set h))) (.set h))

theorem Guarded.blank {rs : List (Nat × Nat × Nat × Nat)} (h : Guarded paced s u) : Guarded paced s (u.blank rs) :=
  .forEach h fun h => .ite h (.foldl (.set (.modQuad h)) .sendFill)

theorem Answered.stallBlank (h : Guarded paced s u) : Answered paced s (execStallBlank u) := by
  unfold execStallBlank
  split
  · exact .next h
  · exact .ite (.next (.set h)) (.ite (.next (.setCause (.set h))) (.next (.cond (.set (.raise (.blank (.set h)))) .setCause)))

theorem Guarded.recoverNow (h : Guarded paced s u) : Guarded paced s u.recoverNow.1 := by
  unfold State.recoverNow
  split
  · exact h
  · split
    · exact .raise h
    · exact .raise (.drawn (.unlatched h rfl rfl rfl))

/-! ### Lanes -/

theorem Guarded.toSweep {p : PortId} (h : Guarded paced s u) : Guarded paced s (u.toSweep p) := by
  unfold State.toSweep
  split
  · exact .set h
  · exact .set h

theorem Guarded.sendPhase {p : PortId} {phases : List Nat} (h : Guarded paced s u) : Guarded paced s (u.sendPhase p phases) := .modPort h

theorem Answered.receiverDetectionDone {p : PortId} {lane : Fin 4} {r : Detect} (h : Guarded paced s u) :
    Answered paced s (execReceiverDetectionDone p lane r u) := by
  unfold execReceiverDetectionDone
  split
  · exact .ite (.next (.ite (.toSweep (.set h)) (.set (.set h)))) (.ite (.next (.set (.set h))) (.next (.set h)))
  · exact .ite (.next (.ite (.toSweep (.cond (.set h) .raise)) (.ite (.set (.cond (.set h) .raise)) (.cond (.set h) .raise))))
      (.next (.cond (.set h) .raise))

theorem Answered.squelchClose {p : PortId} {lane : Fin 4} (h : Guarded paced s u) : Answered paced s (execSquelchClose p lane u) := by
  unfold execSquelchClose
  split
  · exact .next (.laneLost h)
  · exact .next (.ite (.portBDown (.set h)) (.set h))

theorem Answered.commaAligned {p : PortId} {lane : Fin 4} {t512 : Bool} (h : Guarded paced s u) :
    Answered paced s (execCommaAligned p lane t512 u)  := by
  refine .ite (.ite (.next (.modPort h)) ?_) (.next h)
  split
  · exact .next (.ite (.modPort h) (.modPort (.modPort h)))
  · exact .ite (.ite (.next (.set (.modPort h))) (.next (.ite (.modPort h) (.raise (.set (.modPort h)))))) (.ite (.next (.set
      (.modPort h))) (.next (.ite (.modPort h) (.raise (.set (.modPort h))))))

theorem Answered.laneFault {p : PortId} {lane : Fin 4} (h : Guarded paced s u) : Answered paced s (execLaneFault p lane u) := by
  unfold execLaneFault
  split
  · exact .next (.laneLost h)
  · exact .next (.ite (.portBDown (.set h)) (.set h))

theorem Guarded.loopEvent {kind : Nat} {started : Bool} (h : Guarded paced s u) : Guarded paced s (u.loopEvent kind started) := .raise h

theorem Guarded.startLoopback {kind lane : Nat} (h : Guarded paced s u) : Guarded paced s (u.startLoopback kind lane) :=
  .loopEvent (.set (.linkLost h))

theorem Guarded.conflictB (h : Guarded paced s u) : Guarded paced s u.conflictB := .roleConflict (.modPort h)

theorem Answered.tsA {p : PortId} {lane : Fin 4} {w0 : BitVec 64} (h : Guarded paced s u) : Answered paced s (execTsA p lane w0 u) := by
  refine .ite (.next (.modPort (.toDeskew h))) ?_
  split
  · exact .ite (.ite (.next (.conflictB (.toDeskew h))) (.next (.set (.toDeskew h)))) (.next (.toDeskew h))
  · exact .ite (.next (.toDeskew h)) (.ite (.next (.roleConflict (.toDeskew h))) (.ite (.next (.linkDown (.toDeskew h))) (.ite
      (.next (.startLoopback (.set (.toDeskew h)))) (.next (.set (.toDeskew h))))))

theorem Answered.tsB {p : PortId} {blocks : List (Fin 4 × Nat × BitVec 64)} (h : Guarded paced s u) : Answered paced s (execTsB p blocks u) := by
  unfold execTsB
  dsimp only
  split
  · split
    · exact .next (.modPort (.toDeskew h))
    · exact .ite (.next (.modPort (.toDeskew h))) (.ite (.next (.conflictB (.modPort (.toDeskew h)))) (.next (.set (.modPort
        (.toDeskew h)))))
  · exact .ite (.next (.modPort (.toDeskew h))) (.ite (.next (.roleConflict (.modPort (.toDeskew h)))) (.ite (.next (.set
      (.modPort (.toDeskew h)))) (.next (.modPort (.toDeskew h)))))

theorem Answered.tsEnd {p : PortId} {blocks : List (Fin 4 × BitVec 64)} (h : Guarded paced s u) : Answered paced s (execTsEnd p blocks u) := by
  unfold execTsEnd
  dsimp only
  split
  · split
    · exact .next (.modPort h)
    · exact .ite (.next (.conflictB (.modPort h))) (.ite (.next (.modPort h)) (.ite (.next (.set (.modPort h))) (.ite (.next (.set (.modPort h)))
        (.next (.modPort h)))))
  · exact .ite (.ite (.next (.set (.set h))) (.next (.raise (.sendPhase (.set (.set h)))))) (.next (.set (.modPort h)))

/-! ### TimeSync -/

theorem Guarded.syncDiscard {cause : Nat} (h : Guarded paced s u) : Guarded paced s (u.syncDiscard cause) := .raise h

theorem Guarded.takeSync {payload : List Byte} {rx : Stamp} (h : Guarded paced s u) : Guarded paced s (u.takeSync payload rx) :=
  .ite (.syncDiscard h) (.set (.cond h .syncDiscard))

theorem Guarded.delayDue {t1 t2 cs : Int} (h : Guarded paced s u) : Guarded paced s (u.delayDue t1 t2 cs) :=
  .ite (.set h) (.ite (.set (.enqueue (.set h))) (.set (.set h)))

theorem Guarded.afterAccept {off : Int} {epochStep : Bool} (h : Guarded paced s u) : Guarded paced s (u.afterAccept off epochStep) := by
  unfold State.afterAccept
  dsimp only
  split
  · exact .tbGo h
  · exact .tbGo h
  · exact .ite (.tbGo h) (.set h)
  · exact .ite (.tbGo h) h

theorem Guarded.stepSample {off : Int} {y : SyncRx} {ep : BitVec 8} {epochStep : Bool} (h : Guarded paced s u) :
    Guarded paced s (u.stepSample off y ep epochStep) :=
  .afterAccept (.set (.stepTb0 h))

theorem Guarded.slewSample {off : Int} {y : SyncRx} (h : Guarded paced s u) : Guarded paced s (u.slewSample off y) := by
  refine .cond ?_ .raise
  exact .setClk h fun _ => rfl

theorem Guarded.sample {off : Int} {y : SyncRx} {ep : BitVec 8} (h : Guarded paced s u) : Guarded paced s (u.sample off y ep) :=
  .ite (.stepSample (.cond h .raise)) (.ite (.ite (.stepSample (.cond h .raise)) (.syncDiscard (.set (.cond h .raise))))
    (.afterAccept (.set (.slewSample (.cond h .raise)))))

theorem Guarded.takeFollowUp {payload : List Byte} {rx : Stamp} (h : Guarded paced s u) : Guarded paced s (u.takeFollowUp payload rx) := by
  unfold State.takeFollowUp
  split
  · exact h
  · exact .ite h (.delayDue (.ite (.set h) (.sample (.set h))))

theorem Guarded.takeDelayResp {payload : List Byte} {rx : Stamp} (h : Guarded paced s u) : Guarded paced s (u.takeDelayResp payload rx) := by
  unfold State.takeDelayResp
  split
  · exact h
  · exact .ite h (.ite (.syncDiscard (.set h)) (.ite (.syncDiscard (.set h)) (.ite (.syncDiscard (.set h)) (.set (.set h)))))

theorem Answered.syncPairTimeout {delay : Bool} (h : Guarded paced s u) : Answered paced s (execSyncPairTimeout delay u) :=
  .ite (.ite (.next (.syncDiscard (.set h))) (.next h)) (.ite (.next (.syncDiscard (.set h))) (.next h))

theorem Answered.tsevtCapture {dt : Nat} (h : Guarded paced s u) : Answered paced s (execTsevtCapture dt u) :=
  .ite (.next (.elapse h)) (.ite (.next (.raiseRated (.set (.elapse h)))) (.next (.raise (.set (.elapse h)))))

/-! ### Requests -/

theorem Guarded.answerReq {hd : Hdr} {opcode status : Nat} {data : List Byte} (h : Guarded paced s u) :
    Guarded paced s (u.answerReq hd opcode status data) :=
  .reply h

theorem Guarded.takeStatusRead {hd : Hdr} {args : List Byte} (h : Guarded paced s u) : Guarded paced s (u.takeStatusRead hd args) := by
  refine .ite (.answerReq h) ?_
  split
  · exact .answerReq h
  · exact .cond (.answerReq h) .set

theorem Guarded.takeModeSelect {hd : Hdr} {args : List Byte} {arrival : Stamp} (h : Guarded paced s u) :
    Guarded paced s (u.takeModeSelect hd args arrival) :=
  .ite (.answerReq h) (.ite (.answerReq h) (.ite (.answerReq h) (.answerReq (.set h))))

theorem Guarded.takeProfileSelect {hd : Hdr} {args : List Byte} {arrival : Stamp} (h : Guarded paced s u) :
    Guarded paced s (u.takeProfileSelect hd args arrival) :=
  .ite (.answerReq h) (.ite (.answerReq h) (.ite (.answerReq h) (.ite (.answerReq h) (.answerReq (.litOnAccept (.set h))))))

theorem Guarded.takeMasterDimmer {hd : Hdr} {args : List Byte} {arrival : Stamp} (h : Guarded paced s u) :
    Guarded paced s (u.takeMasterDimmer hd args arrival) :=
  .ite (.answerReq h) (.ite (.answerReq h) (.ite (.answerReq h) (.answerReq (.litOnAccept (.set h)))))

theorem Guarded.takeAddrSet {hd : Hdr} {args : List Byte} (h : Guarded paced s u) : Guarded paced s (u.takeAddrSet hd args) :=
  .ite (.answerReq h) (.ite (.answerReq h) (.ite h (.ite (.answerReq h) (.set (.ite (.enqueue h) (.set h))))))

theorem Guarded.takeRecover {hd : Hdr} {args : List Byte} (h : Guarded paced s u) : Guarded paced s (u.takeRecover hd args) :=
  .ite (.answerReq h) (.ite (.answerReq h) (.ite (.answerReq h) (.answerReq (.recoverNow h))))

theorem Guarded.takeEcho {hd : Hdr} {args : List Byte} (h : Guarded paced s u) : Guarded paced s (u.takeEcho hd args) :=
  .ite (.answerReq h) (.answerReq h)

/-! ### Service -/

theorem Guarded.answerSvc {q : SvcSrc} {opcode status : Nat} {data : List Byte} (h : Guarded paced s u) :
    Guarded paced s (u.answerSvc q opcode status data) := by
  unfold State.answerSvc
  split
  · exact .reply h
  · exact .set h

theorem Guarded.service {i : Instr} {q : SvcSrc} {opcode : Nat} {args : List Byte} {who : Nat} {consume : State → State} (h : Guarded paced s u)
    (step : ∀ {v}, Guarded paced s v → Guarded paced s (consume v)) : Guarded paced s (u.service i q opcode args who consume) := by
  unfold State.service
  split
  · exact .receive h step
  · exact .ite h (.ite (.set h) (step h))

theorem Guarded.takeUnlockReq {q : SvcSrc} {args : List Byte} (h : Guarded paced s u) : Guarded paced s (u.takeUnlockReq q args) :=
  .ite (.answerSvc h) (.ite (.answerSvc h) (.ite (.answerSvc h) (.answerSvc (.set (.drawn h)))))

theorem Guarded.takeUnlockResp {q : SvcSrc} {args : List Byte} (h : Guarded paced s u) : Guarded paced s (u.takeUnlockResp q args) := by
  refine .ite (.answerSvc h) (.ite (.answerSvc h) ?_)
  split
  · exact .answerSvc h
  · exact .ite (.answerSvc h) (.ite (.answerSvc (.raise (.set h))) (.answerSvc (.raise (.set h))))

theorem Guarded.takeSessionEnd {q : SvcSrc} {args : List Byte} (h : Guarded paced s u) : Guarded paced s (u.takeSessionEnd q args) :=
  .ite (.answerSvc h) (.ite (.answerSvc h) (.answerSvc (.ite (.set h) (.endSession h))))

theorem Guarded.takeImageErase {q : SvcSrc} {args : List Byte} (h : Guarded paced s u) : Guarded paced s (u.takeImageErase q args) := by
  refine .ite (.answerSvc h) (.ite (.answerSvc h) (.ite (.answerSvc h) ?_))
  split
  · exact .answerSvc h
  · exact .ite (.answerSvc h) (.answerSvc (.set (.flashQueue h)))

theorem Guarded.takeImageWrite {q : SvcSrc} {args : List Byte} (h : Guarded paced s u) : Guarded paced s (u.takeImageWrite q args) := by
  refine .ite (.answerSvc h) (.ite (.answerSvc h) (.ite (.answerSvc h) ?_))
  split
  · exact .answerSvc h
  · exact .ite (.answerSvc h) (.ite (.answerSvc h) (.answerSvc (.flashQueue h)))

theorem Guarded.takeImageCheck {q : SvcSrc} {args : List Byte} (h : Guarded paced s u) : Guarded paced s (u.takeImageCheck q args) := by
  refine .ite (.answerSvc h) (.ite (.answerSvc h) ?_)
  split
  · exact .answerSvc h
  · exact .answerSvc (.imageOp h)

theorem Guarded.takeImageRead {q : SvcSrc} {args : List Byte} (h : Guarded paced s u) : Guarded paced s (u.takeImageRead q args) := by
  refine .ite (.answerSvc h) (.ite (.answerSvc h) ?_)
  split
  · exact .answerSvc h
  · exact .ite (.answerSvc h) (.answerSvc h)

theorem Guarded.takeRecordRead {q : SvcSrc} {args : List Byte} (h : Guarded paced s u) : Guarded paced s (u.takeRecordRead q args) := by
  refine .ite (.answerSvc h) (.ite (.answerSvc h) ?_)
  split
  · exact .answerSvc h
  · exact .ite (.answerSvc h) (.answerSvc h)

theorem Guarded.takeSelftest {q : SvcSrc} {args : List Byte} (h : Guarded paced s u) : Guarded paced s (u.takeSelftest q args) :=
  .ite (.answerSvc h) (.ite (.answerSvc h) (.ite (.answerSvc h) (.ite (.answerSvc h) (.set (.startLoopback (.endSession
    (.answerSvc h)))))))

theorem Guarded.writeCvu {n : Nat} {v : BitVec 32} (h : Guarded paced s u) : Guarded paced s (u.writeCvu n v) :=
  .ite (.modLayer h) (.ite (.modLayer h) (.set h))

theorem Guarded.takePerturbSet {q : SvcSrc} {args : List Byte} (h : Guarded paced s u) : Guarded paced s (u.takePerturbSet q args) :=
  .ite (.answerSvc h) (.ite (.answerSvc h) (.ite (.answerSvc h) (.answerSvc (.raise (.ite (.writeCvu h) (.set h))))))

theorem Guarded.takePerturbClear {q : SvcSrc} {args : List Byte} (h : Guarded paced s u) : Guarded paced s (u.takePerturbClear q args) :=
  .ite (.answerSvc h) (.ite (.answerSvc h) (.ite (.answerSvc h) (.answerSvc (.cond h fun h => .raise (.set h)))))

theorem Guarded.takePerturbStatus {q : SvcSrc} {args : List Byte} (h : Guarded paced s u) : Guarded paced s (u.takePerturbStatus q args) :=
  .ite (.answerSvc h) (.ite (.answerSvc h) (.answerSvc h))

theorem Guarded.clearEnded (h : Guarded paced s u) : Guarded paced s u.clearEnded := .ite h (.ite (.raise (.set h)) (.foldl (.set h) .raise))
theorem Guarded.testEnLow (h : Guarded paced s u) : Guarded paced s u.testEnLow :=
  .ite (.modPort (.loopEvent (.loopEvent (.set h)))) (.set h)

theorem Answered.unknownOpcode {src : OpSrc} {opcode : BitVec 16} {args : List Byte} (h : Guarded paced s u) :
    Answered paced s (execUnknownOpcode src opcode args u) := by
  unfold execUnknownOpcode
  split
  · exact .next (.receive h .answerReq)
  · exact .next (.service h .answerSvc)

/-! ### Resume -/

theorem Guarded.consumeFrame {a : Stamp} {b : Instr} (h : Guarded paced s u) : Guarded paced s (u.consumeFrame a b) := by
  unfold State.consumeFrame
  split
  · exact .takeFrame h
  · exact .takeFrame h
  · exact .takeFrame h
  · exact .takeFrame h
  · exact .takeFrame h
  · exact .takeFrame h
  · exact .takeFrame h
  · exact .takeFrame h
  · exact .takeFrame h
  · exact .takeFrame h
  · exact .takeFrame h
  · exact .takeFrame h
  · exact h

theorem Guarded.consumeService {a : Stamp} {b : Instr} (h : Guarded paced s u) : Guarded paced s (u.consumeService a b) := by
  unfold State.consumeService
  split
  · exact .takeSelftest h
  · exact .takeUnlockReq h
  · exact .takeUnlockResp h
  · exact .takeSessionEnd h
  · exact .takeImageErase h
  · exact .takeImageWrite h
  · exact .takeImageCheck h
  · exact .takeImageRead h
  · exact .takeRecordRead h
  · exact .takePerturbSet h
  · exact .takePerturbClear h
  · exact .takePerturbStatus h
  · exact .answerSvc h
  · exact .consumeFrame h

theorem Guarded.consumeLater {w : Wait} (h : Guarded paced s u) : Guarded paced s (u.consumeLater w) := by
  unfold State.consumeLater
  split
  · exact .takeWrite h
  · exact .takeComplete h
  · exact .takeDescriptor h
  · exact .takeCommit h
  · exact .takePour h
  · exact .takePlain h
  · exact .takeCompl h
  · exact .takeSync h
  · exact .takeFollowUp h
  · exact .takeDelayResp h
  · exact .takeStatusRead h
  · exact .takeModeSelect h
  · exact .takeProfileSelect h
  · exact .takeMasterDimmer h
  · exact .takeAddrSet h
  · exact .takeRecover h
  · exact .takeEcho h
  · exact .answerReq h
  · exact .consumeService h

theorem Guarded.serveOne {w : Wait} (h : Guarded paced s u) : Guarded paced s (u.serveOne w) := .ite (.set h) (.freeShared (.consumeLater h))
theorem Guarded.serveWaiting (h : Guarded paced s u) : Guarded paced s u.serveWaiting := .foldl (.set h) .serveOne
theorem Guarded.mpIsReady (h : Guarded paced s u) : Guarded paced s u.mpIsReady := .foldl (.set (.set (.set h))) .enqueue

/-! ### Banks -/

theorem Answered.freeze {b : Fin 16} {on : Bool} (h : Guarded paced s u) : Answered paced s (execFreeze b on u) :=
  .next (.serveWaiting (.modBank h))

theorem Answered.lockBroken {b : Fin 16} (h : Guarded paced s u) : Answered paced s (execLockBroken b u) := by
  unfold execLockBroken
  dsimp only
  split
  · exact .next h
  · exact .next (.serveWaiting (.raise (.breakLock h)))

theorem Answered.arbWatchdog {b : Fin 16} (h : Guarded paced s u) : Answered paced s (execArbWatchdog b u) := by
  unfold execArbWatchdog
  dsimp only
  split
  · exact .next h
  · exact .next (.serveWaiting (.raise (.modBank (.breakLock h))))

/-! ### Quads -/

theorem Guarded.clearLatches {q : Nat} (h : Guarded paced s u) : Guarded paced s (u.clearLatches q) := .set h

theorem Guarded.dropQuad {q : Nat} (h : Guarded paced s u) : Guarded paced s (u.dropQuad q) :=
  .forEach (.clearLatches (.modQuad h)) fun h => .set (.modTile h)

/-! ### Registers -/

theorem Guarded.badAccess {addr : Nat} (h : Guarded paced s u) : Guarded paced s (u.badAccess addr) := .raise h

theorem Guarded.writeArbCtrl {b : Fin 16} {v : BitVec 32} (h : Guarded paced s u) : Guarded paced s (u.writeArbCtrl b v) :=
  .cond (.landed (.freeze h)) fun h => .landed (.swap h)

theorem Guarded.writeWdog {v : BitVec 32} (h : Guarded paced s u) : Guarded paced s (u.writeWdog v) := .ite h (.set h)

theorem Guarded.writeStorePage {addr : Nat} {v : BitVec 32} (h : Guarded paced s u) : Guarded paced s (u.writeStorePage addr v) :=
  .ite (.writeWdog h) (.dite (fun _ => .ite (.writeArbCtrl h) (.ite (.ite (.badAccess h) (.modBank h)) (.ite (.landed
    (.slotShadowWrite h)) (.ite h (.badAccess h))))) fun _ => .badAccess h)

theorem Guarded.writeQpwr {v : BitVec 32} (h : Guarded paced s u) : Guarded paced s (u.writeQpwr v) :=
  .foldl h fun h => .ite (.landed (.offReq h)) (.ite (.landed (.wakeReq h)) h)

theorem Guarded.writeDrivePage {off addr : Nat} {v : BitVec 32} (h : Guarded paced s u) : Guarded paced s (u.writeDrivePage off addr v) :=
  .ite (.badAccess h) (.ite (.landed (.drvTileWrite h)) (.ite (.writeQpwr h) (.ite (.ite h (.set h)) (.ite h (.ite (.landed
    (.drvStripeWrite h)) (.badAccess h))))))

theorem Guarded.writeCvuPage {off addr : Nat} {v : BitVec 32} (h : Guarded paced s u) : Guarded paced s (u.writeCvuPage off addr v) :=
  .ite (.badAccess h) (.ite (.ite (.set h) h) (.set h))

theorem Guarded.writeNvmPage {off addr : Nat} {v : BitVec 32} (h : Guarded paced s u) : Guarded paced s (u.writeNvmPage off addr v) :=
  .ite (.doReserve h) (.ite h (.badAccess h))

theorem Guarded.bridgeWrite {addr : Nat} {v : BitVec 32} (h : Guarded paced s u) : Guarded paced s (u.bridgeWrite addr v) := by
  unfold State.bridgeWrite
  dsimp only
  split
  · exact .writeStorePage h
  · exact .writeDrivePage h
  · exact .ite (.landed (.diagCtrlWrite h)) (.badAccess h)
  · exact .writeCvuPage h
  · exact .ite (.badAccess h) (.set h)
  · exact .writeNvmPage h
  · exact h
  · exact .badAccess h

theorem Guarded.mpRead {addr : Nat} (h : Guarded paced s u) : Guarded paced s (u.mpRead addr).1 := by
  unfold State.mpRead
  split
  · exact .badAccess h
  · exact .ite (.setNvm (.nvmRefill h)) h

/-! ### Telemetry -/

theorem Answered.eventRateWindow {code : BitVec 16} {key : Nat} (h : Guarded paced s u) : Answered paced s (execEventRateWindow code key u) := by
  unfold execEventRateWindow
  dsimp only
  split
  · exact .next h
  · exact .ite (.next (.set h)) (.next (.set (.raise h)))

theorem Guarded.restoreList (h : Guarded paced s u) : Guarded paced s u.restoreList := by
  unfold State.restoreList
  split
  · exact .set h
  · exact .set h

theorem Guarded.restoreMap (h : Guarded paced s u) : Guarded paced s u.restoreMap := .restoreList (.loadBytes h)

theorem Answered.telemetryHistory (h : Guarded paced s u) : Answered paced s (execTelemetryHistory u) := by
  refine .ite (.next h) ?_
  split
  · exact .next (.mpWrite h)
  · split
    · exact .next (.mpWrite h)
    · exact .next (.mpWrite h)

/-! ### Domains -/

theorem Guarded.loadPart {g a : Nat} {bs : List Byte} (h : Guarded paced s u) : Guarded paced s (u.loadPart g a bs) := .ite (.loadBytes h) h

theorem Guarded.loadImage {g : Nat} (h : Guarded paced s u) : Guarded paced s (u.loadImage g) := by
  unfold State.loadImage
  split
  · exact h
  · exact .ite (.ite (.set h) h) (.loadPart (.loadPart h))

theorem Guarded.startRestore (h : Guarded paced s u) : Guarded paced s u.startRestore := .restoreErases (.affRestore (.restoreMap h))

theorem Guarded.fillGroup {g : Nat} {map : List Byte} (h : Guarded paced s u) : Guarded paced s (u.fillGroup g map) :=
  .ite (.cond (.loadImage h) .startRestore) (.ite (.restoreCounters (.loadBytes (.loadImage h))) h)

theorem Answered.bankInitDone {g : Fin 2} (h : Guarded paced s u) : Answered paced s (execBankInitDone g u) := by
  have zeroed : Guarded paced s { u with store := if g.val = 0 then { u.store.clearGroup g with init0 := true }
      else { u.store.clearGroup g with init1 := true } } :=
    .set h
  exact .ite (.next h) (.next (.serveWaiting (.fillGroup (.forEach zeroed .modBank))))

theorem Guarded.dropPd3 (h : Guarded paced s u) : Guarded paced s u.dropPd3 := .drawn (.freeForwarded (.foldl (.set h) .freeShared))
theorem Guarded.dropPd4 (h : Guarded paced s u) : Guarded paced s u.dropPd4 := .set (.cond h .affSave)
theorem Guarded.dropPd5 (h : Guarded paced s u) : Guarded paced s u.dropPd5 := .set h

theorem Guarded.dropDomain {pd : Nat} (h : Guarded paced s u) : Guarded paced s (u.dropDomain pd) := by
  unfold State.dropDomain
  split
  · exact .cond h fun h => .holdPortB (.set h)
  · exact .cond h .dropPd3
  · exact .cond h .dropPd4
  · exact .cond h .dropPd5
  · exact h

theorem Guarded.raiseDomain {pd : Nat} (h : Guarded paced s u) : Guarded paced s (u.raiseDomain pd) := by
  unfold State.raiseDomain
  split
  · exact .startPortB (.set h)
  · exact .set h
  · exact .set h
  · exact .set h
  · exact h

theorem Answered.powerDomainRequest {pd : Fin 11} {on : Bool} (h : Guarded paced s u) : Answered paced s (execPowerDomainRequest pd on u) :=
  .ite (.next h) (.ite (.ite (.next (.raiseDomain h)) (.ite (.next (.dropDomain h)) (.next (.badSwitch h)))) (.ite (.ite
    (.wakeReq h) (.offReq h)) (.next (.badSwitch h))))

/-! ### Protocol -/

theorem Answered.capOffer {payload : List Byte} (h : Guarded paced s u) : Answered paced s (execCapOffer payload u) :=
  .ite (.ite (.next (.roleConflict h)) (.next (.ite (.raise (.set (.set h))) (.set (.set h))))) (.next h)

theorem Answered.capAnswer {payload : List Byte} (h : Guarded paced s u) : Answered paced s (execCapAnswer payload u) :=
  .ite (.ite (.next (.conflictB h)) (.ite (.next h) (.ite (.next h) (.next (.ite (.raise (.raise (.set h))) (.raise (.set
    h))))))) (.next h)

theorem Answered.packetLinkFail {p : PortId} {why : LinkFail} {seq : BitVec 12} (h : Guarded paced s u) :
    Answered paced s (execPacketLinkFail p why seq u) := by
  unfold execPacketLinkFail
  split
  · exact .next (.ite h (.ite (.ite h (.linkOther h)) (.linkFailed h)))
  · exact .next (.ite h (.ite (.ite h (.linkOtherB h)) (.linkFailedB h)))

theorem Answered.packetDiscard {hd : Hdr} {up : Bool} {vc : Fin 32} {type : BitVec 8} {len : Nat} (h : Guarded paced s u) :
    Answered paced s (execPacketDiscard hd up vc type len u) := by
  refine .ite (.next h) (.ite (.next (.restoreFor (.linkFailed h))) (.ite (.next (.restoreFor (.linkOther h))) (.ite (.next
      (.restoreFor (.linkFailed h))) (.ite (.next (.raiseRated (.set (.linkPass h)))) ?_))))
  split
  · exact .next (.contentFail (.linkPass h))
  · exact .next h

theorem Guarded.ackB {q : BitVec 12} (h : Guarded paced s u) : Guarded paced s (u.ackB q) := .ite h (.freeForwarded (.set h))

theorem Answered.ack {p : PortId} {seq : BitVec 12} (h : Guarded paced s u) : Answered paced s (execAck p seq u) := by
  unfold execAck
  split
  · exact .next (.ite (.ite (.set h) h) h)
  · exact .next (.ite (.ackB h) h)

theorem Answered.nak {p : PortId} {seq : BitVec 12} (h : Guarded paced s u) : Answered paced s (execNak p seq u) := by
  unfold execNak
  split
  · exact .ite (.next h) (.ite (.next (.ite (.set h) h)) (.ite (.next (.set (.ite (.set h) h))) (.ite (.next (.linkDown (.ite
      (.set h) h))) (.next (.set (.set (.ite (.set h) h)))))))
  · exact .ite (.next h) (.ite (.next (.ackB h)) (.ite (.next (.set (.ackB h))) (.ite (.next (.portBDown (.ackB h))) (.next
      (.set (.set (.ackB h)))))))

theorem Answered.credit {p : PortId} {vc : Fin 32} {total : BitVec 11} (h : Guarded paced s u) : Answered paced s (execCredit p vc total u) := by
  unfold execCredit
  split
  · exact .ite (.next (.set h)) (.next h)
  · exact .ite (.next (.set h)) (.next h)

theorem Guarded.onTimer {due : PortId → Bool} {f : PortId → State → State} (h : Guarded paced s u)
    (step : ∀ {n v}, Guarded paced s v → Guarded paced s (f n v)) : Guarded paced s (u.onTimer due f) :=
  .ite (step (.drawn h)) (.ite (step h) (.ite (step h) h))

theorem Answered.ackTimer (h : Guarded paced s u) : Answered paced s (execAckTimer u) := by
  exact .next (.onTimer h fun h => by split; exacts [.sendAck h, .sendAckB h])

theorem Answered.creditReturnTimer {resend : Bool} (h : Guarded paced s u) : Answered paced s (execCreditReturnTimer resend u) := by
  exact .next (.onTimer h fun h => .forEach h fun h => by split; exacts [.sendCredit h, .set (.set h)])

theorem Guarded.replayEndA (h : Guarded paced s u) : Guarded paced s u.replayEndA := by
  unfold State.replayEndA
  split
  · exact h
  · exact .ite (.linkDown h) (.set (.set h))

theorem Guarded.replayEndB (h : Guarded paced s u) : Guarded paced s u.replayEndB := by
  unfold State.replayEndB
  split
  · exact h
  · exact .ite (.portBDown h) (.set (.set h))

theorem Answered.replayTimer (h : Guarded paced s u) : Answered paced s (execReplayTimer u) := by
  exact .next (.onTimer h fun h => by split; exacts [.replayEndA h, .replayEndB h])

theorem Guarded.tqPop {q : Nat} (h : Guarded paced s u) : Guarded paced s (u.tqPop q) :=
  .ite (.set h) (.ite (.freeCreditsB (.ite (.set h) (.set (.set h)))) (.ite (.set h) (.set (.set h))))

theorem Guarded.sendUp {p : TxPkt} (h : Guarded paced s u) : Guarded paced s (u.sendUp p) := .ite (.set (.set (.emit h))) (.set (.emit h))

theorem Guarded.resendUp {n : BitVec 12} (h : Guarded paced s u) : Guarded paced s (u.resendUp n) := by
  unfold State.resendUp
  split
  · exact .set h
  · exact .sendUp (.set h)

theorem Guarded.sendNew {q : Nat} {p : TxPkt} (h : Guarded paced s u) : Guarded paced s (u.sendNew q p) :=
  .sendUp (.setContext (.set (.tqPop h)))

theorem Answered.tqTransmit (h : Guarded paced s u) : Answered paced s (execTqTransmit u) := by
  refine .ite (.next h) ?_
  dsimp only
  split
  · exact .next (.resendUp (.flushLcbs h))
  · split
    · exact .next (.flushLcbs h)
    · split
      · exact .next (.flushLcbs h)
      · exact .next (.sendNew (.flushLcbs h))

theorem Guarded.sendDown {p : FwdPkt} (h : Guarded paced s u) : Guarded paced s (u.sendDown p) := .emit (.setContext h)

theorem Guarded.resendB {n : BitVec 12} (h : Guarded paced s u) : Guarded paced s (u.resendB n) := by
  unfold State.resendB
  split
  · exact .set h
  · exact .sendDown (.set h)

theorem Answered.forwardPortB {dt : Nat} (h : Guarded paced s u) : Answered paced s (execForwardPortB dt u) := by
  refine .ite (.next (.elapse h)) ?_
  split
  · exact .next (.resendB (.ite (.elapse h) (.emit (.set (.elapse h)))))
  · split
    · exact .next (.ite (.elapse h) (.emit (.set (.elapse h))))
    · exact .next (.ite (.sendDown (.set (.ite (.elapse h) (.emit (.set (.elapse h)))))) (.ite (.elapse h) (.emit (.set (.elapse
        h)))))

theorem Answered.portBUpstream {hd : UpHdr} {vc : Fin 32} {type : BitVec 8} {payload : List Byte} (h : Guarded paced s u) :
    Answered paced s (execPortBUpstream hd vc type payload u) :=
  .ite (.next h) (.ite (.next (.linkFailedB h)) (.ite (.next (.linkOtherB h)) (.ite (.next (.raiseRated (.set (.ite (.ite
    (.sendAckB (.set h)) (.set h)) (.freeCreditsB (.set (.ite (.sendAckB (.set h)) (.set h)))))))) (.ite (.next (.raiseRated
    (.set (.ite (.sendAckB (.set h)) (.set h))))) (.next (.enqueue (.set (.ite (.sendAckB (.set h)) (.set h)))))))))

/-! ### Supervision -/

theorem Guarded.cyclePd10 (h : Guarded paced s u) : Guarded paced s u.cyclePd10 :=
  .cond (.set (.ite (.finishFlash h) (.raise (.set (.finishFlash h))))) .restoreMap

theorem Guarded.reloadFw (h : Guarded paced s u) : Guarded paced s u.reloadFw := by
  unfold State.reloadFw
  split
  · exact h
  · exact .cond h .set

theorem Guarded.restartMp (h : Guarded paced s u) : Guarded paced s u.restartMp := .set (.reloadFw (.cyclePd10 h))

theorem Guarded.mpBite (h : Guarded paced s u) : Guarded paced s u.mpBite :=
  .ite (.raise (.set (.cyclePd10 (.set (.setCause (.raise h)))))) (.restartMp (.set (.setCause (.raise h))))

theorem Guarded.mpReload (h : Guarded paced s u) : Guarded paced s u.mpReload :=
  .cond h fun h => .cond (.restoreList (.restoreErases h)) fun h => .predict (.healAll h)

theorem Answered.mpRestartReady (h : Guarded paced s u) : Answered paced s (execMpRestartReady u) :=
  .ite (.next h) (.next (.cond (.serveWaiting (.set (.raise (.setCause (.mpIsReady (.mpReload h)))))) .reportAtLinkUp))

theorem Guarded.spBite (h : Guarded paced s u) : Guarded paced s u.spBite := .runLimiter (.set (.setCause (.set h)))

/-! ### Startup -/

theorem Guarded.putFlash {a : Nat} {bs : List Byte} (h : Guarded paced s u) : Guarded paced s { u with flash := u.flash.put a bs } := .set h

theorem Guarded.tearFlash (h : Guarded paced s u) : Guarded paced s u.tearFlash := by
  unfold State.tearFlash
  split
  · exact h
  · exact .drawn (.putFlash (.ite (.flashErase h) h))

theorem Guarded.setReason {i : SlotId} {r : Nat} (h : Guarded paced s u) : Guarded paced s (u.setReason i r) := by
  unfold State.setReason
  split
  · exact .set h
  · exact .set h

theorem Guarded.reject {i : SlotId} {r : Nat} (h : Guarded paced s u) : Guarded paced s (u.reject i r) := .raise (.setReason h)
theorem Guarded.startPortA (h : Guarded paced s u) : Guarded paced s u.startPortA := .cond (.set h) fun h => .loopEvent (.startLoopback h)

theorem Guarded.enterServiceOnly (h : Guarded paced s u) : Guarded paced s u.enterServiceOnly :=
  .ite (.paintAnew (.startPortA (.set (.raise (.mpIsReady (.set (.set h))))))) (.forEach (.paintAnew (.startPortA (.set
    (.raise (.mpIsReady (.set (.set h))))))) .modQuad)

theorem Guarded.tryNext {order : List SlotId} (h : Guarded paced s u) : Guarded paced s (u.tryNext order) := by
  unfold State.tryNext
  split
  · exact .enterServiceOnly h
  · exact .set h

theorem Guarded.retryRead (h : Guarded paced s u) : Guarded paced s u.retryRead := .set h

theorem Answered.flashReadFail (h : Guarded paced s u) : Answered paced s (execFlashReadFail u) := by
  unfold execFlashReadFail
  dsimp only
  split
  · split
    · exact .next h
    · exact .ite (.next (.retryRead h)) (.ite (.next (.tryNext (.reject (.drawn h)))) (.next (.retryRead (.drawn h))))
  · exact .ite (.next h) (.ite (.next (.retryRead h)) (.ite (.next (.set (.drawn h))) (.next (.retryRead (.drawn h)))))
  · exact .next h

theorem Guarded.loadComposer {x : Slot} (h : Guarded paced s u) : Guarded paced s (u.loadComposer x) := .set h
theorem Guarded.startGrid (h : Guarded paced s u) : Guarded paced s u.startGrid := .regrid (.setClk h fun _ => rfl)
theorem Guarded.takeSafety {p : SafetyP} (h : Guarded paced s u) : Guarded paced s (u.takeSafety p) := .cond (.set (.set h)) .setCause
theorem Guarded.keepCeils (h : Guarded paced s u) : Guarded paced s u.keepCeils := .forEach h .sendCmd
theorem Guarded.sendThreshs (h : Guarded paced s u) : Guarded paced s u.sendThreshs := .forEach h .sendCtl
theorem Guarded.powerQuads (h : Guarded paced s u) : Guarded paced s u.powerQuads := .forEach h fun h => .cond h .closeSwitch
theorem Guarded.adopt {i : SlotId} (h : Guarded paced s u) : Guarded paced s (u.adopt i) := .set h
theorem Guarded.told {i : SlotId} (h : Guarded paced s u) : Guarded paced s (u.told i) := .raise (.setReason h)
theorem Guarded.fillReady (h : Guarded paced s u) : Guarded paced s u.fillReady := .forEach h .fillGroup

theorem Guarded.bringUp {i : SlotId} (h : Guarded paced s u) : Guarded paced s (u.bringUp i) :=
  .fillReady (.sendThreshs (.keepCeils (.repaint (.startPortA (.startGrid (.powerQuads (.loadComposer (.takeSafety (.told
    (.adopt h))))))))))

theorem Guarded.stripped {x : Slot} (h : Guarded paced s u) : Guarded paced s (u.stripped x) :=
  .ite (.forEach h .set) (.ite h (.foldl h .setContext))

theorem Answered.slotChecksDone (h : Guarded paced s u) : Answered paced s (execSlotChecksDone u) := by
  unfold execSlotChecksDone
  split
  · exact .next h
  · exact .ite (.next h) (.ite (.next (.bringUp (.stripped h))) (.next (.tryNext (.reject (.stripped h)))))

theorem Guarded.enterReady (h : Guarded paced s u) : Guarded paced s u.enterReady := .raise (.drawn (.set h))

theorem Answered.mpReady (h : Guarded paced s u) : Answered paced s (execMpReady u) :=
  .ite (.next h) (.next (.cond (.startPortB (.enterReady (.serveWaiting (.mpIsReady (.cond (.latchAndEnter (.cond h fun h =>
    .predict (.healAll h))) .legacyRecover))))) .reportAtLinkUp))

theorem Guarded.resetCore (h : Guarded paced s u) : Guarded paced s u.resetCore := .setClk h fun _ => rfl

theorem Answered.nresetLow (h : Guarded paced s u) : Answered paced s (execNresetLow u) :=
  .ite (.next h) (.next (.ite (.repaint (.keepCeils (.cond (.resetCore (.finishFlash h)) .raise))) (.changeState_off (.keepCeils
    (.cond (.resetCore (.finishFlash h)) .raise)))))

theorem Guarded.clearHeld (h : Guarded paced s u) : Guarded paced s u.clearHeld :=
  .checkInh (.forEach (.unlatched h rfl rfl rfl) fun h => .setCut (.setCut h))

/-! ### Idle -/

theorem Guarded.idle (h : Guarded False s u) : Guarded False s u.idle :=
  .serveWaiting (.toDeskew (.toDeskew (.elapse (.setClk h False.elim))))

/-! ### Every command -/

/-- Every command is answered, and keeps the queue and what the off latch holds: each as its meaning is built. -/
theorem Answered.normalAgreement (h : Guarded paced s u) : Answered paced s (execNormalAgreement u) := by
  unfold execNormalAgreement
  split
  case isTrue agreed =>
    simp only [State.degraded, Bool.and_eq_true, decide_eq_true_eq] at agreed
    exact .next (.changeState h fun start set => by
      have off := h.latch start set
      rw [agreed.1] at off
      cases off)
  case isFalse => exact .next h

theorem Answered.lossOfVlog (h : Guarded False s u) : Answered False s (execLossOfVlog u) := by
  refine .next (.cond ?_ .drawn)
  exact ⟨h.queue, fun _ off => (nomatch off), False.elim⟩

theorem exec_answered (c : Instr) (h : Guarded False s u) : Answered False s (exec c u) := by
  cases c with
  | vlogValid => exact .next (.ite h (.set h))
  | lossOfVlog => exact .lossOfVlog h
  | safePllLocked => exact .ite (.next h) (.next (.forEach (.setClk (.set h) False.elim) .setCut))
  | fuseReadDone => exact .ite (.next (.set (.cond (.set h) .raise))) (.ite (.next (.cond (.set h) .raise)) (.next h))
  | headersChecked => exact .ite (.next h) (.next (.tryNext (.set (.cond (.cond h .reject) .reject))))
  | flashReadFail => exact .flashReadFail h
  | slotChecksDone => exact .slotChecksDone h
  | mpReady => exact .mpReady h
  | bringupTimeout => exact .ite (.next h) (.next (.ite (.restartMp (.raise (.set h))) (.set (.raise (.set h)))))
  | rollback => exact .ite (.next h) (.next (.raise (.set h)))
  | nresetLow => exact .nresetLow h
  | nresetHigh => exact .ite (.next h) (.next (.set (.clearHeld (.set h))))
  | stuckReset => exact .ite (.next h) (.next (.raise (.setFlag (.set h))))
  | startLogWrite => exact .ite (.next h) (.next (.set (.mpWrite h)))
  | receiverDetectionDone => exact .receiverDetectionDone h
  | squelchOpen => exact .ite (.next (.toSweep (.modPort h))) (.ite (.next (.modPort (.modPort h))) (.next (.modPort h)))
  | squelchClose => exact .squelchClose h
  | sweepDwellEnd => exact .ite (.ite (.next (.set h)) (.ite (.next (.set h)) (.next (.set h)))) (.next h)
  | bitLock => exact .ite (.next h) (.ite (.next h) (.ite (.next (.modPort (.modPort h))) (.next (.modPort h))))
  | commaAligned => exact .commaAligned h
  | blockLock => exact .ite (.ite (.next (.toDeskew (.modPort (.modPort h)))) (.next (.modPort h))) (.next h)
  | laneFault => exact .laneFault h
  | trainingTimeout => exact .next (.ite (.modPort h) h)
  | backoffElapsed => exact .next (.ite (.modPort h) h)
  | tsA => exact .tsA h
  | farEndLoopbackEnd => exact .next (.ite (.loopEvent (.set h)) h)
  | tsB => exact .tsB h
  | tsEnd => exact .tsEnd h
  | repair => exact .next (.ite (.set h) h)
  | repairTimeout => exact .next (.ite (.linkDown h) h)
  | idleEnter => exact .ite (.next (.ite (.set (.sendPhase (.set h))) (.set h))) (.next h)
  | wake => exact .ite (.next (.ite (.set (.set h)) (.set h))) (.next h)
  | wakeEnd => exact .ite (.next (.ite (.linkDown (.set h)) (.ite (.set h) (.startRepair (.set h))))) (.next h)
  | backLaneIdleEntry => exact .next (.ite (.set (.sendPhase h)) h)
  | backLaneWake => exact .next (.ite (.set h) h)
  | backLaneDetect => exact .ite (.next (.ite (.linkDown (.set h)) (.set h))) (.next h)
  | linkSelftest => exact .next (.service h .takeSelftest)
  | selftestEnd => exact .ite (.next (.loopEvent (.set h))) (.next h)
  | capOffer => exact .capOffer h
  | capConfirm => exact .ite (.next (.reportAtLinkUp (.linkUpNow (.set h)))) (.next h)
  | capAnswer => exact .capAnswer h
  | packetLinkFail => exact .packetLinkFail h
  | packetDiscard => exact .packetDiscard h
  | ack => exact .ack h
  | nak => exact .nak h
  | credit => exact .credit h
  | ackTimer => exact .ackTimer h
  | creditReturnTimer => exact .creditReturnTimer h
  | replayTimer => exact .replayTimer h
  | tqTransmit => exact .tqTransmit h
  | tqStarvation => exact .next (.ite (.set h) h)
  | forwardPortB => exact .forwardPortB h
  | portBUpstream => exact .portBUpstream h
  | write => exact .next (.receive h .takeWrite)
  | surfaceComplete => exact .next (.receive (.elapse h) .takeComplete)
  | descriptor => exact .next (.receive h .takeDescriptor)
  | commit => exact .next (.receive (.elapse h) .takeCommit)
  | pour => exact .next (.receive (.elapse h) .takePour)
  | awaitExpired => exact .ite (.next (.raise (.set h))) (.next h)
  | zonePlain => exact .next (.receive h .takePlain)
  | zoneCompl => exact .next (.receive h .takeCompl)
  | candidateExpiry => exact .next (.dropCand h)
  | sync => exact .next (.receive (.elapse h) .takeSync)
  | followUp => exact .next (.receive (.elapse h) .takeFollowUp)
  | delayResp => exact .next (.receive (.elapse h) .takeDelayResp)
  | syncPairTimeout => exact .syncPairTimeout h
  | tb0Holdover => exact .next (.tbHold h)
  | statusRead => exact .next (.receive h .takeStatusRead)
  | modeSelect => exact .next (.receive (.elapse h) .takeModeSelect)
  | profileSelect => exact .next (.receive (.elapse h) .takeProfileSelect)
  | masterDimmer => exact .next (.receive (.elapse h) .takeMasterDimmer)
  | addrSet => exact .next (.receive h .takeAddrSet)
  | safetyRecover => exact .next (.receive h .takeRecover)
  | echo => exact .next (.receive h .takeEcho)
  | unknownOpcode => exact .unknownOpcode h
  | unlockReq => exact .next (.service h .takeUnlockReq)
  | unlockResp => exact .next (.service h .takeUnlockResp)
  | sessionEnd => exact .next (.service h .takeSessionEnd)
  | imageErase => exact .next (.service h .takeImageErase)
  | imageWrite => exact .next (.service h .takeImageWrite)
  | imageCheck => exact .next (.service h .takeImageCheck)
  | imageRead => exact .next (.service h .takeImageRead)
  | recordRead => exact .next (.service h .takeRecordRead)
  | perturbSet => exact .next (.service h .takePerturbSet)
  | perturbClear => exact .next (.service h .takePerturbClear)
  | perturbStatus => exact .next (.service h .takePerturbStatus)
  | perturbOff => exact .next (.clearEnded (.cond h .testEnLow))
  | uartGapTimeout => exact .next (.set h)
  | challengeTimeout => exact .next (.ite (.raise (.set h)) h)
  | sessionIdleTimeout => exact .next (.serveWaiting (.endSession h))
  | lockoutEnd => exact .next (.ite (.set h) h)
  | tsevtCapture => exact .tsevtCapture h
  | lampsyncEdge => exact .lampsyncEdge h
  | lampsyncLoss => exact .ite (.next (.raise (.regrid (.set h)))) (.next h)
  | latchPoint => exact .next (.ite (.latchNow (.timeTiles (.elapse h))) h)
  | cutoff => exact .cutoff h
  | handoverAlign => exact .next (.ite (.sendTiming h) h)
  | scanStepRelease => exact .scanStepRelease h
  | scanoutStarved => exact .next (.ite (.starve h) h)
  | rowSegment => exact .rowSegment h
  | readback => exact .readback h
  | readbackTimeout => exact .readbackTimeout h
  | reread => exact .ite (.next h) (.next (.forEach (.ite (.set h) (.forEach (.set h) .resend)) .sendCtl))
  | readbackPacket => exact .ite (.next h) (.next (.set (.setContext (.set h))))
  | crcGenCheck => exact .crcGenCheck h
  | tilePeriodBoundary => exact .ite (.next (.modTile h)) (.next h)
  | curSet => exact .next (.onCtl h)
  | pwmSet => exact .next (.onCtl h)
  | align => exact .next (.onCtl h)
  | meas => exact .next (.onWord h)
  | tampAllow => exact .next (.onWord h)
  | switchGap => exact .next (.onCtl h)
  | result => exact .next (.ite (.takeResult (.onWord h)) (.onWord h))
  | parityScan => exact .next (.ite (.forEach (.onWord h) .measured) (.onWord h))
  | thresh => exact .next (.onCtl h)
  | measPeriodEnd => exact .measPeriodEnd h
  | gapPulseEnd => exact .ite (.next h) (.next (.sendResult (.nextGap (.cond (.modTile h) .switchFault))))
  | diagRowSlot => exact .ite (.next h) (.next (.forEach (.sendCtl h) fun h => .cond h .sendCtl))
  | gapTestDue => exact .ite (.next h) (.ite (.next (.set h)) (.next (.sendCtl h)))
  | sweepOverdue => exact .ite (.next h) (.next (.raise (.modTile h)))
  | diagMapReport => exact .diagMapReport h
  | diagCtrlWrite => exact .diagCtrlWrite h
  | drvTileWrite => exact .drvTileWrite h
  | offReq => exact .offReq h
  | wakeReq => exact .wakeReq h
  | quadOff => exact .ite (.next (.raise (.dropQuad h))) (.next h)
  | quadReady => exact .ite (.next (.paintQuad (.forEach (.modQuad h) .modTile))) (.next h)
  | wakeCatchup => exact .ite (.next h) (.next (.raise (.modQuad (.foldl h fun h => .ite h (.released h)))))
  | drvStripeWrite => exact .drvStripeWrite h
  | powerDomainRequest => exact .powerDomainRequest h
  | powerForceRelease => exact .ite (.next (.ite (.modQuad (.set h)) (.darkDone (.set h)))) (.next h)
  | fillRect => exact .next (.busCommand h fun h => .ite h (.modTile h))
  | setCeil => exact .next (.busCommand h .modTile)
  | setOverride => exact .next (.busCommand h .modTile)
  | setSource => exact .next (.busCommand h fun h => .ite h (.raise (.modTile h)))
  | quadStatus => exact .next (.busCommand h id)
  | fillSweepDone => exact .fillSweepDone h
  | commandAnswer => exact .commandAnswer h
  | commandTimeout => exact .commandTimeout h
  | moduleLimitUpdate => exact .next (.cond (.forEach (.set h) fun h => .cond h .sendCmd) .raise)
  | overcurrent => exact .ite (.next (.raise (.raise (.set h)))) (.next h)
  | vledLow => exact .vledLow h
  | vledPresent => exact .next (.cond (.set h) .paintAnew)
  | arbiterDecision => exact .next (.serveWaiting (.ite (.arbitrate (.arrive h)) (.arrive h)))
  | slotShadowWrite => exact .slotShadowWrite h
  | swap => exact .swap h
  | freeze => exact .freeze h
  | arbWatchdog => exact .arbWatchdog h
  | lockBroken => exact .lockBroken h
  | bankInitDone => exact .bankInitDone h
  | scrubOverdue => exact .next (.ite h (.raise (.modBank h)))
  | lbreq => exact .ite (.next h) (.next (.judge (.raise (.set h))))
  | limiterTick => exact .ite (.next h) (.next (.tickCuts (.compareTick (.runLimiter (.setClk h False.elim)))))
  | setMismatch => exact .next (.ite (.foundDiff h) h)
  | requestWord => exact .ite (.next h) (.next (.set (.judge (.cond (.set h) .setCause))))
  | normalAgreement => exact .normalAgreement h
  | degTimeout => exact .next (.ite (.setCause (.raise h)) h)
  | channelDisagree => exact .ite (.next h) (.next (.setCause (.raise (.setFlag (.set h)))))
  | voteMismatch => exact .ite (.next h) (.next (.raise (.set h)))
  | stallBlank => exact .stallBlank h
  | stallRequestExpiry => exact .next (.ite (.setCause h) h)
  | linkHoldExpiry => exact .ite (.next (.setCause (.setCause (.set h)))) (.next h)
  | safetyCrcCheck => exact .ite (.next (.cond (.setCause (.set h)) .repaint)) (.next h)
  | clockFault => exact .ite (.next h) (.next (.setCause (.raise (.set h))))
  | oscillatorCheck => exact .ite (.next (.setCause (.raise (.set h)))) (.next h)
  | mpWatchdogService => exact .ite (.next (.elapse h)) (.ite (.next (.set (.elapse h))) (.next (.mpBite (.elapse h))))
  | mpWatchdog => exact .next (.ite (.mpBite h) h)
  | mpRestartReady => exact .mpRestartReady h
  | spWatchdogService => exact .ite (.next h) (.ite (.next (.set h)) (.next (.spBite h)))
  | spWatchdog => exact .next (.ite (.spBite h) h)
  | spRestarted => exact .ite (.next h) (.next (.serveWaiting (.raise (.set h))))
  | rindHeartbeat => exact .ite (.next h) (.ite (.next (.setCause (.raise (.set (.set h))))) (.next (.set h)))
  | mpBadAccess => exact .next (.ite (.badAccess h) h)
  | tileSensorSample => exact .ite (.next h) (.next (.setTemp (.updateBand (.trustStep (.set (.set h))))))
  | quadSensorSample => exact .quadSensorSample h
  | dieSensorSample => exact .next (.set h)
  | ntcSample => exact .next (.cond (.set (.set h)) .raise)
  | mpPolicyTick => exact .mpPolicyTick h
  | shutdownRetry => exact .ite (.next (.raise (.modHeat h))) (.next h)
  | hardCut => exact .ite (.next h) (.next (.forEach (.legStatus (.raise (.set h))) .cutTile))
  | hardCutRelease => exact .ite (.next h) (.next (.forEach (.raise (.set h)) .setCut))
  | heatRecordWrite => exact .ite (.next h) (.next (.reservedWrite h))
  | affWWrite => exact .ite (.next h) (.next (.set h))
  | fillCharge => exact .ite (.next h) (.next (.forEach h fun h => .forEach h .chargeBlock))
  | affinageSave => exact .next (.ite (.affSave h) h)
  | saveDeferred => exact .next (.ite (.affSave h) h)
  | reserve => exact .next (.ite (.doReserve h) h)
  | flashCommand => exact .flashCommand h
  | flashCommandDone => exact .flashCommandDone h
  | faultMapSave => exact .ite (.next h) (.next (.set (.saveCopy h)))
  | telemetryHistory => exact (Answered.telemetryHistory h :)
  | eventPacket => exact .ite (.next h) (.next (.set h))
  | eventRateWindow => exact .eventRateWindow h
  | registerWrite => exact .next (.ite (.bridgeWrite h) h)
  | hs => exact .hs h
  | regWrite => exact .next (.frameIn (.elapse h))
  | regRead => exact .next (.frameIn h)
  | lines => exact .next (.frameIn (.elapse h))
  | showRows => exact .next (.frameIn (.elapse h))
  | legacyEcho => exact .next (.frameIn h)
  | frameNak => exact .next (.ite (.nakFrame h) h)
  | frameRejected => exact .next (.frameIn h)
  | softReset => exact .next (.frameIn (.elapse h))
  | faultIdxWrite => exact .next (.frameIn h)
  | faultEntryRead => exact .next (.frameIn h)
  | legacyStatusRead => exact .next (.frameIn h)
  | linkErrCntRead => exact .next (.frameIn h)
  | lowByteRead => exact .next (.frameIn h)
  | crystalPllLocked => exact .ite (.next h) (.next (.cond (.set (.setClk h False.elim)) .raise))
  | testEnHigh => exact .ite (.next h) (.next (.cond (.set h) fun h => .loopEvent (.startLoopback h)))
  | testAccessPort => exact .ite (.next h) (.next (.cond (.set h) .drawn))
  | safetyOscillatorStop => exact .next (.set h)

end

/-- Settles O54: every meaning is built of steps that end in a next state and leave the queue. -/
theorem everyCommandIsAnswered : Obligations.EveryCommandIsAnswered := by
  intro c s
  obtain ⟨t, run, kept⟩ := exec_answered c (.refl s)
  exact ⟨t, run, kept.queue⟩

/-- Settles O55: the front command guards the latch, and so does an idle step. -/
theorem theOffLatchHoldsThroughEveryStep : Obligations.TheOffLatchHoldsThroughEveryStep := by
  intro s t holds run
  unfold step at run
  split at run
  case h_1 =>
    cases run
    exact (Guarded.idle (.refl s)).latch holds
  case h_2 c rest _ =>
    obtain ⟨u, same, kept⟩ := exec_answered c (.refl { s with pending := rest })
    cases same.symm.trans run
    exact kept.latch holds

end Sys2Proof.Machine
end

section
/-!
PROOFS. The Rind clamp (11 R300) is a chain of minima: each limit that meets the pixel lowers the code, none raises it (O60).
-/
namespace Sys2Proof.Machine

/-- The limits of the zones that cover a pixel, applied in turn (R300). -/
def underZones (zones : List (Nat × ZoneC)) (x y v : Nat) : Nat :=
  zones.foldl (fun v z => if z.2.covers x y then min v z.2.lim else v) v

section
variable {zones : List (Nat × ZoneC)} {x y v w : Nat}

theorem underZones_cons (z : Nat × ZoneC) :
    underZones (z :: zones) x y v = underZones zones x y (if z.2.covers x y then min v z.2.lim else v) := rfl

theorem underZones_le : underZones zones x y v ≤ v := by
  induction zones generalizing v with
  | nil => exact Nat.le_refl v
  | cons z zones ih =>
    rw [underZones_cons]
    refine ih.trans ?_
    split
    · exact Nat.min_le_left ..
    · exact Nat.le_refl v

theorem underZones_le_lim {z : Nat × ZoneC} (mem : z ∈ zones) (covers : z.2.covers x y = true) :
    underZones zones x y v ≤ z.2.lim := by
  induction zones generalizing v with
  | nil => exact absurd mem List.not_mem_nil
  | cons first rest ih =>
    rcases List.mem_cons.mp mem with rfl | later
    · rw [underZones_cons, if_pos covers]
      exact underZones_le.trans (Nat.min_le_right ..)
    · exact ih later

/-- A code that no covering zone limits passes. -/
theorem underZones_eq (free : ∀ z ∈ zones, z.2.covers x y = true → v ≤ z.2.lim) : underZones zones x y v = v := by
  induction zones with
  | nil => rfl
  | cons z zones ih =>
    have passes : (if z.2.covers x y then min v z.2.lim else v) = v := by
      split
      case isTrue covers => exact Nat.min_eq_left (free z List.mem_cons_self covers)
      case isFalse => rfl
    rw [underZones_cons, passes]
    exact ih fun u mem => free u (List.mem_cons_of_mem z mem)

theorem underZones_mono (le : v ≤ w) : underZones zones x y v ≤ underZones zones x y w := by
  induction zones generalizing v w with
  | nil => exact le
  | cons z zones ih =>
    rw [underZones_cons, underZones_cons]
    refine ih ?_
    split
    · omega
    · exact le

end

/-- The code above the cutoff (R300). -/
def underCutoff (k : ClampSet) (c x y : Nat) : Nat := if y < k.row (x / 64) then min c k.above else c

theorem rindClamp_eq (k : ClampSet) (c x y : Nat) :
    rindClamp k c x y = min (underZones k.zones x y (underCutoff k c x y)) k.cap := rfl

/-- Settles O60: the clamp is the cutoff, the zones and CAP in turn. -/
theorem theRindClampOnlyLowers : Obligations.TheRindClampOnlyLowers := by
  intro k c x y
  have zones : rindClamp k c x y ≤ underZones k.zones x y (underCutoff k c x y) := Nat.min_le_left ..
  have cutoff : rindClamp k c x y ≤ underCutoff k c x y := zones.trans underZones_le
  refine ⟨cutoff.trans ?_, Nat.min_le_right .., fun above => cutoff.trans ?_, fun z mem covers => zones.trans (underZones_le_lim mem covers),
    fun cap above free => ?_, fun d le => ?_⟩
  · unfold underCutoff
    split <;> omega
  · rw [underCutoff, if_pos above]
    exact Nat.min_le_right ..
  · have passes : underCutoff k c x y = c := by
      unfold underCutoff
      split
      case isTrue inside => exact Nat.min_eq_left (above inside)
      case isFalse => rfl
    rw [rindClamp_eq, passes, underZones_eq free]
    exact Nat.min_eq_left cap
  · have below : underCutoff k c x y ≤ underCutoff k d x y := by
      unfold underCutoff
      split <;> omega
    have zonesBelow := underZones_mono (zones := k.zones) (x := x) (y := y) below
    rw [rindClamp_eq, rindClamp_eq]
    omega

end Sys2Proof.Machine
end

section
/-!
PROOFS. The flags of an event block through painting, and the vote (11 R314 to R317, Table 11.5; O41).
-/
namespace Sys2Proof.Machine

/-! ### The flags (Table 15.4): an event that is raised leaves them, and so does what paints, cuts and judges -/

@[simp] theorem State.flags_raise (s : State) (code : Nat) (d : List (Nat × Nat)) : (s.raise code d).ev.flags = s.ev.flags := by
  unfold State.raise
  dsimp only
  split <;> rfl

@[simp] theorem State.flags_modQuad (s : State) (q : Nat) (f : Quad → Quad) : (s.modQuad q f).ev.flags = s.ev.flags := rfl

theorem State.flags_cond (s : State) (c : Bool) {f : State → State} (h : ∀ u, (f u).ev.flags = u.ev.flags) :
    (s.cond c f).ev.flags = s.ev.flags := by
  cases c
  · rfl
  · exact h s

theorem State.flags_forEach (s : State) (xs : List Nat) {f : State → Nat → State} (h : ∀ u x, (f u x).ev.flags = u.ev.flags) :
    (s.forEach xs f).ev.flags = s.ev.flags :=
  State.forEach_leaves (g := (·.ev.flags)) h s xs

theorem State.flags_sendFill (s : State) (q x0 x1 y0 y1 code : Nat) (stall : Bool) :
    (s.sendFill q x0 x1 y0 y1 code stall).ev.flags = s.ev.flags :=
  State.flags_forEach _ _ fun u t => by dsimp only; split <;> rfl

theorem State.flags_paintQuad (s : State) (q : Nat) : (s.paintQuad q).ev.flags = s.ev.flags := by
  unfold State.paintQuad
  split
  · rfl
  · cases s.safety.paint with
    | none => rfl
    | dark => rfl
    | beam =>
      exact State.flags_forEach _ _ fun _ _ =>
        (State.flags_cond _ _ fun _ => State.flags_sendFill ..).trans (State.flags_cond _ _ fun _ => State.flags_sendFill ..)

theorem State.flags_forceOn (s : State) (q : Nat) : (s.forceOn q).ev.flags = s.ev.flags := by
  have withdrawn (u : State) : (u.withdrawOff q).ev.flags = u.ev.flags :=
    State.flags_cond _ _ fun _ => State.flags_cond _ _ fun _ => State.flags_raise ..
  have woken (u : State) : (u.wake q).ev.flags = u.ev.flags := by
    unfold State.wake
    split
    · rfl
    · exact State.flags_raise ..
  exact (woken _).trans (withdrawn _)

@[simp] theorem State.flags_setCut (s : State) (t row : Nat) (on : Bool) : (s.setCut t row on).ev.flags = s.ev.flags := by
  unfold State.setCut
  dsimp only
  split
  · rfl
  · exact (State.flags_cond _ _ fun _ => State.flags_raise ..).trans (State.flags_cond _ _ fun _ => State.flags_raise ..)

theorem State.flags_startPaint (s : State) (beam : Bool) : (s.startPaint beam).ev.flags = s.ev.flags := by
  unfold State.startPaint
  rw [State.flags_forEach, State.flags_forEach, State.flags_forEach]
  · exact fun _ _ => State.flags_setCut ..
  · exact fun _ _ => State.flags_cond _ _ fun _ => State.flags_forceOn ..
  · exact State.flags_paintQuad

@[simp] theorem State.flags_changeState (s : State) (n : SafeState) : (s.changeState n).ev.flags = s.ev.flags := by
  unfold State.changeState
  split
  · rfl
  dsimp only
  split
  · exact (State.flags_startPaint ..).trans (State.flags_raise ..)
  · exact (State.flags_forEach _ _ fun _ _ => State.flags_setCut ..).trans (State.flags_raise ..)

@[simp] theorem State.flags_judge (s : State) : s.judge.ev.flags = s.ev.flags := by
  let latched : State := { s with safety := { s.safety with offLatch := s.latchNext } }
  have judged : s.judge = (latched.changeState s.stateNext).endCauses := rfl
  rw [judged]
  unfold State.endCauses
  split
  · exact latched.flags_changeState _
  · exact latched.flags_changeState _

@[simp] theorem State.flags_setCause (s : State) (rind : Bool) (row : Nat) (on : Bool) :
    (s.setCause rind row on).ev.flags = s.ev.flags := by
  unfold State.setCause
  rw [State.flags_judge, State.flags_cond _ _ fun _ => State.flags_raise ..]
  cases rind <;> rfl

/-! ### The judgement -/

/-- What a judgement never writes. -/
theorem State.keeps_of_besideJudge {s t : State} (h : t.besideJudge = s.besideJudge) :
    t.store = s.store ∧ t.link = s.link ∧ t.sp = s.sp ∧ t.safety.lbreq = s.safety.lbreq ∧ t.safety.spSent = s.safety.spSent ∧
      t.safety.rindSent = s.safety.rindSent ∧ t.safety.spMiss = s.safety.spMiss ∧ t.safety.rindMiss = s.safety.rindMiss :=
  ⟨(congrArg State.store h :), (congrArg State.link h :), (congrArg State.sp h :), (congrArg (·.safety.lbreq) h :),
    (congrArg (·.safety.spSent) h :), (congrArg (·.safety.rindSent) h :), (congrArg (·.safety.spMiss) h :),
    (congrArg (·.safety.rindMiss) h :)⟩

/-- With the latch clear, outside the off class, a vote below the off class sets no latch. -/
theorem State.latchNext_clear {s : State} (clear : s.safety.offLatch = false) (on : s.safety.state.off = false) (low : s.vote < 2) :
    s.latchNext = false := by
  simp [State.latchNext, clear, on, Nat.not_le.mpr low]

/-- A vote of NORMAL outside the off class changes nothing (Table 11.5). -/
theorem State.judge_stays {s : State} (clear : s.safety.offLatch = false) (on : s.safety.state.off = false) (vote : s.vote = 0) :
    s.judge = s := by
  have latch : s.latchNext = false := State.latchNext_clear clear on (by omega)
  have next : s.stateNext = s.safety.state := by simp [State.stateNext, latch, on, vote]
  have same : ({ s with safety := { s.safety with offLatch := s.latchNext } } : State) = s := by rw [latch, ← clear]
  have judged : s.judge =
      (({ s with safety := { s.safety with offLatch := s.latchNext } } : State).changeState s.stateNext).endCauses := rfl
  have entered : s.changeState s.safety.state = s := if_pos rfl
  rw [judged, same, next, entered]
  exact if_neg (by simp [on])

theorem State.judge_degrades {s : State} (clear : s.safety.offLatch = false) (on : s.safety.state.off = false) (vote : s.vote = 1) :
    s.judge.safety.state = .degraded ∧ s.judge.safety.offLatch = false := by
  obtain ⟨state, latch, -⟩ := s.judge_cases
  have clears : s.latchNext = false := State.latchNext_clear clear on (by omega)
  exact ⟨by rw [state]; simp [State.stateNext, clears, on, vote], latch.trans clears⟩

/-- A vote of the off class leads there, and sets the latch once NORMAL has been reached (R314). -/
theorem State.judge_off {s : State} (vote : 2 ≤ s.vote) :
    s.judge.safety.state = s.offState ∧ s.judge.safety.offLatch = (s.safety.offLatch || s.safety.firstNormal) := by
  obtain ⟨state, latch, -⟩ := s.judge_cases
  exact ⟨state.trans (State.stateNext_off (.inl vote)), by rw [latch]; simp [State.latchNext, vote]⟩

theorem State.judge_latched {s : State} (latched : s.safety.offLatch = true) :
    s.judge.safety.state = s.offState ∧ s.judge.safety.offLatch = true := by
  obtain ⟨state, latch, -⟩ := s.judge_cases
  have stays : s.latchNext = true := by simp [State.latchNext, latched]
  exact ⟨by rw [state]; simp [State.stateNext, stays], latch.trans stays⟩

theorem State.judge_stays_off {s : State} (off : s.safety.state.off = true) : s.judge.safety.state.off = true := by
  rw [s.judge_cases.1, State.stateNext_off (.inr off)]
  exact s.offState_off

/-! ### Causes -/

/-- A cause of the Rind's that is set stands after the judgement, unless the off class ends it (Table 11.6). -/
theorem State.rindCauses_setCause (s : State) {row : Nat} (inMask : row < 19) (notTime : row ≠ cDegTime) (notCap : row ≠ cCapStall)
    (on : Bool) : (s.setCause true row on).safety.rindCauses.getLsbD row = on := by
  obtain ⟨v, judged, -, -, -, causes, -⟩ := s.setCause_cases true row on
  rw [judged, v.rindCauses_judge notTime notCap, causes, if_pos rfl]
  exact getLsbD_setBit_same _ inMask on

theorem State.vote_of_offCause {s : State} {row : Nat} (off : row ∈ offCauses) (set : s.safety.rindCauses.getLsbD row = true) :
    2 ≤ s.vote := by
  rw [← State.rindOwn_of_offCause off set]
  exact s.rindOwn_le_vote

/-- A cause of the off class at the Rind: where its judgement leads (R314). -/
theorem State.setCause_offState (s : State) {row : Nat} (off : row ∈ offCauses) :
    (s.setCause true row true).safety.state = s.offState ∧
      (s.setCause true row true).safety.offLatch = (s.safety.offLatch || s.safety.firstNormal) := by
  obtain ⟨v, judged, rest, -, latch, causes, -⟩ := s.setCause_cases true row true
  obtain ⟨-, -, -, normal, lbreq, -⟩ := State.keeps_of_besideCauses rest
  have inMask : row < 19 := (by decide : ∀ i ∈ offCauses, i < 19) row off
  have vote : 2 ≤ v.vote := State.vote_of_offCause off (by rw [causes, if_pos rfl]; exact getLsbD_setBit_same _ inMask _)
  obtain ⟨state, latched⟩ := State.judge_off vote
  rw [judged, state, latched, latch, normal]
  exact ⟨by unfold State.offState; rw [lbreq], rfl⟩

/-! ### The exchange of a millisecond (R315) -/

/-- The end of an exchange: the SP counts its word, and a difference that is over is no longer told. -/
def State.exchanged (u : State) : State :=
  { u with
    sp := { u.sp with wordDone := u.sp.running }
    safety := { u.safety with voteBad := u.safety.voteBad && u.spVote ≠ stateNum u.safety.state } }

theorem exec_requestWord {s : State} (runs : s.rindRuns = true) (crystal : s.clk.crystal = true) (running : s.sp.running = true)
    (quiet : s.safety.rindCauses.getLsbD cSpWatchdog = false) :
    exec (.requestWord true true) s = .next (s.exchange true true).judge.exchanged := by
  have noBite : (s.exchange true true).safety.rindCauses.getLsbD cSpWatchdog = false := quiet
  have run : exec (.requestWord true true) s = execRequestWord true true s := rfl
  rw [run, execRequestWord, if_neg (by simp [runs, crystal])]
  simp only [running, Bool.and_self, if_true, noBite, ne_eq, not_true, decide_false]
  rfl

theorem exec_requestWord_missing {s : State} (runs : s.rindRuns = true) (crystal : s.clk.crystal = true)
    (missed : 2 ≤ s.safety.spMiss) :
    exec (.requestWord false true) s = .next ((s.exchange false true).cond
      (!s.safety.rindCauses.getLsbD cSpWatchdog) fun v => v.setCause true cSpWatchdog true).judge.exchanged := by
  have third : decide (3 ≤ (s.exchange false true).safety.spMiss) = true := by
    simp [State.exchange]
    omega
  have run : exec (.requestWord false true) s = execRequestWord false true s := rfl
  rw [run, execRequestWord, if_neg (by simp [runs, crystal])]
  simp only [Bool.false_and, Bool.false_eq_true, if_false, third, Bool.or_true]
  have bit : (s.exchange false true).safety.rindCauses = s.safety.rindCauses := rfl
  rw [bit]
  cases s.safety.rindCauses.getLsbD cSpWatchdog <;> rfl

/-- The third word of the SP that is missing is a cause of the off class, whether or not it stood before. -/
theorem State.missed_cases (s : State) :
    let t := (s.cond (!s.safety.rindCauses.getLsbD cSpWatchdog) fun v => v.setCause true cSpWatchdog true).judge
    t.safety.spMiss = s.safety.spMiss ∧ t.safety.rindCauses.getLsbD cSpWatchdog = true ∧ t.safety.state.off = true := by
  have judged (u : State) (set : u.safety.rindCauses.getLsbD cSpWatchdog = true) (miss : u.safety.spMiss = s.safety.spMiss) :
      u.judge.safety.spMiss = s.safety.spMiss ∧ u.judge.safety.rindCauses.getLsbD cSpWatchdog = true ∧
        u.judge.safety.state.off = true := by
    obtain ⟨-, -, rest, -⟩ := u.judge_cases
    obtain ⟨-, -, -, -, -, -, missed, -⟩ := State.keeps_of_besideJudge rest
    refine ⟨missed.trans miss, (u.rindCauses_judge (by decide) (by decide)).trans set, ?_⟩
    rw [(State.judge_off (State.vote_of_offCause (by decide) set)).1]
    exact u.offState_off
  cases bit : s.safety.rindCauses.getLsbD cSpWatchdog with
  | true => exact judged s bit rfl
  | false =>
    refine judged _ (s.rindCauses_setCause (by decide) (by decide) (by decide) true) ?_
    exact (congrArg (·.safety.spMiss) (s.besideCauses_setCause true cSpWatchdog true) :)

/-! ### The end of DEGRADED (R316) -/

/-- All that a change to NORMAL can write: the state, the grid's change, the limiter and the cuts. -/
theorem State.changeState_normal {s : State} (degraded : s.safety.state = .degraded) :
    let t := s.changeState .normal
    t.safety.state = .normal ∧ t.safety.degMs = 0 ∧ t.grid.change = true ∧
      t = { s with safety := t.safety, grid := t.grid, zones := t.zones, ev := t.ev } := by
  have run : s.changeState .normal = (s.entered .normal).forEach (List.range 64) fun w i => w.setCut i kDark false :=
    if_neg (by rw [degraded]; exact SafeState.noConfusion)
  have rest : (s.changeState .normal).besideCuts = (s.entered .normal).besideCuts := by
    rw [run]
    exact State.forEach_leaves (g := State.besideCuts) (fun u i => (u.setCut_cases i kDark false).2) _ _
  have cuts := State.eq_of_besideCuts rest
  refine ⟨(congrArg (·.safety.state) rest :), (congrArg (·.safety.degMs) rest :), (congrArg (·.grid.change) rest :), ?_⟩
  have grid : (s.changeState .normal).grid = (s.entered .normal).grid := (congrArg State.grid rest :)
  have zones : (s.changeState .normal).zones = (s.entered .normal).zones := (congrArg State.zones rest :)
  rw [grid, zones]
  conv_lhs => rw [cuts]
  conv_rhs => rw [cuts]
  rfl

/-- Settles O41: each clause is a case of the judgement, or a command that judges. -/
theorem judgementFollowsTheVote : Obligations.JudgementFollowsTheVote := by
  refine ⟨fun s clear on vote => State.judge_stays clear on vote, fun s clear on vote => State.judge_degrades clear on vote,
    fun s vote => ?_, fun s latched => State.judge_latched latched, fun s off => State.judge_stays_off off,
    fun s runs crystal running quiet => ?_, fun s runs crystal missed => ?_, fun s degraded agreed => ?_, fun s degraded runs => ?_,
    fun s differ untold => ?_, fun s running untold => ?_⟩
  · obtain ⟨state, latch⟩ := State.judge_off (s := s) (by omega)
    obtain ⟨-, -, rest, -⟩ := s.judge_cases
    exact ⟨state, latch, (State.keeps_of_besideJudge rest).2.2.2.1⟩
  · obtain ⟨-, -, rest, -⟩ := (s.exchange true true).judge_cases
    obtain ⟨store, link, sp, -, spSent, rindSent, spMiss, rindMiss⟩ := State.keeps_of_besideJudge rest
    refine ⟨_, exec_requestWord runs crystal running quiet, spSent, rindSent, spMiss, rindMiss,
      (congrArg Sp.running sp).trans running, fun spNormal rindNormal clear normal => ?_, fun off => ?_, store, link⟩
    · have vote : (s.exchange true true).vote = 0 := by
        have own : (s.exchange true true).rindOwn = 0 := rindNormal
        have seen : (s.exchange true true).spSeen = 0 := spNormal
        simp [State.vote, State.rindFull, own, seen]
      have stays : (s.exchange true true).judge = s.exchange true true := by
        refine State.judge_stays clear ?_ vote
        change s.safety.state.off = false
        rw [normal]
        rfl
      rw [stays]
      exact normal
    · have vote : 2 ≤ (s.exchange true true).vote := by
        have seen : (s.exchange true true).spSeen = 2 := off
        simp [State.vote, State.rindFull, seen]
      have state : (s.exchange true true).judge.safety.state = _ := (State.judge_off vote).1
      change (s.exchange true true).judge.safety.state.off = true
      rw [state]
      exact State.offState_off _
  · obtain ⟨miss, cause, off⟩ := (s.exchange false true).missed_cases
    refine ⟨_, exec_requestWord_missing runs crystal missed, miss.trans ?_, cause, off⟩
    simp [State.exchange]
    omega
  · have run : exec .normalAgreement s = .next (s.changeState .normal) :=
      congrArg Host.Outcome.next (if_pos (by simp [State.degraded, degraded, agreed]))
    exact ⟨_, run, State.changeState_normal degraded⟩
  · have run : exec .degTimeout s = .next ((s.raise 0x080D []).setCause true cDegTime true) :=
      congrArg Host.Outcome.next (if_pos (by simp [State.degraded, degraded, runs]))
    obtain ⟨state, latch⟩ := (s.raise 0x080D []).setCause_offState (row := cDegTime) (by decide)
    obtain ⟨link, store, -⟩ := State.keeps_of_besideCauses ((s.raise 0x080D []).besideCauses_setCause true cDegTime true)
    exact ⟨_, run, state, latch, store, link⟩
  · let told : State := { s with safety := { s.safety with disagree := true } }
    have run : exec .channelDisagree s = .next (((told.setFlag fDisagree).raise 0x0803 []).setCause true cDisagree true) :=
      if_neg (by simp [differ, untold])
    have rest := State.besideCauses_setCause ((told.setFlag fDisagree).raise 0x0803 []) true cDisagree true
    refine ⟨_, run, (congrArg (·.safety.disagree) rest :), ?_, State.rindCauses_setCause _ (by decide) (by decide) (by decide) true,
      (State.setCause_off _ (by decide)).1⟩
    rw [State.flags_setCause, State.flags_raise]
    exact getLsbD_setBit_same _ (by decide) true
  · exact if_neg (by simp [running, untold])

end Sys2Proof.Machine
end

section
/-!
PROOFS. The zones through the judgement, and the limiter's tick, its compare and the stall deadline (11 R306 to R313, R325, R326; O43).
-/
namespace Sys2Proof.Machine

/-! ### What the judgement leaves of the zones -/

/-- The zones without the limiters and the sets they write. -/
def Zones.besideRun (z : Zones) : Zones := { z with lim := {}, spLim := {}, work := {}, pending := none }

theorem Zones.keeps_of_besideRun {y z : Zones} (h : y.besideRun = z.besideRun) :
    y.active = z.active ∧ y.diffRun = z.diffRun ∧ y.sameRun = z.sameRun ∧ y.stall = z.stall ∧ y.stalls = z.stalls :=
  ⟨(congrArg Zones.active h :), (congrArg Zones.diffRun h :), (congrArg Zones.sameRun h :), (congrArg Zones.stall h :),
    (congrArg Zones.stalls h :)⟩

theorem State.zones_changeState (s : State) (n : SafeState) : (s.changeState n).zones.besideRun = s.zones.besideRun := by
  by_cases same : s.safety.state = n
  · have stays : s.changeState n = s := if_pos same
    rw [stays]
  · exact (congrArg (·.zones.besideRun) (State.changeState_entered same) :)

theorem State.zones_judge (s : State) : s.judge.zones.besideRun = s.zones.besideRun := by
  let latched : State := { s with safety := { s.safety with offLatch := s.latchNext } }
  have judged : s.judge = (latched.changeState s.stateNext).endCauses := rfl
  rw [judged]
  unfold State.endCauses
  split
  · exact latched.zones_changeState _
  · exact latched.zones_changeState _

theorem State.zones_setCause (s : State) (rind : Bool) (row : Nat) (on : Bool) :
    (s.setCause rind row on).zones.besideRun = s.zones.besideRun := by
  unfold State.setCause
  rw [State.zones_judge, State.cond_read (·.zones.besideRun)]
  cases rind <;> exact ite_self _

/-- A cause of the SP's stands as it was set: the judgement writes none of its mask. -/
theorem State.spCauses_setCause (s : State) {row : Nat} (inMask : row < 19) (on : Bool) :
    (s.setCause false row on).safety.spCauses.getLsbD row = on := by
  obtain ⟨v, judged, -, -, -, -, causes⟩ := s.setCause_cases false row on
  obtain ⟨-, -, rest, -⟩ := v.judge_cases
  have kept : v.judge.safety.spCauses = v.safety.spCauses := (congrArg (·.safety.spCauses) rest :)
  rw [judged, kept, causes, if_neg Bool.false_ne_true]
  exact getLsbD_setBit_same _ inMask on

/-- The SP's causes of DEGRADED (Table 11.6). -/
def spDegCauses : List Nat := [cSuppress, cReadback, cCrcGen, cStale, cSetDiff, cMpBite]

theorem State.spOwn_of_degCause {s : State} {row : Nat} (deg : row ∈ spDegCauses) (set : s.safety.spCauses.getLsbD row = true) :
    1 ≤ s.spOwn := by
  have some : hasAny s.safety.spCauses spDegCauses = true := List.any_eq_true.mpr ⟨row, deg, set⟩
  unfold State.spOwn
  dsimp only
  split
  · decide
  · exact (if_pos some).ge

/-! ### The tick -/

/-- The first difference of the two sets is counted, and asks for nothing (R306). -/
theorem State.foundDiff_first {s : State} (first : s.zones.diffRun = 0) :
    ∃ ev, s.foundDiff = { s with zones := { s.zones with diffRun := 1, sameRun := 0 }, ev } := by
  have one : (if 10 ≤ s.zones.diffRun then 10 else if s.zones.sameRun = 0 && s.zones.diffRun ≠ 0 then s.zones.diffRun
      else if s.zones.sameRun ≤ 1 then s.zones.diffRun + 1 else 1) = 1 := by
    simp [first]
  unfold State.foundDiff
  simp only [one, show decide (2 ≤ 1) = false from rfl, State.cond_false]
  exact State.raiseRatedN_ev ..

/-- While no difference stands, a tick's compare counts, and may raise an event. -/
theorem State.compareTick_quiet {s : State} (quiet : s.zones.diffRun = 0) :
    ∃ diffRun sameRun ev, s.compareTick = { s with zones := { s.zones with diffRun, sameRun }, ev } := by
  unfold State.compareTick
  dsimp only
  split
  · obtain ⟨ev, found⟩ := State.foundDiff_first
      (s := { s with zones := { s.zones with sameRun := min 1001 (s.zones.sameRun + 1) } }) quiet
    exact ⟨1, 0, ev, found⟩
  · rw [if_neg (by simp [quiet])]
    exact ⟨s.zones.diffRun, min 1001 (s.zones.sameRun + 1), s.ev, rfl⟩

theorem setBit_true_ne_zero {w : Nat} (v : BitVec w) {i : Nat} (h : i < w) : setBit v i true ≠ 0 := fun zero => by
  have set := getLsbD_setBit_same v h true
  simp [zero] at set

/-- The reasons of a tile's cut after one of them changes to some that are not empty. -/
theorem State.cuts_setCut (s : State) (n row : Nat) {on : Bool} (left : setBit (s.safety.cuts.get 0 n) row on ≠ 0) :
    (s.setCut n row on).safety.cuts.get 0 n = setBit (s.safety.cuts.get 0 n) row on := by
  rw [(s.setCut_cases n row on).1]
  split
  next same => exact same.symm
  next => exact Sparse.get_modify_listed 0 s.safety.cuts (k := n) (f := fun old => setBit old row on) left

/-- A tile that R325 or R326 names is cut after its own round of a tick. -/
theorem State.cuts_named (s : State) (n : Nat) {stuck segment : Bool} (named : stuck = true ∨ segment = true) :
    ((s.setCut n kStuck stuck).setCut n kSegment segment).safety.cuts.get 0 n ≠ 0 := by
  rcases named with rfl | rfl
  · have set := s.cuts_setCut n kStuck (on := true) (setBit_true_ne_zero _ (by decide))
    have left : setBit ((s.setCut n kStuck true).safety.cuts.get 0 n) kSegment segment ≠ 0 := fun zero => by
      have bit := getLsbD_setBit_other ((s.setCut n kStuck true).safety.cuts.get 0 n) (i := kSegment) (row := kStuck) (by decide) segment
      rw [zero, set, getLsbD_setBit_same _ (by decide)] at bit
      exact absurd bit (by decide)
    rw [State.cuts_setCut _ _ _ left]
    exact left
  · have left := setBit_true_ne_zero ((s.setCut n kStuck stuck).safety.cuts.get 0 n) (i := kSegment) (by decide)
    rw [State.cuts_setCut _ _ _ left]
    exact left

/-- Which tiles R325 and R326 name follows from the active set, the safety state, the tiles and the faulted segments. -/
theorem State.named_congr {s t : State} (active : t.zones.active = s.zones.active) (safety : t.safety = s.safety)
    (tiles : t.tiles = s.tiles) (rb : t.rb = s.rb) (n : Nat) :
    t.stuckCut n = s.stuckCut n ∧ t.segmentCut n = s.segmentCut n := by
  have zones : t.cutZones = s.cutZones := by unfold State.cutZones; rw [active, safety]
  have code : t.stuckCode n = s.stuckCode n := by unfold State.stuckCode State.tile; rw [tiles]
  unfold State.stuckCut State.segmentCut
  rw [zones, code, safety, rb]
  exact ⟨rfl, rfl⟩

/-- The cuts of a tick: the tiles named are cut, and nothing changes but what goes with cuts. -/
theorem State.tickCuts_cases (s : State) :
    (∀ n < 64, s.stuckCut n = true ∨ s.segmentCut n = true → s.tickCuts.isCut n = true) ∧ s.tickCuts.besideCuts = s.besideCuts := by
  have beside (u : State) (i : Nat) :
      ((u.setCut i kStuck (s.stuckCut i)).setCut i kSegment (s.segmentCut i)).besideCuts = u.besideCuts :=
    (State.setCut_cases ..).2.trans (State.setCut_cases ..).2
  unfold State.tickCuts
  refine ⟨fun n inRange named => State.isCut_of_reason ?_, State.forEach_leaves (g := State.besideCuts) beside _ _⟩
  refine State.forEach_reaches (I := fun _ => True) (P := fun u => u.safety.cuts.get 0 n ≠ 0) (n := n) (fun _ _ _ => trivial)
    (fun u _ => u.cuts_named n named) (fun u i other cut => ?_) (List.mem_range.mpr inRange) trivial
  rw [State.cuts_setCut_other _ _ _ other.symm, State.cuts_setCut_other _ _ _ other.symm]
  exact cut

/-- The state at a tick, its time passed. -/
def State.atTick (s : State) : State := { s with clk := { s.clk with tb3 := (s.clk.tb3 / 1000000 + 1) * 1000000 } }

/-- All of a state but what a tick writes. -/
def State.besideTick (s : State) : State := { s with clk := {}, zones := {}, safety := {}, ev := {} }

theorem State.eq_of_besideTick {s t : State} (h : t.besideTick = s.besideTick) :
    t = { s with clk := t.clk, zones := t.zones, safety := t.safety, ev := t.ev } :=
  calc t
    _ = { t.besideTick with clk := t.clk, zones := t.zones, safety := t.safety, ev := t.ev } := rfl
    _ = { s with clk := t.clk, zones := t.zones, safety := t.safety, ev := t.ev } := by rw [h]; rfl

theorem State.besideTick_of_besideCuts {s t : State} (h : t.besideCuts = s.besideCuts) : t.besideTick = s.besideTick :=
  (congrArg State.besideTick h :)

theorem State.runLimiter_frame (s : State) (dt : Nat) : s.runLimiter dt = { s with zones := (s.runLimiter dt).zones } := rfl

/-- While no difference stands, a tick compares on its own state. -/
theorem State.compareTick_cases {s : State} (quiet : s.zones.diffRun = 0) :
    s.compareTick.besideTick = s.besideTick ∧ s.compareTick.safety = s.safety ∧ s.compareTick.clk = s.clk ∧
      s.compareTick.zones.lim = s.zones.lim ∧ s.compareTick.zones.pending = s.zones.pending ∧
      s.compareTick.zones.active = s.zones.active := by
  obtain ⟨d, m, ev, compared⟩ := State.compareTick_quiet quiet
  rw [compared]
  exact ⟨rfl, rfl, rfl, rfl, rfl, rfl⟩

theorem State.keeps_of_besideTick {s t : State} (h : t.besideTick = s.besideTick) : t.tiles = s.tiles ∧ t.rb = s.rb :=
  ⟨(congrArg State.tiles h :), (congrArg State.rb h :)⟩

theorem State.clk_of_besideCuts {s t : State} (h : t.besideCuts = s.besideCuts) : t.clk = s.clk ∧ t.zones = s.zones :=
  ⟨(congrArg State.clk h :), (congrArg State.zones h :)⟩

theorem State.tick_frame (s : State) :
    (s.atTick.runLimiter 1).besideTick = s.besideTick ∧ (s.atTick.runLimiter 1).safety = s.safety ∧
      (s.atTick.runLimiter 1).clk = s.atTick.clk := by
  rw [s.atTick.runLimiter_frame 1]
  exact ⟨rfl, rfl, rfl⟩

theorem State.zones_runLimiter (s : State) (dt : Nat) :
    (s.runLimiter dt).zones.lim = limiterRun s.rindP s.degraded dt s.zones.lim ∧
      (s.runLimiter dt).zones.pending = some (clampSetOf s.rindP (s.runLimiter dt).zones.lim) ∧
      (s.runLimiter dt).zones.active = s.zones.active :=
  ⟨rfl, rfl, rfl⟩

/-- A tick runs the limiter on the parameters and the state it finds: neither is a matter of the time. -/
theorem State.zones_tick (s : State) :
    (s.atTick.runLimiter 1).zones.lim = limiterRun s.rindP s.degraded 1 s.zones.lim ∧
      (s.atTick.runLimiter 1).zones.pending = some (clampSetOf s.rindP (s.atTick.runLimiter 1).zones.lim) ∧
      (s.atTick.runLimiter 1).zones.active = s.zones.active :=
  s.atTick.zones_runLimiter 1

theorem State.diffRun_runLimiter (s : State) (dt : Nat) : (s.runLimiter dt).zones.diffRun = s.zones.diffRun := rfl

theorem exec_limiterTick {s : State} (runs : s.rindRuns = true) :
    exec .limiterTick s = .next (s.atTick.runLimiter 1).compareTick.tickCuts :=
  if_neg (by simp [runs])

/-! ### Stall blanking -/

theorem State.besidePaint_fills (s : State) (q : Nat) (rs : List (Nat × Nat × Nat × Nat)) :
    (rs.foldl (fun x r => x.sendFill q r.1 r.2.1 r.2.2.1 r.2.2.2 0 true) s).besidePaint = s.besidePaint := by
  induction rs generalizing s with
  | nil => rfl
  | cons r rs ih => exact (ih _).trans (State.besidePaint_sendFill ..)

theorem State.stall_of_besidePaint {s t : State} (h : t.besidePaint = s.besidePaint) :
    t.store = s.store ∧ t.zones.stall = s.zones.stall :=
  ⟨(congrArg State.store h :), (congrArg (·.zones.stall) h :)⟩

/-- A blanking commands the quadrants, and marks them in the zones. -/
theorem State.blank_cases (s : State) (rs : List (Nat × Nat × Nat × Nat)) :
    (s.blank rs).store = s.store ∧ (s.blank rs).zones.stall = s.zones.stall := by
  unfold State.blank
  refine ⟨State.forEach_leaves (g := State.store) (fun u q => ?_) _ _,
    State.forEach_leaves (g := (·.zones.stall)) (fun u q => ?_) _ _⟩
  · dsimp only
    split
    · rfl
    · exact (State.stall_of_besidePaint (State.besidePaint_fills _ q _)).1
  · dsimp only
    split
    · rfl
    · exact (State.stall_of_besidePaint (State.besidePaint_fills _ q _)).2

section
variable {s : State} {x : Stall}

theorem exec_stallBlank_met (stall : s.zones.stall = some x) (met : s.unscanned x = []) :
    exec .stallBlank s = .next { s with zones := { s.zones with stall := none } } := by
  have run : exec .stallBlank s = execStallBlank s := rfl
  rw [run, execStallBlank, stall]
  simp [met]

theorem exec_stallBlank_capped (stall : s.zones.stall = some x) (runs : s.rindRuns = true) (missed : s.unscanned x ≠ [])
    (capped : x.capped = true) :
    exec .stallBlank s = .next (({ s with zones := { s.zones with stall := none } } : State).setCause true cCapStall true) := by
  have run : exec .stallBlank s = execStallBlank s := rfl
  rw [run, execStallBlank, stall]
  simp [missed, runs, capped]

/-- The times of the stall blankings within the last second, with this one. -/
def State.stallTimes (s : State) : List Nat := (s.zones.stalls.filter fun y => s.clk.tb3 < y + 1000000000) ++ [s.clk.tb3]

/-- A blanking is told, and its time kept. -/
def State.blankTold (s : State) (frame n : Nat) (times : List Nat) : State :=
  let u := s.raise 0x0806 [(2, frame), (1, n)]
  { u with zones := { u.zones with stalls := times } }

theorem State.blankTold_cases (s : State) (frame n : Nat) (times : List Nat) :
    (s.blankTold frame n times).zones.stall = s.zones.stall ∧ (s.blankTold frame n times).zones.stalls = times ∧
      (s.blankTold frame n times).store = s.store :=
  ⟨rfl, rfl, rfl⟩

/-- The Rind has blanked what was not scanned out. -/
def State.blanked (s : State) (x : Stall) : State :=
  (({ s with zones := { s.zones with stall := none } } : State).blank (s.unscanned x)).blankTold x.frame.toNat
    (s.unscanned x).length s.stallTimes

theorem State.blanked_cases (s : State) (x : Stall) :
    (s.blanked x).zones.stall = none ∧ (s.blanked x).zones.stalls = s.stallTimes ∧ (s.blanked x).store = s.store := by
  obtain ⟨store, stall⟩ := State.blank_cases { s with zones := { s.zones with stall := none } } (s.unscanned x)
  obtain ⟨stallKept, times, storeKept⟩ := State.blankTold_cases
    (({ s with zones := { s.zones with stall := none } } : State).blank (s.unscanned x)) x.frame.toNat (s.unscanned x).length s.stallTimes
  exact ⟨stallKept.trans stall, times, storeKept.trans store⟩

theorem exec_stallBlank_missed (stall : s.zones.stall = some x) (runs : s.rindRuns = true) (missed : s.unscanned x ≠ [])
    (notCapped : x.capped = false) :
    exec .stallBlank s = .next ((s.blanked x).cond (3 ≤ s.stallTimes.length) fun w => w.setCause true cStall true) := by
  have run : exec .stallBlank s = execStallBlank s := rfl
  rw [run, execStallBlank, stall]
  refine (if_neg (by simp [missed, runs])).trans ((if_neg (by simp [notCapped])).trans ?_)
  rfl

end

/-- Settles O43: a tick runs, compares and cuts; the deadline is met or missed. -/
theorem limiterTicksAndStalls : Obligations.LimiterTicksAndStalls := by
  refine ⟨fun s runs quiet => ?_, fun s running diff same => ?_, fun s x stall runs => ⟨fun met => ?_, fun missed capped => ?_,
    fun missed notCapped => ?_⟩, fun s set => ?_⟩
  · obtain ⟨lim, pending, active⟩ := s.zones_tick
    obtain ⟨ran, ranSafety, ranClk⟩ := s.tick_frame
    obtain ⟨compared, safety, clk, limKept, pendingKept, activeKept⟩ :=
      State.compareTick_cases ((s.atTick.diffRun_runLimiter 1).trans quiet)
    obtain ⟨cut, beside⟩ := State.tickCuts_cases (s.atTick.runLimiter 1).compareTick
    obtain ⟨cutClk, cutZones⟩ := State.clk_of_besideCuts beside
    obtain ⟨tiles, rb⟩ := State.keeps_of_besideTick (compared.trans ran)
    have named := State.named_congr (activeKept.trans active) (safety.trans ranSafety) tiles rb
    refine ⟨_, exec_limiterTick runs, cutClk.trans (clk.trans ranClk), ?_, ?_, ?_,
      fun n inRange due => cut n inRange (by rwa [(named n).1, (named n).2]),
      State.eq_of_besideTick ((State.besideTick_of_besideCuts beside).trans (compared.trans ran))⟩
    · rw [cutZones, limKept, lim]
    · rw [cutZones, pendingKept, limKept, pending]
    · rw [cutZones, activeKept, active]
  · have run : exec .setMismatch s = .next s.foundDiff := congrArg Host.Outcome.next (if_pos running)
    have two : (if 10 ≤ s.zones.diffRun then 10 else if s.zones.sameRun = 0 && s.zones.diffRun ≠ 0 then s.zones.diffRun
        else if s.zones.sameRun ≤ 1 then s.zones.diffRun + 1 else 1) = 2 := by
      simp [diff, same]
    let counted : State := { s with zones := { s.zones with diffRun := 2, sameRun := 0 } }
    have found : s.foundDiff = (counted.raiseRated 0x0809 0 []).setCause false cSetDiff true := by
      unfold State.foundDiff
      simp only [two, show decide (2 ≤ 2) = true from rfl, State.cond_true]
      rfl
    obtain ⟨ev, rated⟩ := counted.raiseRatedN_ev 0x0809 0 1 []
    have zones : (counted.raiseRated 0x0809 0 []).zones = counted.zones := (congrArg State.zones rated :)
    obtain ⟨-, diffRun, sameRun, -⟩ := Zones.keeps_of_besideRun (State.zones_setCause (counted.raiseRated 0x0809 0 []) false cSetDiff true)
    have cause := State.spCauses_setCause (counted.raiseRated 0x0809 0 []) (row := cSetDiff) (by decide) true
    rw [zones] at diffRun sameRun
    rw [run, found]
    exact ⟨_, rfl, diffRun, sameRun, cause, State.spOwn_of_degCause (by decide) cause⟩
  · exact exec_stallBlank_met stall met
  · obtain ⟨-, -, -, cleared, -⟩ := Zones.keeps_of_besideRun
      (State.zones_setCause { s with zones := { s.zones with stall := none } } true cCapStall true)
    exact ⟨_, exec_stallBlank_capped stall runs missed capped, cleared, (State.setCause_off _ (by decide)).1⟩
  · obtain ⟨cleared, times, store⟩ := s.blanked_cases x
    refine ⟨_, exec_stallBlank_missed stall runs missed notCapped, ?_⟩
    cases third : decide (3 ≤ s.stallTimes.length) with
    | false =>
      refine ⟨cleared, times, fun three => ?_, store⟩
      rw [State.cond_false, times] at three
      exact absurd three (of_decide_eq_false third)
    | true =>
      obtain ⟨-, -, -, stallKept, timesKept⟩ := Zones.keeps_of_besideRun (State.zones_setCause (s.blanked x) true cStall true)
      obtain ⟨-, storeKept, -⟩ := State.keeps_of_besideCauses ((s.blanked x).besideCauses_setCause true cStall true)
      exact ⟨stallKept.trans cleared, timesKept.trans times,
        fun _ => State.rindCauses_setCause _ (by decide) (by decide) (by decide) true, storeKept.trans store⟩
  · have run : exec .stallRequestExpiry s = .next (s.setCause true cStall false) := congrArg Host.Outcome.next (if_pos set)
    obtain ⟨link, store, -⟩ := State.keeps_of_besideCauses (s.besideCauses_setCause true cStall false)
    exact ⟨_, run, State.rindCauses_setCause _ (by decide) (by decide) (by decide) false, store, link⟩

end Sys2Proof.Machine
end

section
/-!
PROOFS. SAFETY_RECOVER and the off latch (11 R322; O24).
-/
namespace Sys2Proof.Machine

section
variable {s : State} {h : Hdr} {args : List Byte}

/-- With the latch clear there is nothing to recover. -/
theorem State.recoverNow_clear (clear : s.safety.offLatch = false) : s.recoverNow = (s, 0) := if_pos (by simp [clear])

/-- A recovery: the latch clears and the recovery counts. -/
def State.recovered (s : State) : State :=
  ({ s with safety := { s.safety with
      offLatch := false, recover := s.recentRecoveries ++ [s.clk.tb3], recoveries := sat32 (s.safety.recoveries + 1) } } : State).drawn.raise
    0x080A [(1, 1), (1, s.freeVal 13 % 256), (4, s.freeVal 13 / 256)]

theorem State.recoverNow_accepted (latched : s.safety.offLatch = true) (willing : s.refuser = none) :
    s.recoverNow = (s.recovered, 0) := by
  unfold State.recoverNow
  rw [if_neg (by simp [latched]), willing]
  rfl

/-- A recovery that channel `c` refuses (R322). -/
def State.recoverRefused (s : State) (c : Nat) : State :=
  s.raise 0x080A [(1, 0), (1, c), (4, (if c = 1 then s.safety.rindCauses else s.safety.spCauses).toNat)]

theorem State.recoverNow_refused {c : Nat} (latched : s.safety.offLatch = true) (refuses : s.refuser = some c) :
    s.recoverNow = (s.recoverRefused c, 8) := by
  unfold State.recoverNow
  rw [if_neg (by simp [latched]), refuses]
  rfl

theorem State.refuser_none (rind : s.confirms s.safety.rindOkMs s.safety.rindCauses = true)
    (sp : s.confirms s.safety.spOkMs s.safety.spCauses = true) (running : s.sp.running = true) : s.refuser = none := by
  simp [State.refuser, rind, sp, running]

theorem State.refuser_some (refuses : s.confirms s.safety.rindOkMs s.safety.rindCauses = false ∨
    s.confirms s.safety.spOkMs s.safety.spCauses = false) : ∃ c, s.refuser = some c := by
  unfold State.refuser
  split
  · exact ⟨1, rfl⟩
  case isFalse rind =>
    refine ⟨0, if_pos ?_⟩
    rcases refuses with off | off
    · exact absurd off (by simpa using rind)
    · simp [off]

/-- A request in its form, at READY, for the off latch (R322): its answer follows what the recovery comes to. -/
theorem State.takeRecover_answer (fixed : argsFixed args 4 = true) (ready : s.start.state = .ready)
    (target : fieldAt (argsOf args) 0 1 = 0) :
    s.takeRecover h args = s.recoverNow.1.reply h 0x10 6 s.recoverNow.2 [] := by
  have isReady : s.isReady = true := decide_eq_true ready
  unfold State.takeRecover
  rw [if_neg (by simp [fixed]), if_neg (by simp [isReady]), if_neg (by simp [target])]
  rfl

end

/-- Settles O24: the latch is clear, or both channels confirm, or one refuses. -/
theorem recoveryClearsTheOffLatch : Obligations.RecoveryClearsTheOffLatch := by
  intro s h args accepts fixed ready target
  have answer (l : Link) := State.takeRecover_answer (s := { s with link := l }) (h := h) fixed ready target
  refine ⟨fun clear => ?_, fun latched rind sp running => ?_, fun latched refuses => ?_⟩
  · obtain ⟨t, received, rest⟩ := State.receive_onlyAnswers (i := .safetyRecover h args) (f := fun t => t.takeRecover h args) accepts
      fun l _ _ => by rw [answer l, State.recoverNow_clear (s := { s with link := l }) clear]
    exact ⟨t, congrArg Host.Outcome.next received, rest⟩
  · obtain ⟨l, t, received, replied, -, after⟩ := State.receive_answers (i := .safetyRecover h args) (e := State.recovered)
      (f := fun t => t.takeRecover h args) accepts
      (fun l _ _ => by
        rw [answer l, State.recoverNow_accepted (s := { s with link := l }) latched (State.refuser_none rind sp running)])
      fun u => ⟨rfl, rfl⟩
    exact ⟨t, congrArg Host.Outcome.next received, by rw [after]; rfl, by rw [after]; rfl, replied, by rw [after]; rfl⟩
  · obtain ⟨c, refuser⟩ := State.refuser_some refuses
    obtain ⟨l, t, received, replied, -, after⟩ := State.receive_answers (i := .safetyRecover h args) (e := fun u => u.recoverRefused c)
      (f := fun t => t.takeRecover h args) accepts
      (fun l _ _ => by rw [answer l, State.recoverNow_refused (s := { s with link := l }) latched refuser])
      fun u => ⟨rfl, rfl⟩
    exact ⟨t, congrArg Host.Outcome.next received, by rw [after]; rfl, replied, by rw [after]; rfl⟩

end Sys2Proof.Machine
end

section
/-!
PROOFS. Zone lists: a plain list and its complement (11 R303, R304, Table 11.4; O19).
-/
namespace Sys2Proof.Machine

/-! ### Replies and the candidate -/

/-- A reply does not read the zones. -/
theorem State.reply_setZones (s : State) (z : Zones) (h : Hdr) (type opcode status : Nat) (data : List Byte) :
    ({ s with zones := z } : State).reply h type opcode status data = { s.reply h type opcode status data with zones := z } := by
  unfold State.reply
  split
  · rfl
  · dsimp only
    split
    · rw [State.enqueue_link, State.enqueue_link]
      rfl
    · rfl

section
variable {s : State} {c : ZoneList}

/-- A candidate discarded, with event 0x0805 (R303). -/
def State.withoutCand (s : State) (c : ZoneList) (cause : Nat) : State :=
  ({ s with zones := { s.zones with cand := none } } : State).raise 0x0805 [(2, c.seq.toNat), (1, cause)]

theorem State.dropCand_some (cand : s.zones.cand = some c) (cause : Nat) : s.dropCand cause = s.withoutCand c cause := by
  unfold State.dropCand
  rw [cand]
  rfl

theorem State.dropCand_none (cand : s.zones.cand = none) (cause : Nat) : s.dropCand cause = s := by
  unfold State.dropCand
  rw [cand]

theorem State.expireCand_none (cand : s.zones.cand = none) : s.expireCand = s := by simp [State.expireCand, cand]

theorem State.expireCand_old (cand : s.zones.cand = some c) (old : c.at3 + 1000000 < s.clk.tb3) :
    s.expireCand = s.withoutCand c 1 := by
  have due : (s.zones.cand.any fun c => decide (c.at3 + 1000000 < s.clk.tb3)) = true := by
    rw [cand, Option.any_some]
    exact decide_eq_true old
  unfold State.expireCand
  rw [due, State.cond_true, State.dropCand_some cand]

theorem State.expireCand_young (cand : s.zones.cand = some c) (young : s.clk.tb3 ≤ c.at3 + 1000000) : s.expireCand = s := by
  have due : (s.zones.cand.any fun c => decide (c.at3 + 1000000 < s.clk.tb3)) = false := by
    rw [cand, Option.any_some]
    exact decide_eq_false (Nat.not_lt.mpr young)
  unfold State.expireCand
  rw [due, State.cond_false]

theorem State.withoutCand_zones {u : State} {z : Zones} (same : u.zones = z) :
    ({ u with zones := { u.zones with cand := none } } : State) = { u with zones := { z with cand := none } } := by rw [same]

theorem State.zones_reply (s : State) (h : Hdr) (type opcode status : Nat) (data : List Byte) :
    (s.reply h type opcode status data).zones = s.zones := by rw [State.reply_frame]

/-- A reply may come before a candidate is discarded or after. -/
theorem State.withoutCand_reply (s : State) (c : ZoneList) (cause : Nat) (h : Hdr) (type opcode status : Nat) (data : List Byte) :
    (s.reply h type opcode status data).withoutCand c cause = (s.withoutCand c cause).reply h type opcode status data := by
  have clear := (State.withoutCand_zones (s.zones_reply h type opcode status data)).trans
    (s.reply_setZones { s.zones with cand := none } h type opcode status data).symm
  exact (congrArg (fun u => u.raise 0x0805 [(2, c.seq.toNat), (1, cause)]) clear).trans (State.raise_reply ..)

theorem State.dropCand_reply (cand : s.zones.cand = some c) (cause : Nat) (h : Hdr) (type opcode status : Nat) (data : List Byte) :
    (s.reply h type opcode status data).dropCand cause = (s.withoutCand c cause).reply h type opcode status data := by
  rw [State.dropCand_some (c := c) (by rw [State.reply_frame]; exact cand), State.withoutCand_reply]

end

/-! ### ZONE_PLAIN -/

/-- A plain list has replaced what candidate there was (R303). -/
def State.replaced (s : State) : State :=
  match s.zones.cand with
  | some c => s.raise 0x0805 [(2, c.seq.toNat), (1, if c.at3 + 1000000 < s.clk.tb3 then 1 else 0)]
  | none => s

/-- A replaced candidate is gone with its event, 1 where it had expired, 0 otherwise. -/
theorem State.replaced_cases (s : State) :
    s.expireCand.dropCand 0 = { s with zones := { s.zones with cand := none }, ev := s.replaced.ev } := by
  unfold State.replaced
  cases cand : s.zones.cand with
  | none =>
    have kept : ({ s.zones with cand := none } : Zones) = s.zones := by rw [← cand]
    rw [State.expireCand_none cand, State.dropCand_none cand, kept]
  | some c =>
    by_cases old : c.at3 + 1000000 < s.clk.tb3
    · rw [State.expireCand_old cand old, State.dropCand_none rfl]
      simp only [if_pos old]
      rfl
    · rw [State.expireCand_young cand (Nat.not_lt.mp old), State.dropCand_some cand]
      simp only [if_neg old]
      rfl

/-- The events of a replacement do not read the link. -/
theorem State.replaced_link (s : State) (l : Link) : ({ s with link := l } : State).replaced.ev = s.replaced.ev := by
  unfold State.replaced
  cases s.zones.cand <;> rfl

theorem State.replaced_frame (s : State) : s.replaced = { s with ev := s.replaced.ev } := by
  unfold State.replaced
  cases s.zones.cand <;> rfl

/-- An event raised after them reads neither. -/
theorem State.raise_replaced (s : State) (l : Link) (code : Nat) (d : List (Nat × Nat)) :
    (({ s with link := l, ev := s.replaced.ev } : State).raise code d).ev = (s.replaced.raise code d).ev :=
  (congrArg (fun u : State => (u.raise code d).ev) s.replaced_frame).symm

/-- The effect of a plain list: `z` becomes the candidate, or none does, with the events `e`. -/
def State.candidate (s : State) (z : Option ZoneList) (ev : Events) : State := { s with zones := { s.zones with cand := z }, ev }

theorem State.takePlain_good {s : State} {h : Hdr} {b : List Byte} {z : ZoneList} (good : parseZones b s.clk.tb3 = some z) :
    s.takePlain h b = (s.candidate (some z) s.replaced.ev).reply h 0x30 0 0 [] := by
  unfold State.takePlain
  dsimp only
  rw [good, s.replaced_cases]
  rfl

theorem State.takePlain_bad {s : State} {h : Hdr} {b : List Byte} (bad : parseZones b s.clk.tb3 = none) :
    s.takePlain h b = (s.candidate none (({ s with ev := s.replaced.ev } : State).raise 0x0805 [(2, fieldAt b 0 2), (1, 2)]).ev).reply
      h 0x30 0 4 [] := by
  unfold State.takePlain
  dsimp only
  rw [bad, s.replaced_cases]
  unfold State.zoneRejected
  dsimp only
  rw [State.raise_reply]
  rfl

/-! ### ZONE_COMPL -/

/-- The plain form of a complement (R303). -/
def plainOf (b : List Byte) : List Byte := b.map fun x => ~~~x

section
variable {s : State} {h : Hdr} {b : List Byte} {c z : ZoneList}

theorem State.takeCompl_none (cand : s.zones.cand = none) :
    s.takeCompl h b = (s.raise 0x0805 [(2, fieldAt (plainOf b) 0 2), (1, 4)]).reply h 0x31 0 4 [] := by
  unfold State.takeCompl
  dsimp only
  rw [State.expireCand_none cand, cand, ← State.raise_reply]
  rfl

/-- A complement too late finds its candidate expired, and none left (R303, R304). -/
theorem State.takeCompl_late (cand : s.zones.cand = some c) (old : c.at3 + 1000000 < s.clk.tb3) :
    s.takeCompl h b =
      ((s.withoutCand c 1).raise 0x0805 [(2, fieldAt (plainOf b) 0 2), (1, 4)]).reply h 0x31 0 4 [] := by
  have none : (s.withoutCand c 1).zones.cand = none := rfl
  unfold State.takeCompl
  dsimp only
  rw [State.expireCand_old cand old, none, ← State.raise_reply]
  rfl

theorem State.takeCompl_bad (cand : s.zones.cand = some c) (young : s.clk.tb3 ≤ c.at3 + 1000000)
    (bad : parseZones (plainOf b) c.at3 = none) : s.takeCompl h b = (s.withoutCand c 2).reply h 0x31 0 4 [] := by
  unfold State.takeCompl
  dsimp only
  rw [State.expireCand_young cand young, cand]
  dsimp only
  rw [show parseZones (b.map fun x => ~~~x) c.at3 = none from bad]
  exact State.dropCand_reply cand 2 ..

theorem State.takeCompl_same (cand : s.zones.cand = some c) (young : s.clk.tb3 ≤ c.at3 + 1000000)
    (good : parseZones (plainOf b) c.at3 = some z) (same : z.same c = true) :
    s.takeCompl h b = (s.confirmList z).reply h 0x31 0 0 [] := by
  unfold State.takeCompl
  dsimp only
  rw [State.expireCand_young cand young, cand]
  dsimp only
  rw [show parseZones (b.map fun x => ~~~x) c.at3 = some z from good]
  exact if_pos same

theorem State.takeCompl_differs (cand : s.zones.cand = some c) (young : s.clk.tb3 ≤ c.at3 + 1000000)
    (good : parseZones (plainOf b) c.at3 = some z) (differs : z.same c = false) :
    s.takeCompl h b = (s.withoutCand c 3).reply h 0x31 0 4 [] := by
  unfold State.takeCompl
  dsimp only
  rw [State.expireCand_young cand young, cand]
  dsimp only
  rw [show parseZones (b.map fun x => ~~~x) c.at3 = some z from good]
  refine (if_neg (by simp [differs])).trans ?_
  exact State.dropCand_reply cand 3 ..

end

/-! ### A confirmed list -/

/-- The events of the rows that a list had bounded (R307). -/
def State.rowsTold (s : State) (p : SafetyP) (rows : List (Nat × Nat)) : State :=
  rows.foldl (fun v e => v.cond (boundRow p e.1 e.2 ≠ e.2) fun w => w.raise 0x080B [(1, e.1), (2, e.2)]) s

theorem State.rowsTold_frame (s : State) (p : SafetyP) (rows : List (Nat × Nat)) : ∃ ev, s.rowsTold p rows = { s with ev } := by
  induction rows generalizing s with
  | nil => exact ⟨s.ev, rfl⟩
  | cons e rows ih =>
    obtain ⟨ev, told⟩ := ih (s.cond (boundRow p e.1 e.2 ≠ e.2) fun w => w.raise 0x080B [(1, e.1), (2, e.2)])
    refine ⟨ev, told.trans ?_⟩
    unfold State.cond
    split <;> rfl

/-- Rows within their bounds raise nothing. -/
theorem State.rowsTold_bounded (s : State) {p : SafetyP} {rows : List (Nat × Nat)} (bounded : ∀ e ∈ rows, boundRow p e.1 e.2 = e.2) :
    s.rowsTold p rows = s := by
  induction rows with
  | nil => rfl
  | cons e rows ih =>
    have quiet : s.rowsTold p (e :: rows) = s.rowsTold p rows := by
      unfold State.rowsTold
      rw [List.foldl_cons]
      simp [bounded e List.mem_cons_self]
    rw [quiet, ih fun x mem => bounded x (List.mem_cons_of_mem e mem)]

/-- The targets of a confirmed list taken by both channels, with event 0x0804 (R304). -/
def State.targetsTaken (s : State) (z : ZoneList) : State :=
  ({ s with zones := { s.zones with
      cand := none, lastSeq := z.seq, lim := s.zones.lim.confirm s.rindP z
      spLim := s.zones.spLim.confirm s.spP z } } : State).raise 0x0804 [(2, z.seq.toNat)]

theorem State.confirmList_eq (s : State) (z : ZoneList) :
    s.confirmList z = ((s.targetsTaken z).rowsTold s.rindP (z.rows.mapIdx fun b r => (b, r))).runLimiter 0 := rfl

/-- What a confirmed list brings: its SEQ in force, both limiters run with dt = 0, and the pending set. -/
theorem State.confirmList_cases (s : State) (z : ZoneList) :
    ∃ ev, s.confirmList z = { (({ s.targetsTaken z with ev } : State).runLimiter 0) with ev } ∧
      ((∀ e ∈ z.rows.mapIdx fun k r => (k, r), boundRow s.rindP e.1 e.2 = e.2) → ev = (s.raise 0x0804 [(2, z.seq.toNat)]).ev) := by
  obtain ⟨ev, told⟩ := (s.targetsTaken z).rowsTold_frame s.rindP (z.rows.mapIdx fun b r => (b, r))
  refine ⟨ev, by rw [State.confirmList_eq, told]; rfl, fun bounded => ?_⟩
  rw [State.rowsTold_bounded _ bounded] at told
  exact (congrArg State.ev told).symm

/-! ### The packets -/

section
variable {s : State} {h : Hdr} {b : List Byte} {c z : ZoneList}

/-- A plain list that is accepted, its candidate and its events beside the reply. -/
theorem exec_zonePlain {cand : Option ZoneList} {status : Nat} (ev : Events) (accepts : s.accepts (zoneRx h 0x30 b 0))
    (run : ∀ l, ({ s with link := l } : State).takePlain h b =
      (({ s with link := l } : State).candidate cand ev).reply h 0x30 0 status []) :
    ∃ t, exec (.zonePlain h b) s = .next t ∧ t.zones = { s.zones with cand } ∧ s.replied t h status 0x30 0 [] ∧ t.ev = ev ∧
      t = { s with zones := t.zones, link := t.link, ev := t.ev } := by
  obtain ⟨l, t, received, replied, -, after⟩ := State.receive_answers (i := .zonePlain h b) (f := fun t => t.takePlain h b)
    (e := fun u => u.candidate cand ev) accepts (fun l _ _ => run l) fun u => ⟨rfl, rfl⟩
  refine ⟨t, congrArg Host.Outcome.next received, ?_, replied, ?_, ?_⟩ <;> rw [after] <;> rfl

/-- A complement that is accepted: what it does, and its answer. -/
theorem exec_zoneCompl {e : State → State} {status : Nat} (accepts : s.accepts (zoneRx h 0x31 b 4))
    (run : ∀ l, ({ s with link := l } : State).takeCompl h b = (e { s with link := l }).reply h 0x31 0 status [])
    (rest : ∀ u, (e u).link = u.link ∧ (e u).mp = u.mp) :
    ∃ l t, exec (.zoneCompl h b) s = .next t ∧ s.replied t h status 0x31 0 [] ∧
      t = { e { s with link := l } with link := t.link } := by
  obtain ⟨l, t, received, replied, -, after⟩ := State.receive_answers (i := .zoneCompl h b) (f := fun t => t.takeCompl h b)
    accepts (fun l _ _ => run l) rest
  exact ⟨l, t, congrArg Host.Outcome.next received, replied, after⟩

/-- A complement that is rejected while a candidate stands discards it (R304). -/
theorem exec_zoneCompl_rejects {cause : Nat} (accepts : s.accepts (zoneRx h 0x31 b 4))
    (run : ∀ l, ({ s with link := l } : State).takeCompl h b =
      (({ s with link := l } : State).withoutCand c cause).reply h 0x31 0 4 []) :
    ∃ t, exec (.zoneCompl h b) s = .next t ∧ t.zones = { s.zones with cand := none } ∧ s.replied t h 4 0x31 0 [] ∧
      t.ev = (s.raise 0x0805 [(2, c.seq.toNat), (1, cause)]).ev ∧ t = { s with zones := t.zones, link := t.link, ev := t.ev } := by
  obtain ⟨l, t, run, replied, after⟩ := exec_zoneCompl (e := fun u => u.withoutCand c cause) accepts run fun u => ⟨rfl, rfl⟩
  refine ⟨t, run, ?_, replied, ?_, ?_⟩ <;> rw [after] <;> rfl

/-- A complement that agrees confirms its candidate (R303, R304). -/
theorem exec_zoneCompl_confirms (accepts : s.accepts (zoneRx h 0x31 b 4)) (cand : s.zones.cand = some c)
    (young : s.clk.tb3 ≤ c.at3 + 1000000) (good : parseZones (plainOf b) c.at3 = some z) (same : z.same c = true) :
    ∃ t, exec (.zoneCompl h b) s = .next t ∧ t.zones.cand = none ∧ t.zones.lastSeq = z.seq ∧
      t.zones.lim = limiterRun s.rindP s.degraded 0 (s.zones.lim.confirm s.rindP z) ∧
      t.zones.spLim = limiterRun s.spP s.degraded 0 (s.zones.spLim.confirm s.spP z) ∧
      t.zones.pending = some (clampSetOf s.rindP t.zones.lim) ∧ t.zones.active = s.zones.active ∧
      ((∀ e ∈ z.rows.mapIdx fun k r => (k, r), boundRow s.rindP e.1 e.2 = e.2) →
        t.ev = (s.raise 0x0804 [(2, z.seq.toNat)]).ev) ∧
      s.replied t h 0 0x31 0 [] ∧ t = { s with zones := t.zones, link := t.link, ev := t.ev } := by
  obtain ⟨l, t, run, replied, after⟩ := exec_zoneCompl (e := fun u => u.confirmList z) accepts
    (fun l => State.takeCompl_same (s := { s with link := l }) cand young good same) fun u => by
      obtain ⟨ev, confirmed, -⟩ := u.confirmList_cases z
      rw [confirmed]
      exact ⟨rfl, rfl⟩
  obtain ⟨ev, confirmed, quiet⟩ := State.confirmList_cases { s with link := l } z
  rw [confirmed] at after
  have zones : t.zones = (({ State.targetsTaken { s with link := l } z with ev } : State).runLimiter 0).zones := by rw [after]
  obtain ⟨lim, pending, active⟩ := State.zones_runLimiter { State.targetsTaken { s with link := l } z with ev } 0
  refine ⟨t, run, by rw [zones]; rfl, by rw [zones]; rfl, by rw [zones]; exact lim, by rw [zones]; rfl, by rw [zones]; exact pending,
    by rw [zones]; exact active, fun bounded => ?_, replied, ?_⟩
  · rw [after]
    exact quiet bounded
  · rw [zones, after]
    rfl

end

/-- Settles O19: each outcome of Table 11.4 for the plain list and for its complement. -/
theorem zoneListsTakeTwoPackets : Obligations.ZoneListsTakeTwoPackets := by
  refine ⟨fun s h b accepts => ⟨fun z good => ?_, fun bad => ?_⟩,
    fun s h b c accepts cand => ⟨fun old => ?_, fun young bad => ?_, fun young z good => ⟨fun same => ?_, fun differs => ?_⟩⟩,
    fun s h b accepts cand => ?_, fun s c cand => ?_⟩
  · exact exec_zonePlain s.replaced.ev accepts fun l => by
      rw [State.takePlain_good (s := { s with link := l }) good, State.replaced_link]
  · exact exec_zonePlain (s.replaced.raise 0x0805 [(2, fieldAt b 0 2), (1, 2)]).ev accepts fun l => by
      rw [State.takePlain_bad (s := { s with link := l }) bad, State.replaced_link, s.raise_replaced l]
  · obtain ⟨l, t, run, replied, after⟩ := exec_zoneCompl
      (e := fun u => (u.withoutCand c 1).raise 0x0805 [(2, fieldAt (plainOf b) 0 2), (1, 4)]) accepts
      (fun l => State.takeCompl_late (s := { s with link := l }) cand old) fun u => ⟨rfl, rfl⟩
    refine ⟨t, run, ?_, replied, ?_, ?_⟩ <;> rw [after] <;> rfl
  · exact exec_zoneCompl_rejects accepts fun l => State.takeCompl_bad (s := { s with link := l }) cand young bad
  · exact exec_zoneCompl_confirms accepts cand young good same
  · exact exec_zoneCompl_rejects accepts fun l => State.takeCompl_differs (s := { s with link := l }) cand young good differs
  · obtain ⟨l, t, run, replied, after⟩ := exec_zoneCompl
      (e := fun u => u.raise 0x0805 [(2, fieldAt (plainOf b) 0 2), (1, 4)]) accepts
      (fun l => State.takeCompl_none (s := { s with link := l }) cand) fun u => ⟨rfl, rfl⟩
    refine ⟨t, run, ?_, replied, ?_, ?_⟩ <;> rw [after] <;> rfl
  · exact congrArg Host.Outcome.next (State.dropCand_some cand 1)

end Sys2Proof.Machine
end

section
/-!
PROOFS. Affinage: weights, charges, saves and the reservation (12 R350 to R355, 13 R369, R370; O46).
-/
namespace Sys2Proof.Machine

/-! ### Counters in the store (R351, R352) -/

theorem leVal_lt (bs : List Byte) : leVal bs < 256 ^ bs.length := by
  induction bs with
  | nil => exact Nat.one_pos
  | cons b bs ih =>
    have low := b.isLt
    rw [leVal, List.length_cons, Nat.pow_succ]
    omega

/-- A number written in bytes, the lowest first, reads back. -/
theorem leVal_leBytes (n v : Nat) : leVal (leBytes n v) = v % 256 ^ n := by
  induction n generalizing v with
  | zero => simp [leBytes, leVal, Nat.mod_one]
  | succ n ih =>
    have low : (BitVec.ofNat 8 v : Byte).toNat = v % 256 := BitVec.toNat_ofNat v 8
    rw [leBytes, leVal, ih, low, Nat.pow_succ, Nat.mul_comm (256 ^ n) 256, Nat.mod_mul]

theorem length_leBytes (n v : Nat) : (leBytes n v).length = n := by
  induction n generalizing v with
  | zero => rfl
  | succ n ih => rw [leBytes, List.length_cons, ih]

section
variable {s : State} (wf : s.MemoryWf) (flips : s.store.flips = []) (perturb : s.svc.perturb = [])

theorem State.readBytes_clean {s : State} (flips : s.store.flips = []) (a n : Nat) : s.readBytes a n = s.store.bytes a n :=
  if_pos (by simp [flips])

theorem State.eccRead_clean {s : State} (flips : s.store.flips = []) (a n : Nat) : s.eccRead a n = s := if_pos (by simp [flips])

theorem State.healCounter_clean {s : State} (flips : s.store.flips = []) (k : Nat) : s.healCounter k = s :=
  if_neg (by simp [State.poisoned, flips])

include flips perturb in
/-- Without check-bit errors, standing or armed, a write to the store is its bytes. -/
theorem State.storeBytes_clean (a : Nat) (bs : List Byte) : s.storeBytes a bs = { s with store := s.store.setBytes a bs } := by
  have kept : (s.store.setBytes a bs).flips = [] := by rw [s.store.setBytes_frame]; exact flips
  unfold State.storeBytes
  exact if_pos (by simp [kept, perturb])

/-- A counter is 32 bits. -/
theorem State.counter_lt {s : State} (flips : s.store.flips = []) (k : Nat) : s.counter k < 2 ^ 32 := by
  have bound := leVal_lt (s.readBytes (s.counterAddr k) 4)
  rw [State.readBytes_clean flips, Store.bytes, List.length_map, List.length_range] at bound
  rw [State.counter, State.readBytes_clean flips]
  exact bound

/-- The bytes of a block that has been written are the block. -/
theorem Store.bytes_setBytes_same {m : Store} (wf : Sparse.wf 0 m.cells = true) (a : Nat) (bs : List Byte) :
    (m.setBytes a bs).bytes a bs.length = bs := by
  apply List.ext_getElem
  · simp [Store.bytes]
  · intro i inside _
    have inside : i < bs.length := by simpa [Store.bytes] using inside
    simp [Store.bytes, m.byte_setBytes a (a + i) bs wf, inside]

theorem Store.bytes_setBytes_other {m : Store} (wf : Sparse.wf 0 m.cells = true) {a b n : Nat} {bs : List Byte}
    (apart : b + n ≤ a ∨ a + bs.length ≤ b) : (m.setBytes a bs).bytes b n = m.bytes b n := by
  unfold Store.bytes
  refine List.map_congr_left fun i mem => ?_
  have inside := List.mem_range.mp mem
  rw [m.byte_setBytes a (b + i) bs wf, if_neg (by omega)]

include wf flips perturb in
/-- A counter that has been set reads as set, and every other as before. -/
theorem State.counter_setCounter (k v : Nat) (small : v < 2 ^ 32) :
    (s.setCounter k v).counter k = v ∧ ∀ j, j ≠ k → (s.setCounter k v).counter j = s.counter j := by
  have set : s.setCounter k v = { s with store := s.store.setBytes (s.counterAddr k) (leBytes 4 v) } :=
    State.storeBytes_clean flips perturb _ _
  have kept : (s.setCounter k v).store.flips = [] := by rw [set, s.store.setBytes_frame]; exact flips
  have addr (j : Nat) : (s.setCounter k v).counterAddr j = s.counterAddr j := by rw [set]; rfl
  have store : (s.setCounter k v).store = s.store.setBytes (s.counterAddr k) (leBytes 4 v) := by rw [set]
  have read (j : Nat) : (s.setCounter k v).counter j =
      leVal ((s.store.setBytes (s.counterAddr k) (leBytes 4 v)).bytes (s.counterAddr j) 4) := by
    rw [State.counter, State.readBytes_clean kept, addr, store]
  refine ⟨?_, fun j other => ?_⟩
  · have back := Store.bytes_setBytes_same wf.1 (s.counterAddr k) (leBytes 4 v)
    rw [length_leBytes] at back
    rw [read, back, leVal_leBytes]
    exact Nat.mod_eq_of_lt small
  · have apart : s.counterAddr j + 4 ≤ s.counterAddr k ∨ s.counterAddr k + (leBytes 4 v).length ≤ s.counterAddr j := by
      rw [length_leBytes]
      unfold State.counterAddr
      omega
    rw [read, Store.bytes_setBytes_other wf.1 apart, State.counter, State.readBytes_clean flips]

/-- The increment of a charge: the whole part of the stress, and one more by the dither of R352. -/
def State.chargeInc (s : State) (num : Nat) : Nat :=
  num / 2 ^ 48 + (if (lfsrNext s.affin.lfsr).toNat < num % 2 ^ 48 then 1 else 0)

theorem State.chargeInc_cases (s : State) (num : Nat) : s.chargeInc num = num / 2 ^ 48 ∨ s.chargeInc num = num / 2 ^ 48 + 1 := by
  unfold State.chargeInc
  split
  · exact .inr rfl
  · exact .inl rfl

/-- A charge's saturation is told once. -/
def State.chargeTold (s : State) (k n : Nat) : State :=
  if 0xFFFFFFFF ≤ n && !s.affin.saturated then
    ({ s with affin := { s.affin with saturated := true } } : State).raise 0x0A07 [(2, k)]
  else s

theorem State.chargeTold_counter (s : State) (k n j : Nat) : (s.chargeTold k n).counter j = s.counter j := by
  unfold State.chargeTold
  split <;> rfl

/-- A charge draws the dither's next number (R352). -/
def State.dithered (s : State) : State := { s with affin := { s.affin with lfsr := lfsrNext s.affin.lfsr } }

/-- A charge of `inc` on a counter that is read, healed and set. -/
def State.chargeSet (s : State) (k inc : Nat) : State :=
  (s.setCounter k (min 0xFFFFFFFF (s.counter k + inc))).chargeTold k (s.counter k + inc)

theorem State.chargeBlock_eq (s : State) (k sigma units w : Nat) :
    s.chargeBlock k sigma units w =
      if decide (s.chargeInc (sigma * units * w) = 0) && s.store.flips.isEmpty then s.dithered
      else ((s.dithered.eccRead (s.dithered.counterAddr k) 4).healCounter k).chargeSet k (s.chargeInc (sigma * units * w)) := rfl

theorem State.counter_dithered (s : State) (k : Nat) : s.dithered.counter k = s.counter k := rfl

include wf flips perturb in
/-- A charge adds its increment to its block's counter, up to the largest, and leaves the others. -/
theorem State.chargeBlock_counter (k sigma units w : Nat) :
    (s.chargeBlock k sigma units w).counter k = min 0xFFFFFFFF (s.counter k + s.chargeInc (sigma * units * w)) ∧
      ∀ j, j ≠ k → (s.chargeBlock k sigma units w).counter j = s.counter j := by
  have small := State.counter_lt flips k
  have none : s.store.flips.isEmpty = true := by simp [flips]
  rw [State.chargeBlock_eq, none, Bool.and_true, State.eccRead_clean (s := s.dithered) flips,
    State.healCounter_clean (s := s.dithered) flips]
  by_cases zero : s.chargeInc (sigma * units * w) = 0
  · rw [decide_eq_true zero, if_pos rfl, zero]
    refine ⟨?_, fun j _ => s.counter_dithered j⟩
    rw [State.counter_dithered]
    omega
  · rw [decide_eq_false zero, if_neg Bool.false_ne_true]
    unfold State.chargeSet
    rw [State.counter_dithered]
    obtain ⟨same, other⟩ := State.counter_setCounter (s := s.dithered) wf flips perturb k
      (min 0xFFFFFFFF (s.counter k + s.chargeInc (sigma * units * w))) (by omega)
    exact ⟨(State.chargeTold_counter ..).trans same, fun j apart => (State.chargeTold_counter ..).trans (other j apart)⟩

end

/-! ### What a charge writes beside its counter -/

/-- All of a state but what the charges write. -/
def State.besideCharge (s : State) : State := { s with store := {}, affin := {}, svc := {}, banks := [], ev := {} }

theorem State.eq_of_besideCharge {s t : State} (h : t.besideCharge = s.besideCharge) :
    t = { s with store := t.store, affin := t.affin, svc := t.svc, banks := t.banks, ev := t.ev } :=
  calc t
    _ = { t.besideCharge with store := t.store, affin := t.affin, svc := t.svc, banks := t.banks, ev := t.ev } := rfl
    _ = { s with store := t.store, affin := t.affin, svc := t.svc, banks := t.banks, ev := t.ev } := by rw [h]; rfl

theorem State.besideCharge_forEach (s : State) (xs : List Nat) {f : State → Nat → State}
    (h : ∀ u x, (f u x).besideCharge = u.besideCharge) : (s.forEach xs f).besideCharge = s.besideCharge :=
  State.forEach_leaves h s xs

theorem State.besideCharge_eccGranule (s : State) (g : Nat) : (s.eccGranule g).besideCharge = s.besideCharge := by
  unfold State.eccGranule
  split
  · obtain ⟨e, rated⟩ := State.raiseRatedN_ev (s.modBank (bankOf (8 * g)) fun k =>
      let q := if k.rewrite.contains (rowOf (8 * g)) || 8 ≤ k.rewrite.length then k.rewrite else k.rewrite ++ [rowOf (8 * g)]
      { k with corrected := sat32 (k.corrected + 1), rewrite := q }) 0x0301 0 1 []
    exact (congrArg State.besideCharge rated :)
  · split <;> rfl

theorem State.besideCharge_eccRead (s : State) (a n : Nat) : (s.eccRead a n).besideCharge = s.besideCharge := by
  unfold State.eccRead
  split
  · rfl
  · exact State.besideCharge_forEach _ _ State.besideCharge_eccGranule

theorem State.besideCharge_healCounter (s : State) (k : Nat) : (s.healCounter k).besideCharge = s.besideCharge := by
  unfold State.healCounter
  dsimp only
  split
  · exact (congrArg State.besideCharge (s.loadBytes_cells ..) :)
  · rfl

theorem State.besideCharge_setCounter (s : State) (k v : Nat) : (s.setCounter k v).besideCharge = s.besideCharge :=
  (congrArg State.besideCharge (s.storeBytes_cells ..) :)

theorem State.besideCharge_chargeSet (s : State) (k inc : Nat) : (s.chargeSet k inc).besideCharge = s.besideCharge := by
  refine Eq.trans ?_ (s.besideCharge_setCounter k (min 0xFFFFFFFF (s.counter k + inc)))
  unfold State.chargeSet State.chargeTold
  split <;> rfl

theorem State.besideCharge_chargeBlock (s : State) (k sigma units w : Nat) :
    (s.chargeBlock k sigma units w).besideCharge = s.besideCharge := by
  rw [State.chargeBlock_eq]
  split
  · rfl
  · exact (State.besideCharge_chargeSet ..).trans ((State.besideCharge_healCounter ..).trans (State.besideCharge_eccRead s.dithered ..))

/-! ### Saves (R354, R369, R370) -/

/-- What a save leaves once its SAVE_SEQ stands: the slot, the SEQ, and that none is deferred; the fuses and the composer. -/
def State.saved (s : State) : Nat × BitVec 32 × Bool × Fuse × Comp :=
  (s.affin.saveSlot, s.affin.saveSeq, s.affin.deferred, s.fuse, s.comp)

theorem State.saved_forEach (s : State) (xs : List Nat) {f : State → Nat → State} (h : ∀ u x, (f u x).saved = u.saved) :
    (s.forEach xs f).saved = s.saved :=
  State.forEach_leaves h s xs

theorem State.saved_flashErase (s : State) (a : Nat) : (s.flashErase a).saved = s.saved := by
  unfold State.flashErase
  dsimp only
  split <;> rfl

theorem State.saved_flashProgram (s : State) (a : Nat) (bs : List Byte) : (s.flashProgram a bs).saved = s.saved := by
  unfold State.flashProgram
  dsimp only
  split <;> rfl

theorem State.saved_flashEraseMany (s : State) (a n : Nat) : (s.flashEraseMany a n).saved = s.saved :=
  State.saved_forEach _ _ fun u i => u.saved_flashErase (a + 4096 * i)

theorem State.saved_writeCopy (s : State) (a seq magic : Nat) (body : List Byte) : (s.writeCopy a seq magic body).saved = s.saved :=
  (State.saved_flashProgram ..).trans ((State.saved_flashProgram ..).trans (State.saved_flashEraseMany ..))

theorem State.saved_setNvm (s : State) (v : Nvm) : (s.setNvm v).saved = s.saved := rfl

theorem State.saved_saveCopy (s : State) (magic : Nat) (as : List Nat) (body : List Byte) :
    (s.saveCopy magic as body).saved = s.saved := by
  unfold State.saveCopy
  dsimp only
  split
  · obtain ⟨v, paid⟩ := s.pay_setNvm (1 + ceilDiv body.length 4096) (body.length + 64)
    rw [State.saved_writeCopy, paid, State.saved_setNvm]
  · obtain ⟨v, e, refused⟩ := s.nvmRefused_writes (body.length + 64)
    rw [refused]
    rfl

theorem State.saved_saveErases (s : State) : s.saveErases.saved = s.saved := s.saved_saveCopy ..

theorem State.saved_setForecast (s : State) (remainH minBlock : Nat) (headroom : Int) (eol : Bool) :
    ({ s with affin := { s.affin with remainH, minBlock, headroom, eol } } : State).saved = s.saved := rfl

theorem State.saved_setReportSeq (s : State) (reportSeq : BitVec 16) :
    ({ s with affin := { s.affin with reportSeq } } : State).saved = s.saved := rfl

theorem State.saved_predict (s : State) (ps : List TilePred) : (s.predict ps).saved = s.saved := by
  have round (u : State) (i : Nat) : (u.compensate i (ps.getD i {})).saved = u.saved := by
    unfold State.compensate
    exact (State.cond_read State.saved _ _ _).trans (ite_self _)
  exact (State.saved_setForecast ..).trans (State.saved_forEach _ _ round)

theorem State.saved_affReport (s : State) (ps : List TilePred) : (s.affReport ps).saved = s.saved := by
  have queued (u : State) (p : TxPkt) : (u.enqueue 5 p).saved = u.saved := (congrArg State.saved (u.enqueue_link 5 p) :)
  exact (State.saved_setReportSeq ..).trans ((State.saved_forEach _ _ fun u i => queued u _).trans (queued s _))

/-- A state with a save noted: its slot, its SEQ, and none deferred. -/
def State.saveNoted (s : State) (n : Nat × Nat) : State :=
  { s with affin := { s.affin with saveSeq := BitVec.ofNat 32 n.2, saveSlot := n.1, deferred := false } }

theorem State.of_saved {t : State} {slot : Nat} {seq : BitVec 32} {deferred : Bool} {fuse : Fuse} {comp : Comp}
    (h : t.saved = (slot, seq, deferred, fuse, comp)) :
    t.affin.saveSlot = slot ∧ t.affin.saveSeq = seq ∧ t.affin.deferred = deferred ∧ t.fuse = fuse ∧ t.comp = comp := by
  simpa only [State.saved, Prod.mk.injEq] using h

theorem State.kept_of_besideFill {s t : State} (h : t.besideFill = s.besideFill) : t.fuse = s.fuse ∧ t.comp = s.comp :=
  ⟨(congrArg State.fuse h :), (congrArg State.comp h :)⟩

theorem State.kept_of_besideFlash {s t : State} (h : t.besideFlash = s.besideFlash) : t.fuse = s.fuse ∧ t.comp = s.comp :=
  ⟨(congrArg State.fuse h :), (congrArg State.comp h :)⟩

/-- A save takes the slot and the SEQ that follow the last save, whatever else it writes. -/
theorem State.writeSave_saved (s : State) :
    s.writeSave.saved = (s.nextSave.1, BitVec.ofNat 32 s.nextSave.2, false, s.fuse, s.comp) := by
  have written (u : State) (h : u.fuse = s.fuse ∧ u.comp = s.comp) :
      (u.saveNoted s.nextSave).saved = (s.nextSave.1, BitVec.ofNat 32 s.nextSave.2, false, s.fuse, s.comp) := by
    obtain ⟨fuse, comp⟩ := h
    rw [← fuse, ← comp]
    rfl
  unfold State.writeSave
  refine (State.saved_affReport ..).trans ((State.saved_predict ..).trans ((State.saved_saveErases _).trans ?_))
  obtain ⟨fuse, comp⟩ := State.kept_of_besideFill s.besideFill_healAll
  refine written _ ?_
  obtain ⟨fuse', comp'⟩ := State.kept_of_besideFlash ((State.besideFlash_flashProgram _ _ _).trans
    ((State.besideFlash_flashProgram _ _ _).trans (State.forEach_leaves (g := State.besideFlash)
      (fun u i => u.besideFlash_flashErase (affSlot s.nextSave.1 + 4096 * i)) s.healAll (List.range 64))))
  exact ⟨fuse'.trans fuse, comp'.trans comp⟩

/-! ### The budgets of a save (R369, R370) -/

/-- A second refill at the same time brings nothing. -/
theorem refill_again (level frac rate cap dt : Nat) :
    refill (refill level frac rate cap dt).1 (refill level frac rate cap dt).2 rate cap 0 = refill level frac rate cap dt := by
  have hour : 0 < hourNs := by decide
  unfold refill
  dsimp only
  split
  next full => simp
  next part =>
    rw [Nat.zero_mul, Nat.add_zero, Nat.div_eq_of_lt (Nat.mod_lt _ hour), Nat.add_zero, if_neg part, Nat.mod_mod]

theorem State.nvmRefill_eq (s : State) :
    s.nvmRefill = s.setNvm { s.nvm.refilled (s.now1 - s.nvm.refillAt) with refillAt := s.now1 } := rfl

theorem State.nvm_nvmRefill (s : State) :
    s.nvmRefill.nvm = { s.nvm.refilled (s.now1 - s.nvm.refillAt) with refillAt := s.now1 } := rfl

/-- The budgets with levels and fractions given. -/
def Nvm.filledWith (v : Nvm) (p e q x : Nat × Nat) : Nvm :=
  { v with
    prog := p.1, progFrac := p.2, erase := e.1, eraseFrac := e.2, spProg := q.1, spProgFrac := q.2, spErase := x.1,
    spEraseFrac := x.2 }

theorem Nvm.refilled_eq (v : Nvm) (dt : Nat) :
    v.refilled dt = v.filledWith (refill v.prog v.progFrac 4194304 4194304 dt) (refill v.erase v.eraseFrac 1024 256 dt)
      (refill v.spProg v.spProgFrac 262144 262144 dt) (refill v.spErase v.spEraseFrac 64 64 dt) := rfl

theorem Nvm.prog_filledWith (v : Nvm) (p e q x : Nat × Nat) :
    (v.filledWith p e q x).prog = p.1 ∧ (v.filledWith p e q x).progFrac = p.2 := ⟨rfl, rfl⟩

/-- What a refill makes of the budget of bytes. -/
theorem Nvm.prog_refilled (v : Nvm) (dt : Nat) :
    (v.refilled dt).prog = (refill v.prog v.progFrac 4194304 4194304 dt).1 ∧
      (v.refilled dt).progFrac = (refill v.prog v.progFrac 4194304 4194304 dt).2 := by
  rw [v.refilled_eq]
  exact v.prog_filledWith _ _ _ _

/-- Neither the time of a refill nor a payment of erases is a matter of the bytes. -/
theorem Nvm.prog_stamped (v : Nvm) (refillAt erase : Nat) :
    ({ v with refillAt } : Nvm).prog = v.prog ∧ ({ v with refillAt } : Nvm).progFrac = v.progFrac ∧
      ({ v with erase } : Nvm).prog = v.prog ∧ ({ v with erase } : Nvm).progFrac = v.progFrac :=
  ⟨rfl, rfl, rfl, rfl⟩

theorem State.prog_nvmRefill (s : State) :
    s.nvmRefill.nvm.prog = (s.nvm.refilled (s.now1 - s.nvm.refillAt)).prog ∧
      s.nvmRefill.nvm.progFrac = (s.nvm.refilled (s.now1 - s.nvm.refillAt)).progFrac := by
  obtain ⟨prog, frac, -, -⟩ := (s.nvm.refilled (s.now1 - s.nvm.refillAt)).prog_stamped s.now1 0
  exact ⟨(congrArg Nvm.prog s.nvm_nvmRefill).trans prog, (congrArg Nvm.progFrac s.nvm_nvmRefill).trans frac⟩

/-- A refill that follows another at once leaves the level of the bytes. -/
theorem Nvm.prog_refilled_again (v : Nvm) (dt : Nat) (w : Nvm) (prog : w.prog = (v.refilled dt).prog)
    (frac : w.progFrac = (v.refilled dt).progFrac) : (w.refilled 0).prog = (v.refilled dt).prog := by
  obtain ⟨first, firstFrac⟩ := v.prog_refilled dt
  rw [(w.prog_refilled 0).1, prog, frac, first, firstFrac, refill_again]

theorem State.setNvm_setNvm (s : State) (v w : Nvm) : (s.setNvm v).setNvm w = s.setNvm w := rfl
theorem State.now1_setNvm (s : State) (v : Nvm) : (s.setNvm v).now1 = s.now1 := rfl
theorem State.nvm_setNvm (s : State) (v : Nvm) : (s.setNvm v).nvm = v := rfl

theorem State.setNvm_nvmRefill (s : State) (w : Nvm) : s.nvmRefill.setNvm w = s.setNvm w := by
  rw [State.nvmRefill_eq, State.setNvm_setNvm]

/-- Erases that are paid leave the budget of bytes as the refill left it. -/
theorem State.prog_payErase (s : State) (n : Nat) : (s.payErase n).nvmRefill.nvm.prog = s.nvmRefill.nvm.prog := by
  obtain ⟨-, -, prog, frac⟩ := s.nvmRefill.nvm.prog_stamped 0 (s.nvmRefill.nvm.erase - n)
  obtain ⟨first, firstFrac⟩ := s.prog_nvmRefill
  have paid : s.payErase n = s.setNvm { s.nvmRefill.nvm with erase := s.nvmRefill.nvm.erase - n } := rfl
  have filled : s.nvmRefill.nvm.refillAt = s.now1 := rfl
  have again := (s.setNvm { s.nvmRefill.nvm with erase := s.nvmRefill.nvm.erase - n }).prog_nvmRefill.1
  rw [State.nvm_setNvm, State.now1_setNvm] at again
  rw [paid, again, filled, Nat.sub_self, first]
  exact Nvm.prog_refilled_again _ _ _ (prog.trans first) (frac.trans firstFrac)

/-- A RESERVE that the level covers (R370). -/
theorem State.doReserve_covered {s : State} {n : Nat} (covers : n ≤ s.nvmRefill.nvm.prog) :
    s.doReserve n = s.setNvm { s.nvmRefill.nvm with prog := s.nvmRefill.nvm.prog - n, reserve := n, reserveOk := true } := by
  rw [← State.setNvm_nvmRefill]
  exact if_neg (Nat.not_lt.mpr covers)

theorem State.doReserve_short {s : State} {n : Nat} (short : s.nvmRefill.nvm.prog < n) :
    s.doReserve n = s.setNvm { s.nvmRefill.nvm with reserve := 0, reserveOk := false } := by
  rw [← State.setNvm_nvmRefill]
  exact if_pos short

theorem State.nextSave_setNvm (s : State) (v : Nvm) : (s.setNvm v).nextSave = s.nextSave := rfl

/-- A save that its budgets allow (R354). -/
theorem State.affSave_allowed {s : State} (erases : s.eraseFits 64 = true) (covers : affBody + 64 ≤ s.nvmRefill.nvm.prog) :
    ∃ v, s.affSave = (s.setNvm v).writeSave := by
  obtain ⟨w, reserved, ok⟩ : ∃ w, (s.payErase 64).doReserve (affBody + 64) = (s.payErase 64).setNvm w ∧ w.reserveOk = true :=
    ⟨_, State.doReserve_covered (by rw [State.prog_payErase]; exact covers), rfl⟩
  obtain ⟨v, paid⟩ : ∃ v, s.payErase 64 = s.setNvm v := ⟨_, rfl⟩
  unfold State.affSave
  dsimp only
  rw [if_neg (by simp [erases]), reserved, paid, State.setNvm_setNvm, State.nvm_setNvm, if_pos ok, State.setNvm_setNvm]
  exact ⟨_, rfl⟩

/-- A save whose erases its budgets do not allow (R354). -/
theorem State.affSave_refused {s : State} (erases : s.eraseFits 64 = false) :
    s.affSave = (s.nvmRefill.nvmRefused (affBody + 64)).saveRefused := if_pos (by simp [erases])

theorem exec_affinageSave {s : State} (ready : s.mp.ready = true) (group : s.groupReady 0 = true) :
    exec .affinageSave s = .next s.affSave := congrArg Host.Outcome.next (if_pos (by simp [ready, group]))

theorem exec_saveDeferred {s : State} (ready : s.mp.ready = true) (group : s.groupReady 0 = true) (deferred : s.affin.deferred = true) :
    exec .saveDeferred s = .next s.affSave := congrArg Host.Outcome.next (if_pos (by simp [ready, group, deferred]))

/-! ### Weights and fill charges (R350, R355) -/

/-- The weight of a tile (R350). -/
def State.weightNow (s : State) (n : Nat) : Nat :=
  if s.isCut n || s.isHeld n then 0 else weightOf s.img.aff (s.tile n).applied.toNat (s.heat n).tj

theorem exec_affWWrite {s : State} (ready : s.mp.ready = true) :
    exec .affWWrite s = .next { s with affin := { s.affin with
      weights := (List.range 64).foldl (fun m t => m.set 0 t (s.weightNow t)) []
      opS := if s.operates then sat32 (s.affin.opS + 1) else s.affin.opS } } :=
  if_neg (by simp [ready])

/-- The tiles that a FILL_CHARGE charges: held and not cut. -/
def State.filledTiles (s : State) : List Nat := (List.range 64).filter fun t => s.isHeld t && !s.isCut t

/-- The charges of the held tiles (R355). -/
def State.fillCharged (s : State) : State :=
  s.forEach s.filledTiles fun u t =>
    u.forEach (blocksOfTile t) fun v k =>
      v.chargeBlock k (fillSum s.rindP k) secondUnits (weightOf s.img.aff s.rindP.fbCurrent (s.heat t).tj)

theorem exec_fillCharge {s : State} (ready : s.mp.ready = true) (group : s.groupReady 0 = true) :
    exec .fillCharge s = .next s.fillCharged := if_neg (by simp [ready, group])

theorem State.fillCharged_none {s : State} (none : ∀ n, n < 64 → s.isHeld n = false ∨ s.isCut n = true) : s.fillCharged = s := by
  have empty : s.filledTiles = [] := List.filter_eq_nil_iff.mpr fun n mem => by
    rcases none n (List.mem_range.mp mem) with free | cut
    · simp [free]
    · simp [cut]
  unfold State.fillCharged
  rw [empty]
  rfl

theorem State.besideCharge_fillCharged (s : State) : s.fillCharged.besideCharge = s.besideCharge :=
  State.besideCharge_forEach _ _ fun _ _ => State.besideCharge_forEach _ _ fun _ _ => State.besideCharge_chargeBlock ..

/-- Settles O46: weights and charges first, then the save and the reservation by what the budgets allow. -/
theorem affinageChargesAndSaves : Obligations.AffinageChargesAndSaves := by
  refine ⟨fun s ready => ?weights, fun s k sigma units w wf flips perturb => ?charge, fun s ready group => ⟨fun none => ?_, ?_⟩,
    fun s still => ?still, fun s ready group => ⟨fun erases => ?_, fun erases covers => ?_, fun deferred => ?_⟩,
    fun s fresh => ?fresh, fun s n ready => ⟨fun covers => ?_, fun short => ?_⟩⟩
  case weights =>
    refine ⟨_, exec_affWWrite ready, fun n inRange => ?_, rfl, rfl⟩
    obtain ⟨-, reads⟩ := Sparse.get_foldl_set (d := 0) (m := []) rfl 0 s.weightNow 64
    have read := reads n
    simp only [Nat.zero_add, Nat.zero_le, true_and, inRange, if_true, Nat.sub_zero] at read
    refine read.trans ?_
    unfold State.weightNow
    simp only [Bool.or_eq_true]
  case charge =>
    obtain ⟨same, other⟩ := State.chargeBlock_counter wf flips perturb k sigma units w
    refine ⟨?_, other⟩
    rcases s.chargeInc_cases (sigma * units * w) with whole | more
    · exact .inl (by rw [same, whole])
    · exact .inr (by rw [same, more, Nat.add_assoc])
  · rw [exec_fillCharge ready group, State.fillCharged_none none]
  · exact ⟨_, exec_fillCharge ready group, State.eq_of_besideCharge s.besideCharge_fillCharged⟩
  case still => exact ⟨if_pos (by simp [still]), if_pos (by simp [still])⟩
  · obtain ⟨v, e, refused⟩ := s.nvmRefused_writes (affBody + 64)
    rw [exec_affinageSave ready group, State.affSave_refused erases, refused]
    exact ⟨_, rfl, rfl, rfl, rfl, _, rfl⟩
  · obtain ⟨v, save⟩ := State.affSave_allowed erases covers
    have saved := (s.setNvm v).writeSave_saved
    rw [State.nextSave_setNvm] at saved
    rw [exec_affinageSave ready group, save]
    exact ⟨_, rfl, State.of_saved saved⟩
  · rw [exec_saveDeferred ready group deferred, exec_affinageSave ready group]
  case fresh => exact congrArg Host.Outcome.next (if_neg (by simp [fresh]))
  · have run : exec (.reserve n) s = .next (s.doReserve n.toNat) := congrArg Host.Outcome.next (if_pos ready)
    rw [run, State.doReserve_covered covers]
  · have run : exec (.reserve n) s = .next (s.doReserve n.toNat) := congrArg Host.Outcome.next (if_pos ready)
    rw [run, State.doReserve_short short]

end Sys2Proof.Machine
end

section
/-!
PROOFS. Heat policy, hard cuts and the heat record (12 R341 to R349; O45).
-/
namespace Sys2Proof.Machine

/-! ### A tile's heat state -/

theorem State.heat_modHeat_listed {s : State} {n : Nat} {f : Heat → Heat} (listed : f (s.heat n) ≠ {}) :
    (s.modHeat n f).heat n = f (s.heat n) := Sparse.get_modify_listed ({} : Heat) s.policy.tiles listed

theorem State.heat_modHeat_other (s : State) {m n : Nat} (f : Heat → Heat) (other : m ≠ n) : (s.modHeat n f).heat m = s.heat m :=
  Sparse.get_modify_other ({} : Heat) s.policy.tiles f other

theorem Heat.ne_default_of_shut {h : Heat} (shut : h.shut = true) : h ≠ {} := fun zero => by
  rw [zero] at shut
  exact Bool.noConfusion shut

/-- A shutdown of the tile is counted, with the times that are left in the window (R346). -/
def Heat.counted (times : List Nat) (h : Heat) : Heat := { h with shutTimes := times }
/-- The tile's shutdown is latched (R346). -/
def Heat.latched (h : Heat) : Heat := { h with shutLatch := true }

theorem Heat.ne_default_of_counted {times : List Nat} (some : times ≠ []) (h : Heat) : h.counted times ≠ {} := fun zero =>
  some (congrArg Heat.shutTimes zero :)

theorem Heat.ne_default_of_latched (h : Heat) : h.latched ≠ {} := fun zero =>
  Bool.noConfusion (congrArg Heat.shutLatch zero : true = false)

/-- A shutdown is counted, and the tile may be latched for it (R346). -/
theorem State.countShutdown_counts (s : State) (n : Nat) :
    ∃ times, times ≠ [] ∧ (s.countShutdown n = s.modHeat n (Heat.counted times) ∨
      ∃ ev, s.countShutdown n = { (s.modHeat n (Heat.counted times)).modHeat n Heat.latched with ev }) := by
  refine ⟨((s.heat n).shutTimes.filter fun x => decide (s.now1 < x + s.img.thermal.windowS * 1000000000)) ++ [s.now1],
    List.append_ne_nil_of_right_ne_nil _ (List.cons_ne_nil _ _), ?_⟩
  unfold State.countShutdown
  dsimp only
  split
  · exact .inr ⟨_, rfl⟩
  · exact .inl rfl

/-- A shutdown that is counted changes the policy's tiles, of them the tile's own shutdowns and their latch, and what is
reported. -/
theorem State.countShutdown_cases (s : State) (n : Nat) :
    (∀ m, m ≠ n → (s.countShutdown n).heat m = s.heat m) ∧
      (∃ shutTimes shutLatch, (s.countShutdown n).heat n = { s.heat n with shutTimes, shutLatch }) ∧
      s.countShutdown n = { s with
        policy := { s.policy with tiles := (s.countShutdown n).policy.tiles }, ev := (s.countShutdown n).ev } := by
  obtain ⟨times, some, counts⟩ := s.countShutdown_counts n
  have own : (s.modHeat n (Heat.counted times)).heat n = (s.heat n).counted times :=
    State.heat_modHeat_listed (Heat.ne_default_of_counted some _)
  have others (m : Nat) (other : m ≠ n) := s.heat_modHeat_other (Heat.counted times) other
  rcases counts with counted | ⟨ev, latched⟩
  · rw [counted]
    exact ⟨others, ⟨times, _, own⟩, rfl⟩
  · rw [latched]
    refine ⟨fun m other => ?_, ⟨times, true, ?_⟩, rfl⟩
    · exact (State.heat_modHeat_other _ Heat.latched other).trans (others m other)
    · have latch : ((s.modHeat n (Heat.counted times)).modHeat n Heat.latched).heat n = _ :=
        State.heat_modHeat_listed (Heat.ne_default_of_latched _)
      rw [own] at latch
      exact latch

/-! ### The policy tick (R341 to R345) -/

/-- All of a state but what a policy tick writes. -/
def State.besidePolicy (s : State) : State :=
  { s with policy := {}, drive := { s.drive with branchMa := [] }, tiles := [], leg := {}, ev := {} }

theorem State.eq_of_besidePolicy {s t : State} (h : t.besidePolicy = s.besidePolicy) :
    t = { s with policy := t.policy, drive := { s.drive with branchMa := t.drive.branchMa }, tiles := t.tiles, leg := t.leg
                 ev := t.ev } :=
  calc t
    _ = { t.besidePolicy with
          policy := t.policy, drive := { t.besidePolicy.drive with branchMa := t.drive.branchMa }, tiles := t.tiles, leg := t.leg
          ev := t.ev } := rfl
    _ = { s with policy := t.policy, drive := { s.drive with branchMa := t.drive.branchMa }, tiles := t.tiles, leg := t.leg
                 ev := t.ev } := by rw [h]; rfl

/-- The policy does not move the readings that a junction estimate is made of. -/
theorem State.junction_besidePolicy (s : State) (n mv ma : Nat) : s.junction n mv ma = s.besidePolicy.junction n mv ma := rfl

/-- A tile's estimate and its derating take their values (R341, R342). -/
def Heat.estimated (tj : Int) (ft : Nat) (h : Heat) : Heat := { h with tj, ft }
/-- The tile is shut down (R345). -/
def Heat.shutDown (h : Heat) : Heat := { h with shut := true }

/-- The tile's part of a policy tick: the estimate, and a shutdown where it begins. -/
theorem State.policyTile_steps (s : State) (mv ma n : Nat) :
    ∃ tj ft,
      ((ofS124 s.img.thermal.shutC ≤ s.junction n mv ma → (s.heat n).shut = true) ∧
        ∃ ev, s.policyTile mv ma n = { s.modHeat n (Heat.estimated tj ft) with ev }) ∨
      ∃ leg ev, s.policyTile mv ma n =
        ({ (s.modHeat n (Heat.estimated tj ft)).modHeat n Heat.shutDown with leg, ev } : State).countShutdown n := by
  let tj := s.junction n mv ma
  let ft := s.derate tj
  let u := s.modHeat n (Heat.estimated tj ft)
  let begins := decide (ft < fxOne)
  obtain ⟨ev, reported⟩ : ∃ ev, u.cond (begins ≠ decide ((s.heat n).ft < fxOne))
      (fun x => x.raiseRated 0x0905 n [(1, n), (1, b2n begins)]) = { u with ev } := by
    obtain ⟨ev, raised⟩ := u.raiseRatedN_ev 0x0905 n 1 [(1, n), (1, b2n begins)]
    unfold State.cond
    split
    · exact ⟨ev, raised⟩
    · exact ⟨u.ev, rfl⟩
  have run : s.policyTile mv ma n =
      if !(s.heat n).shut && decide (ofS124 s.img.thermal.shutC ≤ tj) then
        (((({ u with ev } : State).modHeat n Heat.shutDown).raise 0x0906 [(1, n), (2, toField 16 (toS124 tj))]).legStatus 5).countShutdown n
      else { u with ev } := by
    rw [← reported]
    rfl
  refine ⟨tj, ft, ?_⟩
  rw [run]
  split
  · obtain ⟨leg, status, -⟩ :=
      ((({ u with ev } : State).modHeat n Heat.shutDown).raise 0x0906 [(1, n), (2, toField 16 (toS124 tj))]).legStatus_leg 5
    exact .inr ⟨leg, _, congrArg (State.countShutdown · n) status⟩
  next stays => exact .inl ⟨fun hot => by simpa [tj, hot] using stays, ev, rfl⟩

/-- The tile's part of a policy tick: a tile whose estimate reaches SHUT_C ends shut down, the other tiles keep their heat state,
and the rest stays. -/
theorem State.policyTile_cases (s : State) (mv ma n : Nat) :
    (ofS124 s.img.thermal.shutC ≤ s.junction n mv ma → ((s.policyTile mv ma n).heat n).shut = true) ∧
      (∀ m, m ≠ n → (s.policyTile mv ma n).heat m = s.heat m) ∧ (s.policyTile mv ma n).besidePolicy = s.besidePolicy := by
  obtain ⟨tj, ft, ⟨stays, ev, run⟩ | ⟨leg, ev, run⟩⟩ := s.policyTile_steps mv ma n
  · rw [run]
    refine ⟨fun hot => ?_, fun m other => s.heat_modHeat_other _ other, rfl⟩
    have kept : (s.modHeat n (Heat.estimated tj ft)).heat n = (s.heat n).estimated tj ft :=
      State.heat_modHeat_listed (Heat.ne_default_of_shut (stays hot))
    exact (congrArg Heat.shut kept).trans (stays hot)
  · let shut := (s.modHeat n (Heat.estimated tj ft)).modHeat n Heat.shutDown
    have own : (shut.heat n).shut = true :=
      congrArg Heat.shut (State.heat_modHeat_listed (f := Heat.shutDown) (Heat.ne_default_of_shut rfl))
    obtain ⟨others, ⟨times, latch, same⟩, frame⟩ := ({ shut with leg, ev } : State).countShutdown_cases n
    rw [run]
    refine ⟨fun _ => (congrArg Heat.shut same).trans own, fun m other => ?_, ?_⟩
    · exact (others m other).trans ((State.heat_modHeat_other _ _ other).trans (s.heat_modHeat_other _ other))
    · rw [frame]
      rfl

/-- A control word for a tile changes the tiles alone. -/
theorem State.sendCurSet_tiles (s : State) (n : Nat) :
    (∀ m, m ≠ n → (s.sendCurSet n).tile m = s.tile m) ∧ ((s.tile n).req = 0 → ((s.sendCurSet n).tile n).req = 0) ∧
      s.sendCurSet n = { s with tiles := (s.sendCurSet n).tiles } := by
  unfold State.sendCurSet State.sendCtl
  split
  · refine ⟨fun m other => s.tile_modTile_other _ other, fun zero => ?_, rfl⟩
    rw [State.tile_modTile_listed fun listed => ?_]
    · exact zero
    · have none : (s.tile n).req = 160 := (congrArg Tile.req listed :)
      exact absurd (zero.symm.trans none) (by decide)
  · exact ⟨fun _ _ => rfl, id, rfl⟩

/-- A request changes its tile and what is reported; a request of 0 stands, in whatever form the map of tiles is. -/
theorem State.setRequest_cases (s : State) (n q : Nat) :
    (∀ m, m ≠ n → (s.setRequest n q).tile m = s.tile m) ∧ (q = 0 → ((s.setRequest n q).tile n).req = 0) ∧
      s.setRequest n q = { s with tiles := (s.setRequest n q).tiles, ev := (s.setRequest n q).ev } := by
  let set := s.modTile n (Tile.requested q (decide (s.fusedCeil n < q)))
  have own (zero : q = 0) : (set.tile n).req = 0 := by
    subst zero
    refine congrArg Tile.req (State.tile_modTile_listed fun listed => ?_)
    have default : (0 : BitVec 8) = 160 := (congrArg Tile.req listed :)
    exact absurd default (by decide)
  have others (m : Nat) (other : m ≠ n) : set.tile m = s.tile m := s.tile_modTile_other _ other
  obtain ⟨sentOthers, sentOwn, sentFrame⟩ := set.sendCurSet_tiles n
  let sent := set.cond (decide ((s.tile n).req.toNat ≠ q % 256)) fun v => v.sendCurSet n
  have requested : s.setRequest n q = sent.cond (decide (s.fusedCeil n < q) && !(s.tile n).ceilSeen) fun v =>
    v.raiseRated 0x0601 n [(1, n)] := rfl
  obtain ⟨ev, raised⟩ : ∃ ev, s.setRequest n q = { sent with ev } := by
    obtain ⟨ev, raised⟩ := sent.raiseRatedN_ev 0x0601 n 1 [(1, n)]
    rw [requested]
    unfold State.cond
    split
    · exact ⟨ev, raised⟩
    · exact ⟨sent.ev, rfl⟩
  rw [raised]
  have cases : sent = set.sendCurSet n ∨ sent = set := by
    show set.cond _ _ = _ ∨ set.cond _ _ = _
    unfold State.cond
    split
    · exact .inl rfl
    · exact .inr rfl
  rcases cases with forwarded | same
  · rw [forwarded]
    refine ⟨fun m other => (sentOthers m other).trans (others m other), fun zero => sentOwn (own zero), ?_⟩
    rw [sentFrame]
    rfl
  · rw [same]
    exact ⟨others, own, rfl⟩

/-- The branch currents as a policy tick takes them. -/
def State.withBranches (s : State) (branch : List Nat) : State :=
  { s with drive := { s.drive with branchMa := [0, 1, 2, 3].foldl (fun m q => m.set 0 q (branch.getD q 0)) s.drive.branchMa } }

/-- Every tile's part of a policy tick. -/
def State.policyTiles (s : State) (mv : Nat) (branch : List Nat) : State :=
  (s.withBranches branch).forEach (List.range 64) fun u t => u.policyTile mv (branch.getD (quadOfTile t) 0) t

/-- f_p takes its value (R343). -/
def State.withPower (s : State) (fp : Nat) : State := { s with policy := { s.policy with fp } }

theorem State.heat_withPower (s : State) (fp n : Nat) : (s.withPower fp).heat n = s.heat n := rfl
theorem State.fp_withPower (s : State) (fp : Nat) : (s.withPower fp).policy.fp = fp := rfl
theorem State.besidePolicy_withPower (s : State) (fp : Nat) : (s.withPower fp).besidePolicy = s.besidePolicy := rfl

/-- An event that may be raised leaves the policy. -/
theorem State.policy_cond_raise (s : State) (c : Bool) (code : Nat) (data : List (Nat × Nat)) :
    (s.cond c fun u => u.raise code data).policy = s.policy ∧
      (s.cond c fun u => u.raise code data).besidePolicy = s.besidePolicy := by
  cases c <;> exact ⟨rfl, rfl⟩

theorem State.policyTiles_cases (s : State) (mv : Nat) (branch : List Nat) :
    (∀ n < 64, ofS124 s.img.thermal.shutC ≤ s.junction n mv (branch.getD (quadOfTile n) 0) →
      ((s.policyTiles mv branch).heat n).shut = true) ∧ (s.policyTiles mv branch).besidePolicy = s.besidePolicy := by
  have beside (u : State) (i : Nat) :
      (u.policyTile mv (branch.getD (quadOfTile i) 0) i).besidePolicy = u.besidePolicy := (u.policyTile_cases ..).2.2
  refine ⟨fun n inRange hot => ?_, State.forEach_leaves (g := State.besidePolicy) beside (s.withBranches branch) _⟩
  refine State.forEach_reaches (I := fun u => u.besidePolicy = s.besidePolicy) (P := fun u => (u.heat n).shut = true)
    (fun u i same => (beside u i).trans same) (fun u same => ?_) (fun u i other shut => ?_) (List.mem_range.mpr inRange) rfl
  · refine (u.policyTile_cases ..).1 ?_
    have image : u.img = s.img := (congrArg State.img same :)
    rw [image, u.junction_besidePolicy, same, ← s.junction_besidePolicy]
    exact hot
  · rw [(u.policyTile_cases ..).2.1 n other.symm]
    exact shut

/-- The tiles' requests as the policy has them (R344). -/
def State.policyRequests (s : State) (ts : List Nat) : State := s.forEach ts fun u t => u.setRequest t (u.policyRequest t)

/-- All of a state but the tiles and what is reported. -/
def State.besideRequests (s : State) : State := { s with tiles := [], ev := {} }

theorem State.besideRequests_setRequest (s : State) (n q : Nat) : (s.setRequest n q).besideRequests = s.besideRequests :=
  (congrArg State.besideRequests (s.setRequest_cases n q).2.2 :)

theorem State.policyRequests_frame (s : State) (ts : List Nat) :
    s.policyRequests ts = { s with tiles := (s.policyRequests ts).tiles, ev := (s.policyRequests ts).ev } := by
  have beside : (s.policyRequests ts).besideRequests = s.besideRequests :=
    State.forEach_leaves (g := State.besideRequests) (fun u i => u.besideRequests_setRequest i _) s ts
  generalize s.policyRequests ts = t at beside
  exact (congrArg (fun u : State => { u with tiles := t.tiles, ev := t.ev }) beside :)

/-- A tile that is shut down asks for 0. -/
theorem State.req_policyRequests {s : State} {ts : List Nat} {n : Nat} (shut : (s.heat n).shut = true) (mem : n ∈ ts) :
    ((s.policyRequests ts).tile n).req = 0 := by
  have policy (u : State) (i q : Nat) : (u.setRequest i q).policy = u.policy :=
    (congrArg State.policy (u.besideRequests_setRequest i q) :)
  refine State.forEach_reaches (I := fun u => u.policy = s.policy) (P := fun u => (u.tile n).req = 0)
    (fun u i same => (policy u i _).trans same) (fun u same => ?_) (fun u i other zero => ?_) mem rfl
  · have still : (u.heat n).shut = true := by unfold State.heat; rw [same]; exact shut
    exact (u.setRequest_cases n _).2.1 (if_pos (by simp [State.isShut, still]))
  · rw [(u.setRequest_cases i _).1 n other.symm]
    exact zero

/-- A policy tick (R341 to R345): f_p takes its value, a tile whose estimate reaches SHUT_C is shut down and asks for 0. -/
theorem exec_mpPolicyTick {s : State} (ready : s.mp.ready = true) (mv ma : Nat) (branch : List Nat) :
    ∃ t, exec (.mpPolicyTick mv ma branch) s = .next t ∧ t.policy.fp = nextPower s.policy.fp mv ma ∧
      (∀ n, n < 64 → (s.heat n).shut = false → ofS124 s.img.thermal.shutC ≤ s.junction n mv (branch.getD (quadOfTile n) 0) →
        (t.heat n).shut = true ∧ (t.tile n).req = 0) ∧
      t = { s with policy := t.policy, drive := { s.drive with branchMa := t.drive.branchMa }, tiles := t.tiles, leg := t.leg
                   ev := t.ev } := by
  let fp := nextPower s.policy.fp mv ma
  let powered := (s.policyTiles mv branch).withPower fp
  let u := powered.cond (decide (fp < fxOne) ≠ decide (s.policy.fp < fxOne)) fun u => u.raise 0x090C [(2, powerField fp)]
  have run : exec (.mpPolicyTick mv ma branch) s = .next (u.policyRequests (List.range 64)) := by
    show execMpPolicyTick mv ma branch s = _
    unfold execMpPolicyTick
    rw [if_neg (by simp [ready])]
    dsimp only [u, powered, fp, State.policyRequests, State.withPower, State.policyTiles, State.withBranches]
  obtain ⟨shut, beside⟩ := s.policyTiles_cases mv branch
  obtain ⟨policy, rest⟩ := powered.policy_cond_raise (decide (fp < fxOne) ≠ decide (s.policy.fp < fxOne)) 0x090C
    [(2, powerField fp)]
  rw [State.besidePolicy_withPower] at rest
  have frame := u.policyRequests_frame (List.range 64)
  have kept : (u.policyRequests (List.range 64)).policy = u.policy := (congrArg State.policy frame :)
  have heat (n : Nat) : u.heat n = (s.policyTiles mv branch).heat n := by
    rw [← (s.policyTiles mv branch).heat_withPower fp]
    exact congrArg (fun p : Policy => p.tiles.get ({} : Heat) n) policy
  have asked (n : Nat) (inRange : n < 64) (still : (u.heat n).shut = true) :
      ((u.policyRequests (List.range 64)).tile n).req = 0 := State.req_policyRequests still (List.mem_range.mpr inRange)
  generalize u.policyRequests (List.range 64) = t at run frame kept asked
  refine ⟨t, run, ?_, fun n inRange _ hot => ?_, State.eq_of_besidePolicy ?_⟩
  · rw [kept, policy, State.fp_withPower]
  · have still : (u.heat n).shut = true := by
      rw [heat]
      exact shut n inRange hot
    have same : t.heat n = u.heat n := congrArg (fun p : Policy => p.tiles.get ({} : Heat) n) kept
    exact ⟨(congrArg Heat.shut same).trans still, asked n inRange still⟩
  · exact (congrArg State.besidePolicy frame).trans (rest.trans beside)

/-- A quotient that is at most a whole number is not rounded above it. -/
theorem rdivNat_le {a b n : Nat} (h : a ≤ n * b) : rdivNat a b ≤ n := by
  have le : a / b ≤ n := Nat.div_le_of_le_mul (by rwa [Nat.mul_comm])
  by_cases small : a / b < n
  · unfold rdivNat
    dsimp only
    split
    · exact le
    split
    · exact small
    split
    · exact le
    · exact small
  · have quotient : a / b = n := by omega
    have whole : a % b = 0 := by
      have parts := Nat.div_add_mod a b
      rw [quotient, Nat.mul_comm b n] at parts
      omega
    rcases Nat.eq_zero_or_pos b with rfl | positive
    · have zero : a = 0 := by simpa using h
      simp [rdivNat, zero]
    · simp [rdivNat, whole, positive, le]

/-- f_p stays at most 1, and does not fall while the power is within its limit (R343). -/
theorem nextPower_bounds {fp : Nat} (le : fp ≤ fxOne) (mv ma : Nat) :
    nextPower fp mv ma ≤ fxOne ∧ (mv * ma * 10 ≤ 9 * min (12000 * mv) 40000000 → fp ≤ nextPower fp mv ma) := by
  unfold nextPower
  dsimp only
  split
  next exceeds =>
    exact ⟨(rdivNat_le (Nat.mul_le_mul_left fp exceeds.le)).trans le, fun within => absurd within (Nat.not_le.mpr exceeds)⟩
  next => exact ⟨Nat.min_le_left _ _, fun _ => Nat.le_min.mpr ⟨le, Nat.le_add_right _ _⟩⟩

/-- A shut tile below RETRY_C returns (R345). -/
theorem exec_shutdownRetry {s : State} {n : Fin 64} (ready : s.mp.ready = true) (shut : (s.heat n).shut = true)
    (cool : (s.heat n).tj < ofS124 s.img.thermal.retryC) :
    exec (.shutdownRetry n) s = .next ((s.modHeat n fun x => { x with shut := false }).raise 0x0907
      [(1, n.val), (2, toField 16 (toS124 (s.heat n).tj))]) :=
  if_pos (by simp [ready, shut, cool])

/-! ### Hard cuts (R346, R347) -/

/-- All of a state but what a hard cut writes. -/
def State.besideHardCut (s : State) : State := { s with policy := {}, safety := {}, leg := {}, ev := {} }

theorem State.eq_of_besideHardCut {s t : State} (h : t.besideHardCut = s.besideHardCut) :
    t = { s with policy := t.policy, safety := t.safety, leg := t.leg, ev := t.ev } :=
  calc t
    _ = { t.besideHardCut with policy := t.policy, safety := t.safety, leg := t.leg, ev := t.ev } := rfl
    _ = { s with policy := t.policy, safety := t.safety, leg := t.leg, ev := t.ev } := by rw [h]; rfl

/-- The tile's hard cuts of the last 600 s, this one with them. -/
def State.cutTimesNext (s : State) (n : Nat) : List Nat :=
  ((s.heat n).cutTimes.filter fun x => decide (s.clk.tb3 < x + 600000000000)) ++ [s.clk.tb3]

/-- A hard cut is entered in the tile's heat state, with its latch. -/
def Heat.cut (times : List Nat) (latch : Bool) (h : Heat) : Heat := { h with cutTimes := times, cutLatch := h.cutLatch || latch }

/-- A hard cut of a tile in its parts: it is entered, the line falls, a latch is reported, and a shutdown is counted. -/
theorem State.cutTile_steps (s : State) (n : Nat) :
    ∃ ev, let entered := (s.modHeat n (Heat.cut (s.cutTimesNext n)
        (decide (3 ≤ (s.cutTimesNext n).length) && !(s.heat n).cutLatch))).setCut n kHeat true
      s.cutTile n = { entered with ev } ∨ s.cutTile n = ({ entered with ev } : State).countShutdown n := by
  let latch := decide (3 ≤ (s.cutTimesNext n).length) && !(s.heat n).cutLatch
  let entered := (s.modHeat n (Heat.cut (s.cutTimesNext n) latch)).setCut n kHeat true
  let v := entered.cond latch fun x => (x.setFlag fThermalLatch).raise 0x0909 [(1, n), (1, 6)]
  have run : s.cutTile n = v.cond v.mp.ready fun x => x.countShutdown n := rfl
  obtain ⟨ev, reported⟩ : ∃ ev, v = { entered with ev } := by
    show ∃ ev, entered.cond latch _ = _
    cases latch
    · exact ⟨entered.ev, rfl⟩
    · exact ⟨_, rfl⟩
  refine ⟨ev, ?_⟩
  rw [run]
  cases v.mp.ready
  · exact .inl reported
  · exact .inr (congrArg (State.countShutdown · n) reported)

/-- A hard cut of a tile (R346): its line falls, the third within 600 s is latched, the other tiles keep their heat state and
their cuts. -/
theorem State.cutTile_cases (s : State) (n : Nat) :
    (s.cutTile n).safety.cuts.get 0 n ≠ 0 ∧
      (2 ≤ ((s.heat n).cutTimes.filter fun x => decide (s.clk.tb3 < x + 600000000000)).length ∨ (s.heat n).cutLatch = true →
        ((s.cutTile n).heat n).cutLatch = true) ∧
      (∀ m, m ≠ n → (s.cutTile n).heat m = s.heat m ∧ (s.cutTile n).safety.cuts.get 0 m = s.safety.cuts.get 0 m) ∧
      (s.cutTile n).policy.cuts = s.policy.cuts ∧ (s.cutTile n).besideHardCut = s.besideHardCut := by
  obtain ⟨ev, cases⟩ := s.cutTile_steps n
  let latch := decide (3 ≤ (s.cutTimesNext n).length) && !(s.heat n).cutLatch
  let marked := s.modHeat n (Heat.cut (s.cutTimesNext n) latch)
  let entered : State := { marked.setCut n kHeat true with ev }
  have rest := (marked.setCut_cases n kHeat true).2
  have policy : entered.policy = marked.policy := (congrArg State.policy rest :)
  have some : s.cutTimesNext n ≠ [] := List.append_ne_nil_of_right_ne_nil _ (List.cons_ne_nil _ _)
  have heat (m : Nat) : entered.heat m = marked.heat m := congrArg (fun p : Policy => p.tiles.get ({} : Heat) m) policy
  have own : entered.heat n = (s.heat n).cut (s.cutTimesNext n) latch :=
    (heat n).trans (State.heat_modHeat_listed fun zero => some (congrArg Heat.cutTimes zero :))
  have others (m : Nat) (other : m ≠ n) : entered.heat m = s.heat m := (heat m).trans (s.heat_modHeat_other _ other)
  have low : entered.safety.cuts.get 0 n ≠ 0 := by
    have set := marked.cuts_setCut n kHeat (on := true) (setBit_true_ne_zero _ (by decide))
    exact fun zero => setBit_true_ne_zero _ (by decide) (set.symm.trans zero)
  have otherCuts (m : Nat) (other : m ≠ n) : entered.safety.cuts.get 0 m = s.safety.cuts.get 0 m :=
    marked.cuts_setCut_other kHeat true other
  have latched (third : 2 ≤ ((s.heat n).cutTimes.filter fun x => decide (s.clk.tb3 < x + 600000000000)).length ∨
      (s.heat n).cutLatch = true) : (entered.heat n).cutLatch = true := by
    rw [own]
    show ((s.heat n).cutLatch || latch) = true
    rcases third with third | already
    · have count : 3 ≤ (s.cutTimesNext n).length := by
        unfold State.cutTimesNext
        rw [List.length_append]
        exact Nat.succ_le_succ third
      simp [latch, count]
    · rw [already]
      rfl
  have cutsKept : entered.policy.cuts = s.policy.cuts := (congrArg Policy.cuts policy :)
  have beside : entered.besideHardCut = s.besideHardCut := (congrArg State.besideHardCut rest :)
  rcases cases with run | run
  · rw [run]
    exact ⟨low, latched, fun m other => ⟨others m other, otherCuts m other⟩, cutsKept, beside⟩
  · obtain ⟨countOthers, ⟨times, shut, countOwn⟩, frame⟩ := entered.countShutdown_cases n
    have safety : (entered.countShutdown n).safety = entered.safety := (congrArg State.safety frame :)
    rw [run]
    refine ⟨?_, fun third => ?_, fun m other => ⟨(countOthers m other).trans (others m other), ?_⟩, ?_, ?_⟩
    · rw [safety]
      exact low
    · rw [countOwn]
      exact latched third
    · rw [safety]
      exact otherCuts m other
    · exact (congrArg (·.policy.cuts) frame :).trans cutsKept
    · exact (congrArg State.besideHardCut frame).trans beside

/-- The cuts of a target's tiles (R347). -/
theorem State.cutTiles_cases (s : State) (ns : List Nat) :
    let t := s.forEach ns State.cutTile
    (∀ n ∈ ns, t.isCut n = true) ∧
      (∀ n ∈ ns, 2 ≤ ((s.heat n).cutTimes.filter fun x => decide (s.clk.tb3 < x + 600000000000)).length →
        (t.heat n).cutLatch = true) ∧
      t.policy.cuts = s.policy.cuts ∧ t.besideHardCut = s.besideHardCut := by
  have beside (u : State) (i : Nat) : (u.cutTile i).besideHardCut = u.besideHardCut := (u.cutTile_cases i).2.2.2.2
  refine ⟨fun n mem => State.isCut_of_reason ?_, fun n mem third => ?_, ?_, ?_⟩
  · refine State.forEach_reaches (I := fun _ => True) (P := fun u => u.safety.cuts.get 0 n ≠ 0) (fun _ _ _ => trivial)
      (fun u _ => (u.cutTile_cases n).1) (fun u i other cut => ?_) mem trivial
    rw [((u.cutTile_cases i).2.2.1 n other.symm).2]
    exact cut
  · have make (u : State) (h : u.clk = s.clk ∧ (u.heat n = s.heat n ∨ (u.heat n).cutLatch = true)) :
        ((u.cutTile n).heat n).cutLatch = true := by
      obtain ⟨clk, same | latched⟩ := h
      · refine (u.cutTile_cases n).2.1 (.inl ?_)
        rw [same, clk]
        exact third
      · exact (u.cutTile_cases n).2.1 (.inr latched)
    refine State.forEach_reaches (I := fun u => u.clk = s.clk ∧ (u.heat n = s.heat n ∨ (u.heat n).cutLatch = true))
      (P := fun u => (u.heat n).cutLatch = true) (fun u i h => ⟨?_, ?_⟩) make (fun u i other latched => ?_) mem
      ⟨rfl, .inl rfl⟩
    · exact (congrArg State.clk (beside u i) :).trans h.1
    · by_cases own : i = n
      · exact .inr (own ▸ make u h)
      · rw [((u.cutTile_cases i).2.2.1 n (Ne.symm own)).1]
        exact h.2
    · rw [((u.cutTile_cases i).2.2.1 n other.symm).1]
      exact latched
  · exact State.forEach_leaves (g := fun u : State => u.policy.cuts) (fun u i => (u.cutTile_cases i).2.2.2.1) s ns
  · exact State.forEach_leaves (g := State.besideHardCut) beside s ns

/-- The hard cut of a target is entered. -/
theorem State.hcut_setHcut_listed (s : State) (g : Nat) {c : HCut} (listed : c ≠ {}) : (s.setHcut g c).hcut g = c :=
  Sparse.get_set_listed ({} : HCut) s.policy.cuts g listed

/-- A hard cut (R346, R347): the tiles of the target are cut, and latched the third time. -/
theorem exec_hardCut {s : State} {g : Fin 68} (decides : s.cutDecides g ≠ []) (free : (s.hcut g).cut = false) :
    ∃ t, exec (.hardCut g) s = .next t ∧ (t.hcut g).cut = true ∧ (t.hcut g).srcs = s.cutDecides g ∧
      (∀ n ∈ cutTiles g, t.isCut n = true) ∧
      (∀ n ∈ cutTiles g, 2 ≤ ((s.heat n).cutTimes.filter fun x => decide (s.clk.tb3 < x + 600000000000)).length →
        (t.heat n).cutLatch = true) ∧
      t = { s with policy := t.policy, safety := t.safety, leg := t.leg, ev := t.ev } := by
  let set := (s.setHcut g { cut := true, srcs := s.cutDecides g }).raise 0x0909 [(1, g.val), (1, 4)]
  have run : exec (.hardCut g) s = .next ((set.legStatus 5).forEach (cutTiles g) State.cutTile) := if_neg (by simp [decides, free])
  obtain ⟨leg, status, -⟩ := set.legStatus_leg 5
  rw [status] at run
  obtain ⟨cuts, latches, cutsKept, beside⟩ := ({ set with leg } : State).cutTiles_cases (cutTiles g)
  generalize ({ set with leg } : State).forEach (cutTiles g) State.cutTile = t at run cuts latches cutsKept beside
  have entered : t.hcut g = { cut := true, srcs := s.cutDecides g } := by
    refine (congrArg (fun m : Sparse HCut => m.get ({} : HCut) g) cutsKept).trans (s.hcut_setHcut_listed g fun zero => ?_)
    exact Bool.noConfusion (congrArg HCut.cut zero : true = false)
  exact ⟨t, run, congrArg HCut.cut entered, congrArg HCut.srcs entered, cuts, latches, State.eq_of_besideHardCut beside⟩

/-- The lines of a target's tiles after its release: they follow what else holds a tile (R347). -/
def State.releaseCuts (s : State) (ns : List Nat) : State := s.forEach ns fun v t => v.setCut t kHeat (v.heatHeld t)

theorem State.releaseCuts_cases (s : State) (ns : List Nat) :
    (∀ n ∈ ns, (s.heat n).cutLatch = true → (s.releaseCuts ns).isCut n = true) ∧
      (s.releaseCuts ns).besideCuts = s.besideCuts := by
  have beside (u : State) (i : Nat) : (u.setCut i kHeat (u.heatHeld i)).besideCuts = u.besideCuts := (u.setCut_cases ..).2
  refine ⟨fun n mem latched => State.isCut_of_reason ?_, State.forEach_leaves (g := State.besideCuts) beside s ns⟩
  refine State.forEach_reaches (f := fun v t => v.setCut t kHeat (v.heatHeld t)) (I := fun u => u.policy = s.policy) (P := fun u => u.safety.cuts.get 0 n ≠ 0)
    (fun u i same => (congrArg State.policy (beside u i) :).trans same) (fun u same => ?_) (fun u i other cut => ?_) mem rfl
  · have held : u.heatHeld n = true := by
      have latch : (u.heat n).cutLatch = true := by unfold State.heat; rw [same]; exact latched
      simp [State.heatHeld, latch]
    rw [held, u.cuts_setCut n kHeat (setBit_true_ne_zero _ (by decide))]
    exact setBit_true_ne_zero _ (by decide)
  · rw [u.cuts_setCut_other kHeat _ other.symm]
    exact cut

/-- The release of a hard cut (R347): what else holds a tile keeps it cut. -/
theorem exec_hardCutRelease {s : State} {g : Fin 68} (cut : (s.hcut g).cut = true)
    (cool : ∀ x ∈ (s.hcut g).srcs, s.readsHot x coolRaw = false) :
    ∃ t, exec (.hardCutRelease g) s = .next t ∧ t.policy.cuts = s.policy.cuts.set {} g {} ∧
      (∀ n ∈ cutTiles g, (s.heat n).cutLatch = true → t.isCut n = true) ∧
      t = { s with policy := t.policy, safety := t.safety, ev := t.ev } := by
  let freed := (s.setHcut g {}).raise 0x0909 [(1, g.val), (1, 5)]
  have run : exec (.hardCutRelease g) s = .next (freed.releaseCuts (cutTiles g)) := if_neg (by simpa [cut] using cool)
  obtain ⟨held, beside⟩ := freed.releaseCuts_cases (cutTiles g)
  generalize freed.releaseCuts (cutTiles g) = t at run held beside
  refine ⟨t, run, (congrArg (·.policy.cuts) beside :), held, ?_⟩
  rw [State.eq_of_besideCuts beside]
  rfl

/-! ### The heat record (R349) -/

theorem State.length_heatEntry (s : State) (seq kind target : Nat) : (s.heatEntry seq kind target).length = 64 := by
  simp [State.heatEntry, withCrc, length_leBytes]

/-- A ring with no byte written has no last record. -/
theorem State.ringLast_blank {s : State} {base n : Nat} (blank : ∀ c ∈ s.flash.recs, c.1 < base ∨ base + 64 * n ≤ c.1)
    (ok : List Byte → Bool) (num : List Byte → Nat) : s.ringLast base n ok num = none := by
  refine if_neg fun written => ?_
  obtain ⟨c, mem, inside⟩ := List.any_eq_true.mp written
  have outside := blank c mem
  simp only [Bool.and_eq_true, decide_eq_true_eq] at inside
  omega

/-- A record that is put into a sector erased for it is read back from there. -/
theorem State.flashProgram_afterErase {s : State} (wf : s.MemoryWf) {a : Nat} {bs : List Byte} (record : 0x1800000 ≤ a)
    (sector : a % 4096 + bs.length ≤ 4096) :
    let t := (s.flashErase a).flashProgram a bs
    t.flash.bytes a bs.length = bs ∧ t.flash.slotA = s.flash.slotA ∧ t.flash.slotB = s.flash.slotB ∧
      t = { s with flash := t.flash, affin := t.affin, ev := t.ev } := by
  obtain ⟨-, recs, slotA, slotB, -⟩ := s.memoryWf_flashErase a wf
  obtain ⟨flash, frame⟩ := s.flashErase_frame a
  have erased (i : Nat) (inside : i < bs.length) : (s.flashErase a).flash.byte (a + i) = 0xFF := by
    rw [flash, Flash.byte_erased_record _ record, if_pos (by omega)]
  have written := State.flashProgram_erased recs erased
  have slots : (s.flash.erased a).slotA = s.flash.slotA ∧ (s.flash.erased a).slotB = s.flash.slotB := by
    unfold Flash.erased
    rw [if_neg (by omega), if_neg (by omega)]
    exact ⟨rfl, rfl⟩
  have put (f : Flash) : (f.put a bs).slotA = f.slotA ∧ (f.put a bs).slotB = f.slotB := by
    unfold Flash.put
    rw [if_neg (by omega), if_neg (by omega)]
    exact ⟨rfl, rfl⟩
  obtain ⟨recsAfter, -⟩ := (s.flashErase a).flash.wf_put a bs ⟨recs, slotA, slotB⟩
  rw [written]
  refine ⟨?_, (put _).1.trans (flash ▸ slots.1), (put _).2.trans (flash ▸ slots.2), ?_⟩
  · rw [Flash.bytes_eq_map_byte recsAfter]
    apply List.ext_getElem
    · simp
    · intro i inside _
      have inside : i < bs.length := by simpa using inside
      simp [Flash.byte_put_record recs record, inside]
  · rw [frame]

/-- What the reserved path's budget allows is written into the sector erased for it (R369). -/
theorem State.reservedWrite_erasing {s : State} {bs : List Byte} (a : Nat) (fits : s.spFits bs.length 1 = true) :
    ∃ nvm, s.reservedWrite a bs true = ((s.setNvm nvm).flashErase a).flashProgram a bs := by
  obtain ⟨nvm, paid⟩ : ∃ nvm, s.paySp bs.length 1 = s.setNvm nvm := ⟨_, rfl⟩
  have one : b2n true = 1 := rfl
  unfold State.reservedWrite
  rw [one, if_pos fits, paid]
  exact ⟨nvm, rfl⟩

/-- Where no record stands the next one is the first. -/
theorem exec_heatRecordWrite_blank {s : State} {kind : Fin 7} {g : Fin 68} (given : kind.val ≠ 0) (runs : s.sp.running = true)
    (blank : ∀ c ∈ s.flash.recs, c.1 < heatBase ∨ heatBase + 8192 ≤ c.1) :
    exec (.heatRecordWrite kind g) s = .next (s.reservedWrite heatBase (s.heatEntry 0 kind.val g) true) := by
  show execHeatRecordWrite kind g s = _
  unfold execHeatRecordWrite
  rw [if_neg (by simp [given, runs]), State.ringLast_blank blank]
  simp only [Nat.mul_zero, Nat.add_zero, Nat.zero_mod, decide_true]

/-- The SP's first heat record (R349) stands in the flash as it was written. -/
theorem exec_heatRecordWrite_first {s : State} {kind : Fin 7} {g : Fin 68} (wf : s.MemoryWf) (given : kind.val ≠ 0)
    (runs : s.sp.running = true) (blank : ∀ c ∈ s.flash.recs, c.1 < heatBase ∨ heatBase + 8192 ≤ c.1)
    (fits : s.spFits 64 1 = true) :
    ∃ t, exec (.heatRecordWrite kind g) s = .next t ∧ t.flash.bytes heatBase 64 = s.heatEntry 0 kind.val g ∧
      t.flash.slotA = s.flash.slotA ∧ t.flash.slotB = s.flash.slotB ∧
      t = { s with flash := t.flash, nvm := t.nvm, affin := t.affin, ev := t.ev } := by
  have length := s.length_heatEntry 0 kind.val g
  have run := exec_heatRecordWrite_blank (g := g) given runs blank
  obtain ⟨nvm, written⟩ := State.reservedWrite_erasing (bs := s.heatEntry 0 kind.val g) heatBase (by rw [length]; exact fits)
  rw [written] at run
  obtain ⟨bytes, slotA, slotB, frame⟩ := State.flashProgram_afterErase (s := s.setNvm nvm) wf (a := heatBase)
    (bs := s.heatEntry 0 kind.val g) (by decide) (by rw [length]; decide)
  rw [length] at bytes
  generalize ((s.setNvm nvm).flashErase heatBase).flashProgram heatBase (s.heatEntry 0 kind.val g) = t at run bytes slotA slotB frame
  refine ⟨t, run, bytes, slotA, slotB, ?_⟩
  rw [frame]
  rfl

/-- Settles O45: the tick by its parts at a tile, the hard cut by what one tile's cut makes of it, the record by the erased
sector it is put into. -/
theorem heatPolicyAndHardCuts : Obligations.HeatPolicyAndHardCuts :=
  ⟨fun _ mv ma branch ready => exec_mpPolicyTick ready mv ma branch, fun _ _ _ _ unready => if_pos (by simp [unready]),
    fun _ mv ma le => nextPower_bounds le mv ma, fun _ _ => exec_shutdownRetry, fun _ _ => exec_hardCut,
    fun _ _ none => if_pos (by simp [none]), fun _ _ => exec_hardCutRelease, fun _ _ _ => exec_heatRecordWrite_first⟩

end Sys2Proof.Machine
end

section
/-!
PROOFS. Service sessions and their timers (13 R371 to R373, Table 13.5; O20).
-/
namespace Sys2Proof.Machine

/-! ### What the session's operations change -/

/-- A challenge on a path, with a nonce; its free value is drawn (R373). -/
def State.challenge (q : SvcSrc) (n : BitVec 128) (s : State) : State :=
  { s with svc := { s.svc with state := .challenged, path := pathNum q, nonce := some n }, free := s.free + 1 }

/-- The session is unlocked, its failures back at 0 (R373). -/
def State.unlock (q : SvcSrc) (s : State) : State :=
  ({ s with svc := { s.svc with state := .unlocked, nonce := none, fails := 0 } } : State).raise 0x0C06 [(1, 1), (1, pathNum q)]

theorem State.otherPath_own {s : State} {q : SvcSrc} (own : s.svc.path = pathNum q) : s.otherPath q = false := by
  simp [State.otherPath, own]

theorem State.otherPath_free {s : State} (free : s.svc.path = 0) (q : SvcSrc) : s.otherPath q = false := by
  simp [State.otherPath, free]

theorem State.takeUnlockReq_locked {s : State} {q : SvcSrc} {args : List Byte} (fixed : argsFixed args 0 = true)
    (locked : s.svc.state = .locked) (free : s.svc.path = 0) (enabled : s.img.service.unlockEn = true) (key : s.keyless = false) :
    s.takeUnlockReq q args = (s.challenge q (Config.nonce s.free)).answerSvc q 0x101 0 (bvBytes (Config.nonce s.free) 16) := by
  unfold State.takeUnlockReq
  rw [if_neg (by simp [fixed]), if_neg (by simp [State.otherPath_free free, locked]), if_neg (by simp [enabled, key])]
  rfl

section
variable {s : State} {q : SvcSrc} {args : List Byte} {n : BitVec 128} (fixed : argsFixed args 32 = true)
  (waits : s.svc.state = .challenged) (own : s.svc.path = pathNum q) (nonce : s.svc.nonce = some n)
include fixed waits own nonce

theorem State.takeUnlockResp_right (right : argsOf args = s.response n) :
    s.takeUnlockResp q args = (s.unlock q).answerSvc q 0x102 0 [] := by
  unfold State.takeUnlockResp
  rw [if_neg (by simp [fixed]), if_neg (by simp [State.otherPath_own own, waits]), nonce]
  dsimp only
  rw [if_neg (by simp [waits]), if_pos right]
  rfl

theorem State.takeUnlockResp_wrong (wrong : argsOf args ≠ s.response n) :
    s.takeUnlockResp q args = s.unlockFailed.answerSvc q 0x102 6 [] := by
  unfold State.takeUnlockResp
  rw [if_neg (by simp [fixed]), if_neg (by simp [State.otherPath_own own, waits]), nonce]
  dsimp only
  rw [if_neg (by simp [waits]), if_neg wrong]

end

theorem State.takeSessionEnd_own {s : State} {q : SvcSrc} {args : List Byte} (fixed : argsFixed args 0 = true)
    (own : s.svc.path = pathNum q) : s.takeSessionEnd q args = s.sessionEnds.answerSvc q 0x103 0 [] := by
  unfold State.takeSessionEnd
  rw [if_neg (by simp [fixed]), State.otherPath_own own]
  rfl

theorem State.sessionEnds_leaves (s : State) :
    s.sessionEnds.link = s.link ∧ s.sessionEnds.svc.uartTx = s.svc.uartTx ∧ s.sessionEnds.mp = s.mp := by
  unfold State.sessionEnds State.endSession
  split
  · exact ⟨rfl, rfl, rfl⟩
  split
  · exact ⟨rfl, rfl, rfl⟩
  · exact ⟨rfl, rfl, rfl⟩

/-! ### The operations -/

/-- UNLOCK_REQ of a locked port (R372, R373). -/
theorem exec_unlockReq {s : State} {q : SvcSrc} {args : List Byte} (serves : s.serves q 0x101 args)
    (fixed : argsFixed args 0 = true) (locked : s.svc.state = .locked) (free : s.svc.path = 0)
    (enabled : s.img.service.unlockEn = true) (key : s.keyless = false) :
    ∃ t, exec (.unlockReq q args) s = .next t ∧
      t.svc = { s.svc with state := .challenged, path := pathNum q, nonce := some (Config.nonce s.free), uartTx := t.svc.uartTx } ∧
      s.svcReplied t q 0 0x101 (bvBytes (Config.nonce s.free) 16) ∧
      t = { s with svc := t.svc, link := t.link, free := s.free + 1 } := by
  have taken (l : Link) : ({ s with link := l } : State).takeUnlockReq q args =
      (({ s with link := l } : State).challenge q (Config.nonce s.free)).answerSvc q 0x101 0 (bvBytes (Config.nonce s.free) 16) :=
    State.takeUnlockReq_locked (s := { s with link := l }) (q := q) fixed locked free enabled key
  generalize Config.nonce s.free = n at taken ⊢
  obtain ⟨l, t, run, replied, frame⟩ := State.service_answered (i := .unlockReq q args) (who := 4)
    (f := fun u => u.takeUnlockReq q args) (e := State.challenge q n) serves taken fun _ => ⟨rfl, rfl, rfl⟩
  refine ⟨t, congrArg _ run, (congrArg State.svc frame :), replied, ?_⟩
  rw [frame]
  rfl

/-- UNLOCK_RESP with the response of R373. -/
theorem exec_unlockResp_right {s : State} {q : SvcSrc} {args : List Byte} {n : BitVec 128} (serves : s.serves q 0x102 args)
    (fixed : argsFixed args 32 = true) (waits : s.svc.state = .challenged) (own : s.svc.path = pathNum q)
    (nonce : s.svc.nonce = some n) (right : argsOf args = s.response n) :
    ∃ t, exec (.unlockResp q args) s = .next t ∧
      t.svc = { s.svc with state := .unlocked, nonce := none, fails := 0, uartTx := t.svc.uartTx } ∧
      t.ev = (s.raise 0x0C06 [(1, 1), (1, pathNum q)]).ev ∧ s.svcReplied t q 0 0x102 [] ∧
      t = { s with svc := t.svc, link := t.link, ev := t.ev } := by
  obtain ⟨l, t, run, replied, frame⟩ := State.service_answered (i := .unlockResp q args) (who := 4)
    (f := fun u => u.takeUnlockResp q args) (e := State.unlock q) serves
    (fun l => State.takeUnlockResp_right (s := { s with link := l }) fixed waits own nonce right) fun _ => ⟨rfl, rfl, rfl⟩
  refine ⟨t, congrArg _ run, (congrArg State.svc frame :), (congrArg State.ev frame :), replied, ?_⟩
  rw [frame]
  rfl

/-- UNLOCK_RESP with another response (R372). -/
theorem exec_unlockResp_wrong {s : State} {q : SvcSrc} {args : List Byte} {n : BitVec 128} (serves : s.serves q 0x102 args)
    (fixed : argsFixed args 32 = true) (waits : s.svc.state = .challenged) (own : s.svc.path = pathNum q)
    (nonce : s.svc.nonce = some n) (wrong : argsOf args ≠ s.response n) :
    ∃ t, exec (.unlockResp q args) s = .next t ∧
      t.svc.state = (if s.img.service.maxAttempts ≤ s.svc.fails + 1 then .lockout else .locked) ∧
      t.svc.fails = s.svc.fails + 1 ∧ t.svc.nonce = none ∧
      t.svc.lockRec = (s.svc.lockRec || decide (s.img.service.maxAttempts ≤ s.svc.fails + 1)) ∧
      s.svcReplied t q 6 0x102 [] ∧ t = { s with svc := t.svc, link := t.link, ev := t.ev } := by
  obtain ⟨l, t, run, replied, frame⟩ := State.service_answered (i := .unlockResp q args) (who := 4)
    (f := fun u => u.takeUnlockResp q args) (e := State.unlockFailed) serves
    (fun l => State.takeUnlockResp_wrong (s := { s with link := l }) fixed waits own nonce wrong) fun _ => ⟨rfl, rfl, rfl⟩
  refine ⟨t, congrArg _ run, ?_, (congrArg (·.svc.fails) frame :), (congrArg (·.svc.nonce) frame :),
    (congrArg (·.svc.lockRec) frame :), replied, ?_⟩
  · have state : t.svc.state = if decide (s.img.service.maxAttempts ≤ s.svc.fails + 1) then .lockout else .locked :=
      (congrArg (·.svc.state) frame :)
    simpa using state
  · rw [frame]
    rfl

/-- SESSION_END on the session's own path (R372). -/
theorem exec_sessionEnd {s : State} {q : SvcSrc} {args : List Byte} (serves : s.serves q 0x103 args)
    (fixed : argsFixed args 0 = true) (own : s.svc.path = pathNum q) :
    ∃ l t, exec (.sessionEnd q args) s = .next t ∧ s.svcReplied t q 0 0x103 [] ∧
      t = { ({ s with link := l } : State).sessionEnds with
        link := t.link, svc := { ({ s with link := l } : State).sessionEnds.svc with uartTx := t.svc.uartTx } } := by
  obtain ⟨l, t, run, replied, frame⟩ := State.service_answered (i := .sessionEnd q args) (who := 4)
    (f := fun u => u.takeSessionEnd q args) (e := State.sessionEnds) serves
    (fun l => State.takeSessionEnd_own (s := { s with link := l }) fixed own) State.sessionEnds_leaves
  exact ⟨l, t, congrArg _ run, replied, frame⟩

theorem State.sessionEnds_unlocked {s : State} (on : s.svc.state = .unlocked) :
    s.sessionEnds = { s.raise 0x0C06 [(1, 0), (1, s.svc.path)] with svc := { s.svc with state := .locked, path := 0, nonce := none } } := by
  unfold State.sessionEnds State.endSession
  rw [if_neg (by simp [on]), if_pos on]
  rfl

theorem State.sessionEnds_challenged {s : State} (waits : s.svc.state = .challenged) :
    s.sessionEnds = { s with svc := { s.svc with state := .locked, path := 0, nonce := none } } := if_pos waits

theorem exec_sessionEnd_unlocked {s : State} {q : SvcSrc} {args : List Byte} (serves : s.serves q 0x103 args)
    (fixed : argsFixed args 0 = true) (own : s.svc.path = pathNum q) (on : s.svc.state = .unlocked) :
    ∃ t, exec (.sessionEnd q args) s = .next t ∧
      t.svc = { s.svc with state := .locked, path := 0, nonce := none, uartTx := t.svc.uartTx } ∧
      t.ev = (s.raise 0x0C06 [(1, 0), (1, s.svc.path)]).ev ∧ s.svcReplied t q 0 0x103 [] ∧
      t = { s with svc := t.svc, link := t.link, ev := t.ev } := by
  obtain ⟨l, t, run, replied, frame⟩ := exec_sessionEnd serves fixed own
  rw [State.sessionEnds_unlocked (s := { s with link := l }) on] at frame
  refine ⟨t, run, (congrArg State.svc frame :), (congrArg State.ev frame :), replied, ?_⟩
  rw [frame]
  rfl

theorem exec_sessionEnd_challenged {s : State} {q : SvcSrc} {args : List Byte} (serves : s.serves q 0x103 args)
    (fixed : argsFixed args 0 = true) (own : s.svc.path = pathNum q) (waits : s.svc.state = .challenged) :
    ∃ t, exec (.sessionEnd q args) s = .next t ∧
      t.svc = { s.svc with state := .locked, path := 0, nonce := none, uartTx := t.svc.uartTx } ∧ t.ev = s.ev ∧
      t = { s with svc := t.svc, link := t.link } := by
  obtain ⟨l, t, run, -, frame⟩ := exec_sessionEnd serves fixed own
  rw [State.sessionEnds_challenged (s := { s with link := l }) waits] at frame
  refine ⟨t, run, (congrArg State.svc frame :), (congrArg State.ev frame :), ?_⟩
  rw [frame]

/-! ### The session's timers -/

/-- A challenge without a response is a failure (R372). -/
theorem exec_challengeTimeout {s : State} (waits : s.svc.state = .challenged) :
    ∃ t, exec .challengeTimeout s = .next t ∧ t.svc.fails = s.svc.fails + 1 ∧ t.svc.path = 0 ∧
      t.svc.state = (if s.img.service.maxAttempts ≤ s.svc.fails + 1 then .lockout else .locked) ∧
      t.ev = (s.raise 0x0C07 [(1, min 255 (s.svc.fails + 1)), (1, b2n (decide (s.img.service.maxAttempts ≤ s.svc.fails + 1)))]).ev ∧
      t = { s with svc := t.svc, ev := t.ev } := by
  refine ⟨s.unlockFailed, congrArg _ (if_pos waits), rfl, rfl, ?_, rfl, rfl⟩
  show (if decide (s.img.service.maxAttempts ≤ s.svc.fails + 1) = true then SvcState.lockout else .locked) = _
  simp only [decide_eq_true_eq]

/-- An idle session ends (R372); nothing waits to be served after it. -/
theorem exec_sessionIdleTimeout {s : State} (on : s.svc.state = .unlocked) (nothing : s.link.waiting = []) :
    ∃ t, exec .sessionIdleTimeout s = .next t ∧ t.svc = { s.svc with state := .locked, path := 0, nonce := none } ∧
      t = { s.raise 0x0C06 [(1, 0), (1, s.svc.path)] with svc := t.svc } := by
  have ended : s.endSession = { s.raise 0x0C06 [(1, 0), (1, s.svc.path)] with
      svc := { s.svc with state := .locked, path := 0, nonce := none } } := if_pos on
  have run : exec .sessionIdleTimeout s = .next s.endSession.serveWaiting := rfl
  rw [State.serveWaiting_idle (by rw [ended]; exact nothing), ended] at run
  exact ⟨_, run, rfl, rfl⟩

/-- Settles O20: each operation by what it changes and answers, each timer by the state it ends. -/
theorem sessionsUnlockByResponse : Obligations.SessionsUnlockByResponse :=
  ⟨fun _ _ _ => exec_unlockReq,
    fun _ _ _ _ serves fixed waits own nonce =>
      ⟨exec_unlockResp_right serves fixed waits own nonce, exec_unlockResp_wrong serves fixed waits own nonce⟩,
    fun _ _ _ serves fixed own => ⟨exec_sessionEnd_unlocked serves fixed own, exec_sessionEnd_challenged serves fixed own⟩,
    fun _ => exec_challengeTimeout, fun _ => exec_sessionIdleTimeout, fun _ out => congrArg _ (if_pos out), fun _ => rfl⟩

end Sys2Proof.Machine
end

section
/-!
PROOFS. The watchdogs of the MP and the SP, and the heartbeat (13 R364 to R367; O44).
-/
namespace Sys2Proof.Machine

/-! ### The MP's restart (R365) -/

theorem State.restoreList_diag (s : State) : ∃ diag, s.restoreList = { s with diag } := by
  unfold State.restoreList
  split
  · exact ⟨_, rfl⟩
  · exact ⟨_, rfl⟩

theorem State.loadBytes_restoreList (s : State) (a : Nat) (bs : List Byte) :
    ∃ store svc diag, (s.loadBytes a bs).restoreList = { s with store, svc, diag } := by
  rw [State.loadBytes_cells]
  obtain ⟨diag, listed⟩ := State.restoreList_diag { s with
    store := { s.store.load a bs with flips := (s.loadBytes a bs).store.flips }, svc := (s.loadBytes a bs).svc }
  exact ⟨_, _, diag, listed⟩

/-- The map of the failing pixels comes back into the store; nothing else changes but the diagnosis and the perturbations. -/
theorem State.restoreMap_frame (s : State) : ∃ store svc diag, s.restoreMap = { s with store, svc, diag } :=
  s.loadBytes_restoreList _ _

/-- The MP without its power: its SRAM, its firmware and the reservation are gone (R36, R370). -/
def State.mpLost (s : State) : State :=
  { s with
    mp := { s.mp with ready := false, lastServ := s.now1, code := none, entry := none }, nvm := { s.nvm with reserve := 0 }
    policy := s.policy.restarted }

/-- A cycle of PD10 (R36, R370): the MP stands without its firmware, the reservation is gone, the link and the light's chapters
stay. -/
theorem State.cyclePd10_cases (s : State) :
    s.cyclePd10.mp = { s.mp with ready := false, lastServ := s.now1, code := none, entry := none } ∧
      s.cyclePd10.nvm.reserve = 0 ∧ s.cyclePd10.safety = s.safety ∧ s.cyclePd10.power = s.power ∧
      s.cyclePd10.link = s.link ∧ s.cyclePd10.comp = s.comp ∧ s.cyclePd10.fuse = s.fuse := by
  have run : s.cyclePd10 = s.finishFlash.clearControls.mpLost.cond
      (!s.finishFlash.clearControls.mpLost.power.pd4 && s.finishFlash.clearControls.mpLost.start.state = .ready) State.restoreMap := rfl
  have finished := s.besideFlash_finishFlash
  obtain ⟨svc, ev, cleared⟩ := s.finishFlash.clearControls_cases
  have kept : s.finishFlash.clearControls.mpLost.mp =
        { s.mp with ready := false, lastServ := s.now1, code := none, entry := none } ∧
      s.finishFlash.clearControls.mpLost.nvm.reserve = 0 ∧ s.finishFlash.clearControls.mpLost.safety = s.safety ∧
      s.finishFlash.clearControls.mpLost.power = s.power ∧ s.finishFlash.clearControls.mpLost.link = s.link ∧
      s.finishFlash.clearControls.mpLost.comp = s.comp ∧ s.finishFlash.clearControls.mpLost.fuse = s.fuse := by
    rw [cleared]
    generalize s.finishFlash = u at finished
    have mp : u.mp = s.mp := (congrArg State.mp finished :)
    have now : u.now1 = s.now1 := (congrArg State.now1 finished :)
    refine ⟨?_, rfl, (congrArg State.safety finished :), (congrArg State.power finished :), (congrArg State.link finished :),
      (congrArg State.comp finished :), (congrArg State.fuse finished :)⟩
    show ({ u.mp with ready := false, lastServ := u.now1, code := none, entry := none } : Mp) = _
    rw [mp, now]
  rw [run]
  generalize s.finishFlash.clearControls.mpLost = v at kept
  unfold State.cond
  split
  · obtain ⟨store, svc', diag, restored⟩ := v.restoreMap_frame
    rw [restored]
    exact kept
  · exact kept

/-- The reload of the firmware finds its slot and its entry. -/
theorem State.reloadFw_code (s : State) : ∃ code entry, s.reloadFw = { s with mp := { s.mp with code, entry } } := by
  unfold State.reloadFw
  split
  next => exact ⟨s.mp.code, s.mp.entry, rfl⟩
  next i _ =>
    cases (s.slot i).fwIntact
    · exact ⟨s.mp.code, s.mp.entry, rfl⟩
    · exact ⟨_, _, rfl⟩

/-- A restart of the MP counts itself, on top of the cycle of PD10. -/
theorem State.restartMp_frame (s : State) :
    ∃ code entry, s.restartMp = { s.cyclePd10 with
      mp := { s.cyclePd10.mp with code, entry, restarts := sat32 (s.cyclePd10.mp.restarts + 1) } } := by
  obtain ⟨code, entry, reloaded⟩ := s.cyclePd10.reloadFw_code
  unfold State.restartMp
  dsimp only
  rw [reloaded]
  exact ⟨code, entry, rfl⟩

/-! ### The MP's watchdog -/

/-- What the rise or fall of a cause leaves of the supervision and of what it supervises. -/
theorem State.supervised_of_besideCauses {s t : State} (h : t.besideCauses = s.besideCauses) :
    t.mp = s.mp ∧ t.sp = s.sp ∧ t.start = s.start ∧ t.clk = s.clk ∧ t.power = s.power ∧ t.fuse = s.fuse :=
  ⟨(congrArg State.mp h :), (congrArg State.sp h :), (congrArg State.start h :), (congrArg State.clk h :),
    (congrArg State.power h :), (congrArg State.fuse h :)⟩

/-- The bite that the SP judges: its event, DEGRADED requested, the bite entered with those of the last 600 s. -/
def State.bitten (s : State) : State :=
  let v := (s.raise 0x0C01 []).setCause false cMpBite true
  { v with mp := { v.mp with bites := recentBites s.mp.bites s.now1 } }

theorem State.bitten_cases (s : State) :
    s.bitten.mp = { s.mp with bites := recentBites s.mp.bites s.now1 } ∧ s.bitten.safety.spCauses.getLsbD cMpBite = true ∧
      s.bitten.power = s.power ∧ s.bitten.link = s.link ∧ s.bitten.comp = s.comp ∧ s.bitten.fuse = s.fuse := by
  obtain ⟨mp, -, -, -, power, fuse⟩ :=
    State.supervised_of_besideCauses ((s.raise 0x0C01 []).besideCauses_setCause false cMpBite true)
  obtain ⟨link, -, comp, -⟩ := State.keeps_of_besideCauses ((s.raise 0x0C01 []).besideCauses_setCause false cMpBite true)
  have set := (s.raise 0x0C01 []).spCauses_setCause (row := cMpBite) (by decide) true
  unfold State.bitten
  dsimp only
  generalize (s.raise 0x0C01 []).setCause false cMpBite true = v at mp power fuse link comp set
  rw [mp]
  exact ⟨rfl, set, power, link, comp, fuse⟩

theorem State.mpBite_restarts {s : State} (few : (recentBites s.mp.bites s.now1).length < 3) : s.mpBite = s.bitten.restartMp :=
  if_neg (Nat.not_le.mpr few)

theorem State.mpBite_holdsOff {s : State} (third : 3 ≤ (recentBites s.mp.bites s.now1).length) :
    s.mpBite = ({ s.bitten.cyclePd10 with
      mp := { s.bitten.cyclePd10.mp with heldOff := true }, power := { s.bitten.cyclePd10.power with pd10 := false } } : State).raise
        0x0C03 [] :=
  if_pos third

/-- The MP's watchdog bites (R365). -/
theorem exec_mpWatchdog {s : State} (watched : s.mpWatched = true) :
    let times := recentBites s.mp.bites s.now1
    ∃ t, exec .mpWatchdog s = .next t ∧ t.mp.ready = false ∧ t.mp.bites = times ∧ t.safety.spCauses.getLsbD cMpBite = true ∧
      t.nvm.reserve = 0 ∧
      (times.length < 3 → t = s.bitten.restartMp ∧ t.mp.restarts = sat32 (s.mp.restarts + 1) ∧ t.power = s.power) ∧
      (3 ≤ times.length → t.mp.heldOff = true ∧ t.mp.code = none ∧ t.power = { s.power with pd10 := false } ∧
        ∃ w : State, w.ev = s.bitten.cyclePd10.ev ∧ t = w.raise 0x0C03 []) ∧
      t.link = s.link ∧ t.comp = s.comp ∧ t.fuse = s.fuse := by
  intro times
  have run : exec .mpWatchdog s = .next s.mpBite := congrArg _ (if_pos watched)
  obtain ⟨mp, set, power, link, comp, fuse⟩ := s.bitten_cases
  obtain ⟨mpCycled, reserve, safety, powerCycled, linkCycled, compCycled, fuseCycled⟩ := s.bitten.cyclePd10_cases
  rw [mp] at mpCycled
  have bit : s.bitten.cyclePd10.safety.spCauses.getLsbD cMpBite = true := by rw [safety]; exact set
  rcases Nat.lt_or_ge times.length 3 with few | third
  · obtain ⟨code, entry, frame⟩ := s.bitten.restartMp_frame
    rw [State.mpBite_restarts few] at run
    have mpAfter : s.bitten.restartMp.mp =
        { s.bitten.cyclePd10.mp with code, entry, restarts := sat32 (s.bitten.cyclePd10.mp.restarts + 1) } :=
      (congrArg State.mp frame :)
    rw [mpCycled] at mpAfter
    refine ⟨_, run, congrArg Mp.ready mpAfter, congrArg Mp.bites mpAfter, ?_, (congrArg (·.nvm.reserve) frame :).trans reserve,
      fun _ => ⟨rfl, congrArg Mp.restarts mpAfter, (congrArg State.power frame :).trans (powerCycled.trans power)⟩,
      fun third => absurd few (Nat.not_lt.mpr third), (congrArg State.link frame :).trans (linkCycled.trans link),
      (congrArg State.comp frame :).trans (compCycled.trans comp), (congrArg State.fuse frame :).trans (fuseCycled.trans fuse)⟩
    rw [frame]
    exact bit
  · rw [State.mpBite_holdsOff third] at run
    refine ⟨_, run, congrArg Mp.ready mpCycled, congrArg Mp.bites mpCycled, bit, reserve,
      fun few => absurd few (Nat.not_lt.mpr third), fun _ => ⟨rfl, congrArg Mp.code mpCycled, ?_, { s.bitten.cyclePd10 with
        mp := { s.bitten.cyclePd10.mp with heldOff := true }, power := { s.bitten.cyclePd10.power with pd10 := false } }, rfl, rfl⟩,
      linkCycled.trans link, compCycled.trans comp, fuseCycled.trans fuse⟩
    show ({ s.bitten.cyclePd10.power with pd10 := false } : Power) = _
    rw [powerCycled, power]

/-- A service of the MP's watchdog starts the next window; outside its window it is a bite (R364). -/
theorem exec_mpWatchdogService {s : State} {dt : Nat} (watched : (s.elapse dt).mpWatched = true)
    (ready : (s.elapse dt).mp.ready = true) :
    let u := s.elapse dt
    (inWindow 25 100 (u.now1 - u.mp.lastServ) = true →
      exec (.mpWatchdogService dt) s = .next { u with mp := { u.mp with lastServ := u.now1 } }) ∧
    (inWindow 25 100 (u.now1 - u.mp.lastServ) = false → exec (.mpWatchdogService dt) s = .next u.mpBite) := by
  intro u
  have run : exec (.mpWatchdogService dt) s =
      if !u.mpWatched then .next u
      else if !u.mp.ready || inWindow 25 100 (u.now1 - u.mp.lastServ) then .next { u with mp := { u.mp with lastServ := u.now1 } }
      else .next u.mpBite := rfl
  rw [run, if_neg (by simp [u, watched])]
  exact ⟨fun inside => if_pos (by simp [inside]), fun outside => if_neg (by simp [u, ready, outside])⟩

/-- What a restarted MP reads back leaves the start, the clocks, the MP and what waits at the link. -/
theorem State.besideFill_mpReload (s : State) : s.mpReload.besideFill = s.besideFill :=
  State.besideFill_cond _ _ fun u => (State.besideFill_cond _ _ fun v =>
    (State.besideFill_predict ..).trans v.besideFill_healAll).trans
      ((State.besideFill_restoreList _).trans u.besideFill_restoreErases)

theorem State.readyAgain_cases (s : State) :
    s.mpReload.mpIsReady.start = s.start ∧ s.mpReload.mpIsReady.clk = s.clk ∧ s.mpReload.mpIsReady.mp.ready = true ∧
      s.mpReload.mpIsReady.link.waiting = s.link.waiting := by
  have reloaded := s.besideFill_mpReload
  have isReady := s.mpReload.besideFill_mpIsReady
  generalize s.mpReload = r at reloaded isReady
  generalize r.mpIsReady = u at isReady
  exact ⟨(congrArg State.start isReady :).trans (congrArg State.start reloaded :),
    (congrArg State.clk isReady :).trans (congrArg State.clk reloaded :), (congrArg (·.mp.ready) isReady :),
    (congrArg (·.link.waiting) isReady :).trans (congrArg (·.link.waiting) reloaded :)⟩

/-- The report of a restarted MP whose request is withdrawn: event 0x0C02, the watchdog's window, what waited. -/
def State.reportRestart (s : State) (restarts : Nat) : State :=
  { s.raise 0x0C02 [(1, min 255 restarts)] with mp := { s.mp with lastServ := s.now1 } }

theorem State.besideFill_reported (s : State) (c : Bool) : (s.cond c State.reportAtLinkUp).besideFill = s.besideFill :=
  State.besideFill_cond _ _ State.besideFill_reportAtLinkUp

/-- What a report at link-up leaves of the MP, the start, the clocks and the Rind. -/
theorem State.kept_of_besideFill_report {s t : State} (h : t.besideFill = s.besideFill) :
    t.mp = s.mp ∧ t.start = s.start ∧ t.clk = s.clk ∧ t.safety = s.safety :=
  ⟨(congrArg State.mp h :), (congrArg State.start h :), (congrArg State.clk h :), (congrArg State.safety h :)⟩

/-- The ready report of a restarted MP withdraws its request (R365, R366). -/
theorem exec_mpRestartReady {s : State} (watched : s.mpWatched = true) (down : s.mp.ready = false) (loaded : s.mpLoaded = true)
    (started : s.start.state = .ready) (nothing : s.link.waiting = []) :
    ∃ t, exec .mpRestartReady s = .next t ∧ t.mp.ready = true ∧ t.mp.lastServ = s.now1 ∧
      t.safety.spCauses.getLsbD cMpBite = false ∧ t.start = s.start ∧ t.clk = s.clk := by
  obtain ⟨startReady, clkReady, mpReady, waitingReady⟩ := s.readyAgain_cases
  obtain ⟨mp, -, start, clk, -⟩ :=
    State.supervised_of_besideCauses (s.mpReload.mpIsReady.besideCauses_setCause false cMpBite false)
  obtain ⟨link, -⟩ := State.keeps_of_besideCauses (s.mpReload.mpIsReady.besideCauses_setCause false cMpBite false)
  have withdrawn := s.mpReload.mpIsReady.spCauses_setCause (row := cMpBite) (by decide) false
  have run : exec .mpRestartReady s =
      let u := (s.mpReload.mpIsReady.setCause false cMpBite false).reportRestart s.mp.restarts
      .next (u.serveWaiting.cond (u.linkUp && u.start.state = .ready) State.reportAtLinkUp) :=
    if_neg (by simp [watched, down, loaded, started])
  generalize s.mpReload.mpIsReady.setCause false cMpBite false = c at run mp start clk link withdrawn
  have idle : (c.reportRestart s.mp.restarts).link.waiting = [] := (congrArg Link.waiting link).trans (waitingReady.trans nothing)
  dsimp only at run
  rw [State.serveWaiting_idle idle] at run
  obtain ⟨mpKept, startKept, clkKept, safetyKept⟩ := State.kept_of_besideFill_report ((c.reportRestart s.mp.restarts).besideFill_reported
    ((c.reportRestart s.mp.restarts).linkUp && (c.reportRestart s.mp.restarts).start.state = .ready))
  refine ⟨_, run, (congrArg Mp.ready mpKept).trans ((congrArg Mp.ready mp).trans mpReady), (congrArg Mp.lastServ mpKept).trans ?_, ?_,
    startKept.trans (start.trans startReady), clkKept.trans (clk.trans clkReady)⟩
  · show c.now1 = _
    unfold State.now1
    rw [clk, clkReady]
  · rw [safetyKept]
    exact withdrawn

/-! ### The SP's supervision (R364, R367) -/

theorem exec_spWatchdogService {s : State} (running : s.sp.running = true) (done : s.sp.wordDone = true) (runs : s.rindRuns = true) :
    (inWindow 5 20 (s.clk.tb3 - s.sp.lastServ) = true →
      exec (.spWatchdogService s.sp.wdSeq) s = .next { s with sp := { s.sp with
        wdSeq := s.sp.wdSeq + 1, lastServ := s.clk.tb3, wordDone := false } }) ∧
    (inWindow 5 20 (s.clk.tb3 - s.sp.lastServ) = false → exec (.spWatchdogService s.sp.wdSeq) s = .next s.spBite) := by
  have run : exec (.spWatchdogService s.sp.wdSeq) s = _ := if_neg (by simp [running, done, runs])
  rw [run]
  exact ⟨fun inside => if_pos inside, fun outside => if_neg (by simp [outside])⟩

/-- A state whose SP is bitten, before the Rind judges it. -/
def State.spHeld (s : State) : State :=
  { s with sp := { s.sp with
    running := false, wordDone := false, bites := recentBites s.sp.bites s.clk.tb3
    heldOff := decide (3 ≤ (recentBites s.sp.bites s.clk.tb3).length) } }

/-- The defaults of the SAFETY section as targets change the zones alone. -/
theorem State.defaultTargets_leaves (s : State) :
    s.defaultTargets.sp = s.sp ∧ s.defaultTargets.safety = s.safety ∧ s.defaultTargets.store = s.store ∧
      s.defaultTargets.link = s.link := ⟨rfl, rfl, rfl, rfl⟩

/-- The SP's watchdog bites (R367). -/
theorem exec_spWatchdog {s : State} (running : s.sp.running = true) (runs : s.rindRuns = true) :
    ∃ t, exec .spWatchdog s = .next t ∧
      t = (({ s with sp := t.sp } : State).setCause true cSpWatchdog true).defaultTargets ∧ t.sp.running = false ∧
      t.sp.bites = recentBites s.sp.bites s.clk.tb3 ∧
      t.sp.heldOff = decide (3 ≤ (recentBites s.sp.bites s.clk.tb3).length) ∧ t.safety.rindCauses.getLsbD cSpWatchdog = true ∧
      t.safety.state.off = true ∧ t.store = s.store ∧ t.link = s.link := by
  have run : exec .spWatchdog s = .next (s.spHeld.setCause true cSpWatchdog true).defaultTargets :=
    congrArg _ (if_pos (by simp [running, runs]))
  obtain ⟨-, spKept, -⟩ := State.supervised_of_besideCauses (s.spHeld.besideCauses_setCause true cSpWatchdog true)
  obtain ⟨link, store, -⟩ := State.keeps_of_besideCauses (s.spHeld.besideCauses_setCause true cSpWatchdog true)
  have set := s.spHeld.rindCauses_setCause (row := cSpWatchdog) (by decide) (by decide) (by decide) true
  have off := (s.spHeld.setCause_off (row := cSpWatchdog) (by decide)).1
  have held : ({ s with sp := s.spHeld.sp } : State) = s.spHeld := rfl
  obtain ⟨sp, safety, storeKept, linkKept⟩ := (s.spHeld.setCause true cSpWatchdog true).defaultTargets_leaves
  refine ⟨_, run, ?_, (congrArg Sp.running (sp.trans spKept) :), (congrArg Sp.bites (sp.trans spKept) :),
    (congrArg Sp.heldOff (sp.trans spKept) :), ?_, ?_, storeKept.trans store, linkKept.trans link⟩
  · rw [sp.trans spKept, held]
  · rw [safety]
    exact set
  · rw [safety]
    exact off

/-- The SP runs again (R367), its limiter from the Rind's quantities. -/
theorem exec_spRestarted {s : State} (down : s.sp.running = false) (free : s.sp.heldOff = false) (bitten : s.sp.bites ≠ [])
    (nothing : s.link.waiting = []) :
    ∃ t, exec .spRestarted s = .next t ∧
      t.sp = { s.sp with running := true, wdSeq := 0, lastServ := s.clk.tb3, wordDone := false, stalled := 0 } ∧
      t.zones.spLim = s.zones.lim ∧ t.ev = (s.raise 0x0C08 []).ev ∧ t = { s with sp := t.sp, zones := t.zones, ev := t.ev } := by
  let u : State := { s with
    sp := { s.sp with running := true, wdSeq := 0, lastServ := s.clk.tb3, wordDone := false, stalled := 0 }
    zones := { s.zones with spLim := s.zones.lim, cand := none } }
  have run : exec .spRestarted s = .next (u.raise 0x0C08 []).serveWaiting := if_neg (by simp [down, free, bitten])
  have idle : (u.raise 0x0C08 []).link.waiting = [] := nothing
  rw [State.serveWaiting_idle idle] at run
  exact ⟨_, run, rfl, rfl, rfl, rfl⟩

/-- A read of the heartbeat (R367): an advance restarts the count, the third read without one is a fault. -/
theorem exec_rindHeartbeat {s : State} (n : Nat) (running : s.sp.running = true) :
    (n ≠ s.sp.beat → exec (.rindHeartbeat n) s = .next { s with sp := { s.sp with beat := n, stalled := 0 } }) ∧
    (n = s.sp.beat → 2 ≤ s.sp.stalled → s.sp.beatFault = false →
      ∃ t, exec (.rindHeartbeat n) s = .next t ∧ t.sp.beatFault = true ∧ t.spOwn = 2 ∧ t.faultN = true) := by
  have run : exec (.rindHeartbeat n) s = execRindHeartbeat n s := rfl
  rw [run]
  unfold execRindHeartbeat
  rw [if_neg (by simp [running])]
  refine ⟨fun advanced => ?_, fun stands stalled untold => ?_⟩
  · rw [if_neg advanced]
    rfl
  · have third : min 3 (s.sp.stalled + 1) = 3 := by omega
    rw [if_pos stands, third]
    dsimp only
    rw [if_pos (by simp [untold])]
    let u := ({ s with sp := { s.sp with beat := n, stalled := 3, beatFault := true } } : State).raise 0x0C09 []
    obtain ⟨-, sp, -⟩ := State.supervised_of_besideCauses (u.besideCauses_setCause false cHeartbeat true)
    have fault : (u.setCause false cHeartbeat true).sp.beatFault = true := congrArg Sp.beatFault sp
    have set := u.spCauses_setCause (row := cHeartbeat) (by decide) true
    refine ⟨u.setCause false cHeartbeat true, rfl, fault, ?_, ?_⟩
    · exact if_pos (by simp [hasAny, set])
    · simp [State.faultN, fault]

/-- Settles O44: bites by what the judgement and a cycle of PD10 leave, services by their windows. -/
theorem watchdogsBiteAndRestart : Obligations.WatchdogsBiteAndRestart :=
  ⟨fun _ _ watched ready => exec_mpWatchdogService watched ready, fun _ => exec_mpWatchdog, fun _ => exec_mpRestartReady,
    fun _ unloaded => if_pos (by simp [unloaded]), fun _ => exec_spWatchdogService, fun _ _ other => if_pos (by simp [other]),
    fun _ => exec_spWatchdog, fun _ => exec_spRestarted, fun _ n => exec_rindHeartbeat n⟩

end Sys2Proof.Machine
end

section
/-!
PROOFS. Legacy register reads (14 R389, R390, R392, Tables 14.3, 14.4, 14.7; O50).
-/
namespace Sys2Proof.Machine

/-! ### A read of one register -/

/-- A read `p` of a register in `s` and the same read `q` after a frame was accepted: only the legacy registers change, the log of
replies stays, and neither asks which frame was accepted last. -/
def State.ReadAlike (s : State) (f : T512Frame) (p q : State × Byte) : Prop :=
  p.1 = { s with leg := p.1.leg } ∧ p.1.leg.replies = s.leg.replies ∧ q = (p.1.frameAccepted f, p.2)

theorem State.ReadAlike.ite {s : State} {f : T512Frame} {p q p' q' : State × Byte} {c : Prop} [Decidable c]
    (yes : s.ReadAlike f p q) (no : s.ReadAlike f p' q') : s.ReadAlike f (if c then p else p') (if c then q else q') := by
  split
  · exact yes
  · exact no

theorem State.legRead_alike (s : State) (f : T512Frame) (a : Nat) : s.ReadAlike f (s.legRead a) ((s.frameAccepted f).legRead a) := by
  unfold State.legRead
  iterate 13 refine .ite ⟨rfl, rfl, rfl⟩ ?_
  exact ⟨rfl, rfl, rfl⟩

theorem State.legRead_status (s : State) : s.legRead 3 =
    ({ s with leg := { s.leg with status := 0 } },
      setBit (setBit s.leg.status 2 (s.safety.state = .fallback)) 1 (s.safety.state = .degraded)) := rfl

theorem getLsbD_status {v : BitVec 8} (b c : Bool) :
    (setBit (setBit v 2 b) 1 c).getLsbD 2 = b ∧ (setBit (setBit v 2 b) 1 c).getLsbD 1 = c ∧
      ∀ i, i < 8 → i ≠ 1 → i ≠ 2 → (setBit (setBit v 2 b) 1 c).getLsbD i = v.getLsbD i := by
  refine ⟨?_, getLsbD_setBit_same _ (by decide) c, fun i _ not1 not2 => ?_⟩
  · rw [getLsbD_setBit_other _ (by decide), getLsbD_setBit_same _ (by decide)]
  · rw [getLsbD_setBit_other _ not1, getLsbD_setBit_other _ not2]

/-- FAULT_COUNT, FAULT_IDX and FAULT_ENTRY latch their high byte as the low one is read (R389). -/
theorem State.legRead_low {s : State} {a v : Nat}
    (low : a = 0x0B ∧ v = min 0xFFFF s.failedBlocks.length ∨ a = 0x0D ∧ v = s.faultIdx ∨ a = 0x0F ∧ v = s.faultEntry) :
    s.legRead a = s.readLow a v ∧ (s.legRead (a + 1)).2 = s.leg.hi.get 0 a := by
  rcases low with ⟨rfl, rfl⟩ | ⟨rfl, rfl⟩ | ⟨rfl, rfl⟩
  · exact ⟨congrArg (s.readLow 0x0B) (Nat.min_comm ..), rfl⟩
  · exact ⟨rfl, rfl⟩
  · exact ⟨rfl, rfl⟩

/-- FAULT_IDX has reset value 0, and is held as it reads. -/
theorem State.nextFault_regs (s : State) :
    s.nextFault = { s with leg := { s.leg with
      regs := (s.leg.regs.set 0 0x0D (BitVec.ofNat 8 (s.faultIdx + 1))).set 0 0x0E (BitVec.ofNat 8 ((s.faultIdx + 1) / 256)) } } := by
  have held (u : State) (v : Byte) : u.legPut 0x0D v = { u with leg := { u.leg with regs := u.leg.regs.set 0 0x0D v } } ∧
      u.legPut 0x0E v = { u with leg := { u.leg with regs := u.leg.regs.set 0 0x0E v } } := by
    have zero : v ^^^ legReset 0x0D = v ∧ v ^^^ legReset 0x0E = v := ⟨BitVec.xor_zero, BitVec.xor_zero⟩
    unfold State.legPut
    rw [zero.1, zero.2]
    exact ⟨rfl, rfl⟩
  unfold State.nextFault
  dsimp only
  rw [(held _ _).1, (held _ _).2]

theorem State.legRead_faultEntry (s : State) : (s.legRead 0x10).1 = s.nextFault := rfl

theorem State.faultEntry_snap {s : State} {k : Nat} (listed : s.leg.snap[s.faultIdx]? = some k) :
    s.faultEntry = k % 512 * 128 + k / 512 := by
  unfold State.faultEntry
  rw [listed]

theorem State.faultEntry_end {s : State} (past : s.leg.snap.length ≤ s.faultIdx) : s.faultEntry = 0xFFFF := by
  unfold State.faultEntry
  rw [List.getElem?_eq_none past]

/-- An RW register reads as it holds. -/
theorem State.legRead_rw {s : State} {a : Nat}
    (rw : a = 4 ∨ a = 5 ∨ a = 8 ∨ a = 9 ∨ a = 0x0A ∨ (0x40 ≤ a ∧ a ≤ 0x7F)) : s.legRead a = (s, s.legReg a) := by
  rcases rw with rfl | rfl | rfl | rfl | rfl | ⟨low, high⟩
  iterate 5 rfl
  have column : legMask a = 0xBF := by
    unfold legMask
    rw [if_neg (by omega), if_neg (by simp; omega), if_neg (by omega), if_pos (by simp [low, high])]
  unfold State.legRead
  iterate 8 rw [if_neg (by omega)]
  rw [if_neg (by simp; omega)]
  iterate 3 rw [if_neg (by omega)]
  rw [column]
  exact if_neg (by decide)

/-! ### REG_READ -/

/-- One register of a REG_READ, its value behind those before it. -/
def legReadNext (first : Nat) (p : State × List Byte) (i : Nat) : State × List Byte :=
  ((p.1.legRead (first + i)).1, p.2 ++ [(p.1.legRead (first + i)).2])

theorem State.legReads_foldl (s : State) (first count : Nat) :
    s.legReads first count = (List.range count).foldl (legReadNext first) (s, []) := rfl

/-- Consecutive reads do not ask which frame was accepted last. -/
theorem State.legReads_frameAccepted (s : State) (f : T512Frame) (first count : Nat) :
    (s.frameAccepted f).legReads first count = ((s.legReads first count).1.frameAccepted f, (s.legReads first count).2) := by
  rw [State.legReads_foldl, State.legReads_foldl]
  have reads : ∀ (is : List Nat) (u : State) (bs : List Byte), is.foldl (legReadNext first) (u.frameAccepted f, bs) =
      ((is.foldl (legReadNext first) (u, bs)).1.frameAccepted f, (is.foldl (legReadNext first) (u, bs)).2) := by
    intro is
    induction is with
    | nil => exact fun _ _ => rfl
    | cons i is ih =>
      intro u bs
      have next : legReadNext first (u.frameAccepted f, bs) i =
          ((u.legRead (first + i)).1.frameAccepted f, bs ++ [(u.legRead (first + i)).2]) := by
        unfold legReadNext
        dsimp only
        rw [(u.legRead_alike f _).2.2]
      rw [List.foldl_cons, next]
      exact ih _ _
  exact reads _ s []

theorem State.legReads_leaves (s : State) (f : T512Frame) (first count : Nat) :
    (s.legReads first count).1 = { s with leg := (s.legReads first count).1.leg } ∧
      (s.legReads first count).1.leg.replies = s.leg.replies := by
  rw [State.legReads_foldl]
  have reads : ∀ (is : List Nat) (p : State × List Byte), (is.foldl (legReadNext first) p).1 =
        { p.1 with leg := (is.foldl (legReadNext first) p).1.leg } ∧
      (is.foldl (legReadNext first) p).1.leg.replies = p.1.leg.replies := by
    intro is
    induction is with
    | nil => exact fun _ => ⟨rfl, rfl⟩
    | cons i is ih =>
      intro p
      obtain ⟨rest, replies⟩ := ih (legReadNext first p i)
      obtain ⟨own, ownReplies, -⟩ := p.1.legRead_alike f (first + i)
      have moved : (legReadNext first p i).1 = { p.1 with leg := (legReadNext first p i).1.leg } := own
      rw [List.foldl_cons]
      refine ⟨?_, replies.trans ownReplies⟩
      generalize is.foldl (legReadNext first) (legReadNext first p i) = r at rest
      rw [rest, moved]
  exact reads _ _

/-- A REG_READ in range answers the registers' bytes, each read in turn (R389). -/
theorem State.frameIn_regRead {s : State} {f : T512Frame} {n : Byte} (takes : s.takesFrame f) (payload : f.payload = [n])
    (one : 1 ≤ n.toNat) (few : n.toNat ≤ 128) (inMap : f.arg.toNat + n.toNat ≤ 0x80) (i : Instr) :
    s.frameIn i 2 f = (((s.legReads f.arg.toNat n.toNat).1.frameAccepted f).answerT512
      { type := 0x82, seq := f.seq, arg := f.arg, payload := (s.legReads f.arg.toNat n.toNat).2 }) := by
  obtain ⟨up, ready, idle, room, new⟩ := takes
  have count : fieldAt f.payload 0 1 = n.toNat := by
    rw [payload]
    simp [fieldAt, leVal]
  rw [State.frameIn_takes i up ready idle room (by decide), State.takeFrame_new 2 _ new]
  show (s.frameAccepted f).takeRegRead f = _
  unfold State.takeRegRead
  dsimp only
  rw [count, State.legReads_frameAccepted, if_pos (by simp [payload, one, few, inMap])]

theorem State.regRead_answered {s : State} {f : T512Frame} {n : Byte} (takes : s.takesFrame f) (payload : f.payload = [n])
    (one : 1 ≤ n.toNat) (few : n.toNat ≤ 128) (inMap : f.arg.toNat + n.toNat ≤ 0x80) (i : Instr) :
    let r := s.legReads f.arg.toNat n.toNat
    let a : T512Reply := { type := 0x82, seq := f.seq, arg := f.arg, payload := r.2 }
    ∃ t, s.frameIn i 2 f = t ∧ s.repliedT512 t f a ∧ t = { r.1 with portA := t.portA, leg := { r.1.leg with
      lastSeq := some f.seq, lastReply := some a, replies := s.leg.replies ++ [a], badRun := 0 } } := by
  intro r a
  refine ⟨_, State.frameIn_regRead takes payload one few inMap i, ?_⟩
  obtain ⟨rest, replies⟩ := s.legReads_leaves f f.arg.toNat n.toNat
  obtain ⟨lastSeq, lastReply, log, badRun, sent⟩ := r.1.repliedT512_answer f a
  have portA : r.1.portA = s.portA := (congrArg State.portA rest :)
  obtain ⟨leg, -, frame⟩ := State.sendT512_cases
    { r.1.frameAccepted f with leg := { (r.1.frameAccepted f).leg with lastReply := some a } } a
  refine ⟨⟨lastSeq, lastReply, log.trans (by rw [replies]), badRun, ?_⟩, ?_⟩
  · unfold State.sentT512 at sent ⊢
    rw [← portA]
    exact sent
  · rw [← replies]
    exact frame

/-- Settles O50: each register by its branch of a read, a frame by the reads that follow one another. -/
theorem legacyReadsAnswerAndAct : Obligations.LegacyReadsAnswerAndAct := by
  refine ⟨fun s f n takes payload one few inMap c mem => ?_, fun s => ?_, fun _ => rfl, fun s a v low => ?_, fun s => ?_,
    fun _ _ => State.legRead_rw⟩
  · simp only [List.mem_cons, List.not_mem_nil, or_false] at mem
    obtain ⟨t, run, answered⟩ := State.regRead_answered takes payload one few inMap c
    refine ⟨t, ?_, answered⟩
    rw [← run]
    rcases mem with rfl | rfl | rfl | rfl | rfl
    iterate 5 rfl
  · rw [State.legRead_status]
    exact ⟨rfl, getLsbD_status _ _⟩
  · exact State.legRead_low low
  · rw [State.legRead_faultEntry]
    exact ⟨s.nextFault_regs, fun _ => State.faultEntry_snap, State.faultEntry_end⟩

end Sys2Proof.Machine
end

section
/-!
PROOFS. Legacy register writes (14 R380, R384, R389, R392, Table 14.3; O49).
-/
namespace Sys2Proof.Machine

/-! ### Answers -/

/-- A reply from a state that has accepted a frame of `s`: it is the frame's, and only the legacy registers and the line change. -/
theorem State.answerT512_cases {s w : State} {f : T512Frame} (portA : w.portA = s.portA) (replies : w.leg.replies = s.leg.replies)
    (badRun : w.leg.badRun = 0) (accepted : w.leg.lastSeq = some f.seq) (r : T512Reply) :
    s.repliedT512 (w.answerT512 r) f r ∧
      (w.answerT512 r).leg = { w.leg with lastReply := some r, replies := w.leg.replies ++ [r] } ∧
      w.answerT512 r = { w with leg := (w.answerT512 r).leg, portA := (w.answerT512 r).portA } := by
  obtain ⟨leg, sent, frame⟩ := State.sendT512_cases { w with leg := { w.leg with lastReply := some r } } r
  refine ⟨⟨accepted, rfl, congrArg (· ++ [r]) replies, badRun, ?_⟩, leg, frame⟩
  unfold State.sentT512 at sent ⊢
  rw [← portA]
  exact sent

section
variable {s w : State} {f : T512Frame} (portA : w.portA = s.portA) (replies : w.leg.replies = s.leg.replies)
  (badRun : w.leg.badRun = 0) (accepted : w.leg.lastSeq = some f.seq) (type : Nat)
include portA replies badRun accepted

theorem State.ackT512_ok :
    s.ackedT512 (w.ackT512 type f 0) f 0 ∧
      (∃ r, (w.ackT512 type f 0).leg = { w.leg with lastReply := some r, replies := w.leg.replies ++ [r] }) ∧
      w.ackT512 type f 0 = { w with leg := (w.ackT512 type f 0).leg, portA := (w.ackT512 type f 0).portA } := by
  obtain ⟨acked, leg, frame⟩ := State.answerT512_cases portA replies badRun accepted
    { type := 0x81, seq := f.seq, payload := leBytes 1 0 }
  exact ⟨acked, ⟨_, leg⟩, frame⟩

/-- A rejection raises event 0x0D05. -/
theorem State.ackT512_rejected :
    s.ackedT512 (w.ackT512 type f 2) f 2 ∧
      (∃ r, (w.ackT512 type f 2).leg = { w.leg with lastReply := some r, replies := w.leg.replies ++ [r] }) ∧
      w.ackT512 type f 2 = { w with
        leg := (w.ackT512 type f 2).leg, portA := (w.ackT512 type f 2).portA, ev := (w.raise 0x0D05 [(1, type), (1, 2)]).ev } := by
  let reply : T512Reply := { type := 0x81, seq := f.seq, payload := leBytes 1 2 }
  obtain ⟨acked, leg, frame⟩ := State.answerT512_cases portA replies badRun accepted reply
  have run : w.ackT512 type f 2 = (w.answerT512 reply).raise 0x0D05 [(1, type), (1, 2)] := rfl
  rw [run]
  refine ⟨acked, ⟨reply, leg⟩, ?_⟩
  generalize w.answerT512 reply = t at frame
  rw [frame]
  rfl

end

/-! ### A write of one register -/

theorem legMask_of_light {a : Nat} (light : legLight a = true) : legMask a ≠ 0 := by
  have cases : a = 4 ∨ a = 5 ∨ 0x40 ≤ a ∧ a ≤ 0x7F := by simpa [legLight, or_assoc] using light
  rcases cases with rfl | rfl | ⟨low, high⟩
  · decide
  · decide
  · have column : legMask a = 0xBF := by
      unfold legMask
      rw [if_neg (by omega), if_neg (by simp; omega), if_neg (by omega), if_pos (by simp [low, high])]
    rw [column]
    decide

/-- The write stores the register's writable bits, and its effect on the light waits for its latch point (R384). -/
theorem State.legWrite_stores {s : State} {due a : Nat} {v : Byte} (noReset : ¬ (a = 4 ∧ v.getLsbD 7 = true)) :
    s.legWrite due a v = { s with leg := { s.leg with
      regs := if legMask a = 0 then s.leg.regs else s.leg.regs.set 0 a ((v &&& legMask a) ^^^ legReset a)
      light := if legLight a = true then s.leg.light ++ [(due, a, v &&& legMask a)] else s.leg.light
      snap := if a = 0x0D || a = 0x0E then s.failedBlocks else s.leg.snap } } := by
  have plain : ¬ (a = 0x04 && bitOf v.toNat 7) = true := by
    have bit : bitOf v.toNat 7 = v.getLsbD 7 := rfl
    simpa [bit, -BitVec.getLsbD_eq_getElem] using noReset
  unfold State.legWrite
  rw [if_neg plain]
  by_cases none : legMask a = 0
  · have dark : legLight a = false := by
      cases lit : legLight a
      · rfl
      · exact absurd none (legMask_of_light lit)
    have notIdx : ¬ (a = 0x0D || a = 0x0E) = true := by
      intro idx
      rcases (by simpa using idx : a = 0x0D ∨ a = 0x0E) with rfl | rfl
      · exact absurd none (by decide)
      · exact absurd none (by decide)
    rw [if_pos none, if_pos none, dark, if_neg notIdx]
    rfl
  · rw [if_neg none, if_neg none]
    dsimp only
    by_cases idx : (a = 0x0D || a = 0x0E) = true
    · rw [if_pos idx, if_pos idx]
      cases legLight a <;> rfl
    · rw [if_neg idx, if_neg idx]
      cases legLight a <;> rfl

/-- The light effects of several registers wait in turn. -/
theorem State.forEach_lightEffect (s : State) (due : Nat) (as : List Nat) :
    s.forEach as (fun u a => u.lightEffect due a (legReset a)) =
      { s with leg := { s.leg with light := s.leg.light ++ as.map fun a => (due, a, legReset a) } } := by
  induction as generalizing s with
  | nil => simp
  | cons a as ih =>
    rw [State.forEach_cons, ih]
    simp [State.lightEffect]

/-- CTRL.SOFT_RESET: every register at its reset value, its light effects bound (Table 14.5). -/
theorem State.legWrite_resets {s : State} {due : Nat} {v : Byte} (reset : v.getLsbD 7 = true) :
    s.legWrite due 4 v = ({ s with leg := { s.leg with
      regs := [], light := s.leg.light ++ ((List.range 128).filter legLight).map fun a => (due, a, legReset a) } } : State).raise
        0x0D07 [] := by
  have run : s.legWrite due 4 v = s.softResetNow due := if_pos ((Bool.true_and _).trans reset)
  rw [run]
  unfold State.softResetNow
  dsimp only
  rw [State.forEach_lightEffect]

/-! ### REG_WRITE -/

theorem State.boundFor_frameAccepted (s : State) (f : T512Frame) (a : Stamp) : (s.frameAccepted f).boundFor a = s.boundFor a := rfl

/-- A REG_WRITE in range writes its registers in turn, bound to one latch point (R384). -/
theorem State.frameIn_regWrite {s : State} {f : T512Frame} (takes : s.takesFrame f) (some : 1 ≤ f.payload.length)
    (inMap : f.arg.toNat + f.payload.length ≤ 0x80) (i : Instr) :
    s.frameIn i 1 f = ((f.payload.mapIdx fun j v => (f.arg.toNat + j, v)).foldl
      (fun t x => t.legWrite (s.boundFor (s.capture 0)) x.1 x.2) (s.frameAccepted f)).ackT512 1 f 0 := by
  obtain ⟨up, ready, idle, room, new⟩ := takes
  rw [State.frameIn_takes i up ready idle room (by decide), State.takeFrame_new 1 _ new, if_pos rfl]
  unfold State.takeRegWrite
  rw [State.boundFor_frameAccepted]
  exact if_pos (by simp; omega)

theorem State.frameIn_regWrite_outside {s : State} {f : T512Frame} (takes : s.takesFrame f)
    (outside : f.payload = [] ∨ 0x80 < f.arg.toNat + f.payload.length) (i : Instr) :
    s.frameIn i 1 f = (s.frameAccepted f).ackT512 1 f 2 := by
  obtain ⟨up, ready, idle, room, new⟩ := takes
  rw [State.frameIn_takes i up ready idle room (by decide), State.takeFrame_new 1 _ new, if_pos rfl]
  unfold State.takeRegWrite
  refine if_neg ?_
  rcases outside with none | beyond
  · simp [none]
  · simp
    omega

/-- A write of one register (R384, R389, R392). -/
theorem State.regWrite_stores {s : State} {f : T512Frame} {v : Byte} (takes : s.takesFrame f) (payload : f.payload = [v])
    (inMap : f.arg.toNat < 0x80) (noReset : ¬ (f.arg.toNat = 4 ∧ v.getLsbD 7 = true)) (i : Instr) :
    let a := f.arg.toNat
    ∃ t, s.frameIn i 1 f = t ∧ s.ackedT512 t f 0 ∧
      t.leg.regs = (if legMask a = 0 then s.leg.regs else s.leg.regs.set 0 a ((v &&& legMask a) ^^^ legReset a)) ∧
      t.leg.light = (if legLight a = true then s.leg.light ++ [(s.boundFor (s.capture 0), a, v &&& legMask a)] else s.leg.light) ∧
      t.leg.rows = s.leg.rows ∧ t.leg.status = s.leg.status ∧ t = { s with leg := t.leg, portA := t.portA } := by
  intro a
  have run := State.frameIn_regWrite takes (by simp [payload]) (by simp [payload]; omega) i
  simp only [payload, List.mapIdx_cons, List.mapIdx_nil, List.foldl_cons, List.foldl_nil, Nat.add_zero] at run
  rw [State.legWrite_stores noReset] at run
  obtain ⟨acked, ⟨r, leg⟩, frame⟩ := State.ackT512_ok (s := s) (f := f) (w := { s.frameAccepted f with
    leg := { (s.frameAccepted f).leg with
      regs := if legMask a = 0 then s.leg.regs else s.leg.regs.set 0 a ((v &&& legMask a) ^^^ legReset a)
      light := if legLight a = true then s.leg.light ++ [(s.boundFor (s.capture 0), a, v &&& legMask a)] else s.leg.light
      snap := if a = 0x0D || a = 0x0E then s.failedBlocks else s.leg.snap } }) rfl rfl rfl rfl 1
  exact ⟨_, run, acked, (congrArg Legacy.regs leg :), (congrArg Legacy.light leg :), (congrArg Legacy.rows leg :),
    (congrArg Legacy.status leg :), frame⟩

/-- A write outside the map changes no register (R380). -/
theorem State.regWrite_rejected {s : State} {f : T512Frame} (takes : s.takesFrame f)
    (outside : f.payload = [] ∨ 0x80 < f.arg.toNat + f.payload.length) (i : Instr) :
    ∃ t, s.frameIn i 1 f = t ∧ s.ackedT512 t f 2 ∧ t.leg.regs = s.leg.regs ∧ t.leg.light = s.leg.light ∧
      t.ev = (s.raise 0x0D05 [(1, 1), (1, 2)]).ev ∧ t = { s with leg := t.leg, portA := t.portA, ev := t.ev } := by
  obtain ⟨acked, ⟨r, leg⟩, frame⟩ := State.ackT512_rejected (s := s) (f := f) (w := s.frameAccepted f) rfl rfl rfl rfl 1
  have ev : ((s.frameAccepted f).ackT512 1 f 2).ev = (s.raise 0x0D05 [(1, 1), (1, 2)]).ev := (congrArg State.ev frame :)
  refine ⟨_, State.frameIn_regWrite_outside takes outside i, acked, (congrArg Legacy.regs leg :), (congrArg Legacy.light leg :), ev, ?_⟩
  rw [ev]
  exact frame

/-- With no register listed each reads its reset value. -/
theorem State.legReg_of_regs {s : State} (regs : s.leg.regs = []) (a : Nat) : s.legReg a = legReset a := by
  unfold State.legReg
  rw [regs]
  exact BitVec.zero_xor

/-- CTRL.SOFT_RESET (R389). -/
theorem State.softReset_resets {s : State} {f : T512Frame} {v : Byte} (takes : s.takesFrame f) (arg : f.arg = 4)
    (payload : f.payload = [v]) (reset : v.getLsbD 7 = true) (i : Instr) :
    ∃ t, s.frameIn i 1 f = t ∧ s.ackedT512 t f 0 ∧ (∀ a, t.legReg a = legReset a) ∧
      t.leg.light = s.leg.light ++ (((List.range 128).filter legLight).map fun a => (s.boundFor (s.capture 0), a, legReset a)) ∧
      t.ev = (s.raise 0x0D07 []).ev ∧ t.leg.snap = s.leg.snap ∧ t.leg.rows = s.leg.rows ∧
      t = { s with leg := t.leg, portA := t.portA, ev := t.ev } := by
  have run := State.frameIn_regWrite takes (by simp [payload]) (by simp [payload, arg]) i
  have first : (4 : BitVec 16).toNat + 0 = 4 := rfl
  simp only [payload, arg, List.mapIdx_cons, List.mapIdx_nil, List.foldl_cons, List.foldl_nil, first] at run
  rw [State.legWrite_resets reset] at run
  generalize (((List.range 128).filter legLight).map fun a => (s.boundFor (s.capture 0), a, legReset a)) = effects at run ⊢
  obtain ⟨acked, ⟨r, leg⟩, frame⟩ := State.ackT512_ok (s := s) (f := f) (w := ({ s.frameAccepted f with
    leg := { (s.frameAccepted f).leg with regs := [], light := s.leg.light ++ effects } } : State).raise 0x0D07 []) rfl rfl rfl rfl 1
  exact ⟨_, run, acked, State.legReg_of_regs (congrArg Legacy.regs leg :), (congrArg Legacy.light leg :),
    (congrArg State.ev frame :), (congrArg Legacy.snap leg :), (congrArg Legacy.rows leg :), frame⟩

/-- A write of FAULT_IDX takes the snapshot (R392). -/
theorem State.faultIdxWrite_snaps {s : State} {f : T512Frame} {lo hi : Byte} (takes : s.takesFrame f) (arg : f.arg = 0x0D)
    (payload : f.payload = [lo, hi]) (i : Instr) :
    ∃ t, s.frameIn i 1 f = t ∧ s.ackedT512 t f 0 ∧ t.leg.snap = s.failedBlocks ∧
      t.leg.regs = (s.leg.regs.set 0 0x0D lo).set 0 0x0E hi ∧ t.leg.light = s.leg.light ∧
      t = { s with leg := t.leg, portA := t.portA } := by
  have run := State.frameIn_regWrite takes (by simp [payload]) (by simp [payload, arg]) i
  have places : (0x0D : BitVec 16).toNat + 0 = 0x0D ∧ (0x0D : BitVec 16).toNat + (0 + 1) = 0x0E := ⟨rfl, rfl⟩
  have whole (v : Byte) : (v &&& legMask 0x0D) ^^^ legReset 0x0D = v ∧ (v &&& legMask 0x0E) ^^^ legReset 0x0E = v :=
    ⟨BitVec.xor_zero.trans BitVec.and_allOnes, BitVec.xor_zero.trans BitVec.and_allOnes⟩
  simp only [payload, arg, List.mapIdx_cons, List.mapIdx_nil, List.foldl_cons, List.foldl_nil, places] at run
  rw [State.legWrite_stores (a := 0x0D) (by simp), State.legWrite_stores (a := 0x0E) (by simp), (whole lo).1, (whole hi).2] at run
  obtain ⟨acked, ⟨r, leg⟩, frame⟩ := State.ackT512_ok (s := s) (f := f) (w := { s.frameAccepted f with
    leg := { (s.frameAccepted f).leg with regs := (s.leg.regs.set 0 0x0D lo).set 0 0x0E hi, snap := s.failedBlocks } })
    rfl rfl rfl rfl 1
  exact ⟨_, run, acked, (congrArg Legacy.snap leg :), (congrArg Legacy.regs leg :), (congrArg Legacy.light leg :), frame⟩

/-- Settles O49: each write by what it stores of the registers, its answer by the state that has accepted the frame. -/
theorem legacyWritesTakeEffect : Obligations.LegacyWritesTakeEffect := by
  refine ⟨fun s dt f v takes payload inMap noReset => ?_, fun s dt f takes outside => ?_,
    fun s dt f v takes arg payload reset => ?_, fun s f lo hi takes arg payload => ?_⟩
  · obtain ⟨t, run, written⟩ := State.regWrite_stores takes payload inMap noReset (.regWrite dt f)
    exact ⟨t, congrArg Host.Outcome.next run, written⟩
  · obtain ⟨t, run, rejected⟩ := State.regWrite_rejected takes outside (.regWrite dt f)
    exact ⟨t, congrArg Host.Outcome.next run, rejected⟩
  · obtain ⟨t, run, written⟩ := State.softReset_resets takes arg payload reset (.softReset dt f)
    exact ⟨t, congrArg Host.Outcome.next run, written⟩
  · obtain ⟨t, run, written⟩ := State.faultIdxWrite_snaps takes arg payload (.faultIdxWrite f)
    exact ⟨t, congrArg Host.Outcome.next run, written⟩

end Sys2Proof.Machine
end

section
/-!
PROOFS. Event packets, rate windows and the sequence of events (15 R404 to R408; O48).
-/
namespace Sys2Proof.Machine

/-! ### Packets (R406) -/

/-- A record apart from the packet that holds it. -/
def Event.unpacked (e : Event) : Event := { e with pkt := 0 }

/-- A packet marks records, and moves none. -/
theorem map_unpacked_markEvents (k room : Nat) (l : List Event) : (markEvents k room l).map Event.unpacked = l.map Event.unpacked := by
  induction l generalizing room with
  | nil => rfl
  | cons e l ih =>
    unfold markEvents
    split
    · rw [List.map_cons, List.map_cons, ih]
    split
    · rw [List.map_cons, List.map_cons, ih]
      rfl
    · rfl

/-- The waiting records are formed into a packet, in order (R406). -/
theorem exec_eventPacket {s : State} (native : s.start.pers ≠ .legacy) (waits : ∃ e ∈ s.ev.ring, e.pkt = 0) :
    ∃ t, exec .eventPacket s = .next t ∧ t.ev.formed = s.ev.formed + 1 ∧
      t.ev.ring.map (fun e => { e with pkt := 0 }) = s.ev.ring.map (fun e => { e with pkt := 0 }) ∧
      t = { s with ev := { s.ev with formed := t.ev.formed, ring := t.ev.ring } } := by
  have run : exec .eventPacket s = .next { s with ev := { s.ev with
      formed := s.ev.formed + 1, ring := markEvents (s.ev.formed + 1) 4088 s.ev.ring } } :=
    if_neg (by simpa [native] using waits)
  exact ⟨_, run, rfl, map_unpacked_markEvents _ _ _, rfl⟩

/-! ### Raising (R403, R408) -/

/-- An event is put into TQ1 or the AON buffer; the sequence moves on, and flags and windows stay. -/
theorem State.raise_leaves (s : State) (code : Nat) (data : List (Nat × Nat)) :
    (s.raise code data).ev.windows = s.ev.windows ∧ (s.raise code data).ev.next = s.ev.next + 1 := by
  unfold State.raise
  dsimp only
  split <;> exact ⟨rfl, rfl⟩

/-- While the MP is ready an event that fits into TQ1 stands at its end. -/
theorem State.raise_ring {s : State} {code : Nat} {data : List (Nat × Nat)} (ready : s.mp.ready = true)
    (room : (s.ev.ring.map Event.size).foldl (· + ·) 0 + (16 + 4 * dataWords data) ≤ 16384) :
    ∃ e, (s.raise code data).ev.ring = s.ev.ring ++ [e] ∧ e.code = BitVec.ofNat 16 code ∧ e.seq = s.ev.next ∧ e.data = data := by
  let e : Event :=
    { code := BitVec.ofNat 16 code, sev := severity code data, sp := spCode code, tb0 := BitVec.ofNat 32 s.now0,
      epoch := s.clk.epoch, tb1 := BitVec.ofNat 32 s.now1, frame := s.grid.frame, seq := s.ev.next, data := data }
  have inserted : insertEvent 16384 Event.size e (s.ev.ring.length + 2) s.ev.ring 0 = (s.ev.ring ++ [e], 0) := if_pos room
  have kept : (s.raise code data).ev = ({ s.ev with next := s.ev.next + 1 } : Events).toRing e := if_pos (by simp [ready])
  refine ⟨e, ?_, rfl, rfl, rfl⟩
  rw [kept]
  exact congrArg Prod.fst inserted

/-! ### Rate windows (R405) -/

/-- The window of a code and a key. -/
def Window.hits (code key : Nat) (w : Window) : Bool := w.code = BitVec.ofNat 16 code && w.key = key

/-- One more occurrence in a window. -/
def Window.counted (data : List (Nat × Nat)) (w : Window) : Window := { w with count := sat32 (w.count + 1), data := data }

/-- A rated event with no window open is raised, with count 1, and opens one. -/
theorem State.raiseRated_first {s : State} {code key : Nat} (data : List (Nat × Nat))
    (none : ∀ w ∈ s.ev.windows, ¬ (w.code = BitVec.ofNat 16 code ∧ w.key = key)) :
    s.raiseRated code key data = { s with ev := { (s.raise code (ratedData code 1 data)).ev with
      windows := s.ev.windows ++ [{ code := BitVec.ofNat 16 code, key := key, count := 0, data := data }] } } := by
  let t := s.raise code (ratedData code 1 data)
  have run : s.raiseRated code key data = { t with ev := { t.ev with
      windows := t.ev.windows ++ [{ code := BitVec.ofNat 16 code, key := key, data := data }] } } := if_neg (by simpa using none)
  rw [run, (s.raise_leaves code (ratedData code 1 data)).1]
  rfl

/-- A rated event with its window open is counted there, and nowhere else. -/
theorem State.raiseRated_again {s : State} {code key : Nat} (data : List (Nat × Nat))
    (opened : ∃ w ∈ s.ev.windows, w.code = BitVec.ofNat 16 code ∧ w.key = key) :
    s.raiseRated code key data = { s with ev := { s.ev with
      windows := s.ev.windows.map fun w => if w.hits code key then w.counted data else w } } :=
  if_pos (by simpa using opened)

theorem getElem?_counted {ws : List Window} {i code key : Nat} {w : Window} {data : List (Nat × Nat)} (at' : ws[i]? = some w) :
    let t := ws.map fun w => if w.hits code key then w.counted data else w
    (w.code = BitVec.ofNat 16 code ∧ w.key = key → t[i]? = some { w with count := min 0xFFFFFFFF (w.count + 1), data := data }) ∧
      (¬ (w.code = BitVec.ofNat 16 code ∧ w.key = key) → t[i]? = some w) := by
  intro t
  have found : t[i]? = some (if w.hits code key then w.counted data else w) := by
    simp only [t, List.getElem?_map, at', Option.map_some]
  rw [found]
  refine ⟨fun hit => ?_, fun miss => ?_⟩
  · have hits : w.hits code key = true := by simpa [Window.hits] using hit
    rw [if_pos hits]
    exact congrArg (fun n => some ({ w with count := n, data := data } : Window)) (Nat.min_comm ..)
  · have misses : ¬ w.hits code key = true := by simpa [Window.hits] using miss
    rw [if_neg misses]

/-- The second of a rated event ends: its window closes, or the event is raised again with its count (R405). -/
theorem exec_eventRateWindow {s : State} {code : BitVec 16} {key : Nat} {w : Window}
    (found : s.ev.windows.find? (fun x => x.code = code && x.key = key) = some w) :
    (w.count = 0 → exec (.eventRateWindow code key) s = .next { s with ev := { s.ev with
      windows := s.ev.windows.filter fun x => !(x.code = code && x.key = key) } }) ∧
    (w.count ≠ 0 → ∃ t, exec (.eventRateWindow code key) s = .next t ∧ t.ev.next = s.ev.next + 1 ∧
      t.ev.ring = (s.raise code.toNat (ratedData code.toNat w.count w.data)).ev.ring ∧
      t.ev.windows = s.ev.windows.map (fun x => if x.code = code && x.key = key then { x with count := 0 } else x) ∧
      t = { s with ev := t.ev }) := by
  have run : exec (.eventRateWindow code key) s = execEventRateWindow code key s := rfl
  rw [run]
  unfold execEventRateWindow
  dsimp only
  rw [found]
  dsimp only
  refine ⟨fun quiet => if_pos quiet, fun counted => ?_⟩
  rw [if_neg counted]
  obtain ⟨windows, next⟩ := s.raise_leaves code.toNat (ratedData code.toNat w.count w.data)
  refine ⟨_, rfl, next, rfl, ?_, rfl⟩
  dsimp only
  rw [windows]

/-- Settles O48: packets by what they mark, rated events by their window, the sequence by what raising an event leaves. -/
theorem eventsAreReportedInOrder : Obligations.EventsAreReportedInOrder := by
  refine ⟨fun s => exec_eventPacket, fun s legacy => if_pos (by simp [legacy]),
    fun s code key data => ⟨State.raiseRated_first data, fun opened => ?_⟩, fun s code key w => exec_eventRateWindow,
    fun s code data => ⟨(s.raise_leaves code data).2, s.flags_raise code data, s.raise_frame code data⟩,
    fun s code data => State.raise_ring⟩
  rw [State.raiseRated_again data opened]
  exact ⟨rfl, List.length_map .., fun i w => getElem?_counted⟩

end Sys2Proof.Machine
end

section
/-!
PROOFS. The step and what passes on an empty queue (assumption log 7 and 10): the clocks, a port's wait in ALIGN, and what waited for
its consumer (O1).
-/
namespace Sys2Proof.Machine

/-! ### What the passing of time keeps -/

/-- TB3 with the 100 ns of an idle step, which pass while the safety clock runs (R146). -/
def State.idleTb3 (s : State) : Nat := if s.clk.safe && !s.safety.oscStopped then s.clk.tb3 + 100 else s.clk.tb3

theorem State.idleTb3_eq (s : State) :
    s.idleTb3 = if s.clk.safe = true ∧ s.safety.oscStopped = false then s.clk.tb3 + 100 else s.clk.tb3 := by
  simp [State.idleTb3]

/-- The idle step's time: 100 ns of TB3 and 25 TIME cycles. -/
def State.idleTime (s : State) : State := ({ s with clk := { s.clk with tb3 := s.idleTb3 } } : State).elapse 25

/-- The idle step is its time, the waits of the two ports in ALIGN, and what waited for its consumer. -/
theorem State.idle_eq (s : State) : s.idle = ((s.idleTime.toDeskew .a).toDeskew .b).serveWaiting := rfl

theorem State.tb1_regrid (s : State) : s.regrid.clk.tb1 = s.clk.tb1 := by
  unfold State.regrid
  split
  · dsimp only
    generalize (if s.grid.onLamp then s.grid.lampErr else s.gridError) = error
    split
    · rfl
    · rfl
  · rfl

/-- TB1 counts the TIME cycles by the crystal alone, so its reading depends on no other clock. -/
theorem State.tb1_elapse (s : State) (n : Nat) :
    (s.elapse n).clk.tb1 = if s.clk.crystal then s.clk.tb1 + 4 * nsUnit * n else s.clk.tb1 := by
  unfold State.elapse
  split
  case isTrue none => simp [none]
  case isFalse =>
    rw [State.tb1_regrid]
    exact apply_ite Clocks.tb1 ..

theorem State.now1_idleTime (s : State) : s.idleTime.now1 = (s.elapse 25).now1 := by
  unfold State.now1 State.idleTime
  rw [State.tb1_elapse, State.tb1_elapse]

theorem State.idleTime_frame (s : State) :
    ∃ clk lampErr sync e, s.idleTime = { s with clk, grid := { s.grid with lampErr }, sync, ev := e } := by
  obtain ⟨clk, lampErr, sync, e, elapsed⟩ := State.elapse_frame { s with clk := { s.clk with tb3 := s.idleTb3 } } 25
  exact ⟨clk, lampErr, sync, e, elapsed⟩

theorem State.port_idleTime (s : State) (p : PortId) : s.idleTime.port p = s.port p := by
  obtain ⟨clk, lampErr, sync, e, time⟩ := s.idleTime_frame
  rw [time]
  rfl

/-! ### Ports that wait in ALIGN -/

/-- A port without a wait stays where it is. -/
theorem State.toDeskew_none {s : State} {p : PortId} (none : (s.port p).alignAt = none) : s.toDeskew p = s := by
  unfold State.toDeskew
  dsimp only
  rw [none]
  exact if_neg (by simp)

theorem State.ite_modPort (s : State) (p : PortId) (f : Port → Port) (c : Prop) [Decidable c] :
    (if c then s.modPort p f else s) = s.modPort p (if c then f else id) := by
  split
  · rfl
  · exact (State.modPort_same rfl).symm

/-- What a port's wait in ALIGN touches: that port. -/
theorem State.toDeskew_eq (s : State) (p : PortId) : ∃ f, s.toDeskew p = s.modPort p f := ⟨_, State.ite_modPort ..⟩

theorem State.toDeskew_frame (s : State) :
    ∃ portA portB, (s.toDeskew .a).toDeskew .b = { s with portA, portB } := by
  obtain ⟨f, first⟩ := s.toDeskew_eq .a
  obtain ⟨g, second⟩ := (s.toDeskew .a).toDeskew_eq .b
  rw [second, first]
  exact ⟨_, _, rfl⟩

theorem State.portA_toDeskew_b (s : State) : (s.toDeskew .b).portA = s.portA := by
  obtain ⟨f, moved⟩ := s.toDeskew_eq .b
  rw [moved]
  rfl

/-- Up to what waited, an idle step moves the clocks and the ports. -/
theorem State.idle_beforeServe (s : State) : ∃ clk lampErr sync e portA portB,
    (s.idleTime.toDeskew .a).toDeskew .b = { s with clk, grid := { s.grid with lampErr }, sync, ev := e, portA, portB } := by
  obtain ⟨clk, lampErr, sync, e, time⟩ := s.idleTime_frame
  obtain ⟨portA, portB, ports⟩ := s.idleTime.toDeskew_frame
  exact ⟨clk, lampErr, sync, e, portA, portB, ports.trans (by rw [time])⟩

/-! ### The idle step -/

theorem State.idle_unserved {s : State} (nothing : s.link.waiting = []) : s.idle = (s.idleTime.toDeskew .a).toDeskew .b := by
  obtain ⟨clk, lampErr, sync, e, portA, portB, before⟩ := s.idle_beforeServe
  rw [State.idle_eq, before]
  exact State.serveWaiting_idle nothing

theorem State.pending_idle (s : State) : s.idle.pending = s.pending := (Guarded.idle (.refl s)).queue

/-- Beside its own 100 ns no part of an idle step moves TB3, whatever it serves. -/
theorem State.tb3_idle (s : State) : s.idle.clk.tb3 = s.idleTb3 :=
  (Guarded.serveWaiting (.toDeskew (.toDeskew (.elapse (.refl _))))).pace trivial

/-- With nothing that waits only the clocks pass. -/
theorem State.idle_clocks {s : State} (nothing : s.link.waiting = []) (a : s.portA.alignAt = none) (b : s.portB.alignAt = none) :
    s.idle = s.idleTime := by
  have none_a : s.idleTime.toDeskew .a = s.idleTime := State.toDeskew_none ((congrArg Port.alignAt (s.port_idleTime .a)).trans a)
  have none_b : s.idleTime.toDeskew .b = s.idleTime := State.toDeskew_none ((congrArg Port.alignAt (s.port_idleTime .b)).trans b)
  rw [State.idle_unserved nothing, none_a, none_b]

/-- Port A leaves for DESKEW when its 100 us in ALIGN are over (R95). -/
theorem State.portA_idle {s : State} {t : Nat} (nothing : s.link.waiting = []) (align : s.portA.st = .align)
    (waits : s.portA.alignAt = some t) (elapsed : t + 100000 ≤ (s.elapse 25).now1) :
    s.idle.portA = { s.portA with st := .deskew, framing := 1, alignAt := none } := by
  have port : s.idleTime.portA = s.portA := s.port_idleTime .a
  have leaves : s.idleTime.toDeskew .a = s.idleTime.modPort .a _ :=
    State.toDeskew_leaves ((congrArg Port.st port).trans align) ((congrArg Port.alignAt port).trans waits)
      (.inl (s.now1_idleTime ▸ elapsed))
  rw [State.idle_unserved nothing, State.portA_toDeskew_b, leaves]
  exact congrArg (fun q : Port => { q with st := .deskew, framing := 1, alignAt := none }) port

theorem step_of_front {s : State} {c : Instr} {rest : List Instr} (front : s.pending = c :: rest) :
    step s = exec c { s with pending := rest } := by
  unfold step
  rw [front]

theorem step_of_empty {s : State} (empty : s.pending = []) : step s = .next s.idle := by
  unfold step
  rw [empty]

/-- Settles O1: a front command by the step's own two cases, an idle step by its time, the ports' waits and what it serves. -/
theorem stepRunsFront : Obligations.StepRunsFront := by
  refine ⟨fun c s => step_of_front rfl, fun s c rest => step_of_front, fun s empty => ?_, fun s nothing a b => ?_,
    fun s t => State.portA_idle, fun s => ?_⟩
  · exact ⟨step_of_empty empty, s.pending_idle.trans empty, s.tb3_idle.trans s.idleTb3_eq⟩
  · obtain ⟨clk, lampErr, sync, e, time⟩ := s.idleTime_frame
    rw [State.idle_clocks nothing a b, time]
  · obtain ⟨clk, lampErr, sync, e, portA, portB, before⟩ := s.idle_beforeServe
    exact ⟨_, by rw [before], by rw [before], by rw [before], by rw [before], s.idle_eq⟩

end Sys2Proof.Machine
end
